-- ==== Sys2Proof/Word.lean ====
section
/-! DEFINITION. The word types of the model and the sparse keyed map that holds every addressed store. -/

namespace Sys2Proof

/-- A 64-bit word of a command, a record, a watch frame or a towpath packet (R3, R5). -/
abbrev W64 := BitVec 64

/-- A sparse keyed store: (key, value) pairs, keys strictly rising; a key that is not listed holds
the store's default value, and no listed pair holds it. Operations on it stand in Machine/Ops.lean. -/
abbrev KMap (α : Type) := List (Nat × α)

end Sys2Proof
end

