-- ==== Sys2Proof/Syntax.lean ====
section
/-! DEFINITION. The commands of the block: one constructor of Instr per row of spec/opcode_table.json, with the
operands the step meets from outside (words of a frame, a barge or a buffer, an object's number, a measurement, an
outcome that the spec leaves to the part or its surroundings). -/

namespace Sys2Proof

/-- One Enzin command: the four header words of Table 13.8 and the parameter words. -/
structure Cmd where
  w0 : W64
  w1 : W64
  w2 : W64
  w3 : W64
  params : List W64
deriving DecidableEq, Repr

/-- The four body words of a watch frame (R294, Tables 11.3 and 11.5). -/
structure WatchFrame where
  w0 : W64
  w1 : W64
  w2 : W64
  w3 : W64
deriving DecidableEq, Repr

/-- A towpath port: TOW_A or TOW_B. -/
inductive Side where
  | a
  | b
deriving DecidableEq, Repr

/-- A towpath packet: header fields of Table 14.2 and payload words. -/
structure TowPkt where
  type : Nat
  dst : Nat
  src : Nat
  all : Bool
  dir : Bool
  hops : Nat
  tseq : Nat
  flight : Nat
  payload : List W64
deriving DecidableEq, Repr

/-- A CMD packet as a member takes it, with the privilege class of the queue that its command came through (R438; log entry 25). -/
structure CmdPkt where
  pkt : TowPkt
  priv : Nat
deriving DecidableEq, Repr

/-- A DMA_WR packet as the gateway takes it, with whether the write of host memory succeeds (R345, R389). -/
structure DmaWrPkt where
  pkt : TowPkt
  ok : Bool
deriving DecidableEq, Repr

/-- What the host has put into the configuration space of the PCI Express function (R343, Table 13.1): the base address of the window,
the payload and read request sizes in bytes, ECRC and MSI-X enabled, and power state D3hot. -/
structure PcieCfg where
  bar0 : BitVec 64
  maxPayload : Nat
  maxRead : Nat
  ecrc : Bool
  msixOn : Bool
  d3hot : Bool
deriving DecidableEq, Repr

/-- The bytes of a packet that is no good, with the port that received them (R383). -/
structure BadPkt where
  side : Side
  bytes : List (BitVec 8)
deriving DecidableEq, Repr

/-- A read of the window at an offset, of 64 bits or of 32 (R346). -/
structure WinRead where
  off : Nat
  wide : Bool
deriving DecidableEq, Repr

/-- Whether the copy of the admission record at 0x0108_1000 reads back as written, then the one at 0x0108_0000 (R401). -/
structure AdmReadback where
  second : Bool
  first : Bool
deriving DecidableEq, Repr

/-- A PAM4 symbol on the line: −3, −1, +1, +3 (R143). -/
inductive Pam where
  | m3
  | m1
  | p1
  | p3
deriving DecidableEq, Repr

/-- A barge position as a lane's receiver meets it: its bit position modulo 8,256 in the information stream (R156), the number
of the first codeword that holds a bit of it within its lane frame, the information bit of that codeword at which the header
begins, the received codewords that hold its bits (2,720 PAM4 symbols each), and the arrival of the first header bit in ps
after the row tick of the row in progress. -/
structure BargeRx where
  pos : Nat
  first : Nat
  off : Nat
  words : List (List Pam)
  arrival : Int
deriving DecidableEq, Repr

/-- A barge position whose header does not fit, of which nothing but the header is read: the fields of BargeRx without position
and arrival. -/
structure HeaderRx where
  first : Nat
  off : Nat
  words : List (List Pam)
deriving DecidableEq, Repr

/-- A marker position as a hunter examines it: position in PAM4 symbols within a lane frame, and the 2,720 symbols received
from it on, which are codeword 0 of the lane frame where the marker is one (R145, R151). -/
structure MarkerRx where
  pos : Nat
  word : List Pam
deriving DecidableEq, Repr

/-- Where a marker is received: a physical receive pair of a lane octet, by the lane number of its straight position, or
a twin lane (R319). -/
inductive MarkerPort where
  | pair (n : Nat)
  | twin (n : Nat)
deriving DecidableEq, Repr

/-- What the signal detector of a receive pair met in a row (R208). Pairs are numbered as the lanes of a straight octet. -/
inductive Detector where
  /-- the input stayed below the de-assert level for the whole row -/
  | below
  /-- the input rose above the assert level at some time in the row -/
  | above
deriving DecidableEq, Repr

/-- What a towpath port's receiver met in a row (R382): block lock throughout it, local fault, remote fault. -/
structure TowLine where
  side : Side
  lock : Bool
  localFault : Bool
  remoteFault : Bool
deriving DecidableEq, Repr

/-- A codeword received on a twin lane: the lane, its number within its lane frame (0 begins with the marker), and 2,720 PAM4 symbols. -/
structure TwinRx where
  lane : Nat
  first : Nat
  word : List Pam
deriving DecidableEq, Repr

/-- What a row brings from outside besides the steps that the table lists: detector levels of the receive pairs
that met one (R208), the codewords that a lane received in the row that ends while its hunter was ALIGNED (R144), eye and slicer figures of a lane (EYE_V, EYE_H, SNR),
the latest phase sample of channel F, its frequency in the row, its software-loop sample, the phase of an input minus that of channel F
at the row tick, in ps, where a TIE starts there (R282), and occupancy samples of the row that
ends (event, object, level, core cycles at that level before the level at the end of the row was reached, R427), what the towpath receivers met (R382), the codewords that the twin lanes received, and
how many of its bits a block that crosses into a lane frame has behind it on each lane (R319), the functions that have posted no
progress mark in the row although they have work (R446), and what the host has put into the PCI Express configuration space (R343). -/
structure RowInput where
  detector : List (Nat × Detector) := []
  rx : List (Nat × List (List Pam)) := []
  eyes : List (Nat × Nat × Nat × Nat) := []
  phase : Option Int := none
  freq : Option Int := none
  softPhase : Int := 0
  tie : List (Nat × Int) := []
  weirs : List (Nat × Nat × Nat × Nat) := []
  tow : List TowLine := []
  twin : List TwinRx := []
  twinPhase : Nat := 0
  stuck : List Nat := []
  pcie : Option PcieCfg := none
deriving DecidableEq, Repr

/-- One input's measurement at a monitor second: mean offset against LOCALOSC in ppt and phase against channel F in ps. -/
structure SecondSample where
  input : Nat
  freq : Int
  phase : Int
deriving DecidableEq, Repr

/-- What is measured at a monitor second: the inputs, and channel F against LOCALOSC. -/
structure SecondInput where
  samples : List SecondSample
  chanF : Int
deriving DecidableEq, Repr

/-- A message received on REFMSG: its bytes, and whether the line showed a framing error (R237). -/
structure RefMsg where
  bytes : List (BitVec 8)
  framing : Bool
deriving DecidableEq, Repr

/-- What the activity monitor of an input met (R240). -/
inductive ActivityObs where
  /-- no edge for this many half nominal periods -/
  | silent (halfPeriods : Nat)
  /-- an edge this many thousandths of a nominal period after the previous one -/
  | gap (permille : Nat)
  /-- this many consecutive nominal periods that each held an edge, or edges in bounds -/
  | run (n : Nat)
  /-- a change of the lane, or of the SYNC arrivals, behind the input -/
  | inner
deriving DecidableEq, Repr

/-- Which event of R344 took place. -/
inductive ResetKind where
  | flr
  | hot
  | linkDown
  | d3hot
deriving DecidableEq, Repr

/-- The three kinds of host queue (Table 13.4). -/
inductive QKind where
  | sq
  | cq
  | eq
deriving DecidableEq, Repr

/-- The routing that the planner found: the stage memory of the new page (R69), or no assignment. -/
inductive Route where
  | found (stage : KMap (BitVec 16))
  | none
deriving DecidableEq, Repr

/-- A firmware image: header words of Table 18.5, body words, and whether its signature verifies under the key in the
boot ROM. -/
structure FwImage where
  header : List W64
  body : List W64
  sigOk : Bool
deriving DecidableEq, Repr

/-- The strap pins (Table 18.3). -/
structure Straps where
  addr : Nat := 0
  twinPref : Bool := false
  keeperOnly : Bool := false
  matrixFast : Bool := false
  bootSrc : Bool := false
deriving DecidableEq, Repr

/-- The fuses that the ROM state reads (Table 18.6): order code, UID, SEC_FLOOR. -/
structure Fuses where
  order : Bool
  uid : BitVec 128
  secFloor : Nat
deriving DecidableEq, Repr

/-- A request of a master to the matrix (R404, R407): the sub-requester behind the port that makes it (a control core, queue, port, stream
or bank of Table 15.1), the command that it is made for (queue, session, sequence number), and, for a write, its bytes in address
order, none where the byte strobe is off (R405). -/
structure MReq where
  master : Nat
  write : Bool
  addr : Nat
  len : Nat
  id : Nat
  orphan : Bool := false
  sub : Nat := 0
  cmd : Option (Nat × Nat × Nat) := none
  data : List (Option (BitVec 8)) := []
deriving DecidableEq, Repr

/-- Outcome of an identity check (R402). -/
inductive IdentResult where
  | ok
  | certificate
  | challenge
  | uidDiffers
deriving DecidableEq, Repr

/-- Why start-up cannot complete (R473). -/
inductive StartFailure where
  | noImage
  | noLocalosc
  | store
  | service
deriving DecidableEq, Repr

/-- The commands of the block, one per row of spec/opcode_table.json. -/
inductive Instr where
  /-- ROW_TICK (R30). Channel F completes 768 core cycles and a row tick begins the next row, on which every row-scheduled action of the device is applied. -/
  | rowTick (inp : RowInput)
  /-- MONITOR_SECOND (R241). Every 2,000,000 row ticks the frequency, drift and average decisions are taken and the measurement records are written. -/
  | monitorSecond (inp : SecondInput)
  /-- DEG_INTERVAL_END (R191). A DEG interval ends and is classed, updating the runs and declaring or clearing DEG. -/
  | degIntervalEnd (lane : Nat)
  /-- PERIOD_BOUNDARY (R433). A bank's accounting period closes, its interval record is latched and its counters restart. -/
  | periodBoundary (bank : Nat)
  /-- BW_WINDOW_END (R439). A bandwidth window ends and each lane's bandwidth record is written. -/
  | bwWindowEnd
  /-- COUNTER_OVERFLOW (R428). A programmable counter passes 2^48 - 1 and wraps, reloads or saturates under OVF_ACTION. -/
  | counterOverflow (c : Nat)
  /-- SF_ROWS_REACHED (R129). SF_ROWS consecutive invalid readout rows set signal fail on a copy. -/
  | sfRowsReached (t : Nat) (copyB : Bool)
  /-- SF_CLEAR_RUN (R129). 250 consecutive valid readout rows with no lane trigger clear signal fail on a copy. -/
  | sfClearRun (t : Nat) (copyB : Bool)
  /-- HOLD_EXPIRY (R126). A tributary's hold timer expires, and all-ones replaces held words with hold expiry declared. -/
  | holdExpiry (t : Nat)
  /-- WTR_EXPIRY (R135). A selector's wait-to-restore expires and the selector returns to NR_A with copy A selected. -/
  | wtrExpiry (t : Nat)
  /-- LOS_DECLARE_RUN (R189). No signal for 2 consecutive rows declares LOS. -/
  | losDeclareRun (lane : Nat)
  /-- LOS_CLEAR_RUN (R189). Signal for 250 consecutive rows clears LOS. -/
  | losClearRun (lane : Nat)
  /-- LORA_DECLARE_RUN (R190). 4 consecutive rows out of place declare LORA. -/
  | loraDeclareRun (lane : Nat)
  /-- LORA_CLEAR_RUN (R190). 250 consecutive rows in place clear LORA. -/
  | loraClearRun (lane : Nat)
  /-- FRM_MISSING_TIMEOUT (R189). No good FRAME barge for 500 rows declares FRM_MISSING. -/
  | frmMissingTimeout (lane : Nat)
  /-- ALIGNMENT_MARKER (R153). An alignment marker position is received and matched or missed, moving the marker hunter and setting the scrambler seed. -/
  | alignmentMarker (port : MarkerPort) (m : MarkerRx)
  /-- DATA_BARGE (R187). A DATA barge is received, judged valid or invalid, and placed in the basin by its resolved row and index. -/
  | dataBarge (lane : Nat) (b : BargeRx)
  /-- HOLD_BARGE (R160). A HOLD barge is received and the basin repeats the previous row's barge with invalid tags. -/
  | holdBarge (lane : Nat) (b : BargeRx)
  /-- FRAME_BARGE (R167). A FRAME barge is received, checked and used for quality level, echo, selection, terms and round-trip delay. -/
  | frameBarge (lane : Nat) (b : BargeRx)
  /-- TEST_BARGE (R172). A TEST barge is received and checked against its regenerated PRBS payload. -/
  | testBarge (lane : Nat) (b : BargeRx)
  /-- IDLE_BARGE (R166). An IDLE barge is received and discarded. -/
  | idleBarge (lane : Nat) (b : BargeRx)
  /-- INVALID_HEADER (R156). A barge header that does not fit is counted, and the seventh in a row loses delineation. -/
  | invalidHeader (lane pos : Nat) (h : HeaderRx)
  /-- ADAPTATION_CONVERGED (R222). Receiver adaptation converges with an eye margin of 10 mV or more, and the lane moves to ALIGN. -/
  | adaptationConverged (lane eyeV eyeH snr : Nat)
  /-- ATTEMPT_TIMER_EXPIRY (R222). The 100 ms bring-up attempt timer expires, and the lane returns to SIGNAL_WAIT. -/
  | attemptTimerExpiry (lane : Nat)
  /-- ID_FAULT_EXPIRY (R222). 8,000 frames in ID_FAULT pass, and the lane returns to ALIGN. -/
  | idFaultExpiry (lane : Nat)
  /-- PHASE_ROWS_IN_PLACE (R222). 250 consecutive rows in place after a good FRAME barge put the lane in service. -/
  | phaseRowsInPlace (lane : Nat)
  /-- REFMSG_QL (R235). A QL message is received on REFMSG and changes the input's rank. -/
  | refmsgQl (n : Nat) (m : RefMsg)
  /-- REFMSG_TOD (R238). A TOD message is received on REFMSG and attached to the next PPS edge. -/
  | refmsgTod (n : Nat) (m : RefMsg)
  /-- REFMSG_BAD (R237). A REFMSG message with a framing, CRC, type or length error is discarded and counted. -/
  | refmsgBad (n : Nat) (m : RefMsg)
  /-- QL_MESSAGE_ABSENT (R236). No QL message for 5 s sets the input's quality level to QL-FAILED. -/
  | qlMessageAbsent (n : Nat)
  /-- INPUT_ACTIVITY_CHANGE (R240). An input becomes inactive or active again by its edge-count or lane rules. -/
  | inputActivityChange (n : Nat) (obs : ActivityObs)
  /-- REF_WTR_EXPIRY (R243). An input's wait-to-restore expires, and the input becomes QUALIFIED. -/
  | refWtrExpiry (n : Nat)
  /-- HOLDOFF_EXPIRY (R243). The hold-off timer of the selected input expires, and the input fails with reselection. -/
  | holdoffExpiry (n : Nat)
  /-- STAIRCASE_DWELL_DONE (R258). A staircase step's dwell completes, moving to the next step or to LOCKED. -/
  | staircaseDwellDone
  /-- HOLD_LIMIT_REACHED (R254). HOLD_LIMIT passes in HOLDOVER, and channel F enters LOST. -/
  | holdLimitReached
  /-- LOCALOSC_FAULT (R256). LOCALOSC is absent for 4 periods or is offset by more than 100 ppm, and the fault actions are taken. -/
  | localoscFault (offset : Bool)
  /-- LOCALOSC_FAULT_CLEAR (R256). 16 monitor seconds without a cause clear the LOCALOSC fault. -/
  | localoscFaultClear
  /-- SOFT_LOOP_TIMEOUT (R276). No F_FREQ for SW_TIMEOUT frames closes the software loop. -/
  | softLoopTimeout
  /-- STEER_DURATION_END (R271). A P_STEER duration ends and p is set to FREQ_AFTER. -/
  | steerDurationEnd
  /-- TOD_MESSAGE_SEND (R268). 200 ms after the linked pulse edge a TOD message is sent, and 500 ms after it a QL message. -/
  | todMessageSend (out : Nat) (ql : Bool)
  /-- TIME_REF_EDGE_MEASURE (R280). At each edge of the qualified time reference OFFSET_FRAMES and OFFSET_PHASE are measured, and anchor events are raised. -/
  | timeRefEdgeMeasure (n ns ps : Nat)
  /-- COMMAND_FETCH (R350). The gateway fetches a command from a submission queue while it holds a credit, and makes the fetch checks. -/
  | commandFetch (q : Nat) (units : List W64)
  /-- COMMAND_START (R38). A command engine takes a command from the work queue, makes the start checks and begins to execute it. -/
  | commandStart (n : Nat)
  /-- DEADLINE_EXPIRY (R39). A command not started by the end of its deadline frame is completed with ST_EXPIRED. -/
  | deadlineExpiry (n : Nat)
  /-- LEAD_EXPIRY (R41). A command not started by the end of frame A - L is completed with ST_TOO_LATE. -/
  | leadExpiry (n : Nat)
  /-- REPLY_WRITE (R351). A reply is written to the completion queue once it has room, returning the credit. -/
  | replyWrite (cq : Nat)
  /-- EVENT_WRITE (R373). An event record or pending record is written to an event queue once it has room. -/
  | eventWrite (eq : Nat)
  /-- ADMIN_CTRL_WRITE (R347). A write of ADMIN_CTRL creates or deletes queue pair 0, or is refused with FAULT set. -/
  | adminCtrlWrite (v : BitVec 32)
  /-- SQ_TAIL_DOORBELL (R349). A submission queue tail doorbell write makes commands available for fetch. -/
  | sqTailDoorbell (q : Nat) (v : BitVec 32)
  /-- CQ_HEAD_DOORBELL (R351). A completion queue head doorbell write consumes entries. -/
  | cqHeadDoorbell (q : Nat) (v : BitVec 32)
  /-- EQ_HEAD_DOORBELL (R371). An event queue head doorbell write consumes event entries. -/
  | eqHeadDoorbell (e : Nat) (v : BitVec 32)
  /-- WINDOW_LOW_READ (R346). A 32-bit read of the low half of a 64-bit window register latches its high half. -/
  | windowLowRead (off : WinRead)
  /-- WINDOW_REGISTER_WRITE (R346). A write to another window register, such as the MSI-X table or an unmapped offset, is applied or ignored. -/
  | windowRegisterWrite (off : Nat) (v : W64) (wide : Bool)
  /-- PCIE_FUNCTION_RESET (R344). A function level reset, hot reset, link-down or entry to D3hot deletes every queue and clears ADMIN_CTRL and MSI-X. -/
  | pcieFunctionReset (kind : ResetKind)
  /-- PCIE_PERST (R489). PCIE_PERST_N low resets the PCI Express function only. -/
  | pciePerst
  /-- QUEUE_DMA_FAULT (R345). A queue memory read returns an error or does not complete within 1 ms, so the queue is disabled. -/
  | queueDmaFault (kind : QKind) (q : Nat)
  /-- CQ_CREATE (R353). Creates a completion queue. -/
  | cqCreate
  /-- SQ_CREATE (R354). Creates a submission queue bound to a completion queue, with a new session. -/
  | sqCreate
  /-- SQ_DELETE (R355). Deletes a submission queue, withdrawing its unstarted commands. -/
  | sqDelete
  /-- CQ_DELETE (R353). Deletes a completion queue with no submission queue bound. -/
  | cqDelete
  /-- EQ_CREATE (R372). Creates an event queue and writes held records of its groups to it. -/
  | eqCreate
  /-- EQ_DELETE (R373). Deletes an event queue, keeping its pending records that no other queue takes. -/
  | eqDelete
  /-- NOP (R367). Does nothing and replies with the holder fields. -/
  | nop
  /-- CONN_EDIT (R84). Validates up to 256 connection entries and adds them to the open plan. -/
  | connEdit
  /-- CONN_LOAD (R85). Reads whole egress lanes of entries from host memory and adds them to the open plan. -/
  | connLoad (buf : Option (List W64))
  /-- TRIB_SET (R118). Checks up to 32 tributary records and adds them to the open plan. -/
  | tribSet
  /-- TRIB_READ (R137). Copies the tributary records of a generation to host memory. -/
  | tribRead (ok : Bool)
  /-- PLAN_SEAL (R90). Seals the open plan, assigns its target generation and completes at its lockage or refusal. -/
  | planSeal
  /-- PLAN_DISCARD (R92). Discards the open plan. -/
  | planDiscard
  /-- PLAN_WITHDRAW (R94). Withdraws the named sealed plan and every later one. -/
  | planWithdraw
  /-- PLAN_STATUS (R497). Writes the planner status record to host memory. -/
  | planStatus (ok : Bool)
  /-- PAGE_READ (R112). Copies part of a page of a named generation to host memory. -/
  | pageRead (ok : Bool)
  /-- LOCKAGE_AT (R111). Fixes the lockage frame of a HELD plan and arms it. -/
  | lockageAt
  /-- PLANNING_START (R93). A QUEUED plan enters PLANNING once the plan before it has ended its copy. -/
  | planningStart
  /-- PLANNING_DONE (R96). Routing of a plan completes and the plan is PLANNED or REFUSED with ST_NO_ROUTE. -/
  | planningDone (route : Route)
  /-- LOADING_START (R97). A PLANNED plan takes the standby page credit and the page loader begins its copy. -/
  | loadingStart
  /-- LOADING_DONE (R97). The page copy ends and R70 is checked, giving LOADED or REFUSED with ST_PAGE_CHECK. -/
  | loadingDone (faults : List (Nat × BitVec 16))
  /-- DEFERRAL_LIMIT (R100). The arming check for frame Z fails and the plan is refused with ST_LOCKAGE_TIMEOUT. -/
  | deferralLimit
  /-- PROT_CMD (R138). Applies LO, FS, MS-B, MS-A or CLEAR to a tributary selector at its effect tick. -/
  | protCmd
  /-- PROT_STATUS (R201). Copies live selector status records to host memory. -/
  | protStatus (ok : Bool)
  /-- LANE_ADMIN (R226). Sets the admin state of a run of lanes. -/
  | laneAdmin
  /-- LANE_RESTART (R222). Returns a run of lanes to OFF and then applies their admin state. -/
  | laneRestart
  /-- LANE_STATUS (R226). Copies lane status records to host memory. -/
  | laneStatus (ok : Bool)
  /-- LANE_TEST (R228). Enables or disables TEST barges on a run of lanes. -/
  | laneTest
  /-- LANE_DEF_CFG (R193). Writes a DEG configuration to a run of lanes, applied at the next frame boundary. -/
  | laneDefCfg
  /-- LANE_DEF_STATUS (R204). Copies lane defect status records to host memory. -/
  | laneDefStatus (ok : Bool)
  /-- REF_CFG (R260). Writes input configuration records. -/
  | refCfg
  /-- REF_SELECT (R247). Applies AUTO, MANUAL, FORCED, LOCKOUT or UNLOCK to reference selection. -/
  | refSelect
  /-- REF_STATUS (R245). Copies input status records to host memory. -/
  | refStatus (ok : Bool)
  /-- DPLL_CFG (R260). Writes the channel F reference record. -/
  | dpllCfg
  /-- DPLL_STATUS (R254). Returns the channel F status record. -/
  | dpllStatus
  /-- F_SOFT (R273). Opens or closes the channel F software loop. -/
  | fSoft
  /-- F_FREQ (R275). Ramps channel F towards a written frequency while the software loop is open. -/
  | fFreq
  /-- F_SAMPLES (R274). Copies the newest software-loop phase samples to host memory. -/
  | fSamples (ok : Bool)
  /-- P_STEER (R271). Sets the channel P frequency offset, with an optional duration. -/
  | pSteer
  /-- P_STATUS (R272). Returns the channel P status record. -/
  | pStatus
  /-- OUT_CFG (R265). Writes a clock, pulse or time-of-day output record, applied at the next frame boundary. -/
  | outCfg
  /-- REALIGN (R278). Fixes N and the gap of a re-alignment at the boundary named by its at-frame. -/
  | realign
  /-- OUT_REALIGN (R281). Steps or aligns the channel P offset at its at-frame. -/
  | outRealign
  /-- MEAS_READ (R284). Copies frequency and TIE or lane delay records, with an optional restart. -/
  | measRead (ok : Bool)
  /-- TIME_CFG (R270). Writes the time record. -/
  | timeCfg
  /-- FRAME_STATUS (R375). Returns the frame status record. -/
  | frameStatus
  /-- TWIN_STATUS (R289). Returns the twin status record. -/
  | twinStatus
  /-- TWIN_CFG (R314). Sets the hold time that applies from the next TAKE. -/
  | twinCfg
  /-- KEEPER_STATUS (R314). Returns the keeper status record of a KEEPER_ONLY device. -/
  | keeperStatus
  /-- CKPT_STATUS (R324). Returns the checkpoint status record. -/
  | ckptStatus
  /-- REVERT_CFG (R340). Sets the revert record in force. -/
  | revertCfg
  /-- REVERT_LOCK (R339). Sets LOCKOUT in force. -/
  | revertLock
  /-- HANDOVER_AT (R340). Requests a handover of service to the WARM partner at the at-frame. -/
  | handoverAt
  /-- STANDBY_WARM (R331). Warms a cold standby or returns it to COLD. -/
  | standbyWarm
  /-- FLIGHT_STATUS (R403). Writes the 64 member records to host memory. -/
  | flightStatus (ok : Bool)
  /-- ADMIT (R401). Writes the admission record for the device's own UID. -/
  | admitMember
  /-- ADMIT_DONE (R401). The admission record writes and readbacks end, and the device leaves OUT_OF_SERVICE or reports ST_BT_CHECK. -/
  | admitDone (readback : AdmReadback)
  /-- CTR_CFG (R431). Schedules or cancels a reconfiguration of a counter bank. -/
  | ctrCfg
  /-- CTR_READ (R437). Copies one bank's counters from now, the snapshot or an interval. -/
  | ctrRead (ok : Bool)
  /-- CTR_SNAPSHOT (R435). Copies the named scopes' counts into their snapshot copies. -/
  | ctrSnapshot
  /-- FIXED_CFG (R440). Sets the fixed period and the bandwidth window. -/
  | fixedCfg
  /-- FIXED_READ (R437). Copies fixed lane or tributary counts to host memory. -/
  | fixedRead (ok : Bool)
  /-- BW_READ (R439). Copies bandwidth records to host memory. -/
  | bwRead (ok : Bool)
  /-- CTR_STATUS (R430). Returns a bank's counter status. -/
  | ctrStatus
  /-- RECOVER (R452). Starts recovery step 2, 3 or 4. -/
  | recover
  /-- RECOVER_CFG (R453). Writes the recovery control record. -/
  | recoverCfg
  /-- RECOVER_STATUS (R454). Returns the recovery status record. -/
  | recoverStatus
  /-- MATRIX_CFG (R420). Writes the matrix control record, applied at the next row tick. -/
  | matrixCfg
  /-- MATRIX_STATUS (R420). Writes the matrix status record to host memory. -/
  | matrixStatus (ok : Bool)
  /-- STATE_SUMMARY (R456). Returns the state summary sampled at one row tick. -/
  | stateSummary
  /-- CONFIG_READ (R455). Copies configuration records of one class to host memory. -/
  | configRead (ok : Bool)
  /-- IDENTITY_READ (R376). Returns the identity object. -/
  | identityRead
  /-- CERT_READ (R402). Writes the device certificate to host memory. -/
  | certRead (ok : Bool)
  /-- IDENT_CHALLENGE (R402). Signs a nonce with the device key. -/
  | identChallenge (ok : Bool)
  /-- FW_WRITE (R475). Checks a firmware image and begins writing it into slot B. -/
  | fwWrite (img : Option FwImage)
  /-- FW_WRITE_DONE (R475). The slot B erase, write and readback end, and the command completes. -/
  | fwWriteDone (readback : Bool)
  /-- FW_STATUS (R468). Returns the firmware status. -/
  | fwStatus
  /-- FW_FLOOR (R476). Raises SEC_FLOOR by blowing fuses. -/
  | fwFloor
  /-- BT_WRITE (R216). Checks a board table and begins writing it into the slot not in use. -/
  | btWrite (buf : Option (List W64))
  /-- BT_WRITE_DONE (R216). The board table slot write and readback end, and the command completes. -/
  | btWriteDone (readback : Bool)
  /-- BT_APPLY (R217). Makes the last written table the table in use and applies its records. -/
  | btApply
  /-- BT_READ (R217). Copies a board table to host memory. -/
  | btRead (ok : Bool)
  /-- HEARTBEAT (R296). A valid partner HEARTBEAT is registered, updating HTERM, peer state and step-down conditions. -/
  | heartbeat (f : WatchFrame)
  /-- LEASE (R296). A LEASE from the keeper is registered, renewing the active's lease. -/
  | lease (f : WatchFrame)
  /-- QUERY (R298). A QUERY is registered and answered with an ANSWER in the next row. -/
  | query (f : WatchFrame)
  /-- TAKE (R297). A TAKE is registered and applied, making the grantee TAKING or ACTIVE, or is answered or ignored. -/
  | take (f : WatchFrame)
  /-- NOTICE (R297). A NOTICE is registered, and a twin in INIT or STEPPED_DOWN may enter SYNCING. -/
  | notice (f : WatchFrame)
  /-- HELLO (R311). A HELLO from a keeper is registered and answered with a STATUS. -/
  | hello (f : WatchFrame)
  /-- HANDOVER (R336). A HANDOVER is registered on both twins, raising HTERM and making the handover pending. -/
  | handover (f : WatchFrame)
  /-- WATCH_FRAME_BAD (R295). An invalid watch frame is discarded and counted in WATCH_BAD. -/
  | watchFrameBad (port : Bool)
  /-- HEARTBEAT_SEND (R294). Every 40 rows a twin sends a HEARTBEAT and a STATUS. -/
  | heartbeatSend
  /-- RENEW_SEND (R296). Every 100 rows in ACTIVE and TAKING a twin sends a STATUS with RENEW 1. -/
  | renewSend
  /-- PEER_LOST (R296). 160 rows without a valid HEARTBEAT declare the partner lost. -/
  | peerLost
  /-- KEEPER_LOST (R296). 160 rows without a valid keeper frame declare the keeper lost. -/
  | keeperLost
  /-- LEASE_EXPIRY (R296). 400 rows without a matching LEASE clear LEASED and raise EV_LEASE. -/
  | leaseExpiry
  /-- COLD_START_DONE (R330). The cold-start stages from the checkpoint complete, or fail with a step-down. -/
  | coldStartDone (matches_ : Bool)
  /-- FIRST_SWITCHED_ROW (R302). A TAKING device sends its first switched row and enters ACTIVE. -/
  | firstSwitchedRow
  /-- TAKEOVER_HOLD_EXPIRY (R301). HOLD runs out before the first switched row, and all-ones DATA rows replace HOLD rows. -/
  | takeoverHoldExpiry
  /-- WARMING_LOAD_DONE (R331). The warming load completes, or fails and the device returns to SYNCING. -/
  | warmingLoadDone (matches_ : Bool)
  /-- REVERT_WTR_EXPIRY (R333). The revert wait-to-restore expires and the primary enters WARMING. -/
  | revertWtrExpiry
  /-- WARM_LIMIT_EXPIRY (R331). WARM_LIMIT passes in WARM without a HANDOVER, and the device returns to COLD. -/
  | warmLimitExpiry
  /-- HANDOVER_REQUEST_LAPSE (R502). No HANDOVER is registered by the end of row 249 of frame AT_FRAME - 2, and the requested handover lapses. -/
  | handoverRequestLapse
  /-- KEEPER_RESET (R307). The keeper powers up or resets into LEARNING and sends HELLO. -/
  | keeperReset
  /-- KEEPER_LEARNING_END (R307). 1 ms in LEARNING ends and the keeper enters HELD, GRANTING or VACANT. -/
  | keeperLearningEnd
  /-- KEEPER_HELLO_INTERVAL (R307). Every 20 µs in LEARNING the keeper sends HELLO on both ports. -/
  | keeperHelloInterval
  /-- STATUS (R307). The keeper registers a STATUS and answers it with a LEASE or a NOTICE. -/
  | status (port : Bool) (f : WatchFrame)
  /-- ANSWER (R307). The keeper registers an ANSWER, and a qualifying one grants a new term with a TAKE. -/
  | answer (port : Bool) (f : WatchFrame)
  /-- TAKEN (R307). The keeper registers a TAKEN and makes the grantee the holder. -/
  | taken (port : Bool) (f : WatchFrame)
  /-- HANDOVER_REQ (R307). The keeper registers a HANDOVER_REQ and issues a HANDOVER with a new term. -/
  | handoverReq (port : Bool) (f : WatchFrame)
  /-- KEEPER_LEASE_LAPSE (R310). The keeper's lease lapses, and with the holder lost the keeper enters LAPSED and sends a QUERY. -/
  | keeperLeaseLapse
  /-- KEEPER_TWIN_LOST (R310). 80 µs without a valid frame make the keeper declare a twin lost. -/
  | keeperTwinLost (port : Bool)
  /-- KEEPER_QUERY_REPEAT (R307). 20 µs after the last QUERY in LAPSED the keeper repeats it. -/
  | keeperQueryRepeat
  /-- KEEPER_TAKE_REPEAT (R307). 100 µs without TAKEN make the keeper repeat the TAKE, or enter HELD after the third repeat. -/
  | keeperTakeRepeat
  /-- KEEPER_GRANT (R308). In VACANT a twin qualifies, or START_WAIT passes, and the keeper grants a term. -/
  | keeperGrant
  /-- FULL_REQ (R322). The active registers FULL_REQ and begins a full checkpoint to the standby. This row and the nine that follow
  bring blocks of 256 words from the twin lanes (R500), the last of which ends the message named. -/
  | fullReq (blocks : List (List W64))
  /-- FULL (R323). The standby receives a FULL message into slot X. -/
  | full (blocks : List (List W64))
  /-- DELTA (R325). The standby receives a DELTA into a FREE slot, commits it and acknowledges it. -/
  | delta (blocks : List (List W64))
  /-- FIX (R326). The standby records a new lockage frame for a committed generation. -/
  | fix (blocks : List (List W64))
  /-- DROP (R328). The standby returns a withdrawn committed slot to FREE. -/
  | drop (blocks : List (List W64))
  /-- SEL (R317). The standby writes changed selector records into both slots. -/
  | sel (blocks : List (List W64))
  /-- CKPT_ACK (R106). The active registers an ACK from its partner, acknowledging a delta, fix, drop or full checkpoint. -/
  | ckptAck (blocks : List (List W64))
  /-- SLOT_FREE (R324). The active registers SLOT_FREE and may ship the next delta. -/
  | slotFree (blocks : List (List W64))
  /-- SYNC_END (R323). The standby completes synchronisation on SYNC_END and reports SYNCED. -/
  | syncEnd (blocks : List (List W64))
  /-- TWIN_MESSAGE_BAD (R321). A twin message or block is discarded, and the checkpoint stops being synchronised if it was a FULL, DELTA or SEL. -/
  | twinMessageBad (blocks : List (List W64))
  /-- DELTA_SHIP (R324). The active ships a queued delta once SLOT_FREE for the generation in service is registered. -/
  | deltaShip
  /-- SLOT_REFRESH_DONE (R327). The copy of the new IN_SERVICE slot into the other slot completes, and SLOT_FREE is sent. -/
  | slotRefreshDone
  /-- MIRROR_COPY_DONE (R335). During a pending handover, the active's mirror copy of its generation in service completes. -/
  | mirrorCopyDone
  /-- TOW_SYNC (R393). A SYNC packet is received, forwarded with its correction updated, and used for the input 24 phase sample or for start-up phase. -/
  | towSync (side : Side) (p : TowPkt) (arrival residence : Nat)
  /-- CREDIT (R385). A CREDIT packet returns hop credits. -/
  | credit (side : Side) (p : TowPkt)
  /-- DELAY_REQ (R392). A DELAY_REQ is received and answered with a DELAY_RESP. -/
  | delayReq (side : Side) (p : TowPkt) (turnaround : Nat)
  /-- DELAY_RESP (R392). A DELAY_RESP is received and the one-way link delay is updated. -/
  | delayResp (side : Side) (p : TowPkt) (roundTrip : Nat)
  /-- COMMIT (R398). A member registers COMMIT for a broadcast re-alignment. -/
  | commit (side : Side) (p : TowPkt)
  /-- MEMBER (R386). A MEMBER packet is received, teaching routes, addresses and gateway conflicts. -/
  | member (side : Side) (p : TowPkt)
  /-- CMD (R384). A CMD packet is consumed and its command queued for starting on this device. -/
  | cmd (side : Side) (p : CmdPkt)
  /-- REPLY (R388). The gateway receives a REPLY packet for an outstanding command. -/
  | reply (side : Side) (p : TowPkt)
  /-- EVENT (R384). The gateway receives an EVENT packet for delivery to its event queues. -/
  | event (side : Side) (p : TowPkt)
  /-- TOW_ACK (R387). An ACK packet acknowledges a CONTROL or BULK packet. -/
  | towAck (side : Side) (p : TowPkt)
  /-- DMA_RD (R389). The gateway receives a DMA_RD and reads host memory on a member's behalf. -/
  | dmaRd (side : Side) (p : TowPkt) (data : Option (List W64))
  /-- DMA_DATA (R389). A member receives DMA_DATA holding host read data. -/
  | dmaData (side : Side) (p : TowPkt)
  /-- DMA_WR (R389). The gateway receives a DMA_WR and writes host memory. -/
  | dmaWr (side : Side) (p : DmaWrPkt)
  /-- TOW_PACKET_BAD (R383). A towpath packet with a bad CRC, version, type or flight identifier is discarded and counted. -/
  | towPacketBad (bytes : BadPkt)
  /-- TOW_RESEND (R387). A packet unacknowledged after 20 µs, or whose route has lapsed, is re-sent. -/
  | towResend (n : Nat)
  /-- TOW_PORT_DOWN (R382). Block lock lost for 2 rows, or remote fault received, declares a towpath port down. -/
  | towPortDown (side : Side)
  /-- TOW_PORT_UP (R382). 250 rows of block lock with no fault declare a towpath port up. -/
  | towPortUp (side : Side)
  /-- ROUTE_LAPSE (R386). 4 frames without a MEMBER from a member make the route to it lapse. -/
  | routeLapse (addr : Nat) (side : Side)
  /-- MEMBER_UNREACHABLE (R388). 16 frames without a route make the gateway declare a member unreachable and complete its outstanding commands with ST_UNREACHABLE. -/
  | memberUnreachable (addr : Nat)
  /-- BACKUP_TIME_SOURCE (R390). 64 frames without a SYNC from TIME_SRC make the backup become the timing source. -/
  | backupTimeSource
  /-- SYNC_ABSENT (R394). 8 frames without a SYNC make input 24 inactive. -/
  | syncAbsent
  /-- ENUMERATION_TIMEOUT (R379). 8,000 frames without a gateway MEMBER leave the device unaddressed. -/
  | enumerationTimeout
  /-- IDENTITY_CHECK (R402). A verifier checks a member's certificate and challenge when it joins and every 24 h. -/
  | identityCheck (addr : Nat) (result : IdentResult)
  /-- WATCHDOG_EXPIRY (R446). A function's watchdog expires while it has work, and the function is declared wedged. -/
  | watchdogExpiry (f : Nat)
  /-- TARGET_WEDGED (R412). A request outstanding to a target for WEDGE_TIME makes the target wedged. -/
  | targetWedged (t : Nat)
  /-- MATRIX_REQUEST (R410). A master issues a request to a target through the matrix under ordering and arbitration. -/
  | matrixRequest (r : MReq) (slotFree : Bool)
  /-- REINIT_BEGIN (R442). Re-initialisation of a function begins and resets its masters. -/
  | reinitBegin (f : Nat)
  /-- MASTER_READMIT (R418). A reset master is readmitted once no ID is in use, or 2 µs after the reset. -/
  | masterReadmit (m : Nat)
  /-- REINIT_DONE (R442). A function's re-initialisation completes, or exceeds its maximum and escalates. -/
  | reinitDone (f : Nat)
  /-- STEP3_CANCEL (R448). 2 ms after watch frames stopped without a step-down, step 3 is cancelled and watch frames resume. -/
  | step3Cancel
  /-- RESET_N_FALL (R461). RESET_N goes low and the device enters reset. -/
  | resetNFall (ns : Nat)
  /-- RESET_N_RISE (R465). RESET_N rises, the straps are sampled and start-up begins in ROM. -/
  | resetNRise (straps : Straps)
  /-- INTERNAL_RESET (R462). The step-3 reset is carried out as an internal 10 µs RESET_N pulse. -/
  | internalReset
  /-- RAIL_FAILURE (R460). A rail below its minimum for more than 2 µs puts the device into reset. -/
  | railFailure (ns : Nat)
  /-- RAIL_RECOVERY (R460). All rails within tolerance for 10 ms with RESET_N high end the reset as a power-up. -/
  | railRecovery (straps : Straps)
  /-- THERMAL_TRIP (R494). A die reaching the trip level puts the device into reset. -/
  | thermalTrip
  /-- THERMAL_RELEASE (R494). Every die at or below the release level, with rails good and RESET_N high, ends a thermal reset. -/
  | thermalRelease (straps : Straps)
  /-- ROM_DONE (R470). The ROM state completes and firmware loading begins. -/
  | romDone (fuses : Fuses)
  /-- FW_LOAD_DONE (R468). The firmware image is read and verified, or none is accepted and start-up fails. -/
  | fwLoadDone (a b : Option FwImage)
  /-- BT_LOAD_DONE (R215). Both board table slots are checked and the table in use is chosen. -/
  | btLoadDone (a b : List W64)
  /-- CLOCKS_DONE (R470). The clocks are set up, row ticks begin and the memory clear starts. -/
  | clocksDone
  /-- MEMORY_DONE (R470). Every on-chip store is cleared, the pages are set and PHASE begins. -/
  | memoryDone
  /-- PHASE_FIXED (R471). The frame number and phase are fixed from SYNC or by the device itself, and SERVICES begins. -/
  | phaseFixed
  /-- PHASE_SYNC_TIMEOUT (R471). No SYNC within 2 ms on the timing source, or 1 s elsewhere, makes the device fix its own count. -/
  | phaseSyncTimeout
  /-- SERVICES_DONE (R470). Services start and the device reaches READY, raising EV_FW_BOOT. -/
  | servicesDone (adm0 adm1 : BitVec 512)
  /-- STARTUP_FAILED (R473). A start-up state's work cannot complete and the device enters FAILED. -/
  | startupFailed (why : StartFailure)
  /-- STARTUP_TIMEOUT (R450). Start-up after a step-3 reset does not reach READY within 1.5 s, and step 4 begins. -/
  | startupTimeout
  /-- SIGNAL_REPORTED_RUN (R222). Signal reported for 2 consecutive rows in SIGNAL_WAIT moves the lane to ADAPT and starts the 100 ms attempt timer. -/
  | signalReportedRun (lane : Nat)
  /-- FULL_COPY_END (R322). The active finishes sending the FULL and its page read, then sends the catch-up DELTAs and SYNC_END and releases the page loader to plans waiting in PLANNED. -/
  | fullCopyEnd
  /-- SNAPSHOT_COPIES_DONE (R435). The snapshot copies are in place up to 250 rows after the latch, so CTR_SNAPSHOT completes and returns its snapshot request credit. -/
  | snapshotCopiesDone
  /-- MATRIX_RESPONSE (R410). A target's response reaches the matrix and frees the request's response slot or ID; an orphan response is discarded, a wedged target is released, or a master is returned to ordered mode. -/
  | matrixResponse (r : MReq) (targetError : Bool)
  /-- PCIE_PERST_RELEASE (R489). PCIE_PERST_N rises, and the gateway's PCI Express endpoint leaves fundamental reset. -/
  | pciePerstRelease
  /-- INTERNAL_RESET_END (R462). The 10 µs internal reset pulse ends, the straps are sampled and start-up begins in ROM. -/
  | internalResetEnd (straps : Straps)
deriving DecidableEq, Repr

end Sys2Proof
end

