-- ==== Sys2Proof/Machine/State.lean ====
section
/-! DEFINITION. The state of the device as plain data, the faults and refusals, and the state after reset. Each field
names the file and rule of spec/ that gives it; fields marked MODEL'S OWN are the model's. -/

namespace Sys2Proof.Machine

open Sys2Proof

/-- Reasons a step can fault. -/
inductive Fault where
  /-- Raised by a command whose operand names an object that the device does not have (a lane above 511, a tributary
  above 131,071, a counter above 4,095 ...). Safe: the hardware has no such object, so no such event takes place. -/
  | noSuchObject (what : String)
deriving DecidableEq, Repr

/-- Reasons a step can be refused. -/
inductive Refusal where
  /-- Raised by an arm of exec whose command has no meaning yet. Safe: the model stops. -/
  | notModelled (mnemonic : String)
deriving DecidableEq, Repr

/-- Channel F states, in the code order of Table 9.8. -/
inductive FState where
  | freeRun | acquiring | locked | holdover | lost
deriving DecidableEq, Repr

/-- Reference selection modes (R247). -/
inductive SelMode where
  | auto | manual | forced
deriving DecidableEq, Repr

/-- Qualification states of an input, in the code order of Table 9.5. -/
inductive QState where
  | off | failed | holdoff | restoring | qualified | drifting | suspect
deriving DecidableEq, Repr

/-- Lane bring-up states, in the code order of Table 8.7. -/
inductive Bring where
  | off | signalWait | adapt | align | identify | delineate | phase | inService | idFault
deriving DecidableEq, Repr

/-- Selector states, in the code order of Table 5.8; the last is code 15. -/
inductive SelState where
  | nrA | nrB | lo | fs | sfB | sfA | sdB | sdA | msB | msA | wtr | notProt
deriving DecidableEq, Repr

/-- What a lane in service carries in a row: FRAME and IDLE barges only, DATA rows, HOLD barges (R301), or DATA rows of
all-ones after HOLD (R301). -/
inductive RowKind where
  | fill | data | hold | ones
deriving DecidableEq, Repr

/-- Plan states of Table 4.1 that a sealed plan holds; codes 1 to 8 in this order. -/
inductive PlanSt where
  | queued | planning | planned | loading | loaded | held | armed | swapping
deriving DecidableEq, Repr

/-- Role states of Table 11.2, in code order. -/
inductive Role where
  | init | solo | active | syncing | cold | warming | warm | taking | steppedDown | keeper
deriving DecidableEq, Repr

/-- States of a checkpoint slot, in the code order of Table 12.8. -/
inductive SlotSt where
  | empty | filling | committed | inService | free
deriving DecidableEq, Repr

/-- Keeper states of Table 11.9, in code order. -/
inductive KState where
  | learning | vacant | held | lapsed | granting
deriving DecidableEq, Repr

/-- Start-up states of Table 18.6; codes 0 to 8 in this order, failed 15. -/
inductive StartSt where
  | reset | rom | fwLoad | btLoad | clocks | memory | phase | services | ready | failed
deriving DecidableEq, Repr

/-- Names a command on this device: submission queue, session, sequence number, and, for one that a CMD packet brought,
the gateway's address and the privilege of its queue. -/
structure Key where
  q : Nat := 0
  session : Nat := 0
  seq : Nat := 0
  gw : Option Nat := none
  priv : Nat := 0
deriving DecidableEq, Repr

/-- A fetched command waiting to be started: its key, its words, whether it is one copy of a broadcast. -/
structure Work where
  key : Key
  cmd : Cmd
deriving DecidableEq, Repr

/-- A started command: when it was started, the at-frame in force for it, and what its meaning remembers until it
completes. -/
structure Run where
  key : Key
  cmd : Cmd
  row : Nat
  frame : Nat
  rowIn : Nat
  at_ : Nat
  mem : List Nat
deriving DecidableEq, Repr

/-- A reply before the fields that its writing fixes (Table 13.10). -/
structure Reply where
  opcode : Nat
  seq : Nat
  q : Nat
  status : Nat
  frame : Nat
  row : Nat
  device : Nat
  cached : Bool
  session : Nat
  words : List W64
  holder : Option Nat
deriving DecidableEq, Repr

/-- An event record before PHASE (Table 13.12). MODEL'S OWN: `ord` and `lastOrd` say when its first and its latest occurrence were, in
rows since reset. -/
structure EvRec where
  code : Nat
  device : Nat
  seq : Nat
  frame : Nat
  row : Nat
  lastFrame : Nat
  lastRow : Nat
  merged : Nat
  term : Nat
  payload : List W64
  ord : Nat := 0
  lastOrd : Nat := 0
deriving DecidableEq, Repr

/-- A cached reply with the CRC of its command (R362, R363). -/
structure Cached where
  seq : Nat
  crc : Nat
  reply : Reply
deriving DecidableEq, Repr

/-- A command the gateway has forwarded to another member and not seen completed (R368, R388). -/
structure Fwd where
  key : Key
  dst : Nat
  opcode : Nat
deriving DecidableEq, Repr

/-- A broadcast command the gateway has sent and not completed (R396, R397): members outstanding, OK and FAIL maps, the
lowest failure, and the reply words of the gateway's own copy. -/
structure Bcast where
  key : Key
  opcode : Nat
  waiting : List Nat
  ok : List Nat
  fail : List Nat
  status : Nat
  device : Nat
  cached : Bool
  first : W64
deriving DecidableEq, Repr

/-- The words of one DATA barge of a row with the validity tag of the barge (R16). -/
structure BargeW where
  words : List (BitVec 32)
  tag : Bool
deriving DecidableEq, Repr

/-- A re-alignment fixed for frame K (R278): what frame 0 row tick becomes, the gap in ps, the mode, the command. -/
structure Realign where
  k : Nat
  n : Nat
  gap : Nat
  mode1 : Bool
  key : Option Key
deriving DecidableEq, Repr

/-- A time-of-day message waiting for its edge (R238). -/
structure TodMsg where
  sec : Nat
  valid : Bool
  row : Nat
deriving DecidableEq, Repr

/-- A measurement record of 128 bits (Tables 10.11 to 10.13). -/
structure Rec2 where
  w0 : W64
  w1 : W64
deriving DecidableEq, Repr

/-- A lane's bandwidth record (Table 16.10). -/
structure BwRec where
  w0 : W64 := 0
  w1 : W64 := 0
  w2 : W64 := 0
  w3 : W64 := 0
deriving DecidableEq, Repr

/-- A refused or withdrawn plan whose reply waits for the ACK of its DROP (R328): its seal, status and reply words, and
whether it holds the standby page credit. -/
structure DropWait where
  gen : Nat
  key : Key
  status : Nat
  words : List W64
  page : Bool
deriving DecidableEq, Repr

/-- A TAKE to this device registered in the row (R297). -/
structure TakeReg where
  term : Nat
  prev : Nat
deriving DecidableEq, Repr

/-- The partner's latest heartbeat (Table 11.5). -/
structure Beat where
  role : Nat
  roleSt : Nat
  term : Nat
  addr : Nat
deriving DecidableEq, Repr

/-- An ANSWER due in the next row (R298): its ASK_TERM, and whether it stands in place of TAKEN (Table 11.6). -/
structure AnsReg where
  ask : Nat
  taken : Bool
deriving DecidableEq, Repr

/-- A handover requested and not yet pending (R502). -/
structure HandReq where
  at_ : Nat
  key : Option Key
deriving DecidableEq, Repr

/-- A pending handover (R336): its frame, its term, and whether it names this device as the twin that is to serve. -/
structure Hand where
  at_ : Nat
  term : Nat
  here : Bool
deriving DecidableEq, Repr

/-- An 8-byte word to be written at a byte offset of a slot (R316, R319). -/
structure SlotWrite where
  off : Nat
  word : W64
deriving DecidableEq, Repr

/-- A twin message: the fields of Table 12.3 that its type uses, and the words of its sections. -/
structure TwinMsg where
  type : Nat
  gen : Nat
  frame : Nat
  acked : Nat
  writes : List SlotWrite
deriving DecidableEq, Repr

/-- A sealed delta, and whether it has been shipped (R324). -/
structure Delta where
  gen : Nat
  frame : Nat
  writes : List SlotWrite
  sent : Bool := false
deriving DecidableEq, Repr

/-- A FULL being sent (R322). -/
structure FullSend where
  gen : Nat
  row : Nat
deriving DecidableEq, Repr

/-- A packet consumed that waits for packets sent before it (R361): with a CMD the privilege of its queue, with a DMA_RD what the
gateway's read finds, and the row in which it came. -/
structure HeldPkt where
  pkt : TowPkt
  priv : Nat
  data : Option (List W64)
  row : Nat
deriving DecidableEq, Repr

/-- A read of host memory that a command on a member makes through the gateway (R389): the words of each DMA_RD not answered, in
the order of their sending, what has come back, whether one has failed, and whether the command has been told. -/
structure DmaJob where
  key : Key
  asked : List Nat
  got : List W64
  failed : Bool
  ended : Bool := false
deriving DecidableEq, Repr

/-- A command on a member whose buffer is being written through the gateway (R389): the gateway, the TSEQ of each DMA_WR that it has
not acknowledged, the buffer, the reply that follows, and whether a write has failed. -/
structure WrJob where
  run : Run
  gw : Nat
  asked : List Nat
  addr : Nat
  bytes : Nat
  reply : List W64
  failed : Bool := false
deriving DecidableEq, Repr

/-- A CONTROL or BULK packet not acknowledged, and the row in which it was sent last; none while it waits for credits (R387). -/
structure Unacked where
  pkt : TowPkt
  row : Option Nat
deriving DecidableEq, Repr

/-- A packet that waits for hop credits, and the port on which its own credits are returned once it leaves (R385). -/
structure Queued where
  pkt : TowPkt
  back : Option Side
deriving DecidableEq, Repr

/-- The first SYNC of PHASE (R391): its frame, the row in which it was registered, the time since that frame's row 0 tick at
that moment in ps, and whether the count is anchored. -/
structure SyncFirst where
  frame : Nat
  row : Nat
  ps : Nat
  anchored : Bool
deriving DecidableEq, Repr

/-- The latest SYNC of a direction (R393). -/
structure SyncSeen where
  dirB : Bool
  frame : Nat
  sample : Int
  src : Nat
  hops : Nat
deriving DecidableEq, Repr

/-- A pending reconfiguration of a counter bank (R431): its command, its frame, whether it waits for a period boundary of the
bank, and its parameter words. -/
structure CtrPend where
  key : Key
  at_ : Nat
  boundary : Bool
  words : List W64
deriving DecidableEq, Repr

/-- A closed interval of a bank, or a snapshot of a scope (Table 16.7, R433, R435): its header, and the counts of each object
that has any. Index 16 keeps lane counts in `values` and tributary counts in `tribs`. -/
structure Interval where
  start : Nat
  frame : Nat
  row : Nat
  short : Bool
  mixed : Bool
  part : Bool
  genStart : Nat
  genEnd : Nat
  values : KMap (List Nat)
  tribs : KMap (List Nat)
deriving DecidableEq, Repr

/-- A snapshot request that holds a credit (R435): its command, its frame, its scopes, and whether the copies have been
latched. -/
structure SnapReq where
  key : Key
  at_ : Nat
  scopes : Nat
  latched : Bool
deriving DecidableEq, Repr

/-- One request issued through the matrix and not answered (R410), with the row of its issue (R412), and, for a write whose master has
been reset, the first address whose byte goes with its strobe off (R417). -/
structure MOut where
  req : MReq
  row : Nat
  cut : Option Nat := none
deriving DecidableEq, Repr

/-- A function re-initialising or to be re-initialised (R442): the row in which it began, the RECOVER that asked, and whether
it has exceeded its maximum. -/
structure Reinit where
  f : Nat
  row : Nat
  key : Option Key
  late : Bool := false
deriving DecidableEq, Repr

/-- Step 3 or 4 under way (R448, R452): the step, the row it was asked for, the RECOVER command that asked, the function
that escalated (127 for RECOVER), whether its reply has been written, and whether the step has begun. -/
structure StepReq where
  step : Nat
  row : Nat
  key : Option Key
  fn : Nat
  go : Bool
  begun : Bool
deriving DecidableEq, Repr

/-- The command that writes the flash (R216, R475, R401): 0 FW_WRITE with its image, 1 BT_WRITE with its table, 2 ADMIT. -/
structure FlashJob where
  kind : Nat
  key : Key
  img : Option FwImage := none
  words : List W64 := []
deriving DecidableEq, Repr

/-- A codeword of a receiving twin lane after the FEC and the descrambler: its place (lane frame by LF_COUNT, codeword), its information
bits that are no marker bits, and their number. -/
structure TwinBits where
  place : Nat
  len : Nat
  bits : Nat
deriving DecidableEq, Repr

/-- A leading edge of PULSE[out] (R268): its time in ps since reset, and the messages sent after it, by TODOUT and whether QL. -/
structure EdgeMark where
  out : Nat
  ps : Nat
  sent : List (Nat × Bool) := []
deriving DecidableEq, Repr

/-- The frame and row count of the timing controller (R30, R31, Table 2.4). -/
structure TimeBase where
  /-- Frame number; 0 until PHASE fixes it (R32, R470), 48 bits (02 R30, Table 2.4 FRAME). -/
  frame : Nat := 0
  /-- Row within the frame, 0 to 249, 8 bits (02 R30, Table 2.4 ROW). -/
  row : Nat := 0
  /-- 1 = anchored to TAI, 1 bits (02 R33, Table 2.4 ANCHORED). -/
  anchored : Bool := false
  /-- MODEL'S OWN: row ticks since they began, on which every timer is counted; a re-alignment never moves it (02 R46, R48). -/
  rows : Nat := 0
  /-- Number N of the latest re-alignment, 0 if none, 48 bits (02 Table 2.4 REALIGN_FRAME). -/
  realignFrame : Nat := 0
  /-- Re-alignments applied since reset, modulo 65,536, 16 bits (02 Table 2.4 REALIGN_GEN). -/
  realignGen : Nat := 0
  /-- TAI frame minus device frame, 48 bits (02 Table 2.4 OFFSET_FRAMES). -/
  offFrames : Int := 0
  /-- Phase of the frame boundary against TAI, ps, 32 bits (02 Table 2.4 OFFSET_PHASE). -/
  offPhase : Int := 0
  /-- A measurement is held, 1 bits (02 Table 2.4 OFFSET_VALID). -/
  offValid : Bool := false
  /-- EV_ANCHOR_OFFSET has been raised and not returned, 1 bits (10 R280). -/
  offExceeded : Bool := false
  /-- MODEL'S OWN: sum of the gaps of the re-alignments applied, ps (10 R279). -/
  gaps : Nat := 0
  /-- The re-alignments fixed and not yet applied, records (10 R278, R279, R398). -/
  realigns : List Realign := []
  /-- Time record word 0: ANCHOR_LIM, SW_TIMEOUT, 64 bits (10 Table 10.5). -/
  timeW0 : BitVec 64 := 0
  /-- Time record word 1, 64 bits (10 Table 10.5). -/
  timeW1 : BitVec 64 := 0
deriving DecidableEq, Repr

/-- Channel P (R262 to R264, Table 10.7). -/
structure ChanP where
  /-- Channel P offset in 1/1,024 ps, 64 bits (10 R263, Table 10.7 PHI). -/
  phi : Int := 0
  /-- P in ppt, 32 bits (10 R263, Table 10.7 P_FREQ). -/
  freq : Int := 0
  /-- Row at which FREQ_AFTER replaces FREQ (10 R271). -/
  steerDue : Option Nat := none
  /-- P after DURATION, 32 bits (10 Table 10.6 FREQ_AFTER). -/
  after : Int := 0
  /-- 0x8000_0000 = none, 32 bits (10 Table 10.7 P_ERR). -/
  err : Option Int := none
  /-- Time reference measured, 5 bits (10 Table 10.7 TIME_REF). -/
  errRef : Nat := 31
  /-- Frame in which P_ERR was registered, 48 bits (10 Table 10.7 ERR_FRAME). -/
  errFrame : Nat := 0
deriving DecidableEq, Repr

/-- The 16 clock, 4 pulse and 2 time-of-day outputs (R265 to R270). -/
structure Outputs where
  /-- Records in force, by INDEX of R270; unlisted = disabled, 22 x 128 (10 Tables 10.2-10.4). -/
  recs : KMap (BitVec 64 × BitVec 64) := []
  /-- Records that take effect at the next frame boundary, 22 x 128 (10 R265). -/
  next : KMap (BitVec 64 × BitVec 64) := []
  /-- Phase in ps of the clock outputs whose phase R266 leaves undefined (free values), 16 x 30 (10 R266). -/
  phases : KMap Nat := []
  /-- Leading edges of the pulse outputs in the last 500 ms, with the messages that have followed them (10 R268). -/
  edges : List EdgeMark := []
  /-- Begin and end, in ps since reset, of the pulse in progress on each pulse output, 4 x 128 (10 R265, R267). -/
  pulse : KMap (Option (Nat × Nat)) := []
  /-- Begin and end, in ps since reset, of the latest high level of each clock output, 16 x 128 (10 R265, R266). -/
  high : KMap (Option (Nat × Nat)) := []
  /-- End, in ps since reset, of the high level that a clock output keeps across a change of its record, 16 x 64 (10 R265). -/
  held : KMap (Option Nat) := []
deriving DecidableEq, Repr

/-- Channel F: states, loop, averages (R254 to R258, R273 to R277, Table 9.14). -/
structure ChanF where
  /-- Channel F state, 3 bits (09 R254, Table 9.14 F_STATE). -/
  state : FState := .freeRun
  /-- Selected input; 31 = none, 5 bits (09 Table 9.14 SELECTED). -/
  selected : Option Nat := none
  /-- Automatic, manual or forced, 2 bits (09 R247, Table 9.14 SEL_MODE). -/
  mode : SelMode := .auto
  /-- The input a MANUAL or FORCED names, 5 bits (09 R247). -/
  named : Nat := 0
  /-- Staircase step in force, 3 bits (09 R258, Table 9.14 STEP). -/
  step : Nat := 0
  /-- Frequency samples of channel F, newest first, 4096 x 32 (09 R255). -/
  samples : List Int := []
  /-- Samples taken since reset (09 R255). -/
  sampleCount : Nat := 0
  /-- Holdover average, 32 bits (09 Table 9.14 HOLD_FREQ). -/
  holdFreq : Int := 0
  /-- Holdover average valid, 1 bits (09 Table 9.14 HOLD_VALID). -/
  holdValid : Bool := false
  /-- Long-term average, 32 bits (09 Table 9.14 LONG_FREQ). -/
  longFreq : Int := 0
  /-- Long-term average valid, 1 bits (09 Table 9.14 LONG_VALID). -/
  longValid : Bool := false
  /-- The monitor second has been spent wholly in LOCKED, 1 bits (09 R255). -/
  lockedWhole : Bool := false
  /-- LOCALOSC fault, 1 bits (09 R256, Table 9.14 OSC_FAULT). -/
  oscFault : Bool := false
  /-- 1 absent, 2 offset, 2 bits (09 R256, R261). -/
  oscCause : Nat := 0
  /-- Frame of the fault, 48 bits (09 R261). -/
  oscFrame : Nat := 0
  /-- Row of the fault, 8 bits (09 R261). -/
  oscRow : Nat := 0
  /-- Monitor seconds without a cause, 5 bits (09 R256). -/
  oscClean : Nat := 0
  /-- A LOCALOSC fault has been registered whose consequences for channel F are due at the next row tick, 1 bits (09 R256, 10 R276). -/
  oscAct : Bool := false
  /-- Loop closed by software, 1 bits (10 R273, Table 9.14 SOFTWARE). -/
  software : Bool := false
  /-- F_FREQ target, ppt, 32 bits (10 R275). -/
  target : Int := 0
  /-- Row of the latest F_FREQ or of the opening (10 R276). -/
  ffreqRow : Nat := 0
  /-- Channel F against LOCALOSC, ppt, 32 bits (09 Table 9.14 FREQ). -/
  freq : Int := 0
  /-- Frequency of the last 64 rows, newest first, 64 x 32 (09 R252). -/
  hist : List Int := []
  /-- Held while the selected input is in HOLDOFF, 1 bits (09 R252). -/
  frozen : Bool := false
  /-- Latest phase sample, ps, 32 bits (09 Table 9.14 PHASE_ERR). -/
  phaseErr : Int := 0
  /-- Frame of the latest change of F_STATE, 48 bits (09 Table 9.14 STATE_FRAME). -/
  stateFrame : Nat := 0
  /-- Row in which HOLDOVER was entered (09 R254). -/
  holdSince : Option Nat := none
  /-- Row in which the dwell of the step began (09 R258). -/
  dwellStart : Option Nat := none
  /-- Software-loop phase samples, newest first, 256 x 128 (10 R274). -/
  soft : List Rec2 := []
  /-- The next sample is the first on a new input, 1 bits (10 R274). -/
  newRef : Bool := false
  /-- Channel F reference record, word 0, 64 bits (09 Table 9.11). -/
  recW0 : BitVec 64 := 0
  /-- Channel F reference record, word 1, 64 bits (09 Table 9.11). -/
  recW1 : BitVec 64 := 0
  /-- A command of the row changed the selection mode, the input it names or the lockout of the selected input (09 R248). -/
  byCmd : Bool := false
  /-- The commands of the row change the decision (09 R249). -/
  cmdWhy : Bool := false
  /-- In LOCKED, channel F differed from LOCALOSC by more than 100 ppm at the latest monitor second, 1 bits (09 R256). -/
  secFar : Bool := false
  /-- A software loop has closed whose transition is due at this row tick, 1 bits (10 R276). -/
  closing : Bool := false
  /-- Service bandwidth that the latest transition gave the loop, mHz, 32 bits (09 R257, Table 9.14 BW). -/
  bw : Nat := 0
  /-- Phase difference held constant, ps, 64 bits (09 R251). -/
  held : Int := 0
  /-- The next phase sample gives the phase difference to hold, 1 bits (09 R251). -/
  buildOut : Bool := false
  /-- Row of the latest phase sample of the hardware loop (09 R230). -/
  sampleRow : Option Nat := none
  /-- A phase sample of the row exceeded 4 times the lock threshold, 1 bits (09 R254, Table 9.7). -/
  beyond : Bool := false
  /-- Row tick at which the latest monitor second closed (09 R241). -/
  secRow : Nat := 0
  /-- Pairs for which EV_REF_DISAGREE stands (09 R250). -/
  disagree : List (Nat × Nat) := []
deriving DecidableEq, Repr

/-- One reference input (R229 to R247, Tables 9.10, 9.13). -/
structure Input where
  /-- Configuration word 0, 64 bits (09 Table 9.10). -/
  w0 : BitVec 64 := 0
  /-- Configuration word 1, 64 bits (09 Table 9.10). -/
  w1 : BitVec 64 := 0
  /-- Qualification state, 3 bits (09 R243, Table 9.13 QSTATE). -/
  q : QState := .off
  /-- Latest disqualification, 3 bits (09 Table 9.13 CAUSE). -/
  cause : Nat := 0
  /-- SSM in force, 4 bits (09 Table 9.13 SSM). -/
  ssm : Nat := 0
  /-- ESSM in force, 8 bits (09 Table 9.13 ESSM). -/
  essm : Nat := 0
  /-- QL-FAILED, 1 bits (09 R236). -/
  qlFailed : Bool := false
  /-- A QL message has been registered, 1 bits (09 R235). -/
  qlSeen : Bool := false
  /-- Row of the latest QL message (09 R236). -/
  qlRow : Nat := 0
  /-- Active, 1 bits (09 R240). -/
  active : Bool := false
  /-- Inactive in some row of the monitor second, 1 bits (09 R241). -/
  dirtySec : Bool := false
  /-- Frequency fault, 1 bits (09 R241). -/
  freqFault : Bool := false
  /-- 0x8000_0000 = none, 32 bits (09 Table 9.13 FREQ). -/
  freq : Option Int := none
  /-- Last 64 frequency samples with the monitor second of each, newest first, 64 x 32 (09 R242). -/
  window : List (Nat × Int) := []
  /-- 0x8000_0000 = none, 32 bits (09 Table 9.13 DRIFT_MEAN). -/
  drift : Option Int := none
  /-- Due row of the wait-to-restore (09 R243). -/
  wtrDue : Option Nat := none
  /-- Due row of the hold-off timer (09 R243). -/
  holdoffDue : Option Nat := none
  /-- Messages discarded, saturating, 16 bits (09 Table 9.13 MSG_BAD). -/
  msgBad : Nat := 0
  /-- Locked out, 1 bits (09 Table 9.13 LOCKED_OUT). -/
  lockedOut : Bool := false
  /-- Qualified time reference, 1 bits (09 R239, Table 9.13 TIME_OK). -/
  timeOk : Bool := false
  /-- TOD messages waiting for their edges, oldest first (09 R238). -/
  tod : List TodMsg := []
  /-- Consecutive edges with a TOD message in sequence, 2 bits (09 R239). -/
  todRun : Nat := 0
  /-- TAI_SEC of the latest edge, 48 bits (09 R239). -/
  todSec : Nat := 0
  /-- Phase at the TIE start, 32 bits (10 R282). -/
  tieStart : Option Int := none
  /-- Frequency and TIE records, newest first, 1024 x 128 (10 R282, Table 10.11). -/
  tie : List Rec2 := []
  /-- QSTATE changed in the row, 1 bits (09 R261). -/
  changed : Bool := false
  /-- RANK as EV_REF_QL last reported it, 4 bits (09 R261). -/
  rankShown : Nat := 0
  /-- QL message registered in the row: SSM, ESSM, 12 bits (09 R235). -/
  qlNew : Option (Nat × Nat) := none
  /-- Activity change registered in the row, 1 bits (09 R240). -/
  actNew : Option Bool := none
  /-- Wait-to-restore falls due with the row, 1 bits (09 R243). -/
  wtrHit : Bool := false
  /-- Hold-off timer falls due with the row, 1 bits (09 R243). -/
  holdHit : Bool := false
  /-- QL message timer falls due with the row, 1 bits (09 R236). -/
  absentHit : Bool := false
deriving DecidableEq, Repr

/-- One marker hunter (R151 to R154, Table 6.4). -/
structure Hunter where
  /-- ALIGNED, 1 bits (06 Table 6.4). -/
  aligned : Bool := false
  /-- Candidate positions with the form (true = inverted), 8 entries (06 R152). -/
  cands : List (Nat × Bool) := []
  /-- Marker position in PAM4 symbols, 25 bits (06 R153). -/
  pos : Nat := 0
  /-- Aligned in the inverted form, 1 bits (06 R154). -/
  inv : Bool := false
  /-- The form in which the hunter was ALIGNED earlier in the row, before it left, 1 bits (06 R144, R154). -/
  heard : Option Bool := none
  /-- Miss count, 2 bits (06 Table 6.4). -/
  miss : Nat := 0
  /-- Identity of the latest marker with a good CHECK, 64 bits (06 R147, 08 Table 8.10). -/
  good : Option (BitVec 64) := none
  /-- Identity in use for the seed, 64 bits (06 R150). -/
  cur : BitVec 64 := 0
  /-- Scrambler seed of the lane frame, 58 bits (06 R149, R150). -/
  seed : BitVec 58 := 0
  /-- Scrambler seed of the lane frame before, 58 bits (06 R149, R150). -/
  seedPrev : BitVec 58 := 0
  /-- Left ALIGNED in the row, 1 bits (07 Table 7.1 LOA). -/
  left : Bool := false
deriving DecidableEq, Repr

/-- One lane's barge delineation (R155, R156, Table 6.5). -/
structure Delin where
  /-- SYNC, 1 bits (06 Table 6.5). -/
  sync : Bool := false
  /-- Candidate positions with their run, 4 entries (06 R156). -/
  cands : List (Nat × Nat) := []
  /-- Barge position, 13 bits (06 R156). -/
  pos : Nat := 0
  /-- Invalid count, 3 bits (06 Table 6.5). -/
  bad : Nat := 0
  /-- Left SYNC in the row, 1 bits (07 Table 7.1 LOD). -/
  left : Bool := false
  /-- In SYNC throughout the row so far, 1 bits (07 R190). -/
  syncRow : Bool := false
  /-- Was in SYNC throughout the row before, 1 bits (07 R190). -/
  syncPrev : Bool := false
deriving DecidableEq, Repr

/-- One lane: bring-up, defects, basin, counts, records. -/
structure Lane where
  /-- LANE record word 1 in force (PRESENT, TX_INVERT, EXPECT), 64 bits (08 Table 8.5). -/
  recW1 : BitVec 64 := 0
  /-- LANE record word 2 in force (taps, CTLE_CODE), 64 bits (08 Table 8.5). -/
  recW2 : BitVec 64 := 0
  /-- LANE record held back until the lane leaves service, 128 bits (08 R217). -/
  recNext : Option (BitVec 64 × BitVec 64) := none
  /-- Admin state in force, 1 bits (08 Table 8.10 ADMIN). -/
  admin : Bool := false
  /-- TEST barges enabled, 1 bits (08 Table 8.10 TEST_ON). -/
  testOn : Bool := false
  /-- Bring-up state, 4 bits (08 R222, Table 8.10 STATE). -/
  bring : Bring := .off
  /-- Due row of the 100 ms attempt timer (08 R222). -/
  attemptDue : Option Nat := none
  /-- Row in which ID_FAULT was entered (08 Table 8.7). -/
  idFaultFrame : Nat := 0
  /-- Consecutive good-CHECK markers that fail R223, 2 bits (08 Table 8.7). -/
  idFails : Nat := 0
  /-- Latest identity fault, 3 bits (08 Table 8.10 ID_CAUSE). -/
  idCause : Nat := 0
  /-- Bring-up restarted from OFF since the lane last used the pair orders of its octet, 1 bits (08 R221). -/
  offSeen : Bool := false
  /-- A good FRAME barge with KIND 0 received in PHASE, 1 bits (08 Table 8.7). -/
  goodFrame0 : Bool := false
  /-- Saturating, 16 bits (08 Table 8.10 BRINGUP_FAILS). -/
  fails : Nat := 0
  /-- Frame of the latest entry to service, 48 bits (08 Table 8.10 SERVICE_FRAME). -/
  serviceFrame : Nat := 0
  /-- MV, 8 bits (08 Table 8.10 EYE_V). -/
  eyeV : Nat := 0
  /-- 0.1 ps, 8 bits (08 Table 8.10 EYE_H). -/
  eyeH : Nat := 0
  /-- 0.1 dB, 8 bits (08 Table 8.10 SNR). -/
  snr : Nat := 0
  /-- In service as EV_LANE_SERVICE last reported it, 1 bits (08 R227). -/
  svcShown : Bool := false
  /-- Entered ID_FAULT in the row, 1 bits (08 R227). -/
  idChanged : Bool := false
  /-- Reported defect, FRM_MISSING and FAR_FAULT as EV_LANE_DEFECT last reported them, 5 bits (07 R195). -/
  shown : Nat := 0
  /-- Marker hunter (06 Table 6.4). -/
  hunter : Hunter := {}
  /-- Barge delineation (06 Table 6.5). -/
  delin : Delin := {}
  /-- Consecutive rows without signal (07 Table 7.1 LOS). -/
  noSigRun : Nat := 0
  /-- Consecutive rows with signal (07 Table 7.1 LOS). -/
  sigRun : Nat := 0
  /-- Declared, 1 bits (07 Table 7.5 LOS). -/
  los : Bool := false
  /-- Declared, 1 bits (07 Table 7.5 LOA). -/
  loa : Bool := false
  /-- Declared, 1 bits (07 Table 7.5 LOD). -/
  lod : Bool := false
  /-- Declared, 1 bits (07 Table 7.5 LORA). -/
  lora : Bool := false
  /-- Declared, 1 bits (07 Table 7.5 DEG). -/
  deg : Bool := false
  /-- Declared, 1 bits (07 Table 7.5 FRM_MISSING). -/
  frm : Bool := false
  /-- Declared, 1 bits (07 Table 7.5 FAR_FAULT). -/
  far : Bool := false
  /-- LOS change registered in the row, 1 bits (07 R189). -/
  losReg : Option Bool := none
  /-- LORA change registered in the row, 1 bits (07 R189). -/
  loraReg : Option Bool := none
  /-- DEG change registered in the row, 1 bits (07 R191). -/
  degReg : Option Bool := none
  /-- FAR_FAULT change registered in the row, 1 bits (07 R189). -/
  farReg : Option Bool := none
  /-- FRM_MISSING change registered in the row, 1 bits (07 R189). -/
  frmReg : Option Bool := none
  /-- A row was discarded under R24 in the row, 1 bits (07 Table 7.1 LORA). -/
  discarded : Bool := false
  /-- Consecutive rows in place (07 R190). -/
  inRun : Nat := 0
  /-- Consecutive rows out of place (07 R190). -/
  outRun : Nat := 0
  /-- Row of the latest good FRAME barge (07 Table 7.1). -/
  frmRow : Nat := 0
  /-- RX_STATE of the latest good FRAME barge, 3 bits (07 Table 7.1 FAR_FAULT). -/
  rxState : Nat := 7
  /-- Latest good marker carries SEEN_VALID 0, 1 bits (07 Table 7.1 FAR_FAULT). -/
  seenBad : Bool := false
  /-- Frame of the latest defect change, 48 bits (07 Table 7.5 LAST_CHANGE). -/
  lastFrame : Nat := 0
  /-- Row of that change, 8 bits (07 Table 7.5 LAST_ROW). -/
  lastRow : Nat := 0
  /-- DEG configuration word 0, 64 bits (07 Table 7.2). -/
  degW0 : BitVec 64 := 0
  /-- DEG configuration word 1, 64 bits (07 Table 7.2). -/
  degW1 : BitVec 64 := 0
  /-- DEG configuration applied at the next frame boundary, 128 bits (07 R193). -/
  degNext : Option (BitVec 64 × BitVec 64) := none
  /-- 0 to 10, 4 bits (07 Table 7.5 BAD_RUN). -/
  badRun : Nat := 0
  /-- 0 to 10, 4 bits (07 Table 7.5 GOOD_RUN). -/
  goodRun : Nat := 0
  /-- A DEG interval is in progress, 1 bits (07 R191, R196). -/
  degOpen : Bool := false
  /-- The DEG interval ends with the row in progress, 1 bits (07 R191). -/
  degEnd : Bool := false
  /-- Symbols corrected in the interval (07 R191). -/
  degSym : Nat := 0
  /-- Uncorrectable codewords in the interval (07 R191). -/
  degUnc : Nat := 0
  /-- A signal-fail trigger was declared in the interval, 1 bits (07 R191). -/
  degSf : Bool := false
  /-- A signal-fail trigger was declared in the frame, 1 bits (07 Table 7.6 SF_FRAMES). -/
  sfFrame : Bool := false
  /-- Fixed lane counts in table order, saturating, 13 x 48 (07 Table 7.6, 16 R424). -/
  counts : List Nat := [0, 0, 0, 0, 0, 0, 0, 0, 0, 0, 0, 0, 0]
  /-- Barges placed, by row and index, 4 rows (01 R24, 06 R161). -/
  basin : KMap (Option BargeW) := []
  /-- The row released last, which a HOLD barge repeats, 1 row (06 R160). -/
  prevRow : KMap (Option BargeW) := []
  /-- Row released before that, for HOLD barges of the row released last, 24 barges (06 R160). -/
  olderRow : KMap (Option BargeW) := []
  /-- Rows discarded that a stamp can still name (01 R24). -/
  discards : List Nat := []
  /-- Barges received, by 24 y + index, of the rows that a stamp can still name (06 R158, R161). -/
  got : List Nat := []
  /-- Arrival phase in ps of the rows that have begun to arrive, kept until 8 rows after their release, 12 x 32 (06 R175, R176). -/
  arrivals : KMap (Option Int) := []
  /-- Arrival in ps, against its row tick, of the first DATA barge of each measured row, 9 x 32 (05 R121). -/
  skews : KMap (Option Int) := []
  /-- Basin release offset, fixed at entry to service, offset (01 R17). -/
  offset : Option Nat := none
  /-- Latest arrival phase, ps, 32 bits (06 R176, Table 10.12 ARRIVAL). -/
  arrival : Option Int := none
  /-- SEL of the latest fitting header, 2 bits (06 R186). -/
  sel : Nat := 0
  /-- TERM_LO of the latest fitting header, 16 bits (06 R186). -/
  termLo : Nat := 0
  /-- SEL of the latest good FRAME barge, 2 bits (11 Table 11.13). -/
  fSel : Nat := 0
  /-- SEL_TERM of the latest good FRAME barge, 32 bits (06 R186). -/
  fSelTerm : Nat := 0
  /-- TERM_LO of every fitting header with SEL 2 in the row, 16 each (11 R292, R304 (d)). -/
  hdrOther : List Nat := []
  /-- FRAME field of the latest good FRAME barge, 48 bits (06 Table 6.8 ECHO_FRAME). -/
  echoFrame : Nat := 0
  /-- The device's own four latest FRAME barges: frame, TX time in ps after row 0, 4 entries (06 R170). -/
  sent : List (Nat × Nat) := []
  /-- Counts of the frame before, 32, 16 (06 Table 6.8 FEC_CORR). -/
  fecPrev : Nat × Nat := (0, 0)
  /-- Counts of the frame in progress, 32, 16 (06 Table 6.8). -/
  fecNow : Nat × Nat := (0, 0)
  /-- 0xFFFF_FFFF = none, 32 bits (10 Table 10.12). -/
  rtdLast : Option Nat := none
  /-- 0xFFFF_FFFF = none, 32 bits (10 Table 10.12). -/
  rtdMin : Option Nat := none
  /-- Largest since restart, 32 bits (10 Table 10.12). -/
  rtdMax : Nat := 0
  /-- Samples since restart; the record shows at most 0xFFFF_FFFF (10 Table 10.12 COUNT). -/
  rtdCount : Nat := 0
  /-- Sum from which the mean is taken (10 Table 10.12 RTD_MEAN). -/
  rtdSum : Nat := 0
  /-- 0 = none, 48 bits (10 Table 10.12 LAST_FRAME). -/
  rtdFrame : Nat := 0
  /-- TYPE_DATA of the next TEST barge sent, 8 bits (06 R171). -/
  testSeq : Nat := 0
  /-- Since reset, 48 bits (08 Table 8.10 TEST_CHECKED). -/
  testChecked : Nat := 0
  /-- Since reset, 48 bits (08 Table 8.10 TEST_BITS). -/
  testBits : Nat := 0
  /-- Test-pattern generator of the transmit lane, 31 bits (03 R67). -/
  prbs : BitVec 31 := 0
  /-- Test word of the outgoing row, 32 bits (03 R67). -/
  testWord : BitVec 32 := 0
  /-- LF_COUNT sent (first value arbitrary: free value), 16 bits (06 R148). -/
  lfCount : Nat := 0
  /-- Time from the marker of the lane frame being sent to the next barge position, in 1/257 ps; 0 = the marker of the next lane frame comes before it, τ (06 R145). -/
  lfTime : Nat := 0
  /-- Time from the start instant of the row to the next barge position, in 1/257 ps, τ (06 R163). -/
  txNext : Nat := 0
  /-- Scrambler of the transmit lane, 58 bits (06 R149). -/
  scr : BitVec 58 := 0
  /-- Information bits that wait for their codeword: how many, 13 bits (06 R143). -/
  txLen : Nat := 0
  /-- Information bits that wait for their codeword, first bit most significant, 5,139 (06 R143). -/
  txInfo : Nat := 0
  /-- The FRAME barge of the frame in progress is due and not sent, 1 bits (06 R165). -/
  frameDue : Bool := false
  /-- Arrival of the latest good FRAME barge, ps on the row count (06 Table 6.8 TURNAROUND). -/
  echoRow : Nat := 0
  /-- Receive quantity of the window, 48 bits (16 R439). -/
  bwRx : Nat := 0
  /-- Transmit quantity of the window, 48 bits (16 R439). -/
  bwTx : Nat := 0
  /-- Out of service in some row of the window, 1 bits (16 R439). -/
  bwPartial : Bool := false
  /-- Bandwidth record of the last closed window, 256 bits (16 Table 16.10). -/
  bwRec : BwRec := {}
  /-- Left service during the fixed interval, 1 bits (16 R434). -/
  leftSvc : Bool := false
deriving DecidableEq, Repr

/-- One octet's pair orders (R219 to R221, Table 8.4). -/
structure Octet where
  /-- OCTET record in force, 64 bits (08 Table 8.4 OCTET). -/
  cfg : BitVec 64 := 0
  /-- OCTET record held back, 64 bits (08 R217). -/
  recNext : Option (BitVec 64) := none
  /-- Automatic receive order decided (true = reversed), 2 bits (08 R219). -/
  rxOrder : Option Bool := none
  /-- Automatic transmit order decided and in force, 2 bits (08 R220). -/
  txOrder : Option Bool := none
  /-- A reversed transmit order decided that waits for the next lane frame boundary, 1 bits (08 R220). -/
  txNew : Bool := false
  /-- Votes by physical position, 8 entries (08 R219). -/
  rxVotes : List (Nat × Bool) := []
  /-- Votes by logical position, 8 entries (08 R220). -/
  txVotes : List (Nat × Bool) := []
  /-- Receive pairs, by position, whose detector reports signal, 8 bits (08 R208). -/
  signals : List Nat := []
deriving DecidableEq, Repr

/-- One tributary's selector, hold timer and counts (Tables 5.3, 5.8, 5.9). -/
structure Sel where
  /-- Selector state; 15 = not protected, 4 bits (05 R135, Table 5.8 STATE). -/
  st : SelState := .notProt
  /-- False A, true B, 1 bits (05 Table 5.8 SEL). -/
  sel : Bool := false
  /-- SF-A, 1 bits (05 R129). -/
  sfA : Bool := false
  /-- SF-B, 1 bits (05 R129). -/
  sfB : Bool := false
  /-- SD-A, 1 bits (05 R130). -/
  sdA : Bool := false
  /-- SD-B, 1 bits (05 R130). -/
  sdB : Bool := false
  /-- LO in force, 1 bits (05 R133). -/
  lo : Bool := false
  /-- FS in force, 1 bits (05 R133). -/
  fs : Bool := false
  /-- MS in force: some true = MS-B, some false = MS-A, 2 bits (05 R133). -/
  ms : Option Bool := none
  /-- Consecutive readout rows invalid for copy A (05 R129). -/
  invA : Nat := 0
  /-- Consecutive readout rows invalid for copy B (05 R129). -/
  invB : Nat := 0
  /-- Consecutive readout rows valid for copy A (05 R129). -/
  valA : Nat := 0
  /-- Consecutive readout rows valid for copy B (05 R129). -/
  valB : Nat := 0
  /-- Due row of the WTR timer (05 R135). -/
  wtrDue : Option Nat := none
  /-- Due row of the hold timer while it runs (05 R126). -/
  holdDue : Option Nat := none
  /-- The WTR timer falls due with the row, 1 bits (05 R135). -/
  wtrHit : Bool := false
  /-- No member carries a held or inserted word in the row, 1 bits (05 R126). -/
  idle : Bool := false
  /-- Hold expiry, 1 bits (05 R126, Table 5.8 EXPIRED). -/
  expired : Bool := false
  /-- Expiry declared or cleared in the row, 1 bits (07 R202). -/
  expChanged : Option Bool := none
  /-- Frame of the latest change of SEL, 48 bits (05 Table 5.8 LAST_SWITCH). -/
  lastSwitch : Nat := 0
  /-- 0x8000 = not measured, 16 bits (05 R121, Table 5.8 SKEW). -/
  skew : Option Int := none
  /-- Skew beyond 500 ns, 1 bits (05 R121). -/
  skewOut : Bool := false
  /-- Network row whose copy skew was measured last, 60 bits (05 R121). -/
  skewRow : Nat := 0
  /-- Fixed tributary counts in table order, saturating, 7 x 32 (05 Table 5.9, 16 R424). -/
  counts : List Nat := [0, 0, 0, 0, 0, 0, 0]
deriving DecidableEq, Repr

/-- One connection page with its stage memory and tributary records (R57, R69, R114). -/
structure Page where
  /-- Generation held; 0 = none, 32 bits (04 R104, R105). -/
  gen : Nat := 0
  /-- Connection entries by entry index, 3,145,728 x 32 (03 R57, Table 3.2). -/
  entries : KMap (BitVec 32) := []
  /-- Stage memory words by o x 12,288 + i, 6,291,456 x 16 (03 R69, Table 3.4). -/
  stage : KMap (BitVec 16) := []
  /-- Tributary record words by 8 t + w, 131,072 x 512 (05 R114, Table 5.1). -/
  tribs : KMap (BitVec 64) := []
deriving DecidableEq, Repr

/-- The switching core: pages, pipeline, outgoing words. -/
structure Fabric where
  /-- Active page; generation 1 after reset, 24 MiB (04 R104). -/
  act : Page := { gen := 1 }
  /-- Standby page; no generation after reset, 24 MiB (04 R104). -/
  stby : Page := {}
  /-- The half of T0 that is the active page, 1 bits (15 Table 15.2, R404). -/
  half : Bool := false
  /-- Planner's image in planner work memory, 24 MiB (04 R97). -/
  image : Page := {}
  /-- Frame A of the lockage in progress, from its arming check to its row 3 tick, 48 bits (04 R101). -/
  swap : Option Nat := none
  /-- Core row in the ingress half that is being written, 24 MiB (01 R18, 03). -/
  ingress : KMap (Option BargeW) := []
  /-- Core row in the ingress half that is read out, 24 MiB (01 R18, R27). -/
  ingressOut : KMap (Option BargeW) := []
  /-- Core row that the space stage carries, in the egress half being written, 24 MiB (01 R18, 03 R62). -/
  cross : KMap (Option (BitVec 32 × Bool)) := []
  /-- Core row in the egress half being read out, 24 MiB (01 R18, 03 R62). -/
  read : KMap (Option (BitVec 32 × Bool)) := []
  /-- Word sent on each egress slot in the latest outgoing row, words (05 R125). -/
  words : KMap (BitVec 32) := []
  /-- Lane and barge index of the outgoing DATA barges with source-valid 0, bits (05 R127). -/
  badBarge : List (Nat × Nat) := []
  /-- The held word of a slot that has sent none in this term is all-ones, 1 bits (11 R302). -/
  heldOnes : Bool := false
  /-- Lanes whose egress slots have sent a word in this term (11 R302). -/
  sentLanes : List Nat := []
  /-- What each lane in service carries in the row, 2 bits (06 R159, R178, R301). -/
  kind : RowKind := .fill
  /-- Core clock to the switch die, 1 bits (01 R29). -/
  running : Bool := false
deriving DecidableEq, Repr

/-- One sealed plan (Tables 4.1, 4.6, 4.8). -/
structure Plan where
  /-- Target generation, 32 bits (04 R104). -/
  gen : Nat := 0
  /-- Plan state, 4 bits (04 R93, Table 4.8 STATE). -/
  st : PlanSt := .queued
  /-- Large plan, 1 bits (04 R89). -/
  large : Bool := false
  /-- Route every leg anew, 1 bits (04 Table 4.5 REPLAN). -/
  replan : Bool := false
  /-- Stop at HELD, 1 bits (04 Table 4.5 HOLD). -/
  hold : Bool := false
  /-- Deferral limit, frames, 16 bits (04 Table 4.5 DEFER_LIMIT). -/
  limit : Nat := 8000
  /-- At-frame of the seal, 48 bits (04 R90). -/
  atFrame : Nat := 0
  /-- Current lockage frame, 0 if not fixed, 48 bits (04 Table 4.8 LOCKAGE_FRAME). -/
  lock : Nat := 0
  /-- Frame first scheduled, 48 bits (04 R100). -/
  first : Nat := 0
  /-- Saturating at 255, 8 bits (04 Table 4.6 DEFERRALS). -/
  defers : Nat := 0
  /-- Reason of the latest deferral, 3 bits (04 R100). -/
  reason : Nat := 0
  /-- Partner has acknowledged the delta, 1 bits (04 Table 4.8 ACKED). -/
  acked : Bool := false
  /-- Lockage frame the partner's latest ACK names, 48 bits (12 R326). -/
  ackFrame : Nat := 0
  /-- Delta shipped, 1 bits (12 R324). -/
  shipped : Bool := false
  /-- Sections of its delta (12 R324, R335). -/
  writes : List SlotWrite := []
  /-- Entry edits in the order of their start, by entry index (04 R86, R87). -/
  entries : List (Nat × BitVec 32) := []
  /-- Tributary record edits in the order of their start (05 R114). -/
  tribs : List (Nat × List (BitVec 64)) := []
  /-- Distinct egress slots named, 32 bits (04 Table 4.6 EDIT_SLOTS). -/
  slots : Nat := 0
  /-- Existing legs moved, 23 bits (04 Table 4.6 MOVED_LEGS). -/
  moved : Nat := 0
  /-- Row in which PLANNING was entered (04 R96). -/
  startRow : Nat := 0
  /-- Time in PLANNING, 32 bits (04 Table 4.6 PLAN_US). -/
  planUs : Nat := 0
  /-- Frame in which the seal was started, 48 bits (04 Table 4.6 SEAL_FRAME). -/
  sealFrame : Nat := 0
  /-- The seal command to be completed (04 R108). -/
  cmd : Key := {}
deriving DecidableEq, Repr

/-- The planner and the page loader. -/
structure Planner where
  /-- An open plan exists, 1 bits (04 R87). -/
  opened : Bool := false
  /-- Entry edits of the open plan in the order of their start (04 R86, R87). -/
  entries : List (Nat × BitVec 32) := []
  /-- Tributary edits of the open plan (05 R114). -/
  tribs : List (Nat × List (BitVec 64)) := []
  /-- Distinct egress slots named by the open plan, 32 entries (04 R89, Table 4.8 OPEN_SLOTS). -/
  named : List Nat := []
  /-- Sealed plans not DONE, REFUSED or WITHDRAWN, in seal order, 4 entries (04 R95). -/
  sealed : List Plan := []
  /-- The standby page credit is free, 1 bits (01 Table 1.6). -/
  credit : Bool := true
  /-- Frame of the latest lockage, 48 bits (04 Table 4.8 LAST_LOCKAGE). -/
  lastLock : Nat := 0
  /-- Row counter at the row 0 tick of the latest lockage, on which the spacing of lockages is counted (04 R99, 02 R51). -/
  lockRow : Option Nat := none
  /-- Generation of the plan whose lockage completed most recently, 32 bits (04 R111). -/
  lastDone : Nat := 0
  /-- Seals whose reply waits for the ACK of a DROP (12 R328). -/
  dropWait : List DropWait := []
  /-- Sealed deltas that wait for a place in the delta queue (01 R23, Table 1.6). -/
  deltas : List Delta := []
deriving DecidableEq, Repr

/-- One submission queue (R349, R350, R354). -/
structure Sq where
  /-- Host address, 64 bits (13 Table 13.6 BASE). -/
  base : BitVec 64 := 0
  /-- Completion queue bound, 6 bits (13 Table 13.6 CQ). -/
  cq : Nat := 0
  /-- Size 2^LOG2 units, 4 bits (13 Table 13.6 LOG2). -/
  log2 : Nat := 0
  /-- 0 OBSERVER, 1 OPERATOR, 2 MAINTENANCE, 3 KEEPER, 2 bits (13 Table 13.6 PRIV). -/
  priv : Nat := 0
  /-- Credits granted, 7 bits (13 Table 13.6 CREDITS). -/
  credits : Nat := 0
  /-- Credits in use, 7 bits (13 R350). -/
  used : Nat := 0
  /-- Session, 10 bits (13 R354). -/
  session : Nat := 0
  /-- Next unit to fetch, 12 bits (13 Table 13.3 FETCH). -/
  fetch : Nat := 0
  /-- Tail given by the latest doorbell, 12 bits (13 R349). -/
  tail : Nat := 0
  /-- Units announced by the doorbells and not fetched, 13 bits (13 R349). -/
  avail : Nat := 0
  /-- Disabled by a queue fault, 1 bits (13 R345). -/
  disabled : Bool := false
deriving DecidableEq, Repr

/-- One completion queue (R351). -/
structure Cq where
  /-- Host address, 64 bits (13 Table 13.6 BASE). -/
  base : BitVec 64 := 0
  /-- Size 2^LOG2 entries, 4 bits (13 Table 13.6 LOG2). -/
  log2 : Nat := 0
  /-- MSI-X vector, 7 bits (13 Table 13.6 VECTOR). -/
  vector : Nat := 0
  /-- Interrupts, 1 bits (13 Table 13.6 IRQ_EN). -/
  irq : Bool := false
  /-- Entries written since creation (entry and PHASE follow from it) (13 R351). -/
  wr : Nat := 0
  /-- Entries not consumed, 13 bits (13 R351). -/
  unread : Nat := 0
  /-- Replies waiting, in completion order (13 R351). -/
  pend : List Reply := []
  /-- Disabled by a queue fault, 1 bits (13 R345). -/
  disabled : Bool := false
deriving DecidableEq, Repr

/-- One event queue (R371 to R373). -/
structure EvQ where
  /-- Host address, 64 bits (13 Table 13.6 BASE). -/
  base : BitVec 64 := 0
  /-- Size, 4 bits (13 Table 13.6 LOG2). -/
  log2 : Nat := 0
  /-- MSI-X vector, 7 bits (13 Table 13.6 VECTOR). -/
  vector : Nat := 0
  /-- Interrupts, 1 bits (13 Table 13.6 IRQ_EN). -/
  irq : Bool := false
  /-- Bit g - 1 = group g, 11 bits (13 Table 13.6 GROUPS). -/
  groups : Nat := 0
  /-- Records written since creation (13 R371). -/
  wr : Nat := 0
  /-- Records not consumed, 13 bits (13 R371). -/
  unread : Nat := 0
  /-- Records waiting, at most one per code once the queue is full (13 R373). -/
  pend : List EvRec := []
  /-- Disabled by a queue fault, 1 bits (13 R345). -/
  disabled : Bool := false
deriving DecidableEq, Repr

/-- Sequence state of one queue and session on this device (R362). -/
structure SeqSt where
  /-- H, the highest sequence number past check 8, 32 bits (13 R362). -/
  high : Option Nat := none
  /-- Replies of the last 256 commands completed, newest first, 256 entries (13 R362). -/
  cache : List Cached := []
deriving DecidableEq, Repr

/-- The PCI Express function (R343, Table 13.1). What the host configures there comes with ROW_TICK (log entry 103). -/
structure PcieFn where
  /-- Class code, other system peripheral, 24 bits (13 Table 13.1). -/
  classCode : Nat := 0x088000
  /-- Base address of the 64-bit, non-prefetchable register window of 64 KiB, 64 bits (13 Table 13.1). -/
  bar0 : BitVec 64 := 0
  /-- Maximum payload size in bytes, 128 to 512, 13 bits (13 Table 13.1). -/
  maxPayload : Nat := 128
  /-- Maximum read request size in bytes, 128 to 4,096, 13 bits (13 Table 13.1). -/
  maxRead : Nat := 512
  /-- ECRC generated and checked, 1 bits (13 Table 13.1). -/
  ecrc : Bool := false
  /-- Advanced error reporting present, 1 bits (13 Table 13.1). -/
  aer : Bool := true
  /-- Width of the tags of its requests, 4 bits (13 Table 13.1). -/
  tagBits : Nat := 10
  /-- Power state D3hot; else D0, 1 bits (13 R344, Table 13.1). -/
  d3hot : Bool := false
  /-- MSI-X enabled, 1 bits (13 Table 13.1). -/
  msixOn : Bool := true
deriving DecidableEq, Repr

/-- The gateway's host interface and the command engines. -/
structure HostIf where
  /-- Submission queues that exist, 64 entries (13 Table 13.4). -/
  sqs : KMap (Option Sq) := []
  /-- Completion queues that exist, 64 entries (13 Table 13.4). -/
  cqs : KMap (Option Cq) := []
  /-- Event queues that exist, 8 entries (13 Table 13.4). -/
  eqs : KMap (Option EvQ) := []
  /-- Window register, 64 bits (13 Table 13.2 ADMIN_SQ_BASE). -/
  sqBase : BitVec 64 := 0
  /-- Window register, 64 bits (13 Table 13.2 ADMIN_CQ_BASE). -/
  cqBase : BitVec 64 := 0
  /-- Window register, 32 bits (13 Table 13.3 ADMIN_CTRL). -/
  ctrl : BitVec 32 := 0
  /-- Latest ADMIN_CTRL write refused, 1 bits (13 Table 13.3 FAULT). -/
  fault : Bool := false
  /-- High half latched by a read of the low half, by its offset, 32 bits (13 R346). -/
  highHalf : Option (Nat × BitVec 32) := none
  /-- Data of the latest window read, 64 bits (13 R346). -/
  readData : Option (BitVec 64) := none
  /-- Table words by word index, 1,152 bytes (13 Table 13.2 MSI-X table). -/
  msix : KMap (BitVec 32) := []
  /-- Vectors pending, 72 entries (13 Table 13.2 MSI-X pending bits). -/
  pba : List Nat := []
  /-- Vectors signalled since the row tick, 72 entries (13 R352). -/
  irqSent : List Nat := []
  /-- Vectors to signal at the next row tick because one was sent already, 72 entries (13 R352). -/
  irqWant : List Nat := []
  /-- Session counter (first value not given: log), 10 bits (13 R354). -/
  sessions : Nat := 0
  /-- Command work queue, 256 entries (01 Table 1.6). -/
  work : List Work := []
  /-- Fetched commands waiting for a work queue credit (13 R350). -/
  staging : List Work := []
  /-- The command a command engine has started and executes (13 R359, 02 R38). -/
  engine : Option Run := none
  /-- Started commands not complete (13 R361, R368). -/
  prog : List Run := []
  /-- Commands that an engine has taken in the row in progress and that passed checks 8 to 11, by their opcode (17 R456, 16 Table 16.4 CMD_STARTED). -/
  starts : List (Key × Nat) := []
  /-- Sequence state by 1,024 x queue + session, 64 entries (13 R362). -/
  seq : KMap SeqSt := []
  /-- Duplicates waiting for their original (13 R363). -/
  dups : List Work := []
  /-- Commands forwarded to other members and not complete (13 R368, 14 R388). -/
  fwd : List Fwd := []
  /-- Broadcast commands not complete (14 R397). -/
  bcast : List Bcast := []
  /-- Reads of host memory through the gateway that are not complete, records (14 R389). -/
  dma : List DmaJob := []
  /-- Started commands whose buffer is being written through the gateway, records (14 R389). -/
  wr : List WrJob := []
  /-- Events held while no event queue exists (13 R372). -/
  held : List EvRec := []
  /-- Events a member keeps while it has no route to the gateway (14 R388). -/
  memPend : List EvRec := []
  /-- Events raised, modulo 2^32, 32 bits (13 Table 13.12 EVENT_SEQ). -/
  evSeq : Nat := 0
  /-- PCIE_PERST_N low, 1 bits (19 R489). -/
  perst : Bool := false
  /-- PCI Express function (13 R343, Table 13.1). -/
  pcie : PcieFn := {}
  /-- Host memory bytes the device has written, bytes (13 R5, R351). -/
  mem : List Host.Cell := []
deriving DecidableEq, Repr

/-- One receiving twin lane behind its hunter (R319). -/
structure TwinLane where
  /-- A lane frame has begun since the hunter was aligned, 1 bits (12 R319). -/
  on : Bool := false
  /-- LF_COUNT of the lane frame in progress, 16 bits (06 R148, 12 R319). -/
  lf : Nat := 0
  /-- Descrambler state, 58 bits (06 R149). -/
  scr : BitVec 58 := 0
  /-- Codewords that wait for the other three lanes (12 R319). -/
  queue : List TwinBits := []
deriving DecidableEq, Repr

/-- Role, terms, watch links, revert (Tables 11.2, 11.13, 12.8). -/
structure Twin where
  /-- Role state, 4 bits (11 R289, Table 11.13 ROLE_STATE). -/
  role : Role := .init
  /-- Own term, or the last own term, 32 bits (11 R289). -/
  term : Nat := 0
  /-- Highest term seen, 32 bits (11 R292). -/
  hterm : Nat := 0
  /-- TWIN record (ENABLE, PAIR, PARTNER_ADDR, HOLD), 64 bits (11 Table 11.10). -/
  cfg : BitVec 64 := 0
  /-- HOLD that applies from the next TAKE, 6 bits (11 R314). -/
  holdCfg : Nat := 0
  /-- HOLD in force, 6 bits (11 R301). -/
  hold : Nat := 0
  /-- Terms registered in the row that raise HTERM, with the case of R304 that each falls under: 1 (a), 2 (b), 3 (c) or (d), 0 none (11 R292, R304). -/
  seen : List (Nat × Nat) := []
  /-- TAKE to self registered in the row (11 R297). -/
  takeReg : Option TakeReg := none
  /-- Holder address and TERM of the valid NOTICEs registered in the row that name a holder (11 R297). -/
  notices : List (Nat × Nat) := []
  /-- Row of the latest valid HEARTBEAT (11 R296). -/
  hbRow : Nat := 0
  /-- Latest valid partner heartbeat (11 Table 11.5). -/
  hb : Option Beat := none
  /-- Partner declared lost, 1 bits (11 R296). -/
  partnerLost : Bool := false
  /-- Row of the latest valid keeper frame (11 R296). -/
  keeperRow : Nat := 0
  /-- Keeper declared lost, 1 bits (11 R296). -/
  keeperLost : Bool := false
  /-- Leased, 1 bits (11 R296, Table 11.13 LEASED). -/
  leased : Bool := false
  /-- Row of the latest matching LEASE (11 R296). -/
  leaseRow : Nat := 0
  /-- Saturating, 16 bits (11 Table 11.13 STALE_KEEPER). -/
  stale : Nat := 0
  /-- Saturating, 16 bits (11 Table 11.13 WATCH_BAD). -/
  bad : Nat := 0
  /-- Pairing fault holds, 1 bits (11 R288). -/
  pairFault : Bool := false
  /-- Frame of the latest change, 48 bits (11 Table 11.13 ROLE_FRAME). -/
  roleFrame : Nat := 0
  /-- Row of that change, 8 bits (11 Table 11.13 ROLE_ROW). -/
  roleRow : Nat := 0
  /-- Frames sent on WATCH0, 8 bits (11 Table 11.3 SEQ). -/
  seq0 : Nat := 0
  /-- Frames sent on WATCH1, 8 bits (11 Table 11.3 SEQ). -/
  seq1 : Nat := 0
  /-- Row of the next HEARTBEAT and STATUS (11 R294). -/
  beatDue : Nat := 0
  /-- Row of the next STATUS with RENEW 1 (11 Table 11.4). -/
  renewDue : Nat := 0
  /-- ANSWER due in the next row (11 R298). -/
  answer : List AnsReg := []
  /-- TAKEN due in the next row, 1 bits (11 Table 11.4). -/
  takenDue : Bool := false
  /-- STATUS due in the next row, 1 bits (11 R311). -/
  helloDue : Bool := false
  /-- Row at which the TAKE was applied, while TAKING (11 R301). -/
  takeRow : Option Nat := none
  /-- PREV_TERM of the TAKE, 32 bits (11 R315). -/
  prevTerm : Nat := 0
  /-- Frame of the TAKE, 48 bits (11 R315). -/
  takeFrame : Nat := 0
  /-- Row of the TAKE, 8 bits (11 R315). -/
  takeFRow : Nat := 0
  /-- HOLD has run out and all-ones rows are sent, 1 bits (11 R301). -/
  ones : Bool := false
  /-- Row at which the start was complete (11 R302). -/
  started : Option Nat := none
  /-- Row in which the start stages began (12 R330). -/
  startRow : Nat := 0
  /-- The start began in WARM, 1 bits (12 R330). -/
  startWarm : Bool := false
  /-- Handover requested (12 R502). -/
  req : Option HandReq := none
  /-- Handover pending (12 R502). -/
  hand : Option Hand := none
  /-- The check at the end of row 249 of AT_FRAME - 1 failed, 1 bits (12 R336). -/
  keepServe : Bool := false
  /-- Revert record in force, 64 bits (12 Table 12.7). -/
  revCfg : BitVec 64 := 0
  /-- Due row of the revert wait-to-restore (12 R333). -/
  rwtrDue : Option Nat := none
  /-- Due row of WARM_LIMIT (12 R331). -/
  warmDue : Option Nat := none
  /-- WARM or WARMING: generation the page loader is copying from the committed slot, 32 bits (12 R332). -/
  warmLoad : Option Nat := none
  /-- Causes of the role transitions of the row (11 R315). -/
  causes : List Nat := []
  /-- Role state before the row's transitions, 4 bits (11 R315). -/
  oldRole : Option Role := none
  /-- Role transitions registered in the row, with their causes (11 Table 11.6). -/
  pend : List (Role × Nat) := []
  /-- Partner regained in the row, 1 bits (11 R296). -/
  wf0 : Bool := false
  /-- Keeper regained in the row, 1 bits (11 R296). -/
  wf1 : Bool := false
  /-- Pairing fault detected in the row, 1 bits (11 R288). -/
  pairNew : Bool := false
  /-- Change of LEASED in the row: 1 lapsed, 2 restored, 0 none, 2 bits (11 R296, R315). -/
  leaseEv : Nat := 0
  /-- EV_REVERT causes of the row (12 R341). -/
  revEv : List (Nat × Nat × Nat) := []
  /-- Row in which watch frames were stopped for step 3 (17 R448). -/
  silent : Option Nat := none
  /-- LOA or LOD on a twin lane since the last FULL_REQ, 1 bits (12 R321). -/
  laneDown : Bool := false
  /-- Marker hunters of the four receiving twin lanes, 4 entries (12 R319). -/
  hunters : KMap Hunter := []
  /-- Receiving twin lanes behind their hunters, 4 entries (12 R319). -/
  rxLanes : KMap TwinLane := []
  /-- Place of the codeword that continues the words received, 30 bits (12 R319). -/
  rxNext : Option Nat := none
  /-- Information bits of each twin lane that have not filled a word, 4 entries (12 R319). -/
  rxAcc : List Nat := [0, 0, 0, 0]
  /-- Number of those bits on each lane, 7 bits (12 R319). -/
  rxLen : Nat := 0
  /-- Bits of each lane still to pass before a block begins, 13 bits (12 R319). -/
  rxSkip : Nat := 0
  /-- Words of the block in progress, 256 entries (12 R500). -/
  rxWords : List W64 := []
  /-- Latest valid partner heartbeat whose term was not below HTERM (11 R293). -/
  known : Option Beat := none
  /-- Generation that a TAKING device resumes from, 32 bits (12 R329). -/
  resume : Nat := 0
  /-- Information bits since the lane frame boundary of the transmitting twin lanes, 26 bits (12 R319). -/
  lfBits : Nat := 0
  /-- Transmitters of the four twin lanes: LF_COUNT, scrambler, bits that wait for their codeword, 4 entries (12 R319). -/
  tx : KMap Lane := []
  /-- Latest identity check of the partner passed, 1 bits (14 R402). -/
  certOk : Bool := true
deriving DecidableEq, Repr

/-- One slot of the partner checkpoint store (R316, Table 12.1). -/
structure Slot where
  /-- Slot state, 3 bits (12 R324, Table 12.8). -/
  st : SlotSt := .empty
  /-- Entries, stage memory, tributary records, generation, 32 MiB (12 Table 12.1). -/
  page : Page := {}
  /-- Selector records, 1 MiB (12 Table 12.2). -/
  sels : KMap (BitVec 64) := []
  /-- Recorded lockage frame, 48 bits (12 R325, Table 12.8 COMMIT_FRAME). -/
  frame : Nat := 0
deriving DecidableEq, Repr

/-- The checkpoint engine and the partner checkpoint store. -/
structure Ckpt where
  /-- Slot X, 33 MiB (12 R316). -/
  x : Slot := {}
  /-- Slot Y, 33 MiB (12 R316). -/
  y : Slot := {}
  /-- Standby: checkpoint synchronised, 1 bits (12 Table 12.8 SYNCED). -/
  synced : Bool := false
  /-- Active: partner synchronised, 1 bits (12 Table 12.8 PEER_SYNCED). -/
  peer : Bool := false
  /-- Saturating, 32 bits (12 Table 12.8 BAD_MSG). -/
  bad : Nat := 0
  /-- Frame of the latest synchronisation, 48 bits (12 Table 12.8 SYNC_FRAME). -/
  syncFrame : Nat := 0
  /-- FULL messages received, saturating, 16 bits (12 Table 12.8 FULL_SYNCS). -/
  fulls : Nat := 0
  /-- The standby has sent its ACK 0x02, 1 bits (12 R321). -/
  acked2 : Bool := false
  /-- A FULL has been written into slot X, 1 bits (12 R323). -/
  fullGot : Bool := false
  /-- Delta queue: sealed deltas, oldest first, 4 entries (01 Table 1.6, 12 R324). -/
  queue : List Delta := []
  /-- Generation named by the latest SLOT_FREE registered, 32 bits (12 R324). -/
  freeGen : Option Nat := none
  /-- FULL being sent (12 R322). -/
  sending : Option FullSend := none
  /-- A FULL_REQ registered while the checkpoint engine reaches no page, 1 bits (12 R322, 01 R19). -/
  fullDue : Bool := false
  /-- GEN of the SYNC_END sent and not acknowledged, 32 bits (12 R323). -/
  endGen : Option Nat := none
  /-- Row of the row 0 tick of the promotion whose copy is due (12 R327). -/
  promo : Option Nat := none
  /-- Slot states before the promotion, to which a late FIX returns, 6 bits (12 R327). -/
  before : Option (SlotSt × SlotSt) := none
  /-- Own state mirrored, 1 bits (12 R335). -/
  mirror : Bool := false
  /-- Row in which the mirror copy began (12 R335). -/
  mirrorRow : Nat := 0
  /-- WARM: a FIX naming this frame waits for the standby page to be loaded, 48 bits (12 R332). -/
  fixWait : Option Nat := none
  /-- EV_CKPT_SYNC to be raised at the next row tick (12 R341). -/
  ev : Option (Bool × Nat) := none
  /-- Tributaries whose selector record changed (12 R320). -/
  selDirty : List Nat := []
  /-- Generations refused or withdrawn while their shipped delta had no ACK (12 R328). -/
  dropped : List Nat := []
  /-- Bulk stream: messages that wait (12 R500). -/
  bulk : List TwinMsg := []
  /-- Bulk stream: words of the message begun that are still to be sent (12 R500). -/
  bulkRest : List (BitVec 64) := []
  /-- Urgent stream: messages that wait (12 R500). -/
  urgent : List TwinMsg := []
  /-- Urgent stream: words of the message begun that are still to be sent (12 R500). -/
  urgentRest : List (BitVec 64) := []
  /-- Time towards the next block, in units of 1/53,125 row, 17 bits (12 R319, R500). -/
  blockAcc : Nat := 0
  /-- Bulk stream received: words of the message in progress (12 R500). -/
  rxBulk : List (BitVec 64) := []
  /-- Urgent stream received: words of the message in progress (12 R500). -/
  rxUrgent : List (BitVec 64) := []
  /-- Slot that a DELTA is being written into: false X, true Y, 1 bits (12 R325). -/
  filling : Option Bool := none
deriving DecidableEq, Repr

/-- What the keeper knows of one twin. -/
structure KPort where
  /-- A valid frame has been registered, 1 bits (11 R307). -/
  seen : Bool := false
  /-- Row of the latest valid frame (11 R310). -/
  row : Nat := 0
  /-- Row of the latest STATUS (11 R308). -/
  statusRow : Option Nat := none
  /-- Declared lost, 1 bits (11 R310, Table 11.14 PORT_OK). -/
  lost : Bool := false
  /-- Address of its latest valid STATUS, 6 bits (11 Table 11.3 SRC_ADDR). -/
  addr : Nat := 0
  /-- Role state of its latest STATUS, 4 bits (11 Table 11.5 ROLE_STATE). -/
  roleSt : Nat := 0
  /-- Role it advertises, 2 bits (11 Table 11.5 ROLE). -/
  role : Nat := 3
  /-- Term of its latest valid frame, 32 bits (11 Table 11.3 TERM). -/
  term : Nat := 0
  /-- Highest term reported, 32 bits (11 Table 11.9). -/
  topTerm : Nat := 0
  /-- Row at which it last qualified (11 R308). -/
  qualRow : Option Nat := none
  /-- Latest identity check passed, 1 bits (14 R402). -/
  certOk : Bool := true
deriving DecidableEq, Repr

/-- The keeper of a KEEPER_ONLY device (R307 to R312, Table 11.14). -/
structure Keeper where
  /-- State, 3 bits (11 Table 11.14 KSTATE). -/
  st : KState := .learning
  /-- CUR_TERM, 32 bits (11 Table 11.14 CUR_TERM). -/
  cur : Nat := 0
  /-- Holder's port (true = port 1), 1 bits (11 Table 11.14 HOLDER). -/
  holder : Option Bool := none
  /-- Grantee while GRANTING, 1 bits (11 Table 11.9). -/
  grantee : Option Bool := none
  /-- Term replaced by the TAKE in force, 32 bits (11 Table 11.5 PREV_TERM). -/
  prev : Nat := 0
  /-- Port 0, the primary (11 R307). -/
  p0 : KPort := {}
  /-- Port 1, the secondary (11 R307). -/
  p1 : KPort := {}
  /-- Row in which LEARNING began (11 Table 11.9). -/
  learnRow : Nat := 0
  /-- Row of the latest HELLO (11 Table 11.9). -/
  helloRow : Nat := 0
  /-- Row of the latest renewal (11 R310). -/
  leaseRow : Option Nat := none
  /-- Lease lapsed, 1 bits (11 R310). -/
  lapsed : Bool := false
  /-- Row of the latest QUERY (11 Table 11.9). -/
  queryRow : Nat := 0
  /-- Row of the latest TAKE (11 Table 11.9). -/
  takeSent : Nat := 0
  /-- Repeats of the TAKE, 2 bits (11 Table 11.9). -/
  repeats : Nat := 0
  /-- Saturating, 16 bits (11 Table 11.14 STALE). -/
  stale : Nat := 0
  /-- Saturating, 16 bits (11 Table 11.14 WATCH_BAD). -/
  bad : Nat := 0
  /-- Saturating, 16 bits (11 Table 11.14 GRANTS). -/
  grants : Nat := 0
  /-- KEEPER record (PAIR, START_WAIT), 64 bits (11 Table 11.11). -/
  cfg : BitVec 64 := 0
  /-- Row at which the keeper began (11 R308). -/
  upRow : Nat := 0
  /-- Frames sent on port 0, 8 bits (11 Table 11.3 SEQ). -/
  seq0 : Nat := 0
  /-- Frames sent on port 1, 8 bits (11 Table 11.3 SEQ). -/
  seq1 : Nat := 0
deriving DecidableEq, Repr

/-- One member record (Table 14.9). -/
structure Member where
  /-- A MEMBER has been registered, 1 bits (14 Table 14.9 PRESENT). -/
  present : Bool := false
  /-- Admitted, 1 bits (14 Table 14.9 ADMITTED). -/
  admitted : Bool := false
  /-- Latest check passed, 1 bits (14 Table 14.9 CERT_OK). -/
  certOk : Bool := false
  /-- Advertises GATEWAY 1, 1 bits (14 Table 14.9 GATEWAY). -/
  gateway : Bool := false
  /-- Sends SYNC, 1 bits (14 Table 14.9 TIME_SOURCE). -/
  timeSrc : Bool := false
  /-- Address conflict, 1 bits (14 Table 14.9 CONFLICT). -/
  conflict : Bool := false
  /-- 63 = no route, 6 bits (14 Table 14.9 HOPS_A). -/
  hopsA : Option Nat := none
  /-- 63 = no route, 6 bits (14 Table 14.9 HOPS_B). -/
  hopsB : Option Nat := none
  /-- Row in which direction A was learnt last (14 R386). -/
  rowA : Nat := 0
  /-- Row in which direction B was learnt last (14 R386). -/
  rowB : Nat := 0
  /-- Row since which no route exists (14 R388). -/
  lostAt : Option Nat := none
  /-- Declared unreachable, 1 bits (14 R388). -/
  down : Bool := false
  /-- Frame of the latest change, 48 bits (14 Table 14.9 CHANGE_FRAME). -/
  change : Nat := 0
  /-- That member's discarded packets, saturating, 16 bits (14 Table 14.9 TOW_BAD). -/
  towBad : Nat := 0
  /-- UID, 128 bits (14 Table 14.9 UID). -/
  uid : BitVec 128 := 0
  /-- Row of the latest identity check since the member joined (14 R402). -/
  checkedRow : Option Nat := none
  /-- Row in which another UID was registered for the address last (14 R380). -/
  conflictRow : Nat := 0
  /-- An identity check has failed, 1 bits (14 R402). -/
  faulty : Bool := false
deriving DecidableEq, Repr

/-- One towpath port (R382, R385, R392). -/
structure TowPort where
  /-- Port up, 1 bits (14 R382). -/
  up : Bool := false
  /-- CONTROL credits of the next member, 9 bits (14 Table 14.4). -/
  ctl : Nat := 256
  /-- BULK credits of the next member, 10 bits (14 Table 14.4). -/
  bulk : Nat := 512
  /-- One-way delay of the incoming link, ps, time (14 R392). -/
  delay : Nat := 0
  /-- CONTROL credits to return once the device has an address, 10 bits (14 R385, R379). -/
  owedCtl : Nat := 0
  /-- BULK credits to return once the device has an address, 10 bits (14 R385, R379). -/
  owedBulk : Nat := 0
  /-- Block lock throughout the row that the latest report is of, 1 bits (14 R382). -/
  lock : Bool := false
  /-- Local fault or remote fault received in that row, 1 bits (14 R382). -/
  fault : Bool := false
  /-- Remote fault received in that row, 1 bits (14 R382). -/
  remote : Bool := false
  /-- Consecutive rows without block lock (14 R382). -/
  noLock : Nat := 0
  /-- Consecutive rows of block lock with neither fault (14 R382). -/
  good : Nat := 0
  /-- Packets waiting for credits, hop queue (01 Table 1.6, 14 R385). -/
  queue : List Queued := []
deriving DecidableEq, Repr

/-- Towpath, routes, timing distribution, admission. -/
structure Flight where
  /-- FLIGHT record, 64 bits (14 Table 14.1). -/
  cfg : BitVec 64 := 0
  /-- The board table holds a FLIGHT record, 1 bits (14 R377). -/
  hasRec : Bool := false
  /-- Device address, 6 bits (14 R379, Table 13.3 DEVICE_ADDR). -/
  addr : Nat := 0
  /-- An address is held, 1 bits (14 R379). -/
  addressed : Bool := false
  /-- 8,000 frames passed: stays unaddressed, 1 bits (14 R379). -/
  noAddr : Bool := false
  /-- Row at which the towpath started (14 R379). -/
  towRow : Nat := 0
  /-- Member records by address, 64 x 256 (14 Table 14.9). -/
  members : KMap Member := []
  /-- TOW_A (14 R382). -/
  a : TowPort := {}
  /-- TOW_B (14 R382). -/
  b : TowPort := {}
  /-- TOW_BAD, saturating, 16 bits (14 R383). -/
  towBad : Nat := 0
  /-- TSEQ last used, by 2 dst + class, 32 each (14 R387). -/
  txSeq : KMap Nat := []
  /-- TSEQ consumed, by source and class, 32 each (14 R387). -/
  rxSeq : List (Nat × Nat × Nat) := []
  /-- TSEQ from which the series of a source and class counts, by 2 x source + class; 1 where none is listed, 64 x 2 x 32 (14 R387). -/
  rxBase : KMap Nat := []
  /-- CMD, DMA_RD and DMA_DATA packets consumed that wait for packets sent before them, records (13 R361, 14 R387). -/
  rxHold : List HeldPkt := []
  /-- CONTROL and BULK packets not acknowledged (14 R387). -/
  unacked : List Unacked := []
  /-- DMA_WR packets whose write of host memory failed, by source and TSEQ (14 R389). -/
  wrBad : List (Nat × Nat) := []
  /-- Direction in use: some false A, some true B; none until it is fixed, 1 bits (14 R393). -/
  syncDir : Option Bool := none
  /-- The frame count was taken from the flight, 1 bits (09 R232, 18 R471). -/
  counted : Bool := false
  /-- The timing source of the flight is anchored, as its latest SYNC says, 1 bits (09 R239). -/
  srcAnchored : Bool := false
  /-- The flight reference is active by the arrivals of SYNC, 1 bits (14 R394). -/
  syncOk : Bool := false
  /-- Latest SYNC of each direction, 2 entries (14 R393). -/
  syncSeen : List SyncSeen := []
  /-- Row of the latest SYNC (14 R394). -/
  syncRow : Option Nat := none
  /-- Row of the latest SYNC from TIME_SRC (14 R390). -/
  srcRow : Option Nat := none
  /-- This device acts as the backup timing source, 1 bits (14 R390). -/
  backup : Bool := false
  /-- A SYNC from TIME_SRC has been registered in the row by the backup, 1 bits (14 R390). -/
  backEnd : Bool := false
  /-- Row of the latest SYNC from a member that is not the timing source (14 R394). -/
  alien : Option Nat := none
  /-- EV_FLIGHT_FRAME stands, 1 bits (14 R395). -/
  differs : Bool := false
  /-- Consecutive comparisons that differ from the standing result, 5 bits (14 R381). -/
  mcRun : Nat := 0
  /-- EV_MEMBER_COUNT stands, 1 bits (14 R381). -/
  mcBad : Bool := false
  /-- A gateway of lower address has been found, 1 bits (14 R378). -/
  gwConflict : Bool := false
  /-- Row at which READY was reached (14 R381). -/
  readyRow : Nat := 0
  /-- The device is admitted, 1 bits (14 R399). -/
  admitted : Bool := false
  /-- Admission record copy at 0x0108_0000, 512 bits (14 R399). -/
  adm0 : BitVec 512 := 0
  /-- Admission record copy at 0x0108_1000, 512 bits (14 R399). -/
  adm1 : BitVec 512 := 0
  /-- Frames K named by COMMIT packets registered (14 R398). -/
  commits : List Nat := []
  /-- Members that have reported the start of a re-alignment, with its frame K, records (14 R398). -/
  starts : List (Nat × Nat) := []
  /-- The first SYNC registered in PHASE (14 R391). -/
  firstSync : Option SyncFirst := none
  /-- Members of which EV_MEMBER is to be raised at the row tick, with DETAIL (14 R403). -/
  memEv : List (Nat × Nat) := []
  /-- Word 0 [6:0] of the own member record as CHANGE_FRAME knows it, 7 bits (14 Table 14.9). -/
  ownShown : Nat := 0
deriving DecidableEq, Repr

/-- The control matrix (Tables 15.6, 15.7). -/
structure Matrix where
  /-- WEIGHT[0-7], 64 bits (15 Table 15.6). -/
  w0 : BitVec 64 := 0
  /-- FORCE_TAGGED, WEDGE_TIME, 64 bits (15 Table 15.6). -/
  w1 : BitVec 64 := 0
  /-- 1.536 GHz mode in force, 1 bits (15 Table 15.7 FAST). -/
  fast : Bool := false
  /-- Targets wedged, 9 entries (15 Table 15.7 WEDGED). -/
  wedged : List Nat := []
  /-- Targets declared wedged in the row, 9 entries (15 R412). -/
  wedgedReg : List Nat := []
  /-- Masters in tagged mode, 8 entries (15 Table 15.7 TAGGED). -/
  tagged : List Nat := []
  /-- Requests outstanding, orphans included, oldest first (15 R410, Table 15.7 OUTSTANDING). -/
  out : List MOut := []
  /-- Masters that had nothing outstanding in the row while they returned to ordered mode, 8 entries (15 R413). -/
  zeroed : List Nat := []
  /-- Requests held back at their port, oldest first (15 R410). -/
  wait : List MReq := []
  /-- Response slots that a target holds free, where a count is known: from the request that found none on, 9 entries (15 R410). -/
  slots : KMap (Option Nat) := []
  /-- Wedged targets re-initialised, with requests still unanswered, 9 entries (15 R412). -/
  cleaned : List Nat := []
  /-- Deficit by 8 target + master, bytes (15 R415). -/
  deficit : KMap Nat := []
  /-- Master served last, by target, 9 x 3 (15 R415). -/
  last : KMap Nat := []
  /-- Masters being reset, with the row of the reset (15 R417). -/
  reset : List (Nat × Nat) := []
  /-- Masters that return to ordered mode at the next row tick (15 R413). -/
  taggedEnd : List (Nat × Nat) := []
  /-- Saturating, 32 bits (15 Table 15.7 DECERR_COUNT). -/
  errCount : Nat := 0
  /-- Address of the latest decode error, 32 bits (15 Table 15.7 DECERR_ADDR). -/
  errAddr : Nat := 0
  /-- Its master, 3 bits (15 Table 15.7 DECERR_MASTER). -/
  errMaster : Nat := 0
  /-- It was a write, 1 bits (15 Table 15.7 DECERR_WRITE). -/
  errWrite : Bool := false
  /-- Its cause, 2 bits (15 Table 15.7 DECERR_CAUSE). -/
  errCause : Nat := 0
  /-- Its frame, 48 bits (15 Table 15.7 DECERR_FRAME). -/
  errFrame : Nat := 0
  /-- Its row, 8 bits (15 Table 15.7 DECERR_ROW). -/
  errRow : Nat := 0
  /-- Saturating, 32 bits (15 Table 15.7 TGTERR_COUNT). -/
  tgtErr : Nat := 0
  /-- Resets that ended a burst, saturating, 8 x 8 (15 Table 15.7 MID_BURST). -/
  mid : KMap Nat := []
  /-- Bytes written to T2, T3, T4, T5, T7 and T8 through the matrix, where the spec lays out no object (15 Table 15.2). -/
  store : List Host.Cell := []
  /-- The latest read answered: the master and its bytes (15 R410). -/
  got : Option (Nat × List (BitVec 8)) := none
deriving DecidableEq, Repr

/-- One programmable counter (Tables 16.3, 16.8). -/
structure Ctr where
  /-- Configuration word 0, 64 bits (16 Table 16.3). -/
  w0 : BitVec 64 := 0
  /-- Configuration word 1 (PRESET), 64 bits (16 Table 16.3). -/
  w1 : BitVec 64 := 0
  /-- Value, 48 bits (16 Table 16.8 VALUE). -/
  value : Nat := 0
  /-- OVF count, saturating, 16 bits (16 R428). -/
  ovf : Nat := 0
  /-- Events of the row not yet added (16 R423). -/
  ev : Nat := 0
  /-- Overflows of the row (16 R429). -/
  rowOvf : Nat := 0
  /-- Has overflowed under OVF_ACTION 2 and counts no more, 1 bits (16 R428). -/
  full : Bool := false
deriving DecidableEq, Repr

/-- One counter bank, or the fixed counts (index 16). -/
structure Bank where
  /-- CONFIG_GEN, 32 bits (16 R430). -/
  gen : Nat := 1
  /-- PERIOD, OBSERVER_READ (index 16: FIXED_CFG word 0), 64 bits (16 Table 16.6 word 1). -/
  w : BitVec 64 := 0
  /-- Pending reconfiguration (16 R431). -/
  pend : Option CtrPend := none
  /-- First frame of the interval in progress, 48 bits (16 Table 16.7 FROM_FRAME). -/
  fromFrame : Nat := 0
  /-- CONFIG_GEN at its first frame, 32 bits (16 Table 16.7 GEN_START). -/
  genStart : Nat := 1
  /-- SHORT of the interval in progress, 1 bits (16 R434). -/
  short : Bool := true
  /-- MIXED, 1 bits (16 R434). -/
  mixed : Bool := false
  /-- PARTIAL, 1 bits (16 R434). -/
  partialI : Bool := false
  /-- Closed intervals, newest first, 32, or 8 and 1 (16 Table 16.1). -/
  ints : List Interval := []
deriving DecidableEq, Repr

/-- The counter engine (Table 16.1). -/
structure Counters where
  /-- Programmable counters, 4,096 (16 R426). -/
  ctrs : KMap Ctr := []
  /-- Banks 0 to 15, and 16 for the fixed counts, 17 entries (16 R430). -/
  banks : KMap Bank := []
  /-- Programmable snapshot copies, by bank, 32 KiB (16 Table 16.1). -/
  snapProg : List Interval := []
  /-- Lane snapshot copies, 64 KiB (16 Table 16.1). -/
  snapLane : Option Interval := none
  /-- Tributary snapshot copies, copies (16 R422). -/
  snapTrib : Option Interval := none
  /-- Snapshot requests holding a credit, 2 entries (01 Table 1.6, 16 R435). -/
  snaps : List SnapReq := []
  /-- The window in progress is short, 1 bits (16 Table 16.10 SHORT). -/
  bwShort : Bool := true
  /-- Period sets closed at the tick; 17 stands for the bandwidth window (16 R441). -/
  closed : List Nat := []
  /-- Banks, and 17 for the bandwidth window, whose end was registered in row 249 (16 R433, R439). -/
  ends : List Nat := []
deriving DecidableEq, Repr

/-- The recovery ladder (Tables 17.5, 17.6). -/
structure Recov where
  /-- AUTO 0x7F, AUTO_LANE 1 after reset, 64 bits (17 Table 17.5). -/
  w0 : BitVec 64 := 0xFF
  /-- Reserved word, 64 bits (17 Table 17.5). -/
  w1 : BitVec 64 := 0
  /-- Functions re-initialising (17 Table 17.6 DOWN, LANE_DOWN). -/
  down : List Reinit := []
  /-- Re-initialisations asked for and not begun (17 R444, R447, R452). -/
  deferred : List Reinit := []
  /-- Functions declared wedged (17 R446). -/
  wedged : List Nat := []
  /-- Wedges declared in the row: function, cause, target (17 R447). -/
  wedgeReg : List (Nat × Nat × Nat) := []
  /-- Row of the latest progress mark, by function (17 R446). -/
  marks : KMap Nat := []
  /-- Functions that have work (17 R446). -/
  busy : List Nat := []
  /-- Re-initialisations completed: function, row (17 R451). -/
  hist : List (Nat × Nat) := []
  /-- Saturating, 16 bits (17 Table 17.6 REINITS). -/
  reinits : Nat := 0
  /-- Saturating, 16 bits (17 Table 17.6 ESCALATIONS). -/
  escal : Nat := 0
  /-- Saturating, kept across step-3 resets, 16 bits (17 Table 17.6 RESETS). -/
  resets : Nat := 0
  /-- Cause of the latest reset, 4 bits (17 Table 17.6 LAST_RESET). -/
  lastReset : Nat := 0
  /-- End of the latest re-initialisation, 48 bits (17 Table 17.6 LAST_FRAME). -/
  lastFrame : Nat := 0
  /-- Its function, 7 bits (17 Table 17.6 LAST_FUNCTION). -/
  lastFn : Nat := 0
  /-- Function of the latest step 3 or 4 begun, 127 for RECOVER, 7 bits (17 R454). -/
  stepFn : Nat := 0
  /-- EV_REINIT and EV_ESCALATION that wait for a row tick: event, function, words (17 R454). -/
  evq : List (Nat × Nat × List (BitVec 64)) := []
  /-- Step 3 or 4 under way (17 R452). -/
  step : Option StepReq := none
  /-- CFG_SEQ, 32 bits (17 R456). -/
  cfgSeq : Nat := 0
deriving DecidableEq, Repr

/-- Power, reset, straps, flash and start-up (ch. 18). -/
structure Boot where
  /-- Start-up state, 4 bits (18 Table 18.6, Table 13.3 START_STATE). -/
  st : StartSt := .reset
  /-- Strap values sampled, 10 bits (18 Table 18.3). -/
  straps : Straps := {}
  /-- RESET_N high, 1 bits (18 R461). -/
  resetN : Bool := false
  /-- Every rail within tolerance, 1 bits (18 R460). -/
  railsOk : Bool := true
  /-- A die has reached the trip level and not every die the release level, 1 bits (19 R494). -/
  hot : Bool := false
  /-- Internal reset pulse in progress, 1 bits (18 R462). -/
  internal : Bool := false
  /-- The reset in force counts as a power-up, 1 bits (18 R460). -/
  powerUp : Bool := true
  /-- Start-up follows a step-3 reset: its LAST_RESET value, 0 = no, 2 bits (18 R450). -/
  step3 : Nat := 0
  /-- The state in which start-up failed, 4 bits (18 R473). -/
  failedIn : StartSt := .reset
  /-- Fused: CM512-A or CM512-E, 1 bits (13 Table 13.15 ORDER). -/
  order : Bool := false
  /-- Fused identity, 128 bits (13 Table 13.15 UID). -/
  uid : BitVec 128 := 0
  /-- SEC_FLOOR, fused, 6 bits (18 R467). -/
  secFloor : Nat := 0
  /-- Firmware slot A, 8 MiB (18 Table 18.4). -/
  fwA : Option FwImage := none
  /-- Firmware slot B, 8 MiB (18 Table 18.4). -/
  fwB : Option FwImage := none
  /-- RESET_N has been low since the device was last READY: the board may have rewritten the flash, 1 bits (18 R469). -/
  reflash : Bool := false
  /-- Firmware memory: the copy of the image that runs, 16 MiB (01 R27, 18 R468). -/
  fwMem : Option FwImage := none
  /-- Slot of the running image, 1 bits (18 Table 18.8 RUNNING). -/
  runB : Bool := false
  /-- Slot A accepted, 1 bits (18 Table 18.8 A_OK). -/
  aOk : Bool := false
  /-- Slot B accepted, 1 bits (18 Table 18.8 B_OK). -/
  bOk : Bool := false
  /-- Cause of EV_FW_BOOT, 2 bits (18 R477). -/
  fwCause : Nat := 0
  /-- Version running, 32 bits (13 Table 13.15 FW_VERSION). -/
  fwVer : Nat := 0
  /-- Level of the running image, 6 bits (18 Table 18.8 SEC_LEVEL). -/
  fwLevel : Nat := 0
  /-- Board table slot A, 262,144 bytes (08 R212). -/
  btA : List (BitVec 64) := []
  /-- Board table slot B, 262,144 bytes (08 R212). -/
  btB : List (BitVec 64) := []
  /-- Slot in use: some false = A, some true = B, none = no accepted table, 1 bits (08 R215). -/
  btUse : Option Bool := none
  /-- BOARD record in force, 64 bits (08 Table 8.4 BOARD). -/
  board : BitVec 64 := 0
  /-- The command that writes the flash (08 R216, 18 R475, 14 R401). -/
  flash : Option FlashJob := none
  /-- ALERT_N driven low, 1 bits (18 R464). -/
  alert : Bool := false
  /-- EV_DEVICE_REPLACED stands, 1 bits (18 R464). -/
  replaced : Bool := false
  /-- PWR_CYCLE_REQ_N driven low, 1 bits (18 R464). -/
  pwrCycle : Bool := false
deriving DecidableEq, Repr


/-- A barge sent: its lane, the time of its first header bit in ps after the start instant of the row (R163), its header and its
128 payload words. -/
structure TxBarge where
  lane : Nat
  at_ : Nat
  hdr : W64
  words : List W64
deriving DecidableEq, Repr

/-- A leading edge on PULSE[out] (R267): its source time after the row tick in 1/1,024 ps, the pulse width in ns, and whether the
pulse is low. -/
structure PulseEdge where
  out : Nat
  at_ : Int
  width : Nat
  low : Bool
deriving DecidableEq, Repr

/-- A message sent on TODOUT[out]: its bytes, and the levels of the line, bit by bit (R237, R268); the line is high before and after
them. -/
structure TodSent where
  out : Nat
  bytes : List (BitVec 8)
  levels : List Bool
deriving DecidableEq, Repr

/-- The periods of CLKOUT[out] that begin in a row (R266): rising edge i of `count` has source time phase + (first + i) / freq seconds,
phase in 1/1,024 ps; the falling edge follows it after `duty` hundredths of the period. -/
structure ClockRow where
  out : Nat
  freq : Nat
  phase : Nat
  first : Int
  count : Nat
  duty : Nat := 50
deriving DecidableEq, Repr

/-- What the device has sent in the row in progress; ROW_TICK clears it. MODEL'S OWN. -/
structure Outbox where
  /-- Watch frames, with the port (true = WATCH1). -/
  watch : List (Bool × WatchFrame) := []
  /-- The code groups of those frames, each between two of the idle ordered sets that its port repeats, with the port (R294). -/
  watchLine : List (Bool × List (BitVec 10)) := []
  /-- Words sent on the twin lanes, lane by lane (R319). -/
  twin : List (List W64) := []
  /-- Alignment markers of the twin lanes, with the lane. -/
  twinMarkers : List (Nat × BitVec 160) := []
  /-- Codewords completed on the twin lanes, with the lane: 2,720 PAM4 symbols each. -/
  twinLine : List (Nat × List Pam) := []
  /-- The block of the remote-fault ordered set on each towpath port that sends it throughout the row in progress (R382). -/
  towFault : List (Side × BitVec 66) := []
  /-- Towpath packets as they are sent, block by block, with the port (R382, R383). -/
  tow : List (Side × List (BitVec 66)) := []
  /-- Alignment markers, with the lane: the 160 bits of Table 6.2. -/
  markers : List (Nat × BitVec 160) := []
  /-- Barges in the order of their sending, all types. -/
  barges : List TxBarge := []
  /-- Codewords completed, with the physical transmit pair: 2,720 PAM4 symbols each, first symbol first. -/
  line : List (Nat × List Pam) := []
  /-- Leading edges of the pulse outputs in the row that began with the latest row tick. -/
  pulses : List PulseEdge := []
  /-- Trailing edges of the pulse outputs in that row: the output, and ps after the row tick. -/
  pulseEnds : List (Nat × Nat) := []
  /-- Periods of the clock outputs that begin in that row. -/
  clocks : List ClockRow := []
  /-- Clock outputs that stay high from the period before a change of their record, whatever the new setting gives: the output, and the
  ps after the row tick up to which (R265). -/
  clockHolds : List (Nat × Nat) := []
  /-- Outputs driven low throughout that row, by INDEX of R270: CLKOUT[n] as n, PULSE[n] as 16 + n, TODOUT[n] as 20 + n (R265). -/
  lows : List Nat := []
  /-- TOD and QL messages. -/
  tod : List TodSent := []
  /-- MSI-X vectors signalled. -/
  msix : List Nat := []
deriving DecidableEq, Repr

/-- The whole device. -/
structure State where
  /-- Frame and row count (02). -/
  time : TimeBase := {}
  /-- Channel P (10). -/
  p : ChanP := {}
  /-- Clock, pulse and time-of-day outputs (10). -/
  outs : Outputs := {}
  /-- Channel F (09). -/
  f : ChanF := {}
  /-- The 25 reference inputs (09). -/
  refs : KMap Input := []
  /-- The 512 lanes (06, 07, 08). -/
  lanes : KMap Lane := []
  /-- The 64 octets (08). -/
  octets : KMap Octet := []
  /-- The 131,072 tributaries' selectors (05). -/
  sels : KMap Sel := []
  /-- The switching core (01, 03). -/
  fab : Fabric := {}
  /-- The planner and the page loader (04). -/
  planner : Planner := {}
  /-- The host interface and the command engines (13). -/
  host : HostIf := {}
  /-- The twin side (11, 12). -/
  twin : Twin := {}
  /-- The checkpoint engine (12). -/
  ckpt : Ckpt := {}
  /-- The keeper (11). -/
  keeper : Keeper := {}
  /-- The towpath and the flight (14). -/
  flight : Flight := {}
  /-- The control matrix (15). -/
  mx : Matrix := {}
  /-- The counter engine (16). -/
  ctr : Counters := {}
  /-- The recovery ladder (17). -/
  rcv : Recov := {}
  /-- Power, reset and boot (18). -/
  boot : Boot := {}
  /-- What has been sent in the row in progress. MODEL'S OWN. -/
  out : Outbox := {}
  /-- Number of free values taken so far: the argument of the next one. MODEL'S OWN. -/
  free : Nat := 0
  /-- The commands that are waiting, first in, first out. -/
  pending : List Instr := []
deriving DecidableEq, Repr

/-- The device right after reset: every field at the default its structure names, which is the value the spec states for
reset, or, where it states none, the value that the assumption log names. -/
def State.reset : State := {}

end Sys2Proof.Machine
end

