-- ==== Sys2Proof/Machine/Operands.lean ====
section
/-! DEFINITION. Fields of words, bytes and CRCs, the header and the parameters of commands, the opcode tables. -/

namespace Sys2Proof.Machine

open Sys2Proof

/-- Bits [hi:lo] of a word as a number (R3: bit 0 is the least significant). -/
def fld {n : Nat} (w : BitVec n) (hi lo : Nat) : Nat := (w.toNat >>> lo) % 2 ^ (hi + 1 - lo)

/-- Bit i of a word. -/
def bit {n : Nat} (w : BitVec n) (i : Nat) : Bool := w.getLsbD i

/-- A flag as a number. -/
def b2n (b : Bool) : Nat := if b then 1 else 0

/-- A 64-bit word from (hi, lo, value) fields; the other bits are 0 (R6). -/
def pack (fs : List (Nat × Nat × Nat)) : W64 :=
  BitVec.ofNat 64 (fs.foldl (fun a f => a + (f.2.2 % 2 ^ (f.1 + 1 - f.2.1)) * 2 ^ f.2.1) 0)

/-- A number as a word. -/
def w64 (n : Nat) : W64 := BitVec.ofNat 64 n

/-- An integer as a two's complement number of n bits. -/
def twos (n : Nat) (i : Int) : Nat := (i % (2 ^ n : Int)).toNat

/-- A number of n bits read as two's complement. -/
def sgn (n v : Nat) : Int := if v < 2 ^ (n - 1) then (v : Int) else (v : Int) - (2 ^ n : Int)

/-- The magnitude and a bound (saturation) of counts. -/
def sat (limit v : Nat) : Nat := if v < limit then v else limit

/-- Saturating 16-bit increment. -/
def inc16 (v : Nat) : Nat := sat 65535 (v + 1)

/-- Quotient rounded up (R46). -/
def ceilDiv (a b : Nat) : Nat := (a + b - 1) / b

/-- Word i of a list, 0 beyond its end. -/
def wd (ws : List W64) (i : Nat) : W64 := ws.getD i 0

/-- The low n bytes of a number, least significant first (R5). -/
def leBytes (n v : Nat) : List (BitVec 8) :=
  (List.range n).map (fun i => BitVec.ofNat 8 (v >>> (8 * i)))

/-- Words stored least significant byte first (R5). -/
def wordBytes (ws : List W64) : List (BitVec 8) := ws.flatMap (fun w => leBytes 8 w.toNat)

/-- A number from bytes, least significant first. -/
def ofLeBytes : List (BitVec 8) → Nat
  | [] => 0
  | b :: bs => b.toNat + 256 * ofLeBytes bs

/-- A number from bytes, most significant first (R4). -/
def ofBeBytes (bs : List (BitVec 8)) : Nat := bs.foldl (fun a b => 256 * a + b.toNat) 0

/-- The low n bytes of a number, most significant first (R4). -/
def beBytes (n v : Nat) : List (BitVec 8) := (leBytes n v).reverse

/-- One bit of a reflected CRC-32C (polynomial 0x1EDC6F41, R167). -/
def crc32cBit (c : BitVec 32) : BitVec 32 :=
  if c.getLsbD 0 then (c >>> 1) ^^^ 0x82F63B78#32 else c >>> 1

/-- CRC-32C of bytes (R167). -/
def crc32c (bs : List (BitVec 8)) : BitVec 32 :=
  (bs.foldl (fun c b =>
    crc32cBit (crc32cBit (crc32cBit (crc32cBit (crc32cBit (crc32cBit (crc32cBit (crc32cBit
      (c ^^^ b.setWidth 32))))))))) 0xFFFFFFFF#32) ^^^ 0xFFFFFFFF#32

/-! ## Header of a command (Table 13.8) -/

end Sys2Proof.Machine

namespace Sys2Proof

open Sys2Proof.Machine

def Cmd.version (c : Cmd) : Nat := fld c.w0 3 0
def Cmd.barrier (c : Cmd) : Bool := bit c.w0 4
def Cmd.broadcast (c : Cmd) : Bool := bit c.w0 5
def Cmd.opcode (c : Cmd) : Nat := fld c.w0 23 8
def Cmd.seq (c : Cmd) : Nat := fld c.w0 55 24
def Cmd.queue (c : Cmd) : Nat := fld c.w0 61 56
def Cmd.expTerm (c : Cmd) : Nat := fld c.w1 31 0
def Cmd.crc (c : Cmd) : Nat := fld c.w1 63 32
def Cmd.atFrame (c : Cmd) : Nat := fld c.w2 47 0
def Cmd.length (c : Cmd) : Nat := fld c.w2 59 48
def Cmd.role (c : Cmd) : Nat := fld c.w2 62 60
def Cmd.deadline (c : Cmd) : Nat := fld c.w3 47 0
def Cmd.target (c : Cmd) : Nat := fld c.w3 53 48
def Cmd.session (c : Cmd) : Nat := fld c.w3 63 54
/-- Reserved header bits (check 4 of Table 13.9). -/
def Cmd.reserved (c : Cmd) : Bool := fld c.w0 7 6 != 0 || fld c.w0 63 62 != 0 || bit c.w2 63
/-- Parameter word i. -/
def Cmd.p (c : Cmd) (i : Nat) : W64 := wd c.params i
/-- The CRC that the host computes (R358). -/
def Cmd.crcOf (c : Cmd) : Nat :=
  (crc32c (wordBytes [c.w0, c.w1 &&& 0xFFFFFFFF#64, c.w2, c.w3] ++ wordBytes c.params)).toNat

/-! Fields of a watch frame (Table 11.3). -/

def WatchFrame.version (f : WatchFrame) : Nat := fld f.w0 63 60
def WatchFrame.type (f : WatchFrame) : Nat := fld f.w0 59 56
def WatchFrame.fromKeeper (f : WatchFrame) : Bool := bit f.w0 55
def WatchFrame.src (f : WatchFrame) : Nat := fld f.w0 54 49
def WatchFrame.pair (f : WatchFrame) : Nat := fld f.w0 48 44
def WatchFrame.seq (f : WatchFrame) : Nat := fld f.w0 39 32
def WatchFrame.term (f : WatchFrame) : Nat := fld f.w0 31 0

end Sys2Proof

namespace Sys2Proof.Machine

open Sys2Proof

/-- A command from the 64-byte units it occupies (R349): header, then LENGTH bytes of parameters, padding ignored. -/
def cmdOfUnits (ws : List W64) : Cmd :=
  let n := fld (wd ws 2) 59 48 / 8
  { w0 := wd ws 0, w1 := wd ws 1, w2 := wd ws 2, w3 := wd ws 3, params := (ws.drop 4).take n }

/-- Units that a command occupies (R349). -/
def unitsOf (length : Nat) : Nat := ceilDiv (32 + length) 64

/-! ## Opcodes (Table 13.14) -/

/-- The opcodes that Table 13.14 assigns, one by one (R374). -/
def opcodes : List Nat :=
  [0x0101, 0x0102, 0x0103, 0x0104, 0x0105, 0x0106, 0x0107, 0x0201, 0x0202, 0x0203, 0x0204,
   0x0301, 0x0302, 0x0303, 0x0304, 0x0305, 0x0306, 0x0401, 0x0402, 0x0501, 0x0502, 0x0503, 0x0504, 0x0520, 0x0521] ++
  [0x0601, 0x0602, 0x0603, 0x0604, 0x0605, 0x0606, 0x0607, 0x0608, 0x0609, 0x060A, 0x060B, 0x060C, 0x060D, 0x060E,
   0x060F, 0x0610, 0x0701, 0x0702, 0x0703, 0x0710, 0x0711, 0x0712, 0x0713, 0x0714, 0x0801, 0x0802] ++
  [0x0901, 0x0902, 0x0903, 0x0904, 0x0905, 0x0906, 0x0907, 0x0A01, 0x0A02, 0x0A03, 0x0A04, 0x0A05, 0x0A06, 0x0A07,
   0x0B01, 0x0B02, 0x0B03, 0x0B10, 0x0B11, 0x0B12, 0x0B20, 0x0B21, 0x0B22]

/-- Opcodes that OBSERVER may issue: Table 13.7 and the opcodes that their owning table opens to all queues. -/
def observerOps : List Nat :=
  [0x0107, 0x0304, 0x0305, 0x0204, 0x0402, 0x0503, 0x0521, 0x0603, 0x0605, 0x0610, 0x0B01,
   0x0608, 0x060A, 0x060E, 0x0701, 0x0703, 0x0710, 0x0801, 0x0902, 0x0905, 0x0906, 0x0907,
   0x0A03, 0x0A05, 0x0A06, 0x0A07, 0x0B02, 0x0B03, 0x0B11]

/-- Opcodes that only MAINTENANCE may issue: 0x01xx but NOP (Table 13.7), and the owning tables 8.6, 10.14, 11.12, 12.6,
14.8, 17.4 and 18.7. -/
def maintenanceOps : List Nat :=
  [0x0101, 0x0102, 0x0103, 0x0104, 0x0105, 0x0106, 0x0606, 0x0607, 0x060C, 0x060F, 0x0702, 0x0711, 0x0802,
   0x0A01, 0x0A02, 0x0A04, 0x0B10, 0x0B12, 0x0B20, 0x0B21, 0x0B22]

/-- Whether a queue of privilege `priv` may issue `op` (R356). -/
def permits (priv op : Nat) : Bool :=
  if priv = 2 then true
  else if priv = 1 then !(maintenanceOps.contains op)
  else observerOps.contains op

/-- Opcodes that may be broadcast (R396): the snapshot and the reconfigurations are Table 16.5's. -/
def broadcastOps : List Nat := [0x0107, 0x0610, 0x0302, 0x0306, 0x060C, 0x060D, 0x0903, 0x0901, 0x0904]

/-- Whether the opcode has an action class of Table 2.1. -/
def scheduledOp (op : Nat) : Bool :=
  [0x0301, 0x0306, 0x0401, 0x0901, 0x0903, 0x0904, 0x060C, 0x060D, 0x0713].contains op

/-- Minimum lead of the opcode's class (Table 2.1). -/
def leadOf (op : Nat) : Nat :=
  if op = 0x0301 ∨ op = 0x0306 ∨ op = 0x0713 then 16
  else if op = 0x060C ∨ op = 0x060D then 8
  else 2

/-- The four opcodes that need an at-frame (R498). -/
def needsAt (op : Nat) : Bool := [0x060C, 0x060D, 0x0306, 0x0713].contains op

/-- Parameter bytes that the opcode's layout gives (R499), for the opcodes whose size is fixed; `none` where a count
field sets it. -/
def fixedBytes (op : Nat) : Option Nat :=
  match op with
  | 0x0101 | 0x0102 | 0x0105 => some 16
  | 0x0103 | 0x0104 | 0x0106 => some 8
  | 0x0107 | 0x0302 | 0x0713 | 0x0605 | 0x060A | 0x0610 | 0x0701 | 0x0703 | 0x0710 | 0x0A03 | 0x0A06 | 0x0B01 | 0x0B11
  | 0x0B21 => some 0
  | 0x0202 => some 16
  | 0x0204 => some 24
  | 0x0301 | 0x0303 | 0x0304 | 0x0306 => some 8
  | 0x0305 => some 24
  | 0x0401 => some 8
  | 0x0402 => some 24
  | 0x0501 | 0x0502 | 0x0504 => some 8
  | 0x0503 => some 16
  | 0x0520 => some 24
  | 0x0521 => some 16
  | 0x0602 => some 8
  | 0x0603 => some 16
  | 0x0604 => some 16
  | 0x0606 | 0x0607 => some 8
  | 0x0608 => some 16
  | 0x0609 => some 16
  | 0x060B => some 24
  | 0x060C => some 24
  | 0x060D => some 16
  | 0x060E => some 16
  | 0x060F => some 16
  | 0x0702 | 0x0711 | 0x0712 | 0x0714 => some 8
  | 0x0801 => some 8
  | 0x0802 => some 16
  | 0x0902 => some 16
  | 0x0903 => some 8
  | 0x0904 => some 8
  | 0x0905 => some 16
  | 0x0906 => some 16
  | 0x0907 => some 8
  | 0x0A01 => some 8
  | 0x0A02 | 0x0A04 => some 16
  | 0x0A05 => some 8
  | 0x0A07 => some 16
  | 0x0B02 => some 8
  | 0x0B03 => some 40
  | 0x0B10 => some 16
  | 0x0B12 => some 8
  | 0x0B20 => some 8
  | 0x0B22 => some 16
  | _ => none

end Sys2Proof.Machine
end

