-- ==== Sys2Proof/Machine/Line.lean ====
section
/-! DEFINITION. The line coding of chapter 6: RS(544,514) over GF(2^10), message symbols, PAM4, the scrambler, and what a
receiver reads from codewords. Strings of bits are numbers, the bit sent first most significant (R4). -/

namespace Sys2Proof.Machine

open Sys2Proof

/-! ## GF(2^10) with the field polynomial x^10 + x^3 + 1 (R142) -/

/-- A field element times α. -/
def gfX (a : Nat) : Nat := if 2 * a < 1024 then 2 * a else (2 * a) ^^^ 0x409

/-- Product of two field elements. -/
def gfMul (a b : Nat) : Nat := go 10
where
  go : Nat → Nat
    | 0 => 0
    | n + 1 => gfX (go n) ^^^ (if b.testBit (9 - n) then a else 0)

/-- α to a power. -/
def gfPow : Nat → Nat
  | 0 => 1
  | n + 1 => gfX (gfPow n)

/-- Inverse of a field element other than 0: its power 1022, the square of its power 511. -/
def gfInv (a : Nat) : Nat :=
  let r := (List.range 8).foldl (fun r _ => gfMul (gfMul r r) a) a
  gfMul r r

/-- Symbols of 10 bits as one number, the first symbol most significant. -/
def pack10 (ss : List Nat) : Nat := ss.foldl (fun a s => a * 1024 + s) 0

/-- Symbol i, counted from the last one, of a number. -/
def sym10 (w i : Nat) : Nat := (w >>> (10 * i)) % 1024

/-- A polynomial, highest power first, times (x − r). -/
def polyTimes (p : List Nat) (r : Nat) : List Nat := List.zipWith (· ^^^ ·) (p ++ [0]) (0 :: p.map (gfMul r))

/-- The generator polynomial of R142: the product of (x − α^j) for j = 0 to 29, highest power first. -/
def rsGenerator : List Nat := (List.range 30).foldl (fun p j => polyTimes p (gfPow j)) [1]

/-- Row b: the 30 lower coefficients of the generator polynomial times α^b as one number; Laws/Line.lean shows that these are
those of rsGenerator. -/
def rsRows : List Nat := [
  0x8fe282ece68a0011b235468f99448417ad07bd81eb9f7dcd69c5262305881fcb927880d0a0b,
  0x1dc595d9cc16402360638d1f22ad082f1a9f7b02d57eebbed2884cd60b103f9724f100a341f,
  0x3b8b2bb3982c8046c0c6187e455a105e352ed60da8fd575dad12d9ac12297f2e49e20044c3e,
  0x771647473959008d818c30bc1ab029bc2add8c1353fa3ebb5a25b348045bfe1c13e4098987c,
  0xee2c8e8a7bb2010b27186138b544527a553b3c26a7b4fd56bd4b26102cb6fe7827c812114f8,
  0xde599d34ff6642066e39c231fa88a4f4aa665c4c4d697a8d73960cb0596cfef0df9024229f0,
  0xbef32a4dfecc840cd87b8663753548eb545cb8989a92753ee62e5960b2d8ffe13f0448453e0,
  0x7fe6d4bffc9b480994f60ec67a6a90d4e8a955303764ea79c55cb2c161b9fdc2fe2c908a3c9,
  0xff8d397bf134d0030dec1d8ce4f529abd1d28e606e8954d78ab92512c372f9c5ec7d201679b,
  0xfd5a62d7eb69a0061bd83b19c9ea5255e3a518c9dd12a9ab1d704ab582edf1cbc8de402cb3f]

/-- The generator polynomial's lower coefficients times a field element. -/
def rsTimes (f : Nat) : Nat := (List.range 10).foldl (fun a b => if f.testBit b then a ^^^ rsRows.getD b 0 else a) 0

/-- The remainder after one more message symbol. -/
def rsStep (st s : Nat) : Nat := ((st % 2 ^ 290) <<< 10) ^^^ rsTimes (s ^^^ (st >>> 290))

/-- The 30 parity symbols of 514 message symbols, given as 5,140 bits (R142). -/
def rsParity (info : Nat) : Nat := (List.range 514).foldl (fun st k => rsStep st (sym10 info (513 - k))) 0

/-- The codeword of 5,140 information bits: message symbol k holds bits 10k to 10k + 9, the first of them in symbol bit 9
(R143); symbols 0 to 513 are the message, 514 to 543 the parity. -/
def rsEncode (info : Nat) : Nat := info <<< 300 ^^^ rsParity info

/-! ## Decoding (R144) -/

/-- A polynomial given by its coefficients, lowest power first, at a point. -/
def polyAt (p : List Nat) (x : Nat) : Nat := p.foldr (fun c a => c ^^^ gfMul a x) 0

/-- Syndrome j: the remainder at α^j. -/
def syndrome (rem j : Nat) : Nat := polyAt ((List.range 30).map (sym10 rem)) (gfPow j)

/-- State of the Berlekamp–Massey iteration: the locator, the one before its last change of length, its length, the steps
since that change, the discrepancy then. -/
structure Locator where
  c : List Nat := [1]
  b : List Nat := [1]
  len : Nat := 0
  m : Nat := 1
  d : Nat := 1

/-- Two polynomials added. -/
def polyAdd : List Nat → List Nat → List Nat
  | [], q => q
  | p, [] => p
  | a :: p, b :: q => (a ^^^ b) :: polyAdd p q

/-- One step of the iteration, on syndrome n. -/
def Locator.step (ss : List Nat) (l : Locator) (n : Nat) : Locator :=
  let disc := (List.range (l.len + 1)).foldl (fun a i => a ^^^ gfMul (l.c.getD i 0) (ss.getD (n - i) 0)) 0
  if disc = 0 then { l with m := l.m + 1 }
  else
    let c := polyAdd l.c (List.replicate l.m 0 ++ l.b.map (gfMul (gfMul disc (gfInv l.d))))
    if 2 * l.len ≤ n then { c := c, b := l.c, len := n + 1 - l.len, m := 1, d := disc }
    else { l with c := c, m := l.m + 1 }

/-- The formal derivative. -/
def polyDeriv (p : List Nat) : List Nat := (p.drop 1).mapIdx (fun i c => if i % 2 = 0 then c else 0)

/-- The product of two polynomials below x^30. -/
def polyMul30 (p q : List Nat) : List Nat :=
  (List.range 30).map (fun n => (List.range (n + 1)).foldl (fun a i => a ^^^ gfMul (p.getD i 0) (q.getD (n - i) 0)) 0)

/-- The error values by power of x, found at the roots of the locator: exponent and value. -/
def rsErrors (rem : Nat) : List (Nat × Nat) :=
  let ss := (List.range 30).map (syndrome rem)
  let c := ((List.range 30).foldl (Locator.step ss) {}).c
  let w := polyMul30 ss c
  let c' := polyDeriv c
  (List.range 544).filterMap (fun e =>
    let x := gfPow (1023 - e)
    if polyAt c x = 0 then some (e, gfMul (gfPow e) (gfMul (polyAt w x) (gfInv (polyAt c' x)))) else none)

/-- A decoded codeword: its information bits, symbols corrected, flagged as uncorrectable. -/
structure Decoded where
  info : Nat
  fixed : Nat
  bad : Bool
deriving DecidableEq, Repr

/-- A received codeword of 5,440 bits decoded (R144): corrected when at most 15 symbols differ from a codeword, else passed on
as received and flagged. -/
def rsDecode (w : Nat) : Decoded :=
  let rem := rsParity (w >>> 300) ^^^ (w % 2 ^ 300)
  if rem = 0 then { info := w >>> 300, fixed := 0, bad := false }
  else
    let es := rsErrors rem
    let v := es.foldl (fun a e => a ^^^ (e.2 <<< (10 * e.1))) w
    if es.length ≤ 15 ∧ rsParity (v >>> 300) = v % 2 ^ 300 then { info := v >>> 300, fixed := es.length, bad := false }
    else { info := w >>> 300, fixed := 0, bad := true }

/-! ## PAM4 (R143, R154) -/

/-- The bit pair that a PAM4 symbol carries. -/
def pamBits : Pam → Nat
  | .m3 => 0
  | .m1 => 1
  | .p1 => 3
  | .p3 => 2

/-- The PAM4 symbol of a bit pair (Gray code). -/
def pamOf (b : Nat) : Pam :=
  match b with
  | 0 => .m3
  | 1 => .m1
  | 3 => .p1
  | _ => .p3

/-- The bits that PAM4 symbols carry. -/
def lineBits (ps : List Pam) : Nat := ps.foldl (fun a p => 4 * a + pamBits p) 0

/-- The n PAM4 symbols of 2n bits. -/
def linePams (n w : Nat) : List Pam := (List.range n).map (fun i => pamOf ((w >>> (2 * (n - 1 - i))) % 4))

/-- The first bit of each of n bit pairs. -/
def firstBits (n : Nat) : Nat := 2 * ((4 ^ n - 1) / 3)

/-- The first bit of every bit pair of a codeword inverted when asked for (R154; TX_INVERT of Table 8.5). -/
def turn (inv : Bool) (w : Nat) : Nat := if inv then w ^^^ firstBits 2720 else w

/-! ## The scrambler x^58 + x^39 + 1 (R149) -/

/-- n bits of the generator behind those already taken, and the state after them. -/
def scramble : Nat → Nat → Nat → Nat × Nat
  | 0, st, acc => (acc, st)
  | n + 1, st, acc =>
    let k := ((st >>> 57) ^^^ (st >>> 38)) % 2
    scramble n ((2 * st + k) % 2 ^ 58) (2 * acc + k)

/-- The generator's state n bits on. -/
def scrambleSkip : Nat → Nat → Nat
  | 0, st => st
  | n + 1, st => scrambleSkip n ((2 * st + ((st >>> 57) ^^^ (st >>> 38)) % 2) % 2 ^ 58)

/-! ## What a receiver reads -/

/-- What a marker position carries (Table 6.2): the 80 bits before FEC decoding, and IDENTITY and CHECK after it, taken in a
form. -/
def markerBits (m : MarkerRx) : BitVec 80 := BitVec.ofNat 80 (lineBits (m.word.take 40))

/-- The 160 marker bits after FEC decoding in a form (R150, R154). -/
def markerOf (m : MarkerRx) (inv : Bool) : Nat := (rsDecode (turn inv (lineBits m.word))).info >>> 4980

def markerId (m : MarkerRx) (inv : Bool) : W64 := BitVec.ofNat 64 (markerOf m inv >>> 16)

def markerCheck (m : MarkerRx) (inv : Bool) : BitVec 16 := BitVec.ofNat 16 (markerOf m inv)

/-- A barge as the descrambled information stream gives it: header, the 8,192 payload bits, and whether a bit of it lies in an
uncorrectable codeword. -/
structure BargeBits where
  hdr : W64
  body : Nat
  uncorr : Bool
deriving DecidableEq, Repr

/-- n information bits from position off of the codewords' total, first bit most significant. -/
def cut (total off n v : Nat) : Nat := (v >>> (total - off - n)) % 2 ^ n

/-- The 8,256 bits of a barge taken out of its codewords and descrambled (R149, R150, R156): with the seed of the lane frame,
and, where the marker of a new lane frame falls into the barge, with the seed before it up to the marker and with the new
one behind it. -/
def bargeStream (b : BargeRx) (seedPrev seed : Nat) (infos : List Nat) : Nat :=
  let n := 5140 * infos.length
  let v := infos.foldl (fun a i => a <<< 5140 ^^^ i) 0
  let p := 5140 * (8192 - b.first)
  let skip := 5140 * b.first + b.off - 160
  if p < b.off + 8256 then
    let k := p - b.off
    let a := cut n b.off k v ^^^ (scramble k (scrambleSkip skip seedPrev) 0).1
    let z := cut n (p + 160) (8256 - k) v ^^^ (scramble (8256 - k) seed 0).1
    a <<< (8256 - k) ^^^ z
  else cut n b.off 8256 v ^^^ (scramble 8256 (scrambleSkip skip seed) 0).1

/-- A received barge as its lane's receiver reads it. -/
def readBarge (b : BargeRx) (h : Hunter) : BargeBits :=
  let ds := b.words.map (fun w => rsDecode (turn h.inv (lineBits w)))
  let v := bargeStream b h.seedPrev.toNat h.seed.toNat (ds.map (·.info))
  { hdr := BitVec.ofNat 64 (v >>> 8192), body := v % 2 ^ 8192, uncorr := ds.any (·.bad) }

/-- Payload of a DATA barge: the words of 256 slots (R56). -/
def BargeBits.slots (b : BargeBits) : List (BitVec 32) :=
  (List.range 256).map (fun i => BitVec.ofNat 32 (b.body >>> (32 * (255 - i))))

/-- Payload of a FRAME, TEST or IDLE barge: 128 words of 64 bits. -/
def BargeBits.words (b : BargeBits) : List W64 :=
  (List.range 128).map (fun i => BitVec.ofNat 64 (b.body >>> (64 * (127 - i))))

/-! ## 8b/10b, the code of the watch ports (R294)

PRESUMED (log entry 111): the spec names the code and its characters and gives no table; the code groups are those of IEEE 802.3
clause 36. A code group is written a b c d e i f g h j, a (sent first) most significant. -/

/-- A character: whether it is a control character, and its octet. -/
abbrev WChar := Bool × Nat

/-- abcdei of D0 to D31 at negative running disparity. -/
def code6 : List Nat :=
  [0b100111, 0b011101, 0b101101, 0b110001, 0b110101, 0b101001, 0b011001, 0b111000, 0b111001, 0b100101, 0b010101, 0b110100,
   0b001101, 0b101100, 0b011100, 0b010111, 0b011011, 0b100011, 0b010011, 0b110010, 0b001011, 0b101010, 0b011010, 0b111010,
   0b110011, 0b100110, 0b010110, 0b110110, 0b001110, 0b101110, 0b011110, 0b101011]

/-- fghj of D.x.0 to D.x.7 at negative running disparity, in its primary form. -/
def code4 : List Nat := [0b1011, 0b1001, 0b0101, 0b1100, 0b1101, 0b1010, 0b0110, 0b1110]

/-- fghj of K28.0 to K28.7 at negative running disparity; K23.7, K27.7, K29.7 and K30.7 take the last. -/
def codeK4 : List Nat := [0b1011, 0b0110, 0b1010, 0b1100, 0b1101, 0b0101, 0b1001, 0b0111]

/-- Ones among the lowest n bits. -/
def onesIn (n v : Nat) : Nat := ((List.range n).filter (fun i => v.testBit i)).length

/-- A sub-block of n bits in the form for a running disparity (true = positive), and the disparity after it. `flips`: a balanced
sub-block that has two forms. -/
def subBlock (n : Nat) (flips : Bool) (v : Nat) (rd : Bool) : Nat × Bool :=
  let level := 2 * onesIn n v == n
  (if rd && (flips || !level) then 2 ^ n - 1 - v else v, if level then rd else !rd)

/-- The code group of a character, and the running disparity after it. -/
def code8b10b (c : WChar) (rd : Bool) : BitVec 10 × Bool :=
  let x := c.2 % 32
  let y := c.2 / 32
  let a := if c.1 && x == 28 then subBlock 6 true 0b001111 rd else subBlock 6 (x == 7) (code6.getD x 0) rd
  let alt := y == 7 && (if a.2 then [11, 13, 14].contains x else [17, 18, 20].contains x)
  let b := if c.1 then subBlock 4 true (codeK4.getD y 0) a.2
    else if alt then subBlock 4 true 0b0111 a.2
    else subBlock 4 (y == 3) (code4.getD y 0) a.2
  (BitVec.ofNat 10 (16 * a.1 + b.1), b.2)

/-- Characters one after the other. -/
def codeGroups : List WChar → Bool → List (BitVec 10)
  | [], _ => []
  | c :: cs, rd => let g := code8b10b c rd; g.1 :: codeGroups cs g.2

/-- The idle ordered set K28.5, D5.6. -/
def idleSet : List WChar := [(true, 0xBC), (false, 0xC5)]

/-- A frame on a watch port: K27.7, the 32 body bytes, word 0 first and most significant byte first, and K29.7. -/
def watchChars (f : WatchFrame) : List WChar :=
  [(true, 0xFB)] ++ [f.w0, f.w1, f.w2, f.w3].flatMap (fun w => (beBytes 8 w.toNat).map (fun b => (false, b.toNat))) ++ [(true, 0xFD)]

end Sys2Proof.Machine
end

