-- ==== Sys2Proof/Config.lean ====
section
/-! DEFINITION. What the spec leaves open or what one part of the hardware fixes for itself: opaque constants without a
body, so that no proof can lean on a value of them. -/

namespace Sys2Proof.Config

open Sys2Proof

/-- The word of a position that no valid row filled: R18 gives such a row's words an invalid tag and no value, and R65
sends the word all the same. Argument: a fresh number. Free value, log entry 5. -/
opaque freeWord : Nat → BitVec 32

/-- A byte of a host buffer whose contents R113 or R345 leave undefined. Argument: a fresh number. Free value, log
entry 6. -/
opaque freeByte : Nat → BitVec 8

/-- A 64-bit value that the spec states for no operand of the case at hand. Argument: a fresh number. Log entry 7. -/
opaque freeWord64 : Nat → BitVec 64

/-- A phase in ps that no operand of the case at hand gives. Argument: a fresh number. Log entry 5. -/
opaque freePhase : Nat → Int

/-- The rounding of a quotient that the spec writes without one (R191's and R283's means, R263's 1/1,024 ps when the
product is no whole number): true = away from the floor. Arguments: numerator and denominator. Log entry 8. -/
opaque roundUp : Int → Nat → Bool

/-- The fixed time of R80 and R163 from a row tick to the start instant of the row, in ps: the spec gives no number for it, and
its worked examples 350 ns, less than a row. Log entry 76. -/
opaque sendDelay : Fin 500000

/-- The device's certificate (R402), X.509 DER, of which the spec gives only the form. Log entry 9. -/
opaque certByte : Nat → BitVec 8

/-- Length of the certificate, 1,024 bytes or less (chapter 14, Identity and admission). -/
opaque certLength : Fin 1025

/-- Byte `i` of the device's ECDSA signature over the message (Table 14.8, IDENT_CHALLENGE). Log entry 9. -/
opaque sigByte : List (BitVec 8) → Nat → BitVec 8

/-- Whether the signature of a firmware image that came through the gateway verifies (R475), by the image's words. Log entry 9. -/
opaque fwSignature : List (BitVec 64) → Bool

/-- The bytes that a flash slot of the board table holds beyond the table that was written into it. -/
opaque flashByte : Nat → BitVec 8

end Sys2Proof.Config
end

