-- ==== Sys2Proof/Machine/Ops.lean ====
section
/-! DEFINITION. The named operations over the state: keyed stores, host memory, roles and terms, events, the towpath's
sending side, replies and the completion of commands. -/

namespace Sys2Proof.Machine

open Sys2Proof

/-- Outcome of a command. -/
abbrev Res := Host.Outcome State Fault Refusal

/-- What a command leaves; the state as it was where it stops. -/
def settle (s : State) : Res → State
  | .next t => t
  | _ => s

/-! ## Keyed stores -/

/-- The value of key i; d where none is listed. -/
def kget {α : Type} (d : α) : KMap α → Nat → α
  | [], _ => d
  | (k, v) :: m, i => if k = i then v else kget d m i

/-- The store with key i not listed. -/
def kerase {α : Type} (i : Nat) (m : KMap α) : KMap α := m.filter (fun e => e.1 != i)

/-- The store with x listed at key i, keys rising. -/
def kput {α : Type} (i : Nat) (x : α) : KMap α → KMap α
  | [] => [(i, x)]
  | (k, v) :: m => if k < i then (k, v) :: kput i x m else if k = i then (i, x) :: m else (i, x) :: (k, v) :: m

/-- The store with x at key i, in canonical form: the default is not listed. -/
def kset {α : Type} [DecidableEq α] (d : α) (m : KMap α) (i : Nat) (x : α) : KMap α :=
  if x = d then kerase i m else kput i x m

/-- Every listed value replaced by f of its key and itself. -/
def kmap {α : Type} [DecidableEq α] (d : α) (f : Nat → α → α) (m : KMap α) : KMap α :=
  m.filterMap (fun e => if f e.1 e.2 = d then none else some (e.1, f e.1 e.2))

/-- The keys from n on strictly rise. -/
def risingFrom {α : Type} : Nat → List (Nat × α) → Bool
  | _, [] => true
  | n, (k, _) :: m => decide (n ≤ k) && risingFrom (k + 1) m

/-- Canonical form of a keyed store: keys strictly rising, no entry equal to the default. -/
def KMap.wf {α : Type} [DecidableEq α] (d : α) (m : KMap α) : Bool :=
  risingFrom 0 m && m.all (fun e => decide (e.2 ≠ d))

/-- Several values written from key i on. -/
def ksetRun {α : Type} [DecidableEq α] (d : α) (m : KMap α) (i : Nat) : List α → KMap α
  | [] => m
  | x :: xs => ksetRun d (kset d m i x) (i + 1) xs

/-! ## Host memory: the bytes that the device has written -/

/-- The byte written last at address a; none where the device has written none (log entry 4). -/
def Memory.read : List Host.Cell → Nat → Option (BitVec 8)
  | [], _ => none
  | (k, v) :: m, a => if k = a then some v else Memory.read m a

/-- One byte written. -/
def Memory.set : List Host.Cell → Nat → BitVec 8 → List Host.Cell
  | [], a, b => [(a, b)]
  | (k, v) :: m, a, b =>
    if k < a then (k, v) :: Memory.set m a b
    else if k = a then (a, b) :: m
    else (a, b) :: (k, v) :: m

/-- Canonical form: addresses strictly rising. An unlisted address has no value, so no entry equals what it reads as. -/
def Memory.wf (m : List Host.Cell) : Bool := risingFrom 0 m

/-- Bytes written from address a on; host addresses have 64 bits. -/
def Memory.write (m : List Host.Cell) (a : Nat) : List (BitVec 8) → List Host.Cell
  | [] => m
  | b :: bs => Memory.write (Memory.set m (a % 2 ^ 64) b) (a + 1) bs

/-! ## Status codes (Table 13.11) -/

def stOk : Nat := 0x0000
def stBadHeader : Nat := 0x0001
def stBadCrc : Nat := 0x0002
def stSession : Nat := 0x0003
def stInvalidParam : Nat := 0x0004
def stBadOpcode : Nat := 0x0005
def stPrivilege : Nat := 0x0006
def stUnreachable : Nat := 0x0007
def stSeqStale : Nat := 0x0008
def stSeqConflict : Nat := 0x0009
def stOutOfService : Nat := 0x000A
def stRoleMoved : Nat := 0x000B
def stFunctionDown : Nat := 0x000C
def stNotActive : Nat := 0x000D
def stExpired : Nat := 0x000E
def stTooLate : Nat := 0x000F
def stScheduleConflict : Nat := 0x0010
def stWithdrawn : Nat := 0x0011
def stBusy : Nat := 0x0012
def stDmaError : Nat := 0x0013
def stNoRoute : Nat := 0x0020
def stPageCheck : Nat := 0x0021
def stLockageTimeout : Nat := 0x0022
def stNoPage : Nat := 0x0023
def stPageChanged : Nat := 0x0024
def stProtRefused : Nat := 0x0030
def stRefRefused : Nat := 0x0040
def stHandoverRefused : Nat := 0x0050
def stBtCheck : Nat := 0x0060
def stFwCheck : Nat := 0x0061

/-! ## Codes of the enumerations -/

def Role.code : Role → Nat
  | .init => 0 | .solo => 1 | .active => 2 | .syncing => 3 | .cold => 4 | .warming => 5
  | .warm => 6 | .taking => 7 | .steppedDown => 8 | .keeper => 9

def FState.code : FState → Nat
  | .freeRun => 0 | .acquiring => 1 | .locked => 2 | .holdover => 3 | .lost => 4

def StartSt.code : StartSt → Nat
  | .reset => 0 | .rom => 1 | .fwLoad => 2 | .btLoad => 3 | .clocks => 4 | .memory => 5
  | .phase => 6 | .services => 7 | .ready => 8 | .failed => 15

def PlanSt.code : PlanSt → Nat
  | .queued => 1 | .planning => 2 | .planned => 3 | .loading => 4 | .loaded => 5 | .held => 6 | .armed => 7
  | .swapping => 8

/-! ## Objects -/

/-- Lane i. -/
def State.lane (s : State) (i : Nat) : Lane := kget {} s.lanes i

/-- Lane i replaced by f of it. -/
def State.modLane (s : State) (i : Nat) (f : Lane → Lane) : State :=
  { s with lanes := kset {} s.lanes i (f (s.lane i)) }

/-- Reference input n. -/
def State.input (s : State) (n : Nat) : Input := kget {} s.refs n

/-- Reference input n replaced by f of it. -/
def State.modInput (s : State) (n : Nat) (f : Input → Input) : State :=
  { s with refs := kset {} s.refs n (f (s.input n)) }

/-- The selector of tributary t. -/
def State.sel (s : State) (t : Nat) : Sel := kget {} s.sels t

/-- The selector of tributary t replaced by f of it. -/
def State.modSel (s : State) (t : Nat) (f : Sel → Sel) : State :=
  { s with sels := kset {} s.sels t (f (s.sel t)) }

/-- Octet k. -/
def State.octet (s : State) (k : Nat) : Octet := kget {} s.octets k

/-- Octet k replaced by f of it. -/
def State.modOctet (s : State) (k : Nat) (f : Octet → Octet) : State :=
  { s with octets := kset {} s.octets k (f (s.octet k)) }

/-- Member record of address a. -/
def State.member (s : State) (a : Nat) : Member := kget {} s.flight.members a

/-- Member record of address a replaced by f of it. -/
def State.modMember (s : State) (a : Nat) (f : Member → Member) : State :=
  { s with flight.members := kset {} s.flight.members a (f (s.member a)) }

/-- Submission queue q. -/
def State.sq (s : State) (q : Nat) : Option Sq := kget none s.host.sqs q
/-- Completion queue q. -/
def State.cq (s : State) (q : Nat) : Option Cq := kget none s.host.cqs q
/-- Event queue e. -/
def State.evq (s : State) (e : Nat) : Option EvQ := kget none s.host.eqs e
def State.setSq (s : State) (q : Nat) (x : Option Sq) : State := { s with host.sqs := kset none s.host.sqs q x }
def State.setCq (s : State) (q : Nat) (x : Option Cq) : State := { s with host.cqs := kset none s.host.cqs q x }
def State.setEvq (s : State) (e : Nat) (x : Option EvQ) : State := { s with host.eqs := kset none s.host.eqs e x }

/-- Names lane operands that exist (R55). -/
def onLane (lane : Nat) (t : State) : Res :=
  if lane < 512 then .next t else .fault (.noSuchObject "lane")

/-- The start-up state whose pins the device drives: in FAILED that in which it failed (Table 18.2, R473). -/
def State.pinStage (s : State) : StartSt := if s.boot.st = .failed then s.boot.failedIn else s.boot.st

/-- A device in one of the start-up states before row ticks begin has no running frame sequencer (R470). -/
def State.ticking (s : State) : Bool :=
  match s.boot.st with
  | .memory | .phase | .services | .ready => true
  | _ => false

/-- The device takes events of its operating state: start-up is complete (Table 18.6). -/
def State.ready (s : State) : Bool := s.boot.st == .ready

/-- A frame number of 48 bits; the device never numbers a frame 0 (R32; log entry 30). -/
def frameNo (n : Nat) : Nat := if n % 2 ^ 48 = 0 then 1 else n % 2 ^ 48

/-! ## Roles and terms (Table 11.2) -/

/-- TERM the device advertises. -/
def State.advTerm (s : State) : Nat :=
  match s.twin.role with
  | .init | .solo | .keeper => 0
  | .active | .taking | .steppedDown => s.twin.term
  | .syncing | .cold | .warming | .warm => s.twin.hterm

/-- ROLE the device advertises: 0 SOLO, 1 ACTIVE, 2 STANDBY, 3 NOT_SERVING. -/
def Role.adv : Role → Nat
  | .solo => 0
  | .active | .taking => 1
  | .syncing | .cold | .warming | .warm => 2
  | .init | .steppedDown | .keeper => 3

/-- Active under R366: SOLO, ACTIVE and TAKING. -/
def State.isActive (s : State) : Bool :=
  match s.twin.role with
  | .solo | .active | .taking => true
  | _ => false

/-- The device sends rows (R178): SOLO and ACTIVE; TAKING sends HOLD rows. -/
def State.sendsRows (s : State) : Bool :=
  match s.twin.role with
  | .solo | .active => true
  | _ => false

/-- TWIN record fields (Table 11.10). -/
def State.twinOn (s : State) : Bool := bit s.twin.cfg 0
def State.pair (s : State) : Nat := fld s.twin.cfg 5 1
def State.partner (s : State) : Nat := fld s.twin.cfg 11 6

/-- FLIGHT record fields (Table 14.1); a device without one is a flight of one (R377). -/
def State.gatewayFlag (s : State) : Bool := !s.flight.hasRec || bit s.flight.cfg 0
/-- The device is the enabled gateway of its flight (R378). -/
def State.isGateway (s : State) : Bool := s.gatewayFlag && !s.flight.gwConflict
def State.timeSrc (s : State) : Nat := if s.flight.hasRec then fld s.flight.cfg 7 2 else s.flight.addr
def State.flightId (s : State) : Nat := fld s.flight.cfg 37 22
def State.enumerated (s : State) : Bool := s.flight.hasRec && bit s.flight.cfg 1

/-- A route to member m exists (R386). -/
def Member.routed (m : Member) : Bool := m.hopsA.isSome || m.hopsB.isSome

/-- The gateway as a member knows it: of the members that advertise GATEWAY 1 the lowest with a route, else the lowest. -/
def State.gatewayAddr (s : State) : Option Nat :=
  let gs := s.flight.members.filter (fun e => e.2.gateway)
  (((gs.find? (fun e => e.2.routed)).or gs.head?)).map (·.1)

/-- The endpoint answers the host: this device is the gateway, start-up has enabled the endpoint (Table 18.2), PCIE_PERST_N is high and
the function is in D0 (R342, R489, Table 13.1). A device in FAILED keeps the endpoint as it is (R473). -/
def State.hostUp (s : State) : Bool :=
  s.isGateway && !s.host.perst && !s.host.pcie.d3hot && (s.pinStage == .services || s.pinStage == .ready)

/-- Host memory can be reached: through the own endpoint on the gateway, else by a route to the gateway (R379, R389). -/
def State.hostReach (s : State) : Bool :=
  if s.isGateway then s.hostUp
  else s.flight.addressed && s.gatewayAddr.any (fun g => (kget {} s.flight.members g).routed)

/-- R388: reachable while a route exists; R380, R402: never while its address is in conflict or its check has failed. -/
def State.reachable (s : State) (a : Nat) : Bool :=
  decide (a = s.flight.addr) ||
    ((s.member a).routed && !(s.member a).conflict && !(s.member a).faulty)

/-! ## The sending side of the towpath (R383 to R387) -/

/-- Class of a packet type (Table 14.3): 0 SYNC, 1 CONTROL, 2 BULK. -/
def towClass (type : Nat) : Nat :=
  if type ≤ 5 then 0 else if type ≤ 0xA then 1 else 2

/-- Hop credits that a packet takes (Table 14.4). -/
def towCost (p : TowPkt) : Nat := ceilDiv (24 + 8 * p.payload.length) 256

/-- Header of a packet (Table 14.2): word 1 carries the CRC-32C of bytes 0 to 11. -/
def towHeader (p : TowPkt) : List W64 :=
  let w0 := pack [(63, 60, 1), (59, 56, p.type), (55, 50, p.dst), (49, 44, p.src), (43, 43, b2n p.all), (42, 42, b2n p.dir),
                  (41, 36, p.hops), (31, 0, p.tseq)]
  let hi := pack [(63, 48, p.flight), (47, 35, 8 * p.payload.length)]
  [w0, hi ||| w64 (crc32c (beBytes 8 w0.toNat ++ beBytes 4 (fld hi 63 32))).toNat]

/-- A packet on the line (R383): header, payload and, behind a payload, its trailer, most significant byte first. -/
def towLine (p : TowPkt) : List (BitVec 8) :=
  let body := p.payload.flatMap (fun w => beBytes 8 w.toNat)
  (towHeader p).flatMap (fun w => beBytes 8 w.toNat) ++ body ++
    if body.isEmpty then [] else beBytes 8 (crc32c body).toNat

/-- A 66-bit block of clause 49 (R382), its first bit on the line least significant: the synchronisation header, 01 for a data block and
10 for a control block, and eight bytes, each least significant bit first. PRESUMED (log entry 108): the scrambler is left out. -/
def block66 (control : Bool) (bs : List (BitVec 8)) : BitVec 66 :=
  BitVec.ofNat 66 (4 * ofLeBytes (bs.take 8) + if control then 1 else 2)

/-- Data blocks of eight bytes each; `n` bounds their number. -/
def dataBlocks : Nat → List (BitVec 8) → List (BitVec 66)
  | 0, _ => []
  | n + 1, bs => if bs.isEmpty then [] else block66 false bs :: dataBlocks n (bs.drop 8)

/-- A packet in 64b/66b coding (R382, R383): a start block with the preamble, the packet's bytes, and a terminate block. PRESUMED (log
entry 108): delimited as clause 49 delimits a frame. -/
def towBlocks (p : TowPkt) : List (BitVec 66) :=
  let bs := towLine p
  block66 true [0x78#8, 0x55#8, 0x55#8, 0x55#8, 0x55#8, 0x55#8, 0x55#8, 0xD5#8] :: dataBlocks bs.length bs ++
    [block66 true [0x87#8, 0#8, 0#8, 0#8, 0#8, 0#8, 0#8, 0#8]]

/-- The block of the remote-fault ordered set, in both halves (R382; log entry 108). -/
def remoteFaultBlock : BitVec 66 := block66 true [0x55#8, 0#8, 0#8, 2#8, 0#8, 0#8, 0#8, 2#8]

/-- Big-endian 64-bit words of a byte list. -/
def beWords : Nat → List (BitVec 8) → List W64
  | 0, _ => []
  | n + 1, bs => w64 (ofBeBytes (bs.take 8)) :: beWords n (bs.drop 8)

/-- The packet that bytes on the line carry; none with a wrong HCRC or trailer, another VERSION or an unknown TYPE (R383). -/
def towOf (bs : List (BitVec 8)) : Option TowPkt :=
  let w0 := w64 (ofBeBytes (bs.take 8))
  let w1 := w64 (ofBeBytes ((bs.drop 8).take 8))
  let n := fld w1 47 35 / 8
  let body := (bs.drop 16).take (8 * n)
  let p : TowPkt := { type := fld w0 59 56, dst := fld w0 55 50, src := fld w0 49 44, all := bit w0 43, dir := bit w0 42,
                      hops := fld w0 41 36, tseq := fld w0 31 0, flight := fld w1 63 48, payload := beWords n body }
  if fld w0 63 60 = 1 ∧ 1 ≤ p.type ∧ p.type ≤ 13 ∧ fld w1 31 0 = (crc32c (bs.take 12)).toNat ∧ fld w1 47 35 % 8 = 0 ∧
      bs.length = 16 + 8 * n + (if n = 0 then 0 else 8) ∧
      (n = 0 ∨ ofBeBytes (bs.drop (20 + 8 * n)) = (crc32c body).toNat) then some p
  else none

/-- The port of a side. -/
def State.port (s : State) : Side → TowPort
  | .a => s.flight.a
  | .b => s.flight.b

def State.setPort (s : State) (sd : Side) (p : TowPort) : State :=
  match sd with
  | .a => { s with flight.a := p }
  | .b => { s with flight.b := p }

/-- The credits that a port owes the member behind it returned in a CREDIT packet (R385, Table 14.3); an unaddressed device
originates none (R379), so they stay owed until it has an address (log entry 29). -/
def payCredits (sd : Side) (s : State) : State :=
  let q := s.port sd
  if q.up && s.flight.addressed && decide (0 < q.owedCtl + q.owedBulk) then
    let c : TowPkt := { type := 2, dst := 0, src := s.flight.addr, all := false, dir := sd == .b, hops := 0,
                        tseq := q.owedCtl + 65536 * q.owedBulk, flight := s.flightId, payload := [] }
    { s.setPort sd { q with owedCtl := 0, owedBulk := 0 } with out.tow := s.out.tow ++ [(sd, towBlocks c)] }
  else s

/-- The buffer of a packet that came by `back` is free: its credits go back (R385). -/
def creditBack (p : TowPkt) (back : Option Side) (s : State) : State :=
  match back with
  | some sd =>
    let q := s.port sd
    payCredits sd (s.setPort sd (if towClass p.type = 1 then { q with owedCtl := q.owedCtl + towCost p }
      else { q with owedBulk := q.owedBulk + towCost p }))
  | none => s

/-- A packet of the device's own is the one that waits for this ACK. -/
def Unacked.is (u : Unacked) (p : TowPkt) (own : Nat) : Bool :=
  !p.all && p.src == own && u.pkt.dst == p.dst && u.pkt.tseq == p.tseq && towClass u.pkt.type == towClass p.type &&
    p.type != 0xA

/-- A numbered packet of the device's own leaves: the time for its ACK runs from now (R387). -/
def stampSent (p : TowPkt) (s : State) : State :=
  { s with flight.unacked := s.flight.unacked.map (fun u =>
      if u.is p s.flight.addr then { u with row := some s.time.rows } else u) }

/-- A packet handed to a port: SYNC-class packets leave at once, CONTROL and BULK packets while the credits of the next
member last and nothing of their class waits before them (R385). A forwarded packet that leaves frees its buffer, and a
CREDIT packet returns its credits to the member that it came from. A down port sends only remote fault (R382). -/
def portForward (sd : Side) (p : TowPkt) (back : Option Side) (s : State) : State :=
  let q := s.port sd
  let c := towClass p.type
  if c = 0 then
    if q.up then { s with out.tow := s.out.tow ++ [(sd, towBlocks p)] } else s
  else if q.up && !(q.queue.any (fun x => towClass x.pkt.type == c)) &&
      decide (towCost p ≤ if c = 1 then q.ctl else q.bulk) then
    let q' := if c = 1 then { q with ctl := q.ctl - towCost p } else { q with bulk := q.bulk - towCost p }
    creditBack p back (stampSent p { s.setPort sd q' with out.tow := s.out.tow ++ [(sd, towBlocks p)] })
  else s.setPort sd { q with queue := q.queue ++ [{ pkt := p, back := back }] }

/-- A packet that the device originates. -/
def portSend (sd : Side) (p : TowPkt) (s : State) : State := portForward sd p none s

/-- Waiting packets of a port sent as far as its credits go. -/
def portDrain (sd : Side) (s : State) : State :=
  let q := s.port sd
  (q.queue).foldl (fun s x => portForward sd x.pkt x.back s) (s.setPort sd { q with queue := [] })

/-- The side of the route in force to a member: fewer hops, direction A when equal (R386). -/
def Member.side (m : Member) : Option Side :=
  match m.hopsA, m.hopsB with
  | none, none => none
  | some _, none => some .a
  | none, some _ => some .b
  | some a, some b => if b < a then some .b else some .a

/-- A CONTROL or BULK packet to one member, numbered in its series (R387) and kept until its ACK. ACK itself is neither
numbered nor acknowledged (log entry 20). An unaddressed device originates nothing (R379). -/
def towSend (type dst : Nat) (payload : List W64) (s : State) : State :=
  if !s.flight.addressed then s
  else
    let k := 2 * dst + (towClass type - 1)
    let n := if type = 0xA then 0 else (kget 0 s.flight.txSeq k + 1) % 2 ^ 32
    let side := (s.member dst).side
    let p : TowPkt := { type := type, dst := dst, src := s.flight.addr, all := false, dir := side == some .b, hops := 0,
                        tseq := n, flight := s.flightId, payload := payload }
    let s := if type = 0xA then s else
      { s with flight.txSeq := kset 0 s.flight.txSeq k n,
               flight.unacked := s.flight.unacked ++ [{ pkt := p, row := none }] }
    match side with
    | some sd => portSend sd p s
    | none => s

/-- A packet with ALL 1 sent in each direction (R386, R390). -/
def towSendAll (type : Nat) (payload : List W64) (s : State) : State :=
  if !s.flight.addressed then s
  else
    let p : TowPkt := { type := type, dst := 0, src := s.flight.addr, all := true, dir := false, hops := 0,
                        tseq := 0, flight := s.flightId, payload := payload }
    portSend .b { p with dir := true } (portSend .a p s)

/-! ## Buffers in host memory -/

/-- Bytes put into a buffer of the host: by the gateway's DMA, or by DMA_WR packets through the gateway (R389), at most
4,088 data bytes each. -/
def dmaPackets (gw a : Nat) (ws : List W64) : Nat → State → State
  | 0, s => s
  | n + 1, s =>
    if ws.isEmpty then s
    else dmaPackets gw (a + 8 * 511) (ws.drop 511) n (towSend 0xD gw (w64 a :: ws.take 511) s)

/-- Words put into a host buffer at address a by the gateway (R5). -/
def bufWrite (a : Nat) (ws : List W64) (s : State) : State :=
  { s with host.mem := Memory.write s.host.mem a (wordBytes ws) }

/-- A host buffer at address a written for a command of a member, through the gateway gw; the command completes once every DMA_WR has
been acknowledged (R389). -/
def memberWrite (r : Run) (gw a : Nat) (ws reply : List W64) (s : State) : State :=
  let n := kget 0 s.flight.txSeq (2 * gw + 1)
  let j : WrJob := { run := r, gw := gw, asked := (List.range (ceilDiv ws.length 511)).map (fun i => (n + i + 1) % 2 ^ 32), addr := a,
                     bytes := 8 * ws.length, reply := reply }
  let s := { s with host.prog := s.host.prog.filter (fun x => decide (x.key ≠ r.key)), host.wr := s.host.wr ++ [j] }
  dmaPackets gw a ws (ws.length + 1) s

/-- A host buffer of n bytes read for a command of a member, by DMA_RD packets of up to 4,096 bytes through the gateway (R389). What
comes back in DMA_DATA packets is collected in the job. -/
def dmaAsk (k : Key) (a n : Nat) (s : State) : State :=
  match s.gatewayAddr with
  | some g =>
    let is := List.range (ceilDiv n 4096)
    let size := fun (i : Nat) => min 4096 (n - 4096 * i)
    let s := is.foldl (fun s i => towSend 0xB g [w64 (a + 4096 * i), w64 (size i)] s) s
    { s with host.dma := s.host.dma ++ [{ key := k, asked := is.map (fun i => ceilDiv (size i) 8), got := [], failed := false }] }
  | none => s

/-- A buffer whose contents R113 or R345 leave undefined: n bytes, each a free value. -/
def bufUndefined (a n : Nat) (s : State) : State :=
  { s with host.mem := Memory.write s.host.mem a ((List.range n).map (fun i => Config.freeByte (s.free + i))),
           free := s.free + n }

/-! ## Interrupts (R352) -/

/-- A vector's message: once per vector per row tick; a masked vector stays pending. -/
def msixSend (v : Nat) (s : State) : State :=
  if !s.host.pcie.msixOn then s
  else if bit (kget 0 s.host.msix (4 * v + 3)) 0 then
    { s with host.pba := if s.host.pba.contains v then s.host.pba else v :: s.host.pba }
  else if s.host.irqSent.contains v then
    { s with host.irqWant := if s.host.irqWant.contains v then s.host.irqWant else v :: s.host.irqWant }
  else
    { s with host.irqSent := v :: s.host.irqSent, out.msix := s.out.msix ++ [v] }

/-! ## Programmable events (Table 16.4) -/

/-- The record of a counter selects this event of this object. -/
def Ctr.takes (c : Ctr) (code obj : Nat) : Bool := bit c.w0 0 && fld c.w0 13 6 == code && fld c.w0 30 14 == obj

/-- n events of a code and an object, counted in the row in progress (R423). -/
def countEvent (code obj n : Nat) (s : State) : State :=
  { s with ctr.ctrs := kmap {} (fun _ (c : Ctr) => if c.takes code obj then { c with ev := c.ev + n } else c) s.ctr.ctrs }

/-! ## Events (R371 to R373) -/

/-- When the occurrence of a stamp was, in rows since reset, told by the count in force. DESIGN CHOICE (log entry 120): a stamp that the
count has not reached yet counts as now. -/
def occurred (frame row : Nat) (s : State) : Nat :=
  min s.time.rows (s.time.rows + 250 * frame + row - (250 * s.time.frame + s.time.row))

/-- Two pending records of one code made one (R373): the first occurrence of both, and what the latest of both says. -/
def EvRec.merge (a b : EvRec) : EvRec :=
  let first := if b.ord < a.ord then b else a
  let last := if b.lastOrd < a.lastOrd then a else b
  { first with seq := last.seq, lastFrame := last.lastFrame, lastRow := last.lastRow, lastOrd := last.lastOrd, term := last.term,
               payload := last.payload, merged := sat 65535 (a.merged + b.merged) }

/-- A record put into a list in the order of first occurrences. -/
def insertEvent (r : EvRec) (l : List EvRec) : List EvRec :=
  l.takeWhile (fun x => decide (x.ord ≤ r.ord)) ++ r :: l.dropWhile (fun x => decide (x.ord ≤ r.ord))

/-- A record added to a list that holds at most one per code, in the order of first occurrences (R373). -/
def mergeEvent (r : EvRec) (l : List EvRec) : List EvRec :=
  match l.find? (fun x => x.code == r.code) with
  | some x => insertEvent (x.merge r) (l.filter (fun y => y.code != r.code))
  | none => insertEvent r l

/-- The group of an event code (Table 13.13). -/
def eventGroup (code : Nat) : Nat := code / 256

/-- An event queue takes the group. -/
def EvQ.takes (e : EvQ) (code : Nat) : Bool := e.groups.testBit (eventGroup code - 1)

/-- Records that still find a free entry are kept apart; beyond them one record per code is pending. -/
def EvQ.push (e : EvQ) (r : EvRec) : EvQ :=
  let free := 2 ^ e.log2 - e.unread
  if e.pend.length < free then { e with pend := e.pend ++ [r] }
  else { e with pend := e.pend.take free ++ mergeEvent r (e.pend.drop free) }

/-- A record that this device takes in: when its occurrences were. -/
def EvRec.taken (r : EvRec) (s : State) : EvRec :=
  { r with ord := occurred r.frame r.row s, lastOrd := occurred r.lastFrame r.lastRow s }

/-- A record given to the event queues, or held while there is none (R372). -/
def deliverEvent (r : EvRec) (s : State) : State :=
  let r := r.taken s
  if s.host.eqs.isEmpty then { s with host.held := mergeEvent r s.host.held }
  else { s with host.eqs := kmap none (fun _ x => x.map (fun e => if e.takes r.code then e.push r else e)) s.host.eqs }

/-- Words of an event record, word 3 without PHASE (Table 13.12). -/
def EvRec.words (r : EvRec) : List W64 :=
  [pack [(3, 0, 1), (23, 8, r.code), (29, 24, r.device), (63, 32, r.seq)],
   pack [(47, 0, r.frame), (55, 48, r.row), (63, 56, r.lastRow)],
   pack [(47, 0, r.lastFrame), (63, 48, r.merged)],
   pack [(31, 0, r.term)],
   wd r.payload 0, wd r.payload 1, wd r.payload 2, wd r.payload 3]

/-- A record that a member keeps while it cannot reach the gateway (R388). -/
def keepEvent (r : EvRec) (s : State) : State :=
  { s with host.memPend := mergeEvent (r.taken s) s.host.memPend }

/-- An event raised: counted (EVENT_SEQ), stamped, and delivered on the gateway, sent to it from any other member, or
kept while the gateway cannot be reached (R388). -/
def raise (code : Nat) (payload : List W64) (s : State) : State :=
  let r : EvRec := { code := code, device := s.flight.addr, seq := (s.host.evSeq + 1) % 2 ^ 32, frame := s.time.frame,
                     row := s.time.row, lastFrame := s.time.frame, lastRow := s.time.row, merged := 1,
                     term := s.advTerm, payload := payload }
  let s := countEvent 0x49 (eventGroup code) 1 { s with host.evSeq := (s.host.evSeq + 1) % 2 ^ 32 }
  if s.isGateway then deliverEvent r s
  else match s.gatewayAddr with
    | some g => if s.flight.addressed && (s.member g).routed then towSend 0x9 g r.words s else keepEvent r s
    | none => keepEvent r s

/-- Summary layout S of Table 13.13: count, lowest object, its code; nothing is raised for no object. -/
def raiseSummary (code : Nat) (objs : List Nat) (detail : Nat) (w5 : Nat) (s : State) : State :=
  match objs with
  | [] => s
  | o :: os => raise code [pack [(31, 0, os.length + 1), (63, 32, os.foldl min o)],
                           pack [(7, 0, detail), (63, 8, w5)]] s

/-! ## Replies and completion (R363, R367, R369) -/

/-- Holder fields, word 3 [38:0] of a reply (R367). -/
def State.holder (s : State) : Nat :=
  let adv := s.twin.role.adv
  if adv = 0 ∨ adv = 1 then s.advTerm + 2 ^ 32 * s.flight.addr + 2 ^ 38
  else match s.twin.hb with
    | some b => if b.role = 1 ∧ b.term = s.twin.hterm then b.term + 2 ^ 32 * s.partner + 2 ^ 38 else s.twin.hterm
    | none => s.twin.hterm

/-- The reply of a command completed with a status, DONE_FRAME and DONE_ROW, and reply words. -/
def mkReply (k : Key) (c : Cmd) (device status frame row : Nat) (ws : List W64) : Reply :=
  { opcode := c.opcode, seq := k.seq, q := k.q, status := status, frame := frame, row := row, device := device,
    cached := false, session := k.session, words := ws, holder := none }

/-- Words of a reply, with the fields that its writing fixes (Table 13.10). -/
def Reply.wordsOf (r : Reply) (sqHead holder : Nat) (phase : Bool) : List W64 :=
  [pack [(3, 0, 1), (23, 8, r.opcode), (55, 24, r.seq), (61, 56, r.q)],
   pack [(15, 0, r.status), (27, 16, sqHead)],
   pack [(47, 0, r.frame), (55, 48, r.row), (61, 56, r.device)],
   pack [(38, 0, (r.holder).getD holder), (39, 39, b2n r.cached), (49, 40, r.session), (63, 63, b2n phase)],
   wd r.words 0, wd r.words 1, wd r.words 2, wd r.words 3]

/-- A reply read from the 64 bytes that a REPLY packet carries. -/
def replyOfWords (ws : List W64) : Reply :=
  { opcode := fld (wd ws 0) 23 8, seq := fld (wd ws 0) 55 24, q := fld (wd ws 0) 61 56, status := fld (wd ws 1) 15 0,
    frame := fld (wd ws 2) 47 0, row := fld (wd ws 2) 55 48, device := fld (wd ws 2) 61 56, cached := bit (wd ws 3) 39,
    session := fld (wd ws 3) 49 40, words := ws.drop 4, holder := some (fld (wd ws 3) 38 0) }

/-- A reply put behind the replies that wait for the queue's completion queue; none where the queue is gone (R355). -/
def postReply (r : Reply) (s : State) : State :=
  match s.sq r.q with
  | some sq =>
    if sq.session = r.session then
      match s.cq sq.cq with
      | some cq => s.setCq sq.cq (some { cq with pend := cq.pend ++ [r] })
      | none => s
    else s
  | none => s

/-- The one reply to a broadcast (R397). -/
def bcastReply (b : Bcast) (s : State) : Reply :=
  { opcode := b.opcode, seq := b.key.seq, q := b.key.q, status := b.status, frame := s.time.frame, row := s.time.row,
    device := if b.status = 0 then s.flight.addr else b.device, cached := b.cached, session := b.key.session,
    words := [w64 (b.ok.foldl (fun a i => a + 2 ^ i) 0), w64 (b.fail.foldl (fun a i => a + 2 ^ i) 0), 0, b.first],
    holder := none }

/-- A broadcast after member d has answered with a status, its first reply word and CACHED (R397). -/
def Bcast.step (b : Bcast) (d status : Nat) (first : W64) (cached : Bool) : Bcast :=
  let b := { b with waiting := b.waiting.filter (· ≠ d), cached := b.cached && cached }
  if status = 0 then
    { b with ok := d :: b.ok, first := if b.ok.all (fun x => decide (d < x)) then first else b.first }
  else
    { b with fail := d :: b.fail,
             status := if b.fail.all (fun x => decide (d < x)) then status else b.status,
             device := if b.fail.all (fun x => decide (d < x)) then d else b.device }

/-- Broadcasts that every member has answered are completed. -/
def flushBcast (s : State) : State :=
  let done := s.host.bcast.filter (fun b => b.waiting.isEmpty)
  done.foldl (fun s b => postReply (bcastReply b s) s)
    { s with host.bcast := s.host.bcast.filter (fun b => !b.waiting.isEmpty) }

/-- A broadcast waits for member d under this key. -/
def Bcast.waitsFor (b : Bcast) (k : Key) (d : Nat) : Bool := decide (b.key = k) && b.waiting.contains d

/-- The first element that satisfies p replaced by f of it. -/
def modFirst {α : Type} (p : α → Bool) (f : α → α) : List α → List α
  | [] => []
  | x :: xs => if p x then f x :: xs else x :: modFirst p f xs

/-- The first element that satisfies p taken out. -/
def dropFirst {α : Type} (p : α → Bool) : List α → List α
  | [] => []
  | x :: xs => if p x then xs else x :: dropFirst p xs

/-- A reply of a member reaches the gateway: it counts for a broadcast that waits for that member, else it goes to its
completion queue. -/
def gatewayReply (r : Reply) (s : State) : State :=
  let k : Key := { q := r.q, session := r.session, seq := r.seq }
  if s.host.bcast.any (fun b => b.waitsFor k r.device) then
    let f := fun (b : Bcast) => b.step r.device r.status (wd r.words 0) r.cached
    flushBcast { s with host.bcast := modFirst (fun b => b.waitsFor k r.device) f s.host.bcast }
  else postReply r s

/-- A reply sent to where its command came from. -/
def sendReply (k : Key) (r : Reply) (s : State) : State :=
  match k.gw with
  | none => gatewayReply r s
  | some g =>
    let r' := { r with holder := some s.holder }
    towSend 0x8 g (r'.wordsOf 0 0 false) s

/-- Where the sequence state of a queue and session is kept (R362). -/
def Key.seqAt (k : Key) : Nat := 1024 * k.q + k.session

/-- Sequence state of the queue and session of a command (R362). -/
def State.seqSt (s : State) (k : Key) : SeqSt := kget {} s.host.seq k.seqAt

/-- The reply of a command that has passed check 8 joins the last 256 (R362). -/
def cacheReply (k : Key) (c : Cmd) (r : Reply) (s : State) : State :=
  let e := s.seqSt k
  if e.high.isSome then
    let x : Cached := { seq := k.seq, crc := c.crc, reply := r }
    let e' : SeqSt := { e with cache := (x :: e.cache).take 256 }
    { s with host.seq := kset {} s.host.seq k.seqAt e' }
  else s

/-- Duplicates that waited for their original are answered after it (R363). -/
def flushDups (k : Key) (r : Reply) (s : State) : State :=
  let mine := s.host.dups.filter (fun d => decide (d.key = k))
  mine.foldl (fun s d => sendReply d.key { r with cached := true } s)
    { s with host.dups := s.host.dups.filter (fun d => decide (d.key ≠ k)) }

/-- A command that has passed check 8 completed with a given DONE_FRAME and DONE_ROW. -/
def completeAt (k : Key) (c : Cmd) (status frame row : Nat) (ws : List W64) (s : State) : State :=
  let r := mkReply k c s.flight.addr status frame row ws
  flushDups k r (sendReply k r (cacheReply k c r s))

/-- A started command completed now (R369). -/
def finish (r : Run) (status : Nat) (ws : List W64) (s : State) : State :=
  completeAt r.key r.cmd status s.time.frame s.time.row ws
    { s with host.prog := dropFirst (fun x => decide (x.key = r.key)) s.host.prog }

/-- A started command whose effect or completion is still to come. -/
def later (r : Run) (s : State) : State := { s with host.prog := s.host.prog ++ [r] }

/-- The started command of key k, if it is not complete. -/
def State.run (s : State) (k : Key) : Option Run := s.host.prog.find? (fun r => decide (r.key = k))

/-- A started command named by its key completed now, if it is not complete. -/
def finishKey (k : Key) (status : Nat) (ws : List W64) (s : State) : State :=
  match s.run k with
  | some r => finish r status ws s
  | none => s

/-- The started commands that are not complete, the engine's apart. -/
def State.begun (s : State) : List Run := s.host.prog ++ s.host.wr.map (·.run)

/-- The commands in progress of one opcode, in start order. -/
def State.progOf (s : State) (op : Nat) : List Run := s.host.prog.filter (fun r => r.cmd.opcode == op)

/-- Master m is neither held in reset nor kept from any of these targets, because one of them is wedged (R19, R412, R417). -/
def State.reaches (m : Nat) (ts : List Nat) (s : State) : Bool :=
  !(s.mx.reset.any (fun x => x.1 == m)) && !(ts.any (fun t => s.mx.wedged.contains t))

/-- The targets whose objects the control cores read or write as they execute an opcode, as master M0 (R19, Tables 1.5, 17.2). The
recovery sequencer is no master (R452); plan and page commands, roles and the flight have other masters. -/
def coreTargets (op : Nat) : List Nat :=
  match op / 256 with
  | 0x04 => [1]
  | 0x05 => [3]
  | 0x06 => [4]
  | 0x09 => [2]
  | _ => []

/-- Master m is held in reset (R417). -/
def State.masterHeld (m : Nat) (s : State) : Bool := s.mx.reset.any (fun x => x.1 == m)

/-- The targets that an opcode reads or writes through the boot and security engine, master M7 (R19, Tables 1.4, 1.5): the boot flash
and the fuses, or the identity. -/
def bootTargets (op : Nat) : List Nat :=
  match op with
  | 0x0802 | 0x0B10 | 0x0B11 | 0x0B12 | 0x0B20 | 0x0B21 | 0x0B22 => [7]
  | 0x0B01 | 0x0B02 | 0x0B03 => [8]
  | _ => []

/-- Nothing keeps the command engine from the objects of an opcode, nor the boot engine that acts for it (R19, R412, R417). -/
def State.engineReaches (op : Nat) (s : State) : Bool :=
  s.reaches 0 (coreTargets op) && ((bootTargets op).isEmpty || s.reaches 7 (bootTargets op))

/-- A master that an opcode needs is held in reset (R417). -/
def State.engineHeld (op : Nat) (s : State) : Bool := s.masterHeld 0 || (!(bootTargets op).isEmpty && s.masterHeld 7)

/-- A request that meets a wedged target is answered with a target error, which is counted; a master in reset sends none
(R412, R413, R417). -/
def notReached (m : Nat) (s : State) : State :=
  if s.masterHeld m then s else { s with mx.tgtErr := sat 0xFFFFFFFF (s.mx.tgtErr + 1) }

/-- What the engine executes: the started command it holds, when it has this opcode; else the step has no command to act
on and nothing changes (log entry 10). A command waits while its master is in reset, and one that meets a wedged target is
completed with ST_FUNCTION_DOWN (R19, R412, R413). -/
def onEngine (op : Nat) (f : Run → State → State) (s : State) : Res :=
  match s.host.engine with
  | some r =>
    if r.cmd.opcode = op then
      if op / 256 = 0x0A ∨ s.engineReaches op = true then .next (f r { s with host.engine := none })
      else if s.engineHeld op then .next s
      else .next (finish r stFunctionDown [] { s with host.engine := none, mx.tgtErr := sat 0xFFFFFFFF (s.mx.tgtErr + 1) })
    else .next s
  | none => .next s

/-- The command's LENGTH is the size that its layout gives (R499). -/
def sizeOk (r : Run) : Bool :=
  match fixedBytes r.cmd.opcode with
  | some n => r.cmd.length == n
  | none => true

/-- A command refused for a parameter (R6, R360). -/
def invalid (r : Run) (s : State) : State := finish r stInvalidParam [] s

/-- CFG_SEQ advances when a command has changed configuration (R456). -/
def bumpCfg (s : State) : State := { s with rcv.cfgSeq := (s.rcv.cfgSeq + 1) % 2 ^ 32 }

end Sys2Proof.Machine
end

