-- ==== Sys2Proof/Machine/Fabric.lean ====
section
/-! DEFINITION. Chapters 3 and 5: connection entries, tributary records, legs and the stage memory, the conditions of R70,
and what a core row becomes on its way through the core. -/

namespace Sys2Proof.Machine

open Sys2Proof

/-! ## Connection entries (Table 3.2) -/

def eValid (e : BitVec 32) : Bool := bit e 31
def eKind (e : BitVec 32) : Nat := fld e 30 29
def eLane (e : BitVec 32) : Nat := fld e 28 20
def eSlot (e : BitVec 32) : Nat := fld e 19 7

/-- The entry takes its word from an ingress slot. -/
def eLeg (e : BitVec 32) : Bool := eValid e && eKind e == 1

/-- R64: the device rejects the entry. -/
def entryBad (e : BitVec 32) : Bool :=
  (!eValid e && fld e 30 0 != 0) ||
  (eKind e != 1 && (eLane e != 0 || eSlot e != 0)) ||
  decide (6143 < eSlot e) || fld e 6 0 != 0

/-- Entry index of slot s of lane L (R57). -/
def entryIndex (lane slot : Nat) : Nat := lane * 6144 + slot

/-- The entry of an index. -/
def Page.entry (p : Page) (e : Nat) : BitVec 32 := kget 0 p.entries e

/-! ## Tributary records (Table 5.1) -/

/-- Word w of record t. -/
def Page.tribWord (p : Page) (t w : Nat) : W64 := kget 0 p.tribs (8 * t + w)

/-- The eight words of record t. -/
def Page.tribRec (p : Page) (t : Nat) : List W64 := (List.range 8).map (p.tribWord t)

def tCount (ws : List W64) : Nat := fld (wd ws 0) 3 0
def tProt (ws : List W64) : Bool := bit (wd ws 0) 4
def tRev (ws : List W64) : Bool := bit (wd ws 0) 5
def tSdSw (ws : List W64) : Bool := bit (wd ws 0) 6
def tNoSubst (ws : List W64) : Bool := bit (wd ws 0) 7
def tLane (ws : List W64) : Nat := fld (wd ws 0) 16 8
def tALane (ws : List W64) : Nat := fld (wd ws 0) 25 17
def tBLane (ws : List W64) : Nat := fld (wd ws 0) 34 26
def tBFirst (ws : List W64) : Nat := fld (wd ws 0) 47 35
/-- HOLD_TIME in rows: units of 0.5 ms; 0 = 4. -/
def tHoldRows (ws : List W64) : Nat := (if fld (wd ws 0) 53 48 = 0 then 4 else fld (wd ws 0) 53 48) * 1000
/-- SF_ROWS; 0 = 4. -/
def tSfRows (ws : List W64) : Nat := if fld (wd ws 0) 61 54 = 0 then 4 else fld (wd ws 0) 61 54
/-- WTR in rows; 0 = 300 s. -/
def tWtrRows (ws : List W64) : Nat := (if fld (wd ws 1) 11 0 = 0 then 300 else fld (wd ws 1) 11 0) * 2000000

/-- RANGE[j] as 32 bits. -/
def tRange (ws : List W64) (j : Nat) : Nat :=
  if j % 2 = 0 then fld (wd ws (2 + j / 2)) 31 0 else fld (wd ws (2 + j / 2)) 63 32

/-- The ranges in use: first slot and count. -/
def tRanges (ws : List W64) : List (Nat × Nat) :=
  (List.range (min 8 (tCount ws))).map (fun j => (tRange ws j % 2 ^ 13, (tRange ws j / 2 ^ 13) % 2 ^ 13))

/-- Number of members. -/
def tSize (ws : List W64) : Nat := (tRanges ws).foldl (fun a r => a + r.2) 0

/-- The members: egress slots in ascending order (R115). -/
def tMembers (ws : List W64) : List Nat :=
  (tRanges ws).flatMap (fun r => (List.range r.2).map (r.1 + ·))

/-- Member number of an egress slot (R115). -/
def memberOf : List (Nat × Nat) → Nat → Option Nat
  | [], _ => none
  | (f, c) :: rs, s =>
    if f ≤ s ∧ s < f + c then some (s - f) else (memberOf rs s).map (· + c)

/-- Ranges in ascending order, apart from each other, inside the lane (R115). -/
def rangesOk : Nat → List (Nat × Nat) → Bool
  | _, [] => true
  | n, (f, c) :: rs => decide (n ≤ f ∧ 1 ≤ c ∧ f + c ≤ 6144) && rangesOk (f + c) rs

/-- The record keeps Table 5.1 and R115. -/
def tribOk (ws : List W64) : Bool :=
  let w0 := wd ws 0
  let w1 := wd ws 1
  if tCount ws = 0 then ws.all (· == 0)
  else
    decide (tCount ws ≤ 8) && fld w0 63 62 == 0 && fld w1 63 12 == 0 && wd ws 6 == 0 && wd ws 7 == 0 &&
    decide (fld w0 53 48 ≤ 32) && decide (fld w0 61 54 ≤ 250) &&
    rangesOk 0 (tRanges ws) &&
    (List.range 8).all (fun j => if j < tCount ws then tRange ws j / 2 ^ 26 == 0 else tRange ws j == 0) &&
    (if tProt ws then
        decide (tBFirst ws + tSize ws ≤ 6144) && tALane ws != tBLane ws && (tRev ws || fld w1 11 0 == 0)
      else fld w0 7 5 == 0 && fld w0 47 17 == 0 && fld w1 11 0 == 0)

/-- Tributaries in use in a page. -/
def Page.tribList (p : Page) : List Nat :=
  p.tribs.filterMap (fun e => if e.1 % 8 = 0 ∧ fld e.2 3 0 ≠ 0 then some (e.1 / 8) else none)

/-- The tributary that slot s of lane L belongs to (R116). -/
def Page.tribAt (p : Page) (lane slot : Nat) : Option Nat :=
  p.tribList.find? (fun t =>
    let ws := p.tribRec t
    tLane ws == lane && (memberOf (tRanges ws) slot).isSome)

/-- The copy B source of a slot: B_LANE and B_FIRST + k for member k of a protected tributary (R115). -/
def Page.copyB (p : Page) (lane slot : Nat) : Option (Nat × Nat) :=
  match p.tribAt lane slot with
  | some t =>
    let ws := p.tribRec t
    if tProt ws then (memberOf (tRanges ws) slot).map (fun k => (tBLane ws, tBFirst ws + k)) else none
  | none => none

/-- R117 for one entry: an entry of a protected tributary's slot is a leg from A_LANE. -/
def Page.entryFits (p : Page) (lane slot : Nat) (e : BitVec 32) : Bool :=
  match p.tribAt lane slot with
  | some t =>
    let ws := p.tribRec t
    !tProt ws || (eLeg e && eLane e == tALane ws)
  | none => true

/-- R116 and R117 for record ws of tributary t in a page. -/
def Page.tribFits (p : Page) (t : Nat) (ws : List W64) : Bool :=
  tCount ws == 0 ||
  ((p.tribList.all (fun u => u == t || tLane (p.tribRec u) != tLane ws ||
      (tRanges ws).all (fun r => (tRanges (p.tribRec u)).all (fun q =>
        decide (r.1 + r.2 ≤ q.1 ∨ q.1 + q.2 ≤ r.1))))) &&
   (!tProt ws || (tMembers ws).all (fun m =>
      let e := p.entry (entryIndex (tLane ws) m)
      eLeg e && eLane e == tALane ws)))

/-- Every record of a page keeps R116 and R117. -/
def Page.tribsFit (p : Page) : Bool := p.tribList.all (fun t => p.tribFits t (p.tribRec t))

/-- A record written into a page. -/
def Page.setTrib (p : Page) (t : Nat) (ws : List W64) : Page :=
  { p with tribs := ksetRun 0 p.tribs (8 * t) ((List.range 8).map (wd ws)) }

/-- An entry written into a page. -/
def Page.setEntry (p : Page) (e : Nat) (v : BitVec 32) : Page := { p with entries := kset 0 p.entries e v }

/-- Edits in the order of their start (R86). -/
def Page.edit (p : Page) (es : List (Nat × BitVec 32)) (ts : List (Nat × List W64)) : Page :=
  ts.foldl (fun p t => p.setTrib t.1 t.2) (es.foldl (fun p e => p.setEntry e.1 e.2) p)

/-! ## Legs and the stage memory (R69, R70) -/

/-- One copy of one egress slot with its source. -/
structure Leg where
  lane : Nat
  copyB : Bool
  slot : Nat
  inLane : Nat
  inSlot : Nat
deriving DecidableEq, Repr

/-- The legs of a page: kind-01 entries, and copy B of the slots of protected tributaries. -/
def Page.legs (p : Page) : List Leg :=
  (p.entries.filterMap (fun e =>
    if eLeg e.2 then some { lane := e.1 / 6144, copyB := false, slot := e.1 % 6144, inLane := eLane e.2, inSlot := eSlot e.2 }
    else none)) ++
  (p.tribList.flatMap (fun t =>
    let ws := p.tribRec t
    if tProt ws then
      (tMembers ws).filterMap (fun m => (memberOf (tRanges ws) m).map (fun k =>
        { lane := tLane ws, copyB := true, slot := m, inLane := tBLane ws, inSlot := tBFirst ws + k }))
    else []))

/-- The source of the leg that a stage memory word names at output port o (Table 3.4). -/
def Page.source (p : Page) (o : Nat) (w : BitVec 16) : Option (Nat × Nat) :=
  if bit w 14 then p.copyB o (fld w 12 0)
  else
    let e := p.entry (entryIndex o (fld w 12 0))
    if eLeg e then some (eLane e, eSlot e) else none

/-- The stage memory words with USED 1: output port, internal slot, word. -/
def Page.used (p : Page) : List (Nat × Nat × BitVec 16) :=
  p.stage.filterMap (fun e => if bit e.2 15 then some (e.1 / 12288, e.1 % 12288, e.2) else none)

/-- R70, conditions 1 to 3. -/
def Page.check (p : Page) : Bool :=
  let us := p.used
  p.legs.all (fun l =>
    (us.filter (fun u => u.1 == l.lane && bit u.2.2 14 == l.copyB && fld u.2.2 12 0 == l.slot)).length == 1) &&
  us.all (fun u => (p.source u.1 u.2.2).isSome && decide (fld u.2.2 12 0 < 6144) && !bit u.2.2 13) &&
  us.all (fun u => us.all (fun v => u.2.1 != v.2.1 ||
    match p.source u.1 u.2.2, p.source v.1 v.2.2 with
    | some a, some b => a.1 != b.1 || a.2 == b.2
    | _, _ => true))

/-- Internal slot of a leg in a page. -/
def Page.slotOf (p : Page) (l : Leg) : Option Nat :=
  (p.used.find? (fun u => u.1 == l.lane && bit u.2.2 14 == l.copyB && fld u.2.2 12 0 == l.slot)).map (·.2.1)

/-- Existing legs that the new page gives another internal slot (Table 4.6, MOVED_LEGS). -/
def movedLegs (old new : Page) : Nat :=
  (old.legs.filter (fun l => new.legs.contains l && decide (old.slotOf l ≠ new.slotOf l))).length

/-- Legs whose source is a slot of lane j. -/
def Page.legsOf (p : Page) (j : Nat) : Nat := (p.legs.filter (fun l => l.inLane == j)).length

/-- R76: the legs of every lane number 12,288 or fewer. -/
def Page.budgetOk (p : Page) : Bool := (List.range 512).all (fun j => decide (p.legsOf j ≤ 12288))

/-- Internal slots in use at output port o. -/
def Page.occOut (p : Page) (o : Nat) : Nat := (p.used.filter (fun u => u.1 == o)).length

/-- Internal slots in use at input port j: a space fan-out uses one (R71). -/
def Page.occIn (p : Page) (j : Nat) : Nat :=
  ((p.used.filterMap (fun u => (p.source u.1 u.2.2).bind (fun x => if x.1 = j then some u.2.1 else none))).eraseDups).length

/-- R74 routes every new leg of the new page: at each one the occupancy of its input and of its output port, counted before
it is added, sums to 12,287 or less. DESIGN CHOICE (log entry 14): every new leg counts as one internal slot of its own at its input
port, a leg that joins a space fan-out too. -/
def r74Covers (old new : Page) : Bool :=
  let kept := new.legs.filter (fun l => old.legs.contains l)
  let fresh := new.legs.filter (fun l => !old.legs.contains l)
  let base : Page := { new with stage := old.stage.filter (fun e =>
    kept.any (fun l => l.lane == e.1 / 12288 && l.copyB == bit e.2 14 && l.slot == fld e.2 12 0)) }
  (fresh.foldl (fun (a : Bool × List Leg) l =>
    (a.1 && decide (base.occIn l.inLane + (a.2.filter (fun m => m.inLane == l.inLane)).length +
        base.occOut l.lane + (a.2.filter (fun m => m.lane == l.lane)).length ≤ 12287), l :: a.2)) (true, [])).1

/-! ## A row through the core (R16, R18, R59 to R62, R65) -/

/-- The word and tag of ingress slot a of lane j in a core row; none where the row is missing (R18). -/
def rowWord (row : KMap (Option BargeW)) (j a : Nat) : Option (BitVec 32 × Bool) :=
  (kget none row (24 * j + a / 256)).map (fun b => (b.words.getD (a % 256) 0, b.tag))

/-- The space stage: the egress halves of a core row, by o × 12,288 + position. A word of a missing row is a free value
with an invalid tag, one value for every leg that the ingress slot feeds (R71). -/
def spaceStage (p : Page) (row : KMap (Option BargeW)) (free : Nat) : KMap (Option (BitVec 32 × Bool)) :=
  p.used.foldl (fun acc u =>
    match p.source u.1 u.2.2 with
    | some src =>
      let pos := u.1 * 12288 + (if bit u.2.2 14 then 6144 else 0) + fld u.2.2 12 0
      let w := (rowWord row src.1 src.2).getD (Config.freeWord (free + entryIndex src.1 src.2), false)
      kset none acc pos (some w)
    | none => acc) []

/-- The word at an egress position; a position that no leg wrote holds an invalid word (R122). -/
def half (row : KMap (Option (BitVec 32 × Bool))) (lane pos : Nat) : BitVec 32 × Bool :=
  (kget none row (lane * 12288 + pos)).getD (0, false)

/-- Where the word of a member slot comes from (R123, R124, R126, Table 3.3). -/
inductive Pick where
  | plain
  | substB
  | substA
  | held
  | ones
deriving DecidableEq, Repr

/-- R123: the word of a member of a protected tributary. -/
def pickProtected (selB noSubst lo expired : Bool) (a b : BitVec 32 × Bool) (held : BitVec 32) : BitVec 32 × Pick :=
  let x := if selB then b else a
  let y := if selB then a else b
  if x.2 then (x.1, .plain)
  else if y.2 && !noSubst && !lo then (y.1, if selB then .substA else .substB)
  else if expired then (0xFFFFFFFF#32, .ones)
  else (held, .held)

/-- R124: the word of a member of a tributary that is not protected. -/
def pickPlain (expired : Bool) (a : BitVec 32 × Bool) (held : BitVec 32) : BitVec 32 × Pick :=
  if a.2 then (a.1, .plain)
  else if expired then (0xFFFFFFFF#32, .ones)
  else (held, .held)

end Sys2Proof.Machine
end

