-- ==== Sys2Proof/Machine/HostIf.lean ====
section
/-! DEFINITION. Chapter 13: the register window, the queues, fetching and starting commands, replies, NOP and the queue
opcodes. -/

namespace Sys2Proof.Machine

open Sys2Proof

/-- A function is re-initialising (Table 17.6). -/
def State.fnDown (s : State) (f : Nat) : Bool := s.rcv.down.any (fun r => r.f == f)

/-- Commands that wait for a work queue credit move into the work queue as credits come back (R23, R26). -/
def refill (s : State) : State :=
  let n := 256 - s.host.work.length
  { s with host.work := s.host.work ++ s.host.staging.take n, host.staging := s.host.staging.drop n }

/-- Statuses with which an opcode's own meaning refuses a command at check 12 (Table 13.9). -/
def check12 : List Nat :=
  [stInvalidParam, stNotActive, stTooLate, stScheduleConflict, stBusy, stPrivilege, stNoPage, stProtRefused, stRefRefused,
   stHandoverRefused]

/-- The command of key k has failed check 12, so it was not started (R359). -/
def refusedAtStart (k : Key) (s : State) : Bool :=
  (s.seqSt k).cache.any (fun c => c.seq == k.seq && check12.contains c.reply.status)

/-- The word by which the gateway tells a member that it has deleted a queue (R355; DESIGN CHOICE, log entry 104): a CMD packet without a
command, its queue in the place of QUEUE. -/
def deletedWord (q : Nat) : W64 := pack [(61, 56, q)]

/-- The CMD packets of a deleted queue that have not been acknowledged carry no command any longer; they keep their numbers, so
that no series has a gap (R355, R387). DESIGN CHOICE (log entry 104). -/
def emptyCmd (q : Nat) (p : TowPkt) : TowPkt :=
  if p.type = 7 ∧ fld (wd p.payload 0) 61 56 = q then { p with payload := [] } else p

/-- What the gateway has sent on to other members for a deleted queue is withdrawn (R355): commands that wait in its ports or for
an ACK, and what it keeps of commands that are not complete, since nobody takes their replies. Every other member is told of the
deletion, since it may hold commands of the queue that it has not started (log entry 104). -/
def withdrawSent (q : Nat) (s : State) : State :=
  let port := fun (x : TowPort) => { x with queue := x.queue.map (fun e =>
    if e.pkt.src = s.flight.addr ∧ s.flight.addressed = true then { e with pkt := emptyCmd q e.pkt } else e) }
  let others := (s.flight.members.filter (fun e => e.2.present && e.1 != s.flight.addr)).map (·.1)
  let s := { s with
    flight.a := port s.flight.a, flight.b := port s.flight.b,
    flight.unacked := s.flight.unacked.map (fun u => { u with pkt := emptyCmd q u.pkt }),
    host.fwd := s.host.fwd.filter (fun f => f.key.q != q), host.bcast := s.host.bcast.filter (fun b => b.key.q != q) }
  others.foldl (fun s m => towSend 0x7 m [deletedWord q] s) s

/-! ## Deleting queues (R344, R355, R373) -/

/-- A submission queue deleted: commands not started are withdrawn without a reply, replies not written are dropped, and
its sequence state and cache are discarded (R355). -/
def deleteSq (q : Nat) (s : State) : State :=
  match s.sq q with
  | none => s
  | some sq =>
    let mine : Key → Bool := fun k => decide (k.q = q ∧ k.gw = none)
    let s := s.setSq q none
    let s := match s.cq sq.cq with
      | some cq => s.setCq sq.cq (some { cq with pend := cq.pend.filter (fun r => r.q != q) })
      | none => s
    withdrawSent q <| refill { s with
      host.work := s.host.work.filter (fun w => !mine w.key), host.staging := s.host.staging.filter (fun w => !mine w.key),
      host.dups := s.host.dups.filter (fun w => !mine w.key),
      host.starts := s.host.starts.filter (fun x => !(mine x.1 && refusedAtStart x.1 s)),
      host.seq := s.host.seq.filter (fun e => e.1 / 1024 != q) }

/-- An event queue deleted: pending records that no remaining queue takes are held (R373). -/
def deleteEq (e : Nat) (s : State) : State :=
  match s.evq e with
  | none => s
  | some x =>
    let s := s.setEvq e none
    let lost := x.pend.filter (fun r => !(s.host.eqs.any (fun y => y.2.any (fun z => z.takes r.code))))
    { s with host.held := lost.foldl (fun h r => mergeEvent r h) s.host.held }

/-- An event queue created takes the held records of its groups (R372). -/
def createEq (e : Nat) (x : EvQ) (s : State) : State :=
  let mine := s.host.held.filter (fun r => x.takes r.code)
  { s.setEvq e (some (mine.foldl (fun y r => y.push r) x)) with
    host.held := s.host.held.filter (fun r => !x.takes r.code) }

/-- The action of R344: every queue deleted, ADMIN_CTRL cleared, the MSI-X configuration forgotten. -/
def functionReset (s : State) : State :=
  let s := (s.host.sqs.map (·.1)).foldl (fun s q => deleteSq q s) s
  let s := (s.host.eqs.map (·.1)).foldl (fun s e => deleteEq e s) s
  { s with host.cqs := [], host.ctrl := 0, host.msix := [], host.pba := [], host.irqSent := [], host.irqWant := [] }

/-- The next session (R354). -/
def nextSession (n : Nat) : Nat := if n = 1023 then 1 else n + 1

/-! ## The register window (R346 to R348) -/

/-- ADMIN_STATUS ON: queue pair 0 exists. -/
def State.adminOn (s : State) : Bool := (s.sq 0).isSome

/-- The 64-bit word at an 8-byte offset of the window; Tables 13.2 and 13.3. -/
def windowWord (off : Nat) (s : State) : Nat :=
  if off = 0 then
    0xB1 + 0x01 * 2 ^ 8 + 2 ^ 32 * (s.boot.st.code + 2 ^ 4 * b2n s.ready + 2 ^ 5 * b2n s.isGateway + 2 ^ 6 * s.flight.addr)
  else if off = 8 then
    s.time.frame + 2 ^ 48 * s.time.row + 2 ^ 56 * b2n s.time.anchored + 2 ^ 57 * s.f.state.code
  else if off = 0x10 then s.host.sqBase.toNat
  else if off = 0x18 then s.host.cqBase.toNat
  else if off = 0x20 then
    s.host.ctrl.toNat + 2 ^ 32 * ((match s.sq 0 with | some q => q.session | none => 0) +
      2 ^ 10 * b2n s.adminOn + 2 ^ 11 * b2n s.host.fault)
  else if 0x2000 ≤ off ∧ off < 0x2200 then
    match s.sq ((off - 0x2000) / 8) with
    | some q => q.fetch + 2 ^ 12 * (q.credits - q.used)
    | none => 0
  else if 0x8000 ≤ off ∧ off < 0x8480 then
    (kget 0 s.host.msix ((off - 0x8000) / 4)).toNat + 2 ^ 32 * (kget 0 s.host.msix ((off - 0x8000) / 4 + 1)).toNat
  else if off = 0x9000 then (s.host.pba.filter (· < 64)).foldl (fun a v => a + 2 ^ v) 0
  else if off = 0x9008 then (s.host.pba.filter (64 ≤ ·)).foldl (fun a v => a + 2 ^ (v - 64)) 0
  else 0

/-- A refused ADMIN_CTRL write (R347). -/
def adminRefused (v : BitVec 32) (s : State) : Bool :=
  let en := bit v 31
  !s.ready ||
  (en && !s.adminOn && (fld v 3 0 < 4 || fld v 3 0 > 12 || fld v 7 4 < 4 || fld v 7 4 > 12 || fld v 14 8 > 71)) ||
  fld v 30 16 != 0 ||
  (s.adminOn && fld v 15 0 != fld s.host.ctrl 15 0) ||
  (!en && s.adminOn && s.host.sqs.any (fun x => x.1 != 0 && x.2.any (fun q => q.cq == 0)))

/-- An ADMIN_CTRL write (R347). -/
def adminCtrl (v : BitVec 32) (s : State) : State :=
  if adminRefused v s then { s with host.fault := true }
  else
    let s := { s with host.fault := false, host.ctrl := v }
    if bit v 31 && !s.adminOn then
      let n := nextSession s.host.sessions
      let s := { s with host.sessions := n }
      let s := s.setCq 0 (some { base := s.host.cqBase, log2 := fld v 7 4, vector := fld v 14 8, irq := bit v 15 })
      s.setSq 0 (some { base := s.host.sqBase, cq := 0, log2 := fld v 3 0, priv := 2, credits := 16, session := n })
    else if !bit v 31 && s.adminOn then (deleteSq 0 s).setCq 0 none
    else s

/-- EV_QUEUE_FAULT (Table 13.13). -/
def queueFault (kind : QKind) (q cause : Nat) (s : State) : State :=
  let k := match kind with | .sq => 0 | .cq => 1 | .eq => 2
  raise 0x0101 [pack [(5, 0, q), (7, 6, k), (15, 8, cause)]] s

/-- Entries that a head write consumes: from the current head up to the index it names, and none beyond the entries
written (R351; log entry 12). -/
def consumed (wr unread log2 index : Nat) : Nat :=
  let size := 2 ^ log2
  min unread ((index + size - (wr - unread) % size) % size)

/-- Units between the fetch position and a new tail (R349). DESIGN CHOICE (log entry 102): a tail at the fetch position announces
every unit of the queue, since the host writes SQ_TAIL only after a command. -/
def Sq.announced (x : Sq) (tail : Nat) : Nat :=
  let n := (tail + 2 ^ x.log2 - x.fetch) % 2 ^ x.log2
  if n = 0 then 2 ^ x.log2 else n

/-- The three doorbells (R348, R351). -/
def sqTail (q : Nat) (v : BitVec 32) (s : State) : State :=
  match s.sq q with
  | some x =>
    if fld v 11 0 < 2 ^ x.log2 then s.setSq q (some { x with tail := fld v 11 0, avail := x.announced (fld v 11 0) })
    else queueFault .sq q 1 s
  | none => queueFault .sq q 1 s

def cqHead (q : Nat) (v : BitVec 32) (s : State) : State :=
  match s.cq q with
  | some x =>
    if fld v 11 0 < 2 ^ x.log2 then
      s.setCq q (some { x with unread := x.unread - consumed x.wr x.unread x.log2 (fld v 11 0) })
    else queueFault .cq q 1 s
  | none => queueFault .cq q 1 s

def eqHead (e : Nat) (v : BitVec 32) (s : State) : State :=
  match s.evq e with
  | some x =>
    if fld v 11 0 < 2 ^ x.log2 then
      s.setEvq e (some { x with unread := x.unread - consumed x.wr x.unread x.log2 (fld v 11 0) })
    else queueFault .eq e 1 s
  | none => queueFault .eq e 1 s

/-- A pending vector that is unmasked is signalled. -/
def msixUnmask (v : Nat) (s : State) : State :=
  if s.host.pba.contains v && !bit (kget 0 s.host.msix (4 * v + 3)) 0 then
    msixSend v { s with host.pba := s.host.pba.filter (· ≠ v) }
  else s

/-- One 32-bit write into the window (R346). -/
def windowWrite32 (off : Nat) (v : BitVec 32) (s : State) : State :=
  if off = 0x10 then { s with host.sqBase := (s.host.sqBase >>> 32 <<< 32) ||| v.setWidth 64 }
  else if off = 0x14 then { s with host.sqBase := (s.host.sqBase &&& 0xFFFFFFFF#64) ||| (v.setWidth 64 <<< 32) }
  else if off = 0x18 then { s with host.cqBase := (s.host.cqBase >>> 32 <<< 32) ||| v.setWidth 64 }
  else if off = 0x1C then { s with host.cqBase := (s.host.cqBase &&& 0xFFFFFFFF#64) ||| (v.setWidth 64 <<< 32) }
  else if off = 0x20 then adminCtrl v s
  else if 0x1000 ≤ off ∧ off < 0x1200 then
    if off % 8 = 0 then sqTail ((off - 0x1000) / 8) v s
    else if off % 8 = 4 then cqHead ((off - 0x1000) / 8) v s else s
  else if 0x1400 ≤ off ∧ off < 0x1420 then
    if off % 4 = 0 then eqHead ((off - 0x1400) / 4) v s else s
  else if 0x8000 ≤ off ∧ off < 0x8480 ∧ off % 4 = 0 then
    msixUnmask ((off - 0x8000) / 16) { s with host.msix := kset 0 s.host.msix ((off - 0x8000) / 4) v }
  else s

def execAdminCtrlWrite (v : BitVec 32) (s : State) : Res :=
  .next (if s.hostUp then adminCtrl v s else s)

def execSqTailDoorbell (q : Nat) (v : BitVec 32) (s : State) : Res :=
  if 64 ≤ q then .fault (.noSuchObject "submission queue doorbell")
  else .next (if s.hostUp then sqTail q v s else s)

def execCqHeadDoorbell (q : Nat) (v : BitVec 32) (s : State) : Res :=
  if 64 ≤ q then .fault (.noSuchObject "completion queue doorbell")
  else .next (if s.hostUp then cqHead q v s else s)

def execEqHeadDoorbell (e : Nat) (v : BitVec 32) (s : State) : Res :=
  if 8 ≤ e then .fault (.noSuchObject "event queue doorbell")
  else .next (if s.hostUp then eqHead e v s else s)

/-- The 64-bit registers of Table 13.2. -/
def wideRegister (off : Nat) : Bool := off == 8 || off == 0x10 || off == 0x18

/-- A 32-bit read at an offset (R346): the low half of a 64-bit register latches its high half, which the next read answers
when it asks for that half. -/
def windowRead32 (off : Nat) (s : State) : State :=
  let base := off - off % 8
  let w := windowWord base s
  if off % 8 < 4 then
    { s with host.readData := some (w64 (w % 2 ^ 32)),
             host.highHalf := if wideRegister base then some (base, BitVec.ofNat 32 (w / 2 ^ 32)) else none }
  else
    let hi := match s.host.highHalf with
      | some l => if l.1 = base then l.2 else BitVec.ofNat 32 (w / 2 ^ 32)
      | none => BitVec.ofNat 32 (w / 2 ^ 32)
    { s with host.readData := some (hi.setWidth 64), host.highHalf := none }

/-- A 64-bit read of a whole register (R346). -/
def windowRead64 (off : Nat) (s : State) : State :=
  { s with host.readData := some (w64 (windowWord off s)), host.highHalf := none }

/-- A read of the window, 32 or 64 bits wide (R346). -/
def execWindowLowRead (r : WinRead) (s : State) : Res :=
  .next (if s.hostUp then (if r.wide && r.off % 8 == 0 then windowRead64 r.off s else windowRead32 r.off s) else s)

def execWindowRegisterWrite (off : Nat) (v : W64) (wide : Bool) (s : State) : Res :=
  if s.hostUp then
    let s := windowWrite32 off (v.setWidth 32) s
    .next (if wide then windowWrite32 (off + 4) ((v >>> 32).setWidth 32) s else s)
  else .next s

/-- R344, for each of its four events; the function is in D3hot behind an entry to it, else in D0 (Table 13.1). -/
def execPcieFunctionReset (kind : ResetKind) (s : State) : Res :=
  .next (if s.isGateway then { functionReset s with host.pcie.d3hot := kind == .d3hot } else s)

/-- What the host has put into configuration space in the row (R343, Table 13.1): nothing reaches it while PCIE_PERST_N is low. Sizes
out of their ranges are not taken. -/
def pcieTick (c : Option PcieCfg) (s : State) : State :=
  match c with
  | some c =>
    if s.isGateway && !s.host.perst then
      let p := s.host.pcie
      { s with host.pcie := { p with
          bar0 := c.bar0, ecrc := c.ecrc, msixOn := c.msixOn, d3hot := c.d3hot,
          maxPayload := if 128 ≤ c.maxPayload ∧ c.maxPayload ≤ 512 then c.maxPayload else p.maxPayload,
          maxRead := if 128 ≤ c.maxRead ∧ c.maxRead ≤ 4096 then c.maxRead else p.maxRead } }
    else s
  | none => s

/-- R489: the pin is followed in every state; the gateway's endpoint is reset, its configuration space with it, and held while it is
low. -/
def execPciePerst (s : State) : Res :=
  .next (if s.isGateway then { functionReset s with host.perst := true, host.pcie := {} } else { s with host.perst := true })

/-- R489: the pin rises. -/
def execPciePerstRelease (s : State) : Res := .next { s with host.perst := false }

/-- R345: the queue is disabled and EV_QUEUE_FAULT is raised. -/
def execQueueDmaFault (kind : QKind) (q : Nat) (s : State) : Res :=
  match kind with
  | .sq => match s.sq q with
    | some x => .next (queueFault .sq q 2 (s.setSq q (some { x with disabled := true })))
    | none => .next s
  | .cq => match s.cq q with
    | some x => .next (queueFault .cq q 2 (s.setCq q (some { x with disabled := true })))
    | none => .next s
  | .eq => match s.evq q with
    | some x => .next (queueFault .eq q 2 (s.setEvq q (some { x with disabled := true })))
    | none => .next s

/-! ## Fetching (R349, R350, R359) -/

/-- A command for this device joins the work queue. -/
def enqueue (w : Work) (s : State) : State := refill { s with host.staging := s.host.staging ++ [w] }

/-- The command repeats a number of this queue and session that has passed check 8 here (R362). -/
def isDup (k : Key) (s : State) : Bool :=
  (s.seqSt k).cache.any (fun c => c.seq == k.seq) ||
    (s.begun ++ s.host.engine.toList).any (fun r => decide (r.key = k))

/-- ST_EXPIRED or ST_TOO_LATE is due: the end of the deadline frame, or of frame A − L, has passed (R39, R41). A duplicate
is answered under R363 instead (log entry 11). Where a re-alignment makes the number of that frame recur, its later end counts
(DESIGN CHOICE, log entry 101): the test is made after the new number is in force. Gives the status and the frame whose row 249 completes the command. -/
def overdue (w : Work) (s : State) : Option (Nat × Nat) :=
  let d := w.cmd.deadline
  let a := w.cmd.atFrame
  let l := leadOf w.cmd.opcode
  let timed := a ≠ 0 ∧ scheduledOp w.cmd.opcode = true
  if isDup w.key s then none
  else if d ≠ 0 ∧ d < s.time.frame ∧ (timed → d ≤ a - l) then some (stExpired, d)
  else if timed ∧ a - l < s.time.frame then some (stTooLate, a - l)
  else none

/-- A command taken from the work queue without being started (R39). -/
def completeOverdue (w : Work) (s : State) : State :=
  match overdue w s with
  | some (st, f) =>
    sendReply w.key (mkReply w.key w.cmd s.flight.addr st f 249 []) s
  | none => s

/-- A command reaches this device: completed at once when it is overdue, else queued (R41, R350). An expired one carries its
deadline frame (R39); one whose at-frame is within the lead already is completed now. -/
def arrive (w : Work) (s : State) : State :=
  match overdue w s with
  | some (st, _) =>
    if st = stTooLate then sendReply w.key (mkReply w.key w.cmd s.flight.addr st s.time.frame s.time.row []) s
    else completeOverdue w s
  | none => enqueue w s

/-- Checks 1 to 7 of Table 13.9, and R396's at fetch: the status of the first that fails. -/
def fetchCheck (q : Nat) (sq : Sq) (c : Cmd) (s : State) : Option Nat :=
  if c.version ≠ 1 ∨ c.length % 8 ≠ 0 ∨ 4064 < c.length ∨ c.queue ≠ q then some stBadHeader
  else if c.crc ≠ c.crcOf then some stBadCrc
  else if c.session ≠ sq.session then some stSession
  else if c.reserved = true ∨ 4 < c.role ∨ (c.broadcast = true ∧ c.target ≠ 0) ∨
      (0x0101 ≤ c.opcode ∧ c.opcode ≤ 0x0106 ∧ (c.broadcast = true ∨ c.target ≠ s.flight.addr)) then some stInvalidParam
  else if opcodes.contains c.opcode = false then some stBadOpcode
  else if permits sq.priv c.opcode = false then some stPrivilege
  else if c.broadcast = false ∧ s.reachable c.target = false then some stUnreachable
  else if c.broadcast = true ∧ broadcastOps.contains c.opcode = false then some stInvalidParam
  else if c.broadcast = false ∧ c.opcode = 0x060C then some stInvalidParam
  else none

/-- Words of a command as a CMD packet carries them (Table 14.3). -/
def cmdWords (c : Cmd) : List W64 := [c.w0, c.w1, c.w2, c.w3] ++ c.params

/-- A command sent on to another member (R384). -/
def forward (k : Key) (c : Cmd) (dst : Nat) (s : State) : State :=
  towSend 0x7 dst (cmdWords c) { s with host.fwd := s.host.fwd ++ [{ key := k, dst := dst, opcode := c.opcode }] }

/-- The reachable members, this device among them, in address order. -/
def State.reachables (s : State) : List Nat :=
  (List.range 64).filter (fun a => decide (a = s.flight.addr) || s.reachable a)

/-- A command that has passed the fetch checks goes to its target, or to every reachable member (R396). -/
def dispatch (k : Key) (c : Cmd) (s : State) : State :=
  if c.broadcast then
    let ms := s.reachables
    let b : Bcast := { key := k, opcode := c.opcode, waiting := ms, ok := [], fail := [], status := 0, device := 0,
                       cached := true, first := 0 }
    let s := { s with host.bcast := s.host.bcast ++ [b] }
    let s := (ms.filter (· ≠ s.flight.addr)).foldl (fun s m => forward k c m s) s
    arrive { key := k, cmd := c } s
  else if c.target = s.flight.addr then arrive { key := k, cmd := c } s
  else forward k c c.target s

/-- The gateway fetches the next command of queue q, whose units are given (R350): the queue has a free credit and all
the command's units lie before the tail. -/
def execCommandFetch (q : Nat) (units : List W64) (s : State) : Res :=
  match s.sq q with
  | some sq =>
    let size := 2 ^ sq.log2
    let c := cmdOfUnits units
    let n := unitsOf c.length
    if s.hostUp && !sq.disabled && !s.fnDown 1 && decide (sq.used < sq.credits) &&
        decide (n ≤ sq.avail) then
      let s := s.setSq q (some { sq with fetch := (sq.fetch + n) % size, avail := sq.avail - n, used := sq.used + 1 })
      let k : Key := { q := q, session := c.session, seq := c.seq }
      match fetchCheck q sq c s with
      | some st =>
        let dev := if st = stUnreachable then c.target else s.flight.addr
        let r := mkReply k c dev st s.time.frame s.time.row []
        .next (match s.cq sq.cq with
          | some cq => s.setCq sq.cq (some { cq with pend := cq.pend ++ [{ r with q := q }] })
          | none => s)
      | none => .next (dispatch k c s)
    else .next s
  | none => .next s

/-! ## Starting (R359 to R365) -/

/-- Standing of a sequence number (R362). -/
inductive SeqJudge where
  | new
  | dup
  | stale
deriving DecidableEq, Repr

/-- R362. -/
def judgeSeq (k : Key) (s : State) : SeqJudge :=
  match (s.seqSt k).high with
  | none => .new
  | some h =>
    let d := (k.seq + 2 ^ 32 - h % 2 ^ 32) % 2 ^ 32
    if 1 ≤ d ∧ d ≤ 2 ^ 31 - 1 then .new
    else if isDup k s then .dup
    else .stale

/-- H raised by a command that passes check 8 (R359, R362). -/
def raiseHigh (k : Key) (s : State) : State :=
  { s with host.seq := kset {} s.host.seq k.seqAt { s.seqSt k with high := some k.seq } }

/-- A duplicate is not executed (R363): ST_SEQ_CONFLICT when its CRC differs, the cached reply, or a wait for the original. -/
def answerDup (w : Work) (s : State) : State :=
  match (s.seqSt w.key).cache.find? (fun c => c.seq == w.key.seq) with
  | some c =>
    if c.crc = w.cmd.crc then sendReply w.key { c.reply with cached := true } s
    else sendReply w.key (mkReply w.key w.cmd s.flight.addr stSeqConflict s.time.frame s.time.row []) s
  | none =>
    match s.begun.find? (fun r => decide (r.key = w.key)) with
    | some r =>
      if r.cmd.crc = w.cmd.crc then { s with host.dups := s.host.dups ++ [w] }
      else sendReply w.key (mkReply w.key w.cmd s.flight.addr stSeqConflict s.time.frame s.time.row []) s
    | none => s

/-- Opcodes that a device out of service executes (R400). -/
def outOfServiceOps (op : Nat) : Bool :=
  observerOps.contains op || [0x0802, 0x0B10, 0x0B11, 0x0B12, 0x0B20, 0x0B21, 0x0B22].contains op

/-- Octets of the lanes that a lane command names. -/
def octetsNamed (c : Cmd) : List Nat :=
  let w := if c.opcode = 0x0503 ∨ c.opcode = 0x0521 then c.p 1 else c.p 0
  (List.range 64).filter (fun k => decide (fld w 8 0 / 8 ≤ k ∧ 8 * k < fld w 8 0 + fld w 18 9))

/-- The function that executes the opcode is re-initialising (R445, Table 17.2). -/
def functionDown (c : Cmd) (s : State) : Bool :=
  let op := c.opcode
  let g := op / 256
  if g = 0x0A then false
  else if g = 0x01 ∨ g = 0x04 ∨ (0x0701 ≤ op ∧ op ≤ 0x0703) then s.fnDown 0
  else if g = 0x02 ∨ g = 0x03 then s.fnDown 4
  else if g = 0x05 then (octetsNamed c).any (fun k => s.fnDown (64 + k))
  else if g = 0x06 then s.fnDown 6
  else if 0x0710 ≤ op ∧ op ≤ 0x0714 then s.fnDown 3
  else if g = 0x08 ∨ op = 0x0B02 ∨ op = 0x0B03 then s.fnDown 2
  else if g = 0x09 then s.fnDown 5
  else s.fnDown 7

/-- Checks 9 to 11 of Table 13.9, then the scheduling conditions of check 12 (R42, R498, R41). DESIGN CHOICE (log entry 62): within
check 12 these come before ST_NOT_ACTIVE, which the opcode's own meaning judges. -/
def startCheck (c : Cmd) (s : State) : Option Nat :=
  let a := c.atFrame
  let op := c.opcode
  if s.flight.admitted = false ∧ outOfServiceOps op = false then some stOutOfService
  else if (c.role ≠ 0 ∧ c.role - 1 ≠ s.twin.role.adv) ∨ (c.expTerm ≠ 0 ∧ c.expTerm ≠ s.advTerm) then some stRoleMoved
  else if functionDown c s = true then some stFunctionDown
  else if a ≠ 0 ∧ (scheduledOp op = false ∨ s.time.frame + 691200000 < a) then some stInvalidParam
  else if a = 0 ∧ needsAt op = true then some stInvalidParam
  else if a ≠ 0 ∧ a < s.time.frame + leadOf op then some stTooLate
  else none

/-- Opcodes that act on the open plan: its edits, PLAN_SEAL and PLAN_DISCARD (R86, R88). -/
def openPlanOps : List Nat := [0x0201, 0x0202, 0x0203, 0x0301, 0x0302]

/-- Work that stands before entry i of the work queue. -/
def workBefore (i : Nat) (s : State) : List Work := s.host.work.take i

/-- Entry i can be taken: its queue's commands start in order, a BARRIER waits for every earlier one to complete (R361), a
PLAN_SEAL needs a plan queue credit (R95), a CTR_SNAPSHOT a snapshot credit (Table 1.6), and CMD must not be
re-initialising (Table 17.1). DESIGN CHOICE (log entry 121): an edit, a seal or a withdrawal of the open plan waits while a CONN_LOAD that
has started waits for its buffer, so that edits act in the order of their starts (R86, R88). -/
def canStart (i : Nat) (w : Work) (s : State) : Bool :=
  let same : Key → Bool := fun k => decide (k.q = w.key.q ∧ k.gw = w.key.gw ∧ k.session = w.key.session)
  s.host.engine.isNone && s.ready &&
  !((workBefore i s).any (fun x => same x.key)) &&
  (!w.cmd.barrier || !(s.begun.any (fun r => same r.key))) &&
  (w.cmd.opcode != 0x0301 || decide (s.planner.sealed.length + s.planner.dropWait.length < 4) || isDup w.key s) &&
  (!openPlanOps.contains w.cmd.opcode || !(s.host.prog.any (fun r => r.cmd.opcode == 0x0202)) || isDup w.key s) &&
  (w.cmd.opcode != 0x0903 || decide (s.ctr.snaps.length < 2) || isDup w.key s) &&
  (!s.fnDown 0 || w.cmd.opcode / 256 == 0x0A)

/-- The list without its element i. -/
def removeAt {α : Type} (i : Nat) (l : List α) : List α := l.take i ++ l.drop (i + 1)

/-- A command that passes check 8 is started, or completed with the status of the check that it fails. -/
def startNew (w : Work) (s : State) : State :=
  let s := raiseHigh w.key s
  match startCheck w.cmd s with
  | some st =>
    if st = stTooLate ∧ w.cmd.atFrame - leadOf w.cmd.opcode < s.time.frame then
      completeAt w.key w.cmd st (w.cmd.atFrame - leadOf w.cmd.opcode) 249 [] s
    else completeAt w.key w.cmd st s.time.frame s.time.row [] s
  | none =>
    let r : Run := { key := w.key, cmd := w.cmd, row := s.time.rows, frame := s.time.frame, rowIn := s.time.row,
                     at_ := w.cmd.atFrame, mem := [] }
    { s with host.engine := some r, host.starts := s.host.starts ++ [(w.key, w.cmd.opcode)] }

/-- The commands started in the row that ends are counted: CMD_STARTED (Table 16.4) and CFG_SEQ (R456). One that the engine still
holds has not passed check 12 yet and waits (R359). -/
def startTick (s : State) : State :=
  let open_ : Key × Nat → Bool := fun x => s.host.engine.any (fun r => decide (r.key = x.1))
  (s.host.starts.filter (fun x => !open_ x && !refusedAtStart x.1 s)).foldl
    (fun s x => countEvent 0x40 x.1.q 1 (if observerOps.contains x.2 then s else bumpCfg s))
    { s with host.starts := s.host.starts.filter open_ }

/-- A command engine takes entry i of the work queue (R38) and makes the start checks. -/
def execCommandStart (i : Nat) (s : State) : Res :=
  match s.host.work[i]? with
  | none => .next s
  | some w =>
    if canStart i w s then
      let s := refill { s with host.work := removeAt i s.host.work }
      if (overdue w s).isSome then .next (completeOverdue w s)
      else match judgeSeq w.key s with
        | .new => .next (startNew w s)
        | .dup => .next (answerDup w s)
        | .stale =>
          .next (sendReply w.key (mkReply w.key w.cmd s.flight.addr stSeqStale s.time.frame s.time.row []) s)
    else .next s

/-- Entry i of the work queue, or of the staging store behind it. -/
def waiting (i : Nat) (s : State) : Option Work := (s.host.work ++ s.host.staging)[i]?

/-- Entry i of the work queue and the staging store taken out. -/
def dropWaiting (i : Nat) (s : State) : State :=
  refill (if i < s.host.work.length then { s with host.work := removeAt i s.host.work }
    else { s with host.staging := removeAt (i - s.host.work.length) s.host.staging })

/-- A waiting command whose end has passed with the given status. -/
def expire (st i : Nat) (s : State) : State :=
  match waiting i s with
  | some w =>
    match overdue w s with
    | some (st', _) => if st' = st then completeOverdue w (dropWaiting i s) else s
    | none => s
  | none => s

/-- R39. -/
def execDeadlineExpiry (i : Nat) (s : State) : Res := .next (expire stExpired i s)

/-- R41. -/
def execLeadExpiry (i : Nat) (s : State) : Res := .next (expire stTooLate i s)

/-! ## Writing replies and events (R351, R352, R371) -/

/-- PHASE of the entry written next: 1 on the first pass (R351). -/
def phaseOf (wr log2 : Nat) : Bool := (wr / 2 ^ log2) % 2 == 0

/-- The oldest waiting reply of completion queue c is written, and its submission queue gets its credit back. -/
def execReplyWrite (c : Nat) (s : State) : Res :=
  match s.cq c with
  | some cq =>
    match cq.pend with
    | r :: rs =>
      if s.hostUp && !cq.disabled && !s.fnDown 1 && decide (cq.unread < 2 ^ cq.log2) then
        let head := match s.sq r.q with | some q => q.fetch | none => 0
        let a := cq.base.toNat + 64 * (cq.wr % 2 ^ cq.log2)
        let ws := r.wordsOf head s.holder (phaseOf cq.wr cq.log2)
        let s := { s with host.mem := Memory.write s.host.mem a (wordBytes ws) }
        let s := s.setCq c (some { cq with pend := rs, wr := cq.wr + 1, unread := cq.unread + 1 })
        let s := match s.sq r.q with
          | some q => s.setSq r.q (some { q with used := q.used - 1 })
          | none => s
        let s := match s.rcv.step with
          | some st =>
            if st.begun then s
            else if decide (st.key = some { q := r.q, session := r.session, seq := r.seq }) && !r.cached then
              { s with rcv.step := some { st with go := true } }
            else s
          | none => s
        .next (if cq.irq then msixSend cq.vector s else s)
      else .next s
    | [] => .next s
  | none => .next s

/-- The oldest waiting record of event queue e is written. -/
def execEventWrite (e : Nat) (s : State) : Res :=
  match s.evq e with
  | some q =>
    match q.pend with
    | r :: rs =>
      if s.hostUp && !q.disabled && !s.fnDown 1 && decide (q.unread < 2 ^ q.log2) then
        let a := q.base.toNat + 64 * (q.wr % 2 ^ q.log2)
        let ph := if phaseOf q.wr q.log2 then 0x8000000000000000#64 else 0#64
        let ws := (r.words.take 3) ++ [wd r.words 3 ||| ph] ++ r.words.drop 4
        let s := { s with host.mem := Memory.write s.host.mem a (wordBytes ws) }
        let s := s.setEvq e (some { q with pend := rs, wr := q.wr + 1, unread := q.unread + 1 })
        .next (if q.irq then msixSend q.vector s else s)
      else .next s
    | [] => .next s
  | none => .next s

/-! ## Queue opcodes (R353) and NOP -/

/-- The gateway's endpoint is held in reset, or out of D0: no queue is made then (R489, R344). DESIGN CHOICE (log entry 103): a command
that would make one ends with ST_FUNCTION_DOWN. -/
def endpointOff (s : State) : Bool := s.isGateway && !s.hostUp

/-- R353 for CQ_CREATE. -/
def cqCreateBad (r : Run) (s : State) : Bool :=
  let w := r.cmd.p 1
  !sizeOk r || (r.cmd.p 0).toNat % 4096 != 0 || fld w 63 18 != 0 || fld w 5 0 == 0 ||
  fld w 9 6 < 4 || fld w 9 6 > 12 || fld w 16 10 > 71 || (s.cq (fld w 5 0)).isSome

def execCqCreate (s : State) : Res := onEngine 0x0101 (fun r s =>
  let w := r.cmd.p 1
  if cqCreateBad r s then invalid r s
  else if endpointOff s then finish r stFunctionDown [] s
  else finish r stOk [] (s.setCq (fld w 5 0)
    (some { base := r.cmd.p 0, log2 := fld w 9 6, vector := fld w 16 10, irq := bit w 17 }))) s

/-- Credits of all submission queues (R353). -/
def totalCredits (s : State) : Nat :=
  s.host.sqs.foldl (fun a x => a + match x.2 with | some q => q.credits | none => 0) 0

/-- R353 for SQ_CREATE. -/
def sqCreateBad (r : Run) (s : State) : Bool :=
  let w := r.cmd.p 1
  !sizeOk r || (r.cmd.p 0).toNat % 4096 != 0 || fld w 63 25 != 0 || fld w 5 0 == 0 ||
  fld w 15 12 < 4 || fld w 15 12 > 12 || fld w 24 18 == 0 || fld w 24 18 > 64 ||
  (s.sq (fld w 5 0)).isSome || (s.cq (fld w 11 6)).isNone || decide (1024 < totalCredits s + fld w 24 18)

def execSqCreate (s : State) : Res := onEngine 0x0102 (fun r s =>
  let w := r.cmd.p 1
  if sqCreateBad r s then invalid r s
  else if endpointOff s then finish r stFunctionDown [] s
  else
    let n := nextSession s.host.sessions
    let s := { s with host.sessions := n }
    finish r stOk [w64 n] (s.setSq (fld w 5 0)
      (some { base := r.cmd.p 0, cq := fld w 11 6, log2 := fld w 15 12, priv := fld w 17 16, credits := fld w 24 18,
              session := n }))) s

def execSqDelete (s : State) : Res := onEngine 0x0103 (fun r s =>
  let q := fld (r.cmd.p 0) 5 0
  if !sizeOk r || fld (r.cmd.p 0) 63 6 != 0 || q == 0 || (s.sq q).isNone then invalid r s
  else finish r stOk [] (deleteSq q s)) s

def execCqDelete (s : State) : Res := onEngine 0x0104 (fun r s =>
  let q := fld (r.cmd.p 0) 5 0
  if !sizeOk r || fld (r.cmd.p 0) 63 6 != 0 || q == 0 || (s.cq q).isNone ||
      s.host.sqs.any (fun x => x.2.any (fun y => y.cq == q)) then invalid r s
  else finish r stOk [] (s.setCq q none)) s

/-- R353 for EQ_CREATE. -/
def eqCreateBad (r : Run) (s : State) : Bool :=
  let w := r.cmd.p 1
  !sizeOk r || (r.cmd.p 0).toNat % 4096 != 0 || fld w 63 27 != 0 || bit w 15 ||
  fld w 6 3 < 4 || fld w 6 3 > 12 || fld w 13 7 > 71 || (s.evq (fld w 2 0)).isSome

def execEqCreate (s : State) : Res := onEngine 0x0105 (fun r s =>
  let w := r.cmd.p 1
  if eqCreateBad r s then invalid r s
  else if endpointOff s then finish r stFunctionDown [] s
  else finish r stOk [] (createEq (fld w 2 0)
    { base := r.cmd.p 0, log2 := fld w 6 3, vector := fld w 13 7, irq := bit w 14, groups := fld w 26 16 } s)) s

def execEqDelete (s : State) : Res := onEngine 0x0106 (fun r s =>
  let q := fld (r.cmd.p 0) 5 0
  if !sizeOk r || fld (r.cmd.p 0) 63 6 != 0 || decide (7 < q) || (s.evq q).isNone then invalid r s
  else finish r stOk [] (deleteEq q s)) s

def execNop (s : State) : Res := onEngine 0x0107 (fun r s =>
  if !sizeOk r then invalid r s else finish r stOk [] s) s

end Sys2Proof.Machine
end

