-- ==== Sys2Proof/Machine/TwinLine.lean ====
section
/-! DEFINITION. The words of the twin lanes (R316, R319, R500): slot words, messages, blocks, and their reassembly. -/

namespace Sys2Proof.Machine

open Sys2Proof

/-! ## Slot words (Table 12.1; DESIGN CHOICE, log entry 80: within a word each field stands most significant byte first, lower slot
offsets before higher ones) -/

/-- Size of a slot in 8-byte words. -/
def slotWords : Nat := 4325376

/-- Slot offsets of a connection entry, a stage memory word, word w of a tributary record and a selector record. -/
def entryOff (e : Nat) : Nat := 4 * e
def stageOff (i : Nat) : Nat := 0xC00000 + 2 * i
def tribOff (t w : Nat) : Nat := 0x1800000 + 64 * t + 8 * w
def selOff (t : Nat) : Nat := 0x2000000 + 8 * t

/-- The word at an offset of a slot. A selector record that nothing has written reads STATE 15 (Table 12.2). -/
def Slot.word (sl : Slot) (off : Nat) : W64 :=
  if off < 0xC00000 then
    let k := off / 4
    pack [(63, 32, (kget 0 sl.page.entries k).toNat), (31, 0, (kget 0 sl.page.entries (k + 1)).toNat)]
  else if off < 0x1800000 then
    let k := (off - 0xC00000) / 2
    pack [(63, 48, (kget 0 sl.page.stage k).toNat), (47, 32, (kget 0 sl.page.stage (k + 1)).toNat),
          (31, 16, (kget 0 sl.page.stage (k + 2)).toNat), (15, 0, (kget 0 sl.page.stage (k + 3)).toNat)]
  else if off < 0x2000000 then kget 0 sl.page.tribs ((off - 0x1800000) / 8)
  else kget 15 sl.sels ((off - 0x2000000) / 8)

/-- One word written into a slot; what lies beyond the slot is not written (log entry 80). -/
def Slot.write (sl : Slot) (w : SlotWrite) : Slot :=
  if w.off < 0xC00000 then
    let k := w.off / 8 * 2
    { sl with page := { sl.page with
        entries := ksetRun 0 sl.page.entries k [(w.word >>> 32).setWidth 32, w.word.setWidth 32] } }
  else if w.off < 0x1800000 then
    let k := (w.off - 0xC00000) / 8 * 4
    { sl with page := { sl.page with
        stage := ksetRun 0 sl.page.stage k [(w.word >>> 48).setWidth 16, (w.word >>> 32).setWidth 16,
          (w.word >>> 16).setWidth 16, w.word.setWidth 16] } }
  else if w.off < 0x2000000 then
    { sl with page := { sl.page with tribs := kset 0 sl.page.tribs ((w.off - 0x1800000) / 8) w.word } }
  else if w.off < 0x2100000 then { sl with sels := kset 15 sl.sels ((w.off - 0x2000000) / 8) w.word }
  else sl

/-- Every word of a message written into a slot. -/
def Slot.writeAll (sl : Slot) (ws : List SlotWrite) : Slot := ws.foldl Slot.write sl

/-- The whole of a slot (Table 12.4, FULL). -/
def Slot.whole (sl : Slot) : List SlotWrite :=
  (List.range slotWords).map (fun k => { off := 8 * k, word := sl.word (8 * k) })

/-- Keys of two stores at which they differ. -/
def kdiff {α : Type} [DecidableEq α] (d : α) (a b : KMap α) : List Nat :=
  ((a.map (·.1) ++ b.map (·.1)).eraseDups).filter (fun k => decide (kget d a k ≠ kget d b k))

/-- Words in which two pages differ (Table 12.4, DELTA). -/
def pageDiff (old new : Page) : List SlotWrite :=
  let offs := (kdiff 0 old.entries new.entries).map (fun k => entryOff k / 8 * 8) ++
    (kdiff 0 old.stage new.stage).map (fun k => stageOff k / 8 * 8) ++
    (kdiff 0 old.tribs new.tribs).map (fun k => tribOff 0 k)
  offs.eraseDups.map (fun o => { off := o, word := ({ page := new } : Slot).word o })

/-! ## Sections -/

/-- Words gathered into runs of rising offsets: offset and words of each section. -/
def sectionsOf : List SlotWrite → List (Nat × List W64)
  | [] => []
  | w :: ws =>
    match sectionsOf ws with
    | (o, l) :: rest => if w.off + 8 = o then (w.off, w.word :: l) :: rest else (w.off, [w.word]) :: (o, l) :: rest
    | [] => [(w.off, [w.word])]

/-- The payload of sections: one word of offset and byte count, then the bytes (R319). -/
def payloadOf (ws : List SlotWrite) : List W64 :=
  (sectionsOf ws).flatMap (fun x => pack [(31, 0, x.1), (63, 32, 8 * x.2.length)] :: x.2)

/-- Reading sections: words of the section still to come, the offset of the next, and what has been read, newest first. -/
def sectionStep (a : Nat × Nat × List SlotWrite) (w : W64) : Nat × Nat × List SlotWrite :=
  if a.1 = 0 then (fld w 63 32 / 8, fld w 31 0, a.2.2)
  else (a.1 - 1, a.2.1 + 8, { off := a.2.1, word := w } :: a.2.2)

/-- The words that a payload writes. -/
def writesOf (payload : List W64) : List SlotWrite := (payload.foldl sectionStep (0, 0, [])).2.2.reverse

/-! ## Messages (Table 12.3) -/

/-- CRC-32C of words, most significant byte first. -/
def crcWords (ws : List W64) : Nat := (crc32c (ws.flatMap (fun w => beBytes 8 w.toNat))).toNat

/-- CRC-32C of bytes 0 to 27 of four words (R294, R319). -/
def headCrc (w0 w1 w2 : W64) (hi : Nat) : Nat :=
  (crc32c (beBytes 8 w0.toNat ++ beBytes 8 w1.toNat ++ beBytes 8 w2.toNat ++ beBytes 4 hi)).toNat

/-- The words of a message: header, payload and trailer. -/
def TwinMsg.words (m : TwinMsg) : List W64 :=
  let p := payloadOf m.writes
  let w0 := pack [(63, 56, m.type), (55, 48, 1), (31, 0, m.gen)]
  let w1 := pack [(47, 0, m.frame)]
  let w2 := pack [(31, 0, 8 * p.length), (39, 32, m.acked)]
  [w0, w1, w2, w64 (headCrc w0 w1 w2 0)] ++ (if p.isEmpty then [] else p ++ [w64 (crcWords p)])

/-- HCRC, VERSION and TYPE of a header are good (R321). -/
def headGood (ws : List W64) : Bool :=
  fld (wd ws 3) 31 0 == headCrc (wd ws 0) (wd ws 1) (wd ws 2) (fld (wd ws 3) 63 32) &&
  fld (wd ws 0) 55 48 == 1 && decide (1 ≤ fld (wd ws 0) 63 56 ∧ fld (wd ws 0) 63 56 ≤ 9)

/-- Words of the message that a header begins. -/
def sizeOf (ws : List W64) : Nat := if fld (wd ws 2) 31 0 = 0 then 4 else fld (wd ws 2) 31 0 / 8 + 5

/-- The payload of a message. -/
def payloadIn (ws : List W64) : List W64 := (ws.drop 4).take (sizeOf ws - 5)

/-- A whole message whose checks pass (R321). -/
def msgGood (ws : List W64) : Bool :=
  decide (4 ≤ ws.length) && headGood ws && ws.length == sizeOf ws &&
  (sizeOf ws == 4 || fld (wd ws (sizeOf ws - 1)) 31 0 == crcWords (payloadIn ws))

/-- The fields of a good message. -/
def readMsg (ws : List W64) : TwinMsg :=
  { type := fld (wd ws 0) 63 56, gen := fld (wd ws 0) 31 0, frame := fld (wd ws 1) 47 0, acked := fld (wd ws 2) 39 32,
    writes := writesOf (payloadIn ws) }

/-! ## Blocks sent (R500) -/

/-- A message of the bulk stream: FULL, DELTA, SYNC_END. -/
def bulkType (type : Nat) : Bool := type == 2 || type == 3 || type == 9

/-- A message put behind those of its stream; the twin lanes carry zero words while CKPT re-initialises (Table 17.1). -/
def sendTwin (type gen frame acked : Nat) (ws : List SlotWrite) (s : State) : State :=
  let m : TwinMsg := { type := type, gen := gen, frame := frame, acked := acked, writes := ws }
  if s.rcv.down.any (fun r => r.f == 3) then s
  else if bulkType type then { s with ckpt.bulk := s.ckpt.bulk ++ [m] }
  else { s with ckpt.urgent := s.ckpt.urgent ++ [m] }

/-- Up to `room` words of a stream: the words of the message begun, then messages header after trailer. Gives the words, the
words left of the last message begun, and the messages not begun. -/
def streamWords (room : Nat) (rest : List W64) : List TwinMsg → List W64 × List W64 × List TwinMsg
  | [] => (rest.take room, rest.drop room, [])
  | m :: ms =>
    if room ≤ rest.length then (rest.take room, rest.drop room, m :: ms)
    else
      let r := streamWords (room - rest.length) m.words ms
      (rest ++ r.1, r.2)

/-- A block: block word, stream words, zeros. FIRST is the place of the first header that begins in it. -/
def blockOf (stream : Nat) (ws : List W64) (first : Nat) : List W64 :=
  pack [(63, 56, stream), (55, 48, ws.length), (47, 40, first)] :: (ws ++ List.replicate (255 - ws.length) 0)

/-- FIRST of a block that begins with the rest of a message. -/
def firstOf (rest : List W64) (ms : List TwinMsg) : Nat :=
  if rest.length < 255 ∧ ms ≠ [] then rest.length + 1 else 0

/-- The next block: urgent while an urgent message waits or is unfinished, else bulk, else idle. -/
def nextBlock (s : State) : List W64 × State :=
  if s.ckpt.urgentRest ≠ [] ∨ s.ckpt.urgent ≠ [] then
    let r := streamWords 255 s.ckpt.urgentRest s.ckpt.urgent
    (blockOf 2 r.1 (firstOf s.ckpt.urgentRest s.ckpt.urgent),
     { s with ckpt.urgentRest := r.2.1, ckpt.urgent := r.2.2 })
  else if s.ckpt.bulkRest ≠ [] ∨ s.ckpt.bulk ≠ [] then
    let r := streamWords 255 s.ckpt.bulkRest s.ckpt.bulk
    (blockOf 1 r.1 (firstOf s.ckpt.bulkRest s.ckpt.bulk), { s with ckpt.bulkRest := r.2.1, ckpt.bulk := r.2.2 })
  else (blockOf 0 [] 0, s)

/-- Words dealt to lanes 0 to 3 in turn (R319), behind those that the lanes have. -/
def deal (block : List W64) (lanes : List (List W64)) : List (List W64) :=
  (List.range 4).map (fun n => lanes.getD n [] ++ (List.range 64).map (fun i => wd block (4 * i + n)))

/-- n blocks sent; zero words while CKPT re-initialises. -/
def sendBlocks : Nat → State → State
  | 0, s => s
  | n + 1, s =>
    let b := if s.rcv.down.any (fun r => r.f == 3) then (List.replicate 256 0, s) else nextBlock s
    sendBlocks n { b.2 with out.twin := deal b.1 b.2.out.twin }

/-- The blocks of a row at 106.25 Gbit/s a lane: 53,125 / 4,096 of them (R319). -/
def twinSend (s : State) : State :=
  let a := s.ckpt.blockAcc + 53125
  sendBlocks (a / 4096) { s with ckpt.blockAcc := a % 4096 }

/-! ## Blocks received (R500) -/

/-- Messages in a run of stream words that begins with a header, and the words of the one that has not ended. A message that
fails a check ends the run: the receiver is out of step until a FIRST field names a header. `n` bounds the number of messages. -/
def splitMsgs : Nat → List W64 → List (List W64) × List W64
  | 0, ws => ([], ws)
  | n + 1, ws =>
    if ws.length < 4 then ([], ws)
    else if headGood ws then
      if ws.length < sizeOf ws then ([], ws)
      else
        let m := ws.take (sizeOf ws)
        if msgGood m then
          let r := splitMsgs n (ws.drop (sizeOf ws))
          (m :: r.1, r.2)
        else ([m], [])
    else ([ws], [])

/-- Stream words of one block taken in, behind the words of the message in progress. Words before FIRST belong to that message;
where it does not end there it is no message. -/
def takeStream (buf ws : List W64) (first : Nat) : List (List W64) × List W64 :=
  let head := if first = 0 then ws else ws.take (first - 1)
  let a := if buf.isEmpty then ([], []) else splitMsgs (buf ++ head).length (buf ++ head)
  if first = 0 then (a.1, if a.1.isEmpty then a.2 else [])
  else
    let tail := ws.drop (first - 1)
    let b := splitMsgs tail.length tail
    ((if a.2.isEmpty then a.1 else a.1 ++ [a.2]) ++ b.1, b.2)

/-- The block word is as R500 gives it. -/
def blockGood (b : List W64) : Bool :=
  decide (fld (wd b 0) 63 56 ≤ 2) && decide (fld (wd b 0) 47 40 ≤ fld (wd b 0) 55 48) && fld (wd b 0) 39 0 == 0

/-- The message in progress of a stream, if there is one. -/
def begun (buf : List W64) : List (List W64) := if buf.isEmpty then [] else [buf]

/-- The messages that a run of stream words holds, header after trailer, whole or not; `n` bounds their number. -/
def pieces : Nat → List W64 → List (List W64)
  | 0, _ => []
  | n + 1, ws =>
    if ws.isEmpty then []
    else if decide (4 ≤ ws.length) && headGood ws then ws.take (sizeOf ws) :: pieces n (ws.drop (sizeOf ws))
    else [ws]

/-- What a block whose block word is bad carries (log entry 81): the message in progress of its stream, or of both streams where STREAM
names none, with the words before FIRST, and every message from FIRST on; at least one. Of a discarded message only the first word
is kept, which names its TYPE (R321). -/
def badBlock (b : List W64) (s : State) : List (List W64) :=
  let c := fld (wd b 0) 55 48
  let f := fld (wd b 0) 47 40
  let ws := (b.drop 1).take c
  let named := decide (1 ≤ f ∧ f ≤ c)
  let head := if named then ws.take (f - 1) else ws
  let new := if named then pieces 255 (ws.drop (f - 1)) else []
  let old := fun (buf : List W64) => if buf.isEmpty then [] else pieces 256 (buf ++ head)
  let l := match fld (wd b 0) 63 56 with
    | 1 => old s.ckpt.rxBulk ++ new
    | 2 => old s.ckpt.rxUrgent ++ new
    | _ => begun s.ckpt.rxBulk ++ begun s.ckpt.rxUrgent ++ new
  if l.isEmpty then [[]] else l.map (fun m => m.take 1)

/-- The messages that one block ends, and the state of the reassembly after it. -/
def takeBlock (b : List W64) (s : State) : List (List W64) × State :=
  let ws := (b.drop 1).take (fld (wd b 0) 55 48)
  if blockGood b then
    match fld (wd b 0) 63 56 with
    | 1 =>
      let r := takeStream s.ckpt.rxBulk ws (fld (wd b 0) 47 40)
      (r.1, { s with ckpt.rxBulk := r.2 })
    | 2 =>
      let r := takeStream s.ckpt.rxUrgent ws (fld (wd b 0) 47 40)
      (r.1, { s with ckpt.rxUrgent := r.2 })
    | _ => ([], s)
  else
    let lost := badBlock b s
    match fld (wd b 0) 63 56 with
    | 1 => (lost, { s with ckpt.rxBulk := [] })
    | 2 => (lost, { s with ckpt.rxUrgent := [] })
    | _ => (lost, { s with ckpt.rxBulk := [], ckpt.rxUrgent := [] })

/-- The blocks of a command taken in one after the other. -/
def takeBlocks : List (List W64) → State → List (List W64) × State
  | [], s => ([], s)
  | b :: bs, s =>
    let a := takeBlock b s
    let r := takeBlocks bs a.2
    (a.1 ++ r.1, r.2)

end Sys2Proof.Machine
end

