-- ==== Sys2Proof/Machine/Plan.lean ====
section
/-! DEFINITION. Chapter 4: plans, the page loader, withdrawing and refusing, the arming check, and the planner's commands. -/

namespace Sys2Proof.Machine

open Sys2Proof

/-- A buffer that could not be written: ST_DMA_ERROR, and its contents are undefined (R345). -/
def bufFailed (r : Run) (addr bytes : Nat) (s : State) : State := finish r stDmaError [] (bufUndefined addr bytes s)

/-- A buffer written: the gateway completes the command, a member once its gateway has written (R389); a write that fails, or cannot be
made since the host is not reached, ends it with ST_DMA_ERROR (R345). -/
def bufReply (r : Run) (ok : Bool) (addr : Nat) (ws reply : List W64) (s : State) : State :=
  if ok && s.hostReach then
    match s.gatewayAddr.filter (fun _ => !s.isGateway) with
    | some g => memberWrite r g addr ws reply s
    | none => finish r stOk reply (bufWrite addr ws s)
  else bufFailed r addr (8 * ws.length) s

/-- A started command that reads objects through the control matrix as master m (R19): it waits while the master is in reset,
and a wedged target answers it with a target error (R412, R413). -/
def throughMatrix (m : Nat) (ts : List Nat) (r : Run) (f : State → State) (s : State) : State :=
  if s.reaches m ts then f s
  else if s.masterHeld m then s
  else finish r stFunctionDown [] { s with mx.tgtErr := sat 0xFFFFFFFF (s.mx.tgtErr + 1) }

/-- A command that reads a buffer of n bytes of host memory: the gateway reads it now, and the operand tells what it finds; a member
asks the gateway for it and goes on once the data are there (R389). -/
def readBuffer {α : Type} (r : Run) (addr n : Nat) (buf : α) (f : Run → α → State → State) (s : State) : State :=
  if !s.hostReach then finish r stDmaError [] s
  else if s.isGateway then f r buf s
  else later r (dmaAsk r.key addr n s)

/-- BUF_ADDR is a multiple of 4,096. -/
def bufOk (w : W64) : Bool := w.toNat % 4096 == 0

/-- Generations run from 1 to 0xFFFF_FFFF and wrap to 1 (R104). -/
def genAdd (g n : Nat) : Nat := (g + n - 1) % (2 ^ 32 - 1) + 1

/-! ## The checkpoint side of a plan -/

/-- A lockage needs the partner's acknowledgement: its checkpoint is synchronised, or a HANDOVER is pending (R106, R335). -/
def State.ackRequired (s : State) : Bool := s.ckpt.peer || s.twin.hand.isSome

/-- Deltas move into the delta queue as it has places: four of them (R22, R23). -/
def passDeltas (s : State) : State :=
  let n := 4 - s.ckpt.queue.length
  { s with ckpt.queue := s.ckpt.queue ++ s.planner.deltas.take n, planner.deltas := s.planner.deltas.drop n }

/-- The deltas that satisfy a condition given up; the places that they held are free. -/
def dropDeltas (c : Delta → Bool) (s : State) : State :=
  passDeltas { s with ckpt.queue := s.ckpt.queue.filter (fun d => !c d),
                      planner.deltas := s.planner.deltas.filter (fun d => !c d) }

/-- A delta of a plan that is no longer sealed: its lockage has completed. -/
def Delta.done (d : Delta) (s : State) : Bool := !(s.planner.sealed.any (fun p => p.gen == d.gen))

/-- The slot in service of the partner checkpoint store. -/
def State.serviceSlot (s : State) : Option Slot :=
  if s.ckpt.x.st = .inService then some s.ckpt.x
  else if s.ckpt.y.st = .inService then some s.ckpt.y else none

/-- The start of a take-over is not complete: the pages do not yet hold what the device resumes from (R329, R330). -/
def State.starting (s : State) : Bool := s.twin.role == .taking && s.twin.started.isNone

/-- A lockage that no sealed plan makes: the one that a WARM device performs (R332). -/
def State.followsLockage (s : State) : Bool := s.fab.swap.isSome && !(s.planner.sealed.any (fun p => p.st == .swapping))

/-- The page that the sealed plans build on: the one in service, the slot that a take-over resumes from (R329), or the page that
a lockage in progress puts into service. -/
def State.basePage (s : State) : Page :=
  if s.starting then (s.serviceSlot.map (·.page)).getD s.fab.act
  else if s.followsLockage then s.fab.stby else s.fab.act

/-- FIX for a plan whose delta has been shipped (R326). -/
def sendFix (p : Plan) (s : State) : State := if p.shipped then sendTwin 4 p.gen p.lock 0 [] s else s

/-! ## Plans -/

/-- Plan n of the seal order replaced by f of it. -/
def modPlan (n : Nat) (f : Plan → Plan) (s : State) : State :=
  { s with planner.sealed := s.planner.sealed.mapIdx (fun i p => if i = n then f p else p) }

/-- Number of the first sealed plan that satisfies a condition. -/
def findPlan (c : Plan → Bool) (s : State) : Option Nat := s.planner.sealed.findIdx? c

/-- Reply parameters of a PLAN_SEAL (Table 4.6). -/
def sealWords (gen slots lock defers sealFrame moved us : Nat) : List W64 :=
  [pack [(31, 0, gen), (63, 32, slots)], pack [(47, 0, lock), (55, 48, sat 255 defers)], pack [(47, 0, sealFrame)],
   pack [(22, 0, moved), (63, 32, us)]]

/-- The plan's own reply parameters; LOCKAGE_FRAME only with a lockage. -/
def Plan.words (p : Plan) (lock : Nat) : List W64 :=
  sealWords p.gen p.slots lock p.defers p.sealFrame p.moved p.planUs

/-- A plan occupies the standby page (Table 4.1: from LOADING on). -/
def Plan.inPage (p : Plan) : Bool :=
  match p.st with
  | .queued | .planning | .planned => false
  | _ => true

/-- The copy of a plan has ended (Table 4.1). -/
def Plan.copied (p : Plan) : Bool :=
  match p.st with
  | .loaded | .held | .armed | .swapping => true
  | _ => false

/-- The planner's image has taken the plan in. -/
def Plan.routed (p : Plan) : Bool :=
  match p.st with
  | .queued | .planning => false
  | _ => true

/-- The seal of a refused or withdrawn plan is completed at once, or after the ACK of the DROP (R328). -/
def endPlan (p : Plan) (status : Nat) (s : State) : State :=
  let s := dropDeltas (fun d => d.gen == p.gen) s
  let s := if p.shipped && !p.acked then { s with ckpt.dropped := p.gen :: s.ckpt.dropped.filter (· ≠ p.gen) } else s
  if p.acked && s.ckpt.peer then
    let w : DropWait := { gen := p.gen, key := p.cmd, status := status, words := p.words 0, page := p.inPage }
    { sendTwin 5 p.gen 0 0 [] s with planner.dropWait := s.planner.dropWait ++ [w] }
  else
    let s := if p.inPage then { s with planner.credit := true } else s
    finishKey p.cmd status (p.words 0) s

/-- The replies that waited for a DROP's ACK are written, with the credits they hold (R94, R328). -/
def releaseDrops (c : DropWait → Bool) (s : State) : State :=
  (s.planner.dropWait.filter c).foldl
    (fun s w => finishKey w.key w.status w.words (if w.page then { s with planner.credit := true } else s))
    { s with planner.dropWait := s.planner.dropWait.filter (fun w => !c w) }

/-- The page that the live plans leave in the planner's image once the plans from n on are gone (R94). -/
def imageBefore (n : Nat) (s : State) : Page :=
  match (s.planner.sealed.take n).getLast? with
  | none => s.fab.act
  | some p => if p.copied then s.fab.stby else s.fab.image

/-- Plan n is refused or withdrawn with a status, and every plan sealed after it is withdrawn, in seal order (R94). -/
def withdrawFrom (n status : Nat) (s : State) : State :=
  let gone := s.planner.sealed.drop n
  let img := if gone.any Plan.routed then imageBefore n s else s.fab.image
  let stby : Page := if gone.any Plan.inPage then {} else s.fab.stby
  let s := { s with planner.sealed := s.planner.sealed.take n, fab.image := img, fab.stby := stby }
  match gone with
  | [] => s
  | p :: ps => ps.foldl (fun s q => endPlan q stWithdrawn s) (endPlan p status s)

/-- The open plan discarded (R92). -/
def discardOpen (s : State) : State :=
  { s with planner.opened := false, planner.entries := [], planner.tribs := [], planner.named := [] }

/-- Number of plans that keep their state across a withdrawal of all: a plan in SWAPPING (Table 4.1). -/
def swappingCount (s : State) : Nat := (s.planner.sealed.filter (fun p => p.st == .swapping)).length

/-- Every plan but one in SWAPPING withdrawn, and the open plan discarded (R92, R108, Table 4.1). -/
def withdrawAll (s : State) : State := discardOpen (withdrawFrom (swappingCount s) stWithdrawn s)

/-- The lockage frame of a plan sealed with at-frame 0 that becomes ARMED now: the next frame, or the frame two after the previous
lockage (R100). Frames are counted as they pass: a re-alignment moves their numbers only (R51). -/
def State.firstLockage (s : State) : Nat :=
  s.time.frame + if s.planner.lockRow.any (fun r => decide (s.time.rows < r + s.time.row + 250)) then 2 else 1

/-- A LOADED plan whose acknowledgement is present or not required becomes ARMED, or HELD with the HOLD flag; a plan sealed
with at-frame 0 gets its lockage frame (R100, R106, R107). -/
def armReady (s : State) : State :=
  match findPlan (fun p => p.st == .loaded) s with
  | some n =>
    match s.planner.sealed[n]? with
    | some p =>
      if s.ackRequired && !p.acked then s
      else if p.hold then modPlan n (fun p => { p with st := .held }) s
      else if p.lock = 0 then
        let a := s.firstLockage
        sendFix { p with lock := a } (modPlan n (fun p => { p with st := .armed, lock := a, first := a }) s)
      else modPlan n (fun p => { p with st := .armed }) s
    | none => s
  | none => s

/-- What the partner has acknowledged or been sent counts no longer (R107): the deltas of the sealed plans that it had
acknowledged wait again in front of the others, in seal order (R106), and none has been shipped. -/
def forgetAcks (s : State) : State :=
  let back := (s.planner.sealed.filter (·.acked)).map (fun p => ({ gen := p.gen, frame := p.lock, writes := p.writes } : Delta))
  let rest := ((s.ckpt.queue ++ s.planner.deltas).filter (fun d => !d.done s)).map (fun d => { d with sent := false })
  let ds := back ++ rest.filter (fun d => !(back.any (fun b => b.gen == d.gen)))
  { s with ckpt.queue := ds.take 4, planner.deltas := ds.drop 4, ckpt.freeGen := none, ckpt.dropped := [],
           planner.sealed := s.planner.sealed.map (fun p => { p with acked := false, shipped := false, ackFrame := 0 }) }

/-- The partner's checkpoint stops being synchronised on the active (R107, R328): replies that waited for a DROP are
written, a waiting plan needs no acknowledgement any longer. -/
def peerLost (cause : Nat) (s : State) : State :=
  if s.ckpt.peer then
    armReady (releaseDrops (fun _ => true) (forgetAcks { s with ckpt.peer := false, ckpt.ev := some (false, cause) }))
  else s

/-- The re-alignments of `l` that act at the boundary after frame k: those fixed for it in start order, then those that name the
number which it gives to the frame that begins (R44: an action named for that frame in the new numbering fires at the same
boundary; R51). `n` bounds their number. -/
def chainRealigns : Nat → Nat → List Realign → List Realign
  | 0, _, _ => []
  | n + 1, k, l =>
    let here := l.filter (fun r => r.k == k)
    match here.getLast? with
    | some r => here ++ chainRealigns n (r.n - 1) (l.filter (fun r => r.k != k))
    | none => []

/-- The re-alignments that act at the boundary after frame k (R278, R44, R51). -/
def State.realignsAt (s : State) (k : Nat) : List Realign := chainRealigns s.time.realigns.length k s.time.realigns

/-- What the re-alignments of that boundary amount to. DESIGN CHOICE (log entry 84): where two name one boundary they act one
after the other, so that the gaps add up and the last one's number stands. -/
def State.realignAt (s : State) (k : Nat) : Option Realign :=
  match s.realignsAt k with
  | [] => none
  | r :: rs => some (rs.foldl (fun a b => { b with k := a.k, gap := a.gap + b.gap }) r)

/-- The last lockage was two frames or more before the frame that begins at the next row tick (condition 2 of R99), counted in
rows: a re-alignment does not move it (R51). -/
def State.spaced (s : State) : Bool := s.planner.lockRow.all (fun r => decide (r + 499 ≤ s.time.rows))

/-- Why the arming check for frame A fails at the end of the frame in progress, the lowest reason first (R99, R100); 0 = it
passes. DESIGN CHOICE (log entry 101): a re-alignment that keeps the number of frame A and only delays its boundary does not
move it; one that skips frame A withdraws it. -/
def armFails (p : Plan) (a : Nat) (s : State) : Nat :=
  if !p.copied then 1
  else if s.ackRequired && (!p.acked || p.ackFrame != a) || p.st != .armed then 2
  else if !s.spaced then 3
  else match s.realignAt s.time.frame with
    | some r => if r.n ≠ a then 4 else 0
    | none => 0

/-- The frame that a deferred lockage moves to: the next one, in the new numbering when a re-alignment skips it (R99). -/
def deferredTo (a : Nat) (s : State) : Nat :=
  match s.realignAt s.time.frame with
  | some r => if a < r.n then r.n + 1 else a + 1
  | none => a + 1

/-- The arming check of plan n for lockage frame A (R99, R100). The lockage frame never moves beyond Z. DESIGN CHOICE (log entry 101): Z is
compared with the number that the new lockage frame has after a re-alignment, so a plan whose frame would move past Z because numbers are
skipped is refused at this check. -/
def armOne (n a : Nat) (s : State) : State :=
  match s.planner.sealed[n]? with
  | some p =>
    if p.lock ≠ a ∨ p.st = .swapping then s
    else
      let why := armFails p a s
      if why = 0 then
        { modPlan n (fun p => { p with st := .swapping }) s with fab.swap := some a }
      else if p.first + p.limit < deferredTo a s then withdrawFrom n stLockageTimeout s
      else
        let b := deferredTo a s
        let p' := { p with lock := b, defers := p.defers + (b - a), reason := why }
        let s := sendFix p' (modPlan n (fun _ => p') s)
        if why = p.reason then s
        else raise 0x0301 [pack [(31, 0, p.gen)], pack [(47, 0, p.first)], pack [(47, 0, b), (55, 48, why)]] s
  | none => s

/-- The lockage frames that are checked at the end of frame k, n being the number of the frame that follows (R99): the next one,
those that a re-alignment skips, which it withdraws (log entry 101), and the one that begins. -/
def armingFrames (k n : Nat) (s : State) : List Nat :=
  (k + 1) :: (s.planner.sealed.map (·.lock)).filter (fun a => decide (k + 1 < a ∧ a < n)) ++ (if n = k + 1 then [] else [n])

/-- The arming check at the end of row 249 of frame A − 1, for every plan whose lockage frame is A, in seal order. -/
def armingCheck (a : Nat) (s : State) : State :=
  (List.range s.planner.sealed.length).foldl (fun s n => armOne n a s) s

/-- The planner status record (Table 4.8). -/
def planStatusWords (s : State) : List W64 :=
  let ps := (s.planner.sealed.flatMap (fun p =>
    [pack [(31, 0, p.gen), (35, 32, p.st.code), (36, 36, b2n p.large), (37, 37, b2n p.acked)], pack [(47, 0, p.lock)]]))
  [pack [(31, 0, s.fab.act.gen), (63, 32, s.fab.stby.gen)],
   pack [(47, 0, s.planner.lastLock), (50, 48, s.planner.sealed.length)],
   pack [(31, 0, s.planner.named.length)]] ++ (List.range 8).map (wd ps)

/-! ## Commands -/

/-- The page that the sealed plans and the open plan will leave, entries and tributary records (R118). -/
def projected (s : State) : Page :=
  let p := s.planner.sealed.foldl (fun (p : Page) q => p.edit q.entries q.tribs) s.basePage
  p.edit s.planner.entries s.planner.tribs

/-- PLAN_SEAL (R88 to R91, R109). DESIGN CHOICE (log entry 82): an open plan that a withdrawal has left without the edits that it
was checked against (R94) is sealed only where the page that results keeps R116 and R117; the seal ends with ST_INVALID_PARAM
otherwise, and the open plan stays. -/
def execPlanSeal (s : State) : Res := onEngine 0x0301 (fun r s =>
  let w := r.cmd.p 0
  let ws := sealWords 0 s.planner.named.length 0 0 s.time.frame 0 0
  let large := bit w 0 || decide (256 < s.planner.named.length)
  let a := r.cmd.atFrame
  if !s.isActive then finish r stNotActive ws s
  else if !sizeOk r || fld w 15 2 != 0 || fld w 63 32 != 0 || (bit w 1 && a != 0) || (large && a != 0) then
    finish r stInvalidParam ws s
  else if a ≠ 0 ∧ s.planner.sealed.any (fun p => decide (p.lock ≠ 0 ∧ a < p.lock + 2)) = true then
    finish r stScheduleConflict ws s
  else if !(projected s).tribsFit then finish r stInvalidParam ws s
  else
    let p : Plan := {
      gen := genAdd s.basePage.gen (s.planner.sealed.length + 1), large := large, replan := bit w 0, hold := bit w 1,
      limit := if fld w 31 16 = 0 then 8000 else fld w 31 16, atFrame := a, lock := a, first := a,
      entries := s.planner.entries, tribs := s.planner.tribs, slots := s.planner.named.length,
      sealFrame := s.time.frame, cmd := r.key }
    later r (discardOpen { s with planner.sealed := s.planner.sealed ++ [p] })) s

def execPlanDiscard (s : State) : Res := onEngine 0x0302 (fun r s =>
  if !s.isActive then finish r stNotActive [] s
  else if !sizeOk r then invalid r s
  else finish r stOk [] (discardOpen s)) s

def execPlanWithdraw (s : State) : Res := onEngine 0x0303 (fun r s =>
  let g := fld (r.cmd.p 0) 31 0
  if !s.isActive then finish r stNotActive [] s
  else if !sizeOk r || fld (r.cmd.p 0) 63 32 != 0 then invalid r s
  else match findPlan (fun p => p.gen == g) s with
    | some n =>
      if s.planner.sealed.any (fun p => p.gen == g && p.st == .swapping) then finish r stTooLate [] s
      else finish r stOk [] (withdrawFrom n stWithdrawn s)
    | none =>
      if g ≠ 0 ∧ s.planner.lastDone = g ∧ s.fab.act.gen = g then finish r stTooLate [] s else invalid r s) s

/-- The record is sampled at the next row tick (R497). -/
def execPlanStatus (ok : Bool) (s : State) : Res := onEngine 0x0304 (fun r s =>
  if !sizeOk r || !bufOk (r.cmd.p 0) then invalid r s else later { r with mem := [b2n ok] } s) s

/-- The page that a read names: by its generation, or the one ACTIVE_GEN names (R98, R113). -/
def pageNamed (g : Nat) (s : State) : Option Page :=
  if s.fab.act.gen ≠ 0 ∧ (g = 0 ∨ s.fab.act.gen = g) then some s.fab.act
  else if g ≠ 0 ∧ s.fab.stby.gen = g then some s.fab.stby
  else none

/-- A read of a page begins: its generation and whether its DMA succeeds stay with the command until the row tick that
ends the copy (log entry 13). -/
def beginRead (r : Run) (g : Nat) (ok : Bool) (s : State) : State :=
  match pageNamed g s with
  | some p => later { r with mem := [p.gen, b2n ok] } s
  | none => finish r stNoPage [] s

def execPageRead (ok : Bool) (s : State) : Res := onEngine 0x0305 (fun r s =>
  let w1 := r.cmd.p 1
  let w2 := r.cmd.p 2
  if !sizeOk r || !bufOk (r.cmd.p 0) || fld w1 63 33 != 0 || fld w2 63 48 != 0 || fld w2 23 0 % 4096 != 0 ||
      fld w2 47 24 % 4096 != 0 || fld w2 47 24 == 0 || decide (12582912 < fld w2 23 0 + fld w2 47 24) then invalid r s
  else beginRead r (fld w1 31 0) ok s) s

/-- The bits of a stage memory word that it holds: the reserved bit 13 reads 0 (Table 3.4). -/
def stageBits : BitVec 16 := 0xDFFF#16

/-- Stage memory words written by the planner or changed by a fault of the device, the reserved bit left 0 (Table 3.4). -/
def putStage (ws : List (Nat × BitVec 16)) (m : KMap (BitVec 16)) : KMap (BitVec 16) :=
  ws.foldl (fun m e => kset 0 m e.1 (e.2 &&& stageBits)) m

/-- Words of an area from a byte offset on, stored under R5 (R112). -/
def areaWords (p : Page) (stage : Bool) (off len : Nat) : List W64 :=
  (List.range (len / 8)).map (fun i =>
    if stage then
      let k := off / 2 + 4 * i
      let w := fun (j : Nat) => (kget 0 p.stage (k + j) &&& stageBits).toNat
      pack [(15, 0, w 0), (31, 16, w 1), (47, 32, w 2), (63, 48, w 3)]
    else
      let k := off / 4 + 2 * i
      pack [(31, 0, (p.entry k).toNat), (63, 32, (p.entry (k + 1)).toNat)])

/-- Words that a PAGE_READ or TRIB_READ copies out of a page. -/
def readWords (r : Run) (p : Page) : List W64 :=
  if r.cmd.opcode = 0x0305 then
    areaWords p (bit (r.cmd.p 1) 32) (fld (r.cmd.p 2) 23 0) (fld (r.cmd.p 2) 47 24)
  else
    (List.range (fld (r.cmd.p 2) 17 0)).flatMap (fun i => p.tribRec (fld (r.cmd.p 1) 48 32 + i))

/-- The copy ends: ST_PAGE_CHANGED when the page loader has begun to write the page (R113). DESIGN CHOICE (log entry 13): the same
where a withdrawal or a refusal has emptied the standby page without a loader. -/
def endRead (r : Run) (s : State) : State :=
  let g := r.mem.getD 0 0
  match pageNamed g s with
  | some p => bufReply r (r.mem.getD 1 0 == 1) (r.cmd.p 0).toNat (readWords r p) [w64 g] s
  | none => finish r stPageChanged [w64 g] (bufUndefined (r.cmd.p 0).toNat (8 * (readWords r {}).length) s)

/-- Copies in progress end at the row tick: the DMA reads the pages as M1 (R19). -/
def endReads (s : State) : State :=
  (s.host.prog.filter (fun r => r.cmd.opcode == 0x0305 || r.cmd.opcode == 0x0204)).foldl
    (fun s r => throughMatrix 1 [if r.cmd.opcode = 0x0305 then 0 else 1] r (endRead r) s) s

def execLockageAt (s : State) : Res := onEngine 0x0306 (fun r s =>
  let g := fld (r.cmd.p 0) 31 0
  let a := r.cmd.atFrame
  if !s.isActive then finish r stNotActive [] s
  else if !sizeOk r || fld (r.cmd.p 0) 63 32 != 0 then invalid r s
  else match findPlan (fun p => p.gen == g && p.st == .held) s with
    | some n =>
      if (s.planner.sealed.take n).any (fun p => decide (p.lock ≠ 0 ∧ a < p.lock + 2)) then finish r stScheduleConflict [] s
      else
        let s := modPlan n (fun p => { p with st := .armed, hold := false, atFrame := a, lock := a, first := a }) s
        let s := match s.planner.sealed[n]? with | some p => sendFix p s | none => s
        finish r stOk [pack [(47, 0, a)]] s
    | none => invalid r s) s

/-- QUEUED to PLANNING: the plan before it has ended its copy, or there is none (Table 4.1), and the planner's image holds the
page that the plan builds on (log entry 83). -/
def execPlanningStart (s : State) : Res :=
  match findPlan (fun p => p.st == .queued) s with
  | some n =>
    if (n = 0 ∨ ((s.planner.sealed[n - 1]?).map Plan.copied).getD false = true) ∧ s.starting = false ∧
        s.followsLockage = false then
      .next (modPlan n (fun p => { p with st := .planning, startRow := s.time.rows }) s)
    else .next s
  | none => .next s

/-- The page that a plan's routing gives; bit 13 of a stage memory word reads 0 (Table 3.4). -/
def routedPage (p : Plan) (stage : KMap (BitVec 16)) (s : State) : Page :=
  { s.fab.image.edit p.entries p.tribs with gen := p.gen, stage := putStage stage [] }

/-- PLANNING ends (Table 4.1): routes found that keep R70 and R78, or no assignment for a page beyond R76's budget whose new legs
R74 does not route. A route that breaks these rules is none that the planner gives, and changes nothing (log entry 14). -/
def execPlanningDone (route : Route) (s : State) : Res :=
  match findPlan (fun p => p.st == .planning) s with
  | some n =>
    match s.planner.sealed[n]? with
    | some p =>
      match route with
      | .found stage =>
        let pg := routedPage p stage s
        let moved := movedLegs s.fab.image pg
        if pg.check && (p.replan || moved == 0 || !r74Covers s.fab.image pg) then
          let rows := s.time.rows - p.startRow
          let us := if Config.roundUp rows 2 then (rows + 1) / 2 else rows / 2
          let ws := if s.twinOn then pageDiff s.fab.image pg else []
          let d : Delta := { gen := p.gen, frame := p.lock, writes := ws }
          let s := if s.twinOn then passDeltas { s with planner.deltas := s.planner.deltas ++ [d] } else s
          .next { modPlan n (fun p => { p with st := .planned, moved := moved, planUs := us, writes := ws }) s with
            fab.image := pg }
        else .next s
      | .none =>
        let pg := routedPage p [] s
        if pg.budgetOk || r74Covers s.fab.image pg then .next s else .next (withdrawFrom n stNoRoute s)
    | none => .next s
  | none => .next s

/-- The committed slot, if any. -/
def State.committed (s : State) : Option Slot :=
  if s.ckpt.x.st = .committed then some s.ckpt.x
  else if s.ckpt.y.st = .committed then some s.ckpt.y else none

/-- The checkpoint engine is reading the standby page for a FULL (R322). -/
def pageHeld (s : State) : Bool := s.ckpt.sending.any (fun f => f.gen == s.fab.stby.gen)

/-- Copies of a page that the page loader begins to write end with ST_PAGE_CHANGED (R113). -/
def interruptReads (s : State) : State :=
  (s.host.prog.filter (fun r => (r.cmd.opcode == 0x0305 || r.cmd.opcode == 0x0204) &&
    (pageNamed (r.mem.getD 0 0) s).isNone)).foldl (fun s r => endRead r s) s

/-- PLANNED to LOADING with the standby page credit; a WARM standby loads its committed slot (R332). -/
def execLoadingStart (s : State) : Res :=
  match findPlan (fun p => p.st == .planned) s with
  | some n =>
    if s.planner.credit && !pageHeld s && !s.fnDown 4 && s.reaches 4 [0, 1] then
      .next (interruptReads
        { modPlan n (fun p => { p with st := .loading }) s with planner.credit := false, fab.stby := {} })
    else .next s
  | none =>
    match s.committed with
    | some sl =>
      if (s.twin.role = .warm ∨ s.twin.role = .warming) ∧ s.twin.warmLoad = none ∧ s.fab.stby.gen ≠ sl.page.gen ∧
          s.fab.swap = none ∧ s.twin.started.isSome = true ∧ s.fnDown 4 = false ∧ s.reaches 4 [0, 1] = true then
        .next (interruptReads { s with twin.warmLoad := some sl.page.gen, fab.stby := {} })
      else .next s
    | none => .next s

/-- The copy ends: LOADED when the page keeps R70, REFUSED with ST_PAGE_CHECK otherwise. The operand names the stage
memory words that a fault of the device has changed in the copy. -/
def execLoadingDone (faults : List (Nat × BitVec 16)) (s : State) : Res :=
  if !s.reaches 4 [0, 1] then .next s
  else match findPlan (fun p => p.st == .loading) s with
  | some n =>
    let pg : Page := { s.fab.image with stage := putStage faults s.fab.image.stage }
    if pg.check then .next (armReady { modPlan n (fun p => { p with st := .loaded }) s with fab.stby := pg })
    else .next (withdrawFrom n stPageCheck s)
  | none =>
    match s.twin.warmLoad, s.committed with
    | some g, some sl =>
      let pg : Page := { sl.page with stage := putStage faults sl.page.stage }
      let s := { s with twin.warmLoad := none }
      if sl.page.gen = g ∧ pg.check = true then
        let s := { s with fab.stby := pg }
        match s.ckpt.fixWait with
        | some f => .next (sendTwin 7 g f 4 [] { s with ckpt.fixWait := none })
        | none => .next s
      else .next s
    | some _, none => .next { s with twin.warmLoad := none }
    | none, _ => .next s

/-- R100: in row 249 of frame Z − 1 a plan whose arming check for frame Z fails is refused with ST_LOCKAGE_TIMEOUT. The
row tick that ends that row makes the same check (log entry 15). -/
def execDeferralLimit (s : State) : Res :=
  let a := s.time.frame + 1
  match findPlan (fun p => p.lock == a && p.st != .swapping && decide (p.first + p.limit ≤ a) &&
      armFails p a s != 0) s with
  | some n => .next (if s.time.row = 249 then withdrawFrom n stLockageTimeout s else s)
  | none => .next s

end Sys2Proof.Machine
end

