-- ==== Sys2Proof/Machine/Refs.lean ====
section
/-! DEFINITION. Chapter 9: reference inputs, qualification, selection, channel F, and their commands. -/

namespace Sys2Proof.Machine

open Sys2Proof

/-! ## CRC-16 (R146) and rounding -/

/-- One bit into the CRC-16. -/
def crc16Bit (c : BitVec 16) (d : Bool) : BitVec 16 :=
  if bit c 15 != d then (c <<< 1) ^^^ 0x1021#16 else c <<< 1

/-- CRC-16 of the bits n - 1 to 0 of a number, most significant first. -/
def crc16 (n v : Nat) : BitVec 16 :=
  (List.range n).foldl (fun c i => crc16Bit c (v.testBit (n - 1 - i))) 0xFFFF#16

/-- CRC-16 of bytes. -/
def crc16Bytes (bs : List (BitVec 8)) : BitVec 16 := crc16 (8 * bs.length) (ofBeBytes bs)

/-- A quotient that the spec writes without a rounding (log entry 8). -/
def quot (num : Int) (den : Nat) : Int :=
  let q := num / (den : Int)
  if num % (den : Int) = 0 then q else if Config.roundUp num den then q + 1 else q

/-- Mean of a list. -/
def meanOf (l : List Int) : Int := quot (l.foldl (· + ·) 0) l.length

/-- Magnitude. -/
def mag (i : Int) : Nat := i.natAbs

/-! ## Records (Tables 9.2, 9.3, 9.10, 9.11) -/

def Input.enable (i : Input) : Bool := bit i.w0 0
def Input.prio (i : Input) : Nat := fld i.w0 4 1
def Input.msgMode (i : Input) : Nat := fld i.w0 6 5
def Input.freqHz (i : Input) : Nat := fld i.w0 48 19
def Input.laneNo (i : Input) : Nat := fld i.w0 57 49
/-- FREQ_LIM in ppt. -/
def Input.freqLim (i : Input) : Nat := (if fld i.w1 10 0 = 0 then 92 else fld i.w1 10 0) * 100000
/-- DRIFT_LIM in ppt. -/
def Input.driftLim (i : Input) : Nat := (if fld i.w1 20 11 = 0 then 16 else fld i.w1 20 11) * 1000
/-- HOLDOFF in rows. -/
def Input.holdoffRows (i : Input) : Nat := fld i.w1 27 21 * 20000
/-- WTR in rows. -/
def Input.wtrRows (i : Input) : Nat := (if fld i.w1 39 28 = 0 then 300 else fld i.w1 39 28) * 2000000

/-- Classes of Table 9.2. -/
inductive RefClass where
  | pps | khz | mhz | lane | flight
deriving DecidableEq, Repr

/-- Class of input n (R230). -/
def refClass (n : Nat) (i : Input) : RefClass :=
  if n = 24 then .flight
  else if 8 ≤ n then .lane
  else if i.freqHz < 1000 then .pps
  else if i.freqHz < 1000000 then .khz
  else .mhz

/-- Service bandwidth B in mHz (Table 9.2, R257). -/
def serviceBw (n : Nat) (i : Input) : Nat :=
  match refClass n i with
  | .pps => 10
  | .khz => 500
  | .mhz =>
    match fld i.w1 42 40 with
    | 0 => 1000 | 1 => 100 | 2 => 200 | 3 => 500 | 4 => 2000 | 5 => 5000 | _ => 10000
  | .lane => 10000
  | .flight => 50000

/-- Phase samples per second R (Table 9.2). -/
def sampleRate (n : Nat) (i : Input) : Nat :=
  match refClass n i with
  | .pps => i.freqHz
  | .khz => min i.freqHz 8000
  | _ => 8000

/-- S of R258 in mHz for service bandwidth b and r phase samples per second. -/
def startBw (b r : Nat) : Nat := min (100 * b) (50 * r)

/-- Step k of the staircase is the last: its bandwidth equals B. -/
def lastStep (b r k : Nat) : Bool := decide (startBw b r ≤ b * 4 ^ k)

/-- Dwell of step k in rows (R258). -/
def dwellRows (b r k : Nat) : Nat :=
  if lastStep b r k then ceilDiv 4000000000 b else ceilDiv (4000000000 * 4 ^ k) (startBw b r)

/-- Frequency resolution of a monitor second in ppt (Table 9.2). -/
def freqStepPpt (n : Nat) (i : Input) : Nat :=
  match refClass n i with
  | .pps => 1000
  | .khz => 10
  | _ => 1

/-- Rows that pass at least between two phase samples (Table 9.2). Where every edge gives one, edges come no closer than half a
nominal period; else one comes per frame (DESIGN CHOICE, log entry 89). -/
def sampleGap (n : Nat) (i : Input) : Nat := if sampleRate n i = 8000 then 250 else 1000000 / sampleRate n i

/-- Lock threshold in ps (R258). -/
def lockThreshold (n : Nat) (i : Input) (s : State) : Nat :=
  if fld s.f.recW1 9 0 = 0 then (if refClass n i = .pps then 200000 else 50000) else fld s.f.recW1 9 0 * 1000

/-- Rank of a pair of codes (Table 9.3). -/
def rankOf (ssm essm : Nat) : Nat :=
  match ssm, essm with
  | 0x2, 0x21 => 1 | 0x2, 0x20 => 2 | 0x2, 0x23 => 3 | 0x2, 0xFF => 4
  | 0x4, 0xFF => 5 | 0x8, 0xFF => 6 | 0xB, 0x22 => 7 | 0xB, 0xFF => 8 | 0xF, 0xFF => 9
  | _, _ => 10

/-- SSM and ESSM in force (R235). Table 9.3 gives QL-FAILED no code: an input whose QL is QL-FAILED keeps the pair last received (DESIGN
CHOICE, log entry 117). -/
def Input.ql (i : Input) : Nat × Nat :=
  if i.msgMode = 0 then (fld i.w0 10 7, fld i.w0 18 11) else (i.ssm, i.essm)

/-- Rank of an input (R234, R236). -/
def Input.rank (i : Input) : Nat :=
  if i.msgMode ≠ 0 ∧ i.qlFailed = true then 11 else rankOf i.ql.1 i.ql.2

/-- Fields of the channel F reference record (Table 9.11). -/
def qlEnabled (s : State) : Bool := !bit s.f.recW0 0
def qlMin (s : State) : Nat := if fld s.f.recW0 4 1 = 0 then 8 else fld s.f.recW0 4 1
def suspectHold (s : State) : Bool := bit s.f.recW0 5
def holdAvg (s : State) : Nat := if fld s.f.recW0 19 8 = 0 then 60 else fld s.f.recW0 19 8
def holdLimitRows (s : State) : Nat := (if fld s.f.recW0 27 20 = 0 then 24 else fld s.f.recW0 27 20) * 3600 * 2000000
/-- LOCAL_SSM and LOCAL_ESSM; 0, 0 = QL-SEC. -/
def localQl (s : State) : Nat × Nat :=
  if fld s.f.recW0 31 28 = 0 ∧ fld s.f.recW0 39 32 = 0 then (0xB, 0xFF) else (fld s.f.recW0 31 28, fld s.f.recW0 39 32)
/-- HIST_LIM in ppt. -/
def histLim (s : State) : Nat := (if fld s.f.recW0 47 40 = 0 then 10 else fld s.f.recW0 47 40) * 10000

/-- Both averages are not valid while a LOCALOSC fault holds (R256). -/
def holdUsable (s : State) : Bool := s.f.holdValid && !s.f.oscFault
def longUsable (s : State) : Bool := s.f.longValid && !s.f.oscFault

/-! ## Eligibility and selection (R245 to R247) -/

/-- R245. -/
def eligible (n : Nat) (s : State) : Bool :=
  let i := s.input n
  (i.q == .qualified || (i.q == .suspect && !suspectHold s)) && i.prio != 0 && !i.lockedOut &&
    (!qlEnabled s || decide (i.rank ≤ qlMin s))

/-- Input a beats input b under the keys of R246. -/
def beats (s : State) (a b : Nat) : Bool :=
  let i := s.input a
  let j := s.input b
  let ra := if qlEnabled s then i.rank else 0
  let rb := if qlEnabled s then j.rank else 0
  decide (ra < rb) || (ra == rb && (decide (i.prio < j.prio) || (i.prio == j.prio &&
    (s.f.selected == some a || (s.f.selected != some b && decide (a < b))))))

/-- The first of a list of inputs in the order of R246. -/
def bestOf (s : State) (l : List Nat) : Option Nat :=
  l.foldl (fun b n => match b with | none => some n | some m => if beats s n m then some n else some m) none

/-- R246. -/
def bestInput (s : State) : Option Nat := bestOf s ((List.range 25).filter (fun n => eligible n s))

/-- A forced input may be selected (R247). -/
def forcible (n : Nat) (s : State) : Bool :=
  let i := s.input n
  (i.q == .qualified || i.q == .suspect) && !i.lockedOut

/-! ## Channel F (R252 to R258, Tables 9.6, 9.7) -/

/-- Channel F enters a state; EV_F_STATE but on the way out of FREE_RUN (Table 9.7). -/
def setFState (n : FState) (s : State) : State :=
  let o := s.f.state
  if o = n then s
  else
    let s := { s with f.state := n, f.stateFrame := s.time.frame, f.lockedWhole := false,
                      f.holdSince := if n = .holdover then some s.time.rows else none }
    if o = .freeRun then s
    else raise 0x0605 [pack [(2, 0, o.code), (6, 4, n.code), (12, 8, s.f.selected.getD 31)]] s

/-- The selected input's service bandwidth taken over (R257). -/
def takeBw (s : State) : State :=
  match s.f.selected with
  | some n => { s with f.bw := serviceBw n (s.input n) }
  | none => s

/-- ACQUIRING from step 0 of the staircase (R258), with or without phase build-out (Table 9.7, R251, R276). -/
def acquire (build : Bool) (s : State) : State :=
  setFState .acquiring (takeBw { s with f.step := 0, f.dwellStart := some s.time.rows, f.sampleRow := none,
                                        f.buildOut := build, f.held := if build then s.f.held else 0 })

/-- Channel F from the on-die oscillator, within 50 ppm: LOST (R256). -/
def onDie (s : State) : State :=
  let v : Int := ((Config.freeWord s.free).toNat % 100000001 : Nat)
  setFState .lost { s with f.freq := v - 50000000, free := s.free + 1, f.dwellStart := none }

/-- The selected input is lost and none is eligible (Table 9.7); in a LOCALOSC fault the device reports LOST (R256). -/
def loseReference (s : State) : State :=
  let s := { s with f.dwellStart := none, f.step := 0 }
  if s.f.oscFault then onDie s
  else if holdUsable s then setFState .holdover { s with f.freq := s.f.holdFreq }
  else setFState .freeRun { s with f.freq := 0 }

/-- A software loop closes with an event cause; 0 = on command (R276). Its transition follows with the tick's other ones
(closeF). -/
def closeSoft (cause : Nat) (s : State) : State :=
  if s.f.software then
    let s := { s with f.software := false, f.closing := true }
    if cause = 0 then s else raise 0x0608 [w64 cause] s
  else s

/-- The hardware loop is resumed after a software loop (R276), once the tick has made its selection (log entry 22). -/
def closeF (s : State) : State :=
  if s.f.closing then
    let s := { s with f.closing := false }
    if s.f.selected.isSome then acquire true s else loseReference s
  else s

/-- A software loop ends because of a LOCALOSC fault while no input is eligible (R256, R276). -/
def oscLost (s : State) : State :=
  let t := onDie { s with f.software := false, f.closing := false }
  if s.f.software then raise 0x0608 [w64 2] t else t

/-- Step 4 of R248, with the consequences of a LOCALOSC fault registered in the row just ended (R256, R276); every transition is
suspended while software closes the loop (R273). -/
def channelF (s : State) : State :=
  let fault := s.f.oscAct
  let s := { s with f.oscAct := false }
  if fault && !(List.range 25).any (fun n => eligible n s) then oscLost s
  else if s.f.software then (if fault then closeF (closeSoft 2 s) else s)
  else if s.f.closing then closeF s
  else match s.f.state, s.f.selected with
    | .freeRun, some _ => acquire false s
    | .holdover, some _ | .lost, some _ => acquire true s
    | .acquiring, none | .locked, none => loseReference s
    | _, _ => s

/-- SSM and ESSM that the device advertises (Table 9.6, R277). -/
def advQl (s : State) : Nat × Nat :=
  match s.f.state with
  | .locked =>
    match s.f.selected with
    | some n => if s.f.software && !eligible n s then localQl s else (s.input n).ql
    | none => localQl s
  | .acquiring | .holdover => localQl s
  | .freeRun | .lost => (0xB, 0xFF)

/-- SSM and ESSM in the FRAME barges of a lane (R253). -/
def laneQl (lane : Nat) (s : State) : Nat × Nat :=
  match s.f.selected with
  | some n =>
    if 8 ≤ n ∧ n ≤ 23 ∧ (s.input n).laneNo = lane ∧ (s.f.state = .locked ∨ s.f.state = .acquiring) then (0xF, 0xFF)
    else advQl s
  | none => advQl s

/-! ## Qualification (R240 to R243) -/

/-- Cause of an inactive input: 3 for a lane reference, 1 otherwise. -/
def actCause (n : Nat) : Nat := if 8 ≤ n ∧ n ≤ 23 then 3 else 1

/-- An input enters a state, with EV_REF_QUAL. -/
def Input.enter (i : Input) (q : QState) : Input := { i with q := q, changed := true }

/-- An activity change applied (Table 9.5); `sel`: the input is selected; `now`: the row that begins. -/
def Input.activity (i : Input) (n : Nat) (act sel : Bool) (now : Nat) : Input :=
  let i := { i with active := act, dirtySec := i.dirtySec || !act }
  if act then
    if i.q = .holdoff then { i with q := .qualified, holdoffDue := none } else i
  else match i.q with
    | .restoring => { i with q := .failed, wtrDue := none }
    | .qualified =>
      if sel && i.holdoffRows != 0 then { i with q := .holdoff, holdoffDue := some (now + i.holdoffRows) }
      else { i.enter .failed with cause := actCause n }
    | .suspect | .drifting => { i.enter .failed with cause := actCause n }
    | _ => i

/-- The QL registered in the row just ended (R235, R236). -/
def Input.qlTick (i : Input) : Input :=
  match i.qlNew with
  | some q => { i with ssm := q.1, essm := q.2, qlFailed := false }
  | none => if i.absentHit then { i with qlFailed := true } else i

/-- Activity registered in the row just ended, and what an inactive input missed while a LOCALOSC fault held its state. -/
def Input.actTick (i : Input) (n : Nat) (sel : Bool) (now : Nat) : Input :=
  match i.actNew with
  | some a => i.activity n a sel now
  | none =>
    if i.active then (if i.q = .holdoff then i.activity n true sel now else i)
    else if i.q = .failed ∨ i.q = .holdoff then i
    else i.activity n false sel now

/-- Step 2 of R248 for one input: what was registered in the row just ended. A LOCALOSC fault leaves its state as it stands
(R256). -/
def Input.tick (i : Input) (n : Nat) (fault sel : Bool) (now : Nat) : Input :=
  let i := i.qlTick
  let i := if fault then { i with active := i.actNew.getD i.active, dirtySec := i.dirtySec || i.actNew == some false }
    else
      let i := i.actTick n sel now
      let i := if i.holdHit && i.q == .holdoff then { i.enter .failed with cause := actCause n, holdoffDue := none } else i
      if i.wtrHit && i.q == .restoring then { i.enter .qualified with wtrDue := none } else i
  { i with qlNew := none, absentHit := false, actNew := none, holdHit := false, wtrHit := false }

/-- Every input that is not OFF, changed by f. -/
def modInputs (f : Nat → Input → Input) (s : State) : State :=
  (List.range 25).foldl (fun s n => if (s.input n).q = .off then s else s.modInput n (f n)) s

/-- SUSPECT inputs return when another input has entered QUALIFIED (Table 9.5). -/
def releaseSuspects (before : State) (s : State) : State :=
  let entered := (List.range 25).filter (fun n => (s.input n).q == .qualified && (before.input n).q != .qualified)
  modInputs (fun n i => if i.q == .suspect && entered.any (· ≠ n) then i.enter .qualified else i) s

/-- Activity of a lane reference (R240). -/
def laneActive (lane : Nat) (s : State) : Bool :=
  let l := s.lane lane
  l.bring == .inService && !l.los && !l.loa && !l.lod && !l.lora && !l.frm

/-! ## Time references (R239) -/

/-- R239. The flight's timing source is anchored as its latest SYNC says. -/
def timeOkNow (n : Nat) (s : State) : Bool :=
  let i := s.input n
  i.q == .qualified &&
    ((decide (n < 8) && i.freqHz == 1 && i.msgMode == 2 && decide (3 ≤ i.todRun)) || (n == 24 && s.flight.srcAnchored))

/-- The time reference that ranks first by the order of R248. -/
def timeRef (s : State) : Option Nat := bestOf s ((List.range 25).filter (fun n => timeOkNow n s))

/-- Time references that qualify or stop qualifying (R36, Table 2.4). -/
def refreshTimeOk (s : State) : State :=
  let fresh := (List.range 25).filter (fun n => timeOkNow n s && !(s.input n).timeOk)
  let s := modInputs (fun n i => { i with timeOk := timeOkNow n s }) s
  let s := if fresh.isEmpty || s.time.anchored then s
    else raise 0x0609 [w64 ((timeRef s).getD 31)] s
  if (timeRef s).isNone then { s with time.offValid := false } else s

/-! ## The selection at a row tick (R248, R249, R261) -/

/-- A FORCED input is selected while it is QUALIFIED or SUSPECT (R247). With SUSPECT_POLICY 1 one that enters SUSPECT is left as
Table 9.7 gives, until it is QUALIFIED again or commanded again (DEDUCED, log entry 90). -/
def forcedOk (s : State) : Bool :=
  let n := s.f.named
  let i := s.input n
  forcible n s && (i.q == .qualified || !suspectHold s || s.f.byCmd || (s.f.selected == some n && !i.changed))

/-- Step 3 of R248: mode and selected input, with the cause of a change (R249). -/
def decideInput (s : State) : SelMode × Option Nat × Nat :=
  let lost : Bool := match s.f.selected with
    | some c => !((s.input c).q == .qualified || (s.input c).q == .holdoff || ((s.input c).q == .suspect && !suspectHold s))
    | none => false
  let why := if s.f.cmdWhy then 3 else if lost then 4 else 1
  match s.f.mode with
  | .auto => (.auto, bestInput s, why)
  | .manual => if eligible s.f.named s then (.manual, some s.f.named, why) else (.auto, bestInput s, 2)
  | .forced => (.forced, if forcedOk s then some s.f.named else none, why)

/-- The selected input changes: EV_REF_SWITCH, the new input's bandwidth, and phase build-out from one input to another, while the loop
is open to any input (R249, R251, R257, R274). DESIGN CHOICE (log entry 91): in ACQUIRING, for which Table 9.7 has no such row, the
step and the dwell go on with the new input's bandwidth. -/
def switchInput (n : Option Nat) (cause : Nat) (s : State) : State :=
  let cur := s.f.selected
  if cur = n then s
  else
    let s := takeBw { s with f.selected := n, f.newRef := true, f.sampleRow := none,
                             f.buildOut := s.f.buildOut || (n.isSome && (cur.isSome || s.f.software)) }
    raise 0x0603 [pack [(4, 0, cur.getD 31), (12, 8, n.getD 31), (18, 16, cause)]] s

/-- The selected input is in HOLDOFF, so that only a command changes the selection (R248). -/
def holdsOff (s : State) : Bool :=
  (match s.f.selected with | some c => (s.input c).q == .holdoff | none => false) && !s.f.byCmd

/-- The input that step 3 of R248 gives. -/
def nextInput (s : State) : Option Nat := if holdsOff s then s.f.selected else (decideInput s).2.1

/-- Steps 3 and 4 of R248. -/
def select (s : State) : State :=
  if holdsOff s then (if s.f.oscAct then channelF s else s)
  else
    let d := decideInput s
    channelF (switchInput d.2.1 d.2.2 { s with f.mode := d.1 })

/-- EV_REF_QUAL and EV_REF_QL (R261). -/
def refEvents (s : State) : State :=
  let ch := (List.range 25).filter (fun n => (s.input n).changed)
  let s := raiseSummary 0x0601 ch (match (s.input (ch.foldl min 24)).q with
    | .off => 0 | .failed => 1 | .holdoff => 2 | .restoring => 3 | .qualified => 4 | .drifting => 5 | .suspect => 6) 0 s
  let rk := (List.range 25).filter (fun n => (s.input n).q != .off && (s.input n).rank != (s.input n).rankShown)
  let s := raiseSummary 0x0602 rk (s.input (rk.foldl min 24)).rank 0 s
  modInputs (fun _ i => { i with changed := false, rankShown := i.rank }) s

/-- The held frequency of channel F while the selected input is in HOLDOFF (R252), and phase build-out at its end (R251); while
TIME re-initialises, the frequency in force is held likewise (Table 17.1). An open loop keeps the frequency that software gave it
(R273). A monitor second with an input in HOLDOFF gives no sample (R255). -/
def freezeF (s : State) : State :=
  let inHold := match s.f.selected with | some c => (s.input c).q == .holdoff | none => false
  let anyHold : Bool := (List.range 25).any (fun n => (s.input n).q == QState.holdoff)
  let s := { s with f.lockedWhole := s.f.lockedWhole && !anyHold }
  if s.f.software then { s with f.frozen := false }
  else if inHold && !s.f.frozen then
    { s with f.frozen := true, f.freq := if s.f.hist.isEmpty then s.f.freq else meanOf s.f.hist }
  else if !inHold && s.fnDown 6 then { s with f.frozen := true }
  else if !inHold then { s with f.frozen := false, f.buildOut := s.f.buildOut || s.f.frozen } else s

/-! ## Commands applied at a row tick (R248 step 1) -/

/-- A new configuration record of one input (Table 9.5, first and last rows). DEDUCED (log entry 88): a changed FREQ_HZ, LANE or
MSG_MODE takes an input that stays enabled through OFF to FAILED at the one row tick. -/
def Input.configure (i : Input) (w0 w1 : W64) (now : Nat) : Input :=
  let j : Input := { i with w0 := w0, w1 := w1 }
  let off : Input := { j with q := .off, active := false, wtrDue := none, holdoffDue := none, timeOk := false, todRun := 0,
                              tod := [], qlFailed := false, ssm := 0, essm := 0, freqFault := false, freq := none,
                              drift := none, window := [], rankShown := 0, qlNew := none, actNew := none }
  let on : Input := { off with q := .failed, qlRow := now, tieStart := none, dirtySec := true }
  if i.q = .off then (if j.enable then on else j)
  else if !j.enable then off
  else if j.freqHz ≠ i.freqHz ∨ j.laneNo ≠ i.laneNo ∨ j.msgMode ≠ i.msgMode then on
  else j

/-- REF_CFG records: input and two words. -/
def refRecords (r : Run) : List (Nat × W64 × W64) :=
  (List.range (fld (r.cmd.p 0) 9 5)).map (fun j =>
    (fld (r.cmd.p 0) 4 0 + j, r.cmd.p (1 + 2 * j), r.cmd.p (2 + 2 * j)))

/-- One REF_CFG, REF_SELECT or DPLL_CFG takes effect and is completed. -/
def applyRef (r : Run) (s : State) : State :=
  let s := match r.cmd.opcode with
    | 0x0601 => (refRecords r).foldl (fun s x => s.modInput x.1 (fun i => i.configure x.2.1 x.2.2 s.time.rows)) s
    | 0x0604 => { s with f.recW0 := r.cmd.p 0, f.recW1 := r.cmd.p 1 }
    | _ =>
      let n := fld (r.cmd.p 0) 7 3
      match fld (r.cmd.p 0) 2 0 with
      | 0 => { s with f.mode := .auto }
      | 1 => { s with f.mode := .manual, f.named := n }
      | 2 => { s with f.mode := .forced, f.named := n }
      | 3 =>
        let s := s.modInput n (fun i => { i with lockedOut := true })
        if s.f.mode ≠ .auto ∧ s.f.named = n then { s with f.mode := .auto } else s
      | _ => s.modInput n (fun i => { i with lockedOut := false })
  finish r stOk [] s

/-- Step 2 of R248 on a state, given the state before the tick. -/
def qualTick (before s : State) : State :=
  let s := modInputs (fun n i => i.tick n s.f.oscFault (before.f.selected == some n) s.time.rows) s
  if s.f.oscFault then s else releaseSuspects before s

/-- The commands of the row command a change of selection: MANUAL, FORCED, AUTO out of one of them, or LOCKOUT of the selected
input. -/
def commandsChange (cmds : List Run) (before s : State) : Bool :=
  cmds.any (fun r => r.cmd.opcode == 0x0602 && decide (fld (r.cmd.p 0) 2 0 = 1 ∨ fld (r.cmd.p 0) 2 0 = 2)) ||
  before.f.mode != s.f.mode ||
  (match before.f.selected with
    | some c => (s.input c).lockedOut && !(before.input c).lockedOut
    | none => false)

/-- R248 at a row tick. The cause of a change is the commands when without them the tick would decide otherwise (DEDUCED, log
entry 90). At the tick that closes a monitor second the selection follows that second's decisions, in MONITOR_SECOND (log
entry 22). -/
def refTick (s : State) : State :=
  let before := s
  let cmds := s.host.prog.filter (fun r => [0x0601, 0x0602, 0x0604].contains r.cmd.opcode)
  let s : State := qualTick before (cmds.foldl (fun s r => applyRef r s) s)
  let s : State := { s with f.byCmd := commandsChange cmds before s, f.cmdWhy := false }
  let s : State := if cmds.isEmpty then s
    else
      let quiet := qualTick before { before with f.byCmd := false, f.cmdWhy := false }
      { s with f.cmdWhy := decide (nextInput s ≠ nextInput quiet) }
  freezeF (if s.time.rows % 2000000 = 0 then s else refreshTimeOk (refEvents (select s)))

/-- A phase difference with the difference that is held constant taken off; the first after a build-out gives that (R251). -/
def builtOut (v : Int) (s : State) : Int × State :=
  if s.f.buildOut then (0, { s with f.held := v, f.buildOut := false }) else (v - s.f.held, s)

/-- A phase sample of the selected input, registered in its row (R254, R258). -/
def samplePhase (raw : Int) (s : State) : State :=
  match s.f.selected with
  | some n =>
    let b := builtOut raw s
    let v := b.1
    let s := { b.2 with f.phaseErr := v }
    let t := lockThreshold n (s.input n) s
    if s.f.software || s.fnDown 6 then s
    else if s.f.state = .locked ∧ 4 * t < mag v then { s with f.beyond := true }
    else if s.f.state = .acquiring ∧ t ≤ mag v then { s with f.dwellStart := some s.time.rows }
    else s
  | none => s

/-- The phase sample that the row just ended brought (R254, R258); input 24 takes its samples from SYNC packets (R393). -/
def rowSample (phase : Option Int) (s : State) : State :=
  match phase, s.f.selected with
  | some v, some n =>
    if n = 24 then s
    else if s.f.sampleRow.any (fun r => decide (s.time.rows < r + sampleGap n (s.input n))) then s
    else samplePhase v { s with f.sampleRow := some s.time.rows }
  | _, _ => s

/-- The frequency of channel F in the row (R252). -/
def sampleF (freq : Option Int) (s : State) : State :=
  let follows := (s.f.state == .acquiring || s.f.state == .locked) && !s.f.frozen && !s.f.software
  let s := match freq with
    | some v => if follows then { s with f.freq := v } else s
    | none => s
  { s with f.hist := (s.f.freq :: s.f.hist).take 64 }

/-! ## Rows of the table: messages, activity, timers -/

/-- A REFMSG message that R237 accepts: its type and payload. DESIGN CHOICE (log entry 117): bytes that do not begin with SYNC are
discarded and counted as well. -/
def refMsg (m : RefMsg) : Option (Nat × List (BitVec 8)) :=
  let b := fun i => (m.bytes.getD i 0).toNat
  let n := b 2
  let okLen := (b 1 = 1 ∧ n = 2) ∨ (b 1 = 2 ∧ n = 7)
  if !m.framing && b 0 == 0xA5 && decide okLen && m.bytes.length == 5 + n &&
      ofBeBytes (m.bytes.drop (3 + n)) == (crc16Bytes ((m.bytes.drop 1).take (2 + n))).toNat then
    some (b 1, (m.bytes.drop 3).take n)
  else none

/-- A discarded message is counted. -/
def msgBad (n : Nat) (s : State) : State := s.modInput n (fun i => { i with msgBad := inc16 i.msgBad })

/-- A QL message of input n (R235). -/
def qlMessage (n ssm essm : Nat) (s : State) : State :=
  let i := s.input n
  if i.q = .off ∨ i.msgMode = 0 then s
  else s.modInput n (fun i => { i with qlNew := some (ssm, essm), qlSeen := true, qlRow := s.time.rows, absentHit := false })

/-- A TOD message waits for its edge (R238); of those that 10 ms or more have passed since, only the latest can still count. -/
def Input.addTod (i : Input) (t : TodMsg) : Input :=
  let old := i.tod.filter (fun m => decide (m.row + 20000 ≤ t.row))
  { i with tod := old.getLast?.toList ++ i.tod.filter (fun m => decide (t.row < m.row + 20000)) ++ [t] }

/-- A message received on REFMSG[n], whatever it proves to be. -/
def refMessage (n : Nat) (m : RefMsg) (s : State) : State :=
  match refMsg m with
  | some (1, p) => qlMessage n (fld (p.getD 0 0) 3 0) (p.getD 1 0).toNat s
  | some (_, p) =>
    if (s.input n).q ≠ .off ∧ (s.input n).msgMode = 2 then
      let t : TodMsg := { sec := ofBeBytes (p.take 6), valid := bit (p.getD 6 0) 0, row := s.time.rows }
      s.modInput n (fun i => i.addTod t)
    else s
  | none => msgBad n s

/-- Inputs 0 to 7 have a message pin (R229). -/
def onPin (n : Nat) (s : State) (t : State) : Res :=
  if n < 8 then .next (if s.ticking then t else s) else .fault (.noSuchObject "REFMSG pin")

/-- Inputs are numbered 0 to 24 (R229). -/
def onInput (n : Nat) (t : State) : Res := if n < 25 then .next t else .fault (.noSuchObject "reference input")

def execRefmsgQl (n : Nat) (m : RefMsg) (s : State) : Res := onPin n s (refMessage n m s)

def execRefmsgTod (n : Nat) (m : RefMsg) (s : State) : Res := onPin n s (refMessage n m s)

def execRefmsgBad (n : Nat) (m : RefMsg) (s : State) : Res := onPin n s (refMessage n m s)

/-- R236: registered in the due row, and applied at the tick that ends it unless a message came. -/
def execQlMessageAbsent (n : Nat) (s : State) : Res :=
  let i := s.input n
  onInput n (if i.q ≠ .off ∧ i.msgMode ≠ 0 ∧ i.qlFailed = false ∧ i.qlNew = none ∧ i.qlRow + 10000000 ≤ s.time.rows then
    s.modInput n (fun i => { i with absentHit := true }) else s)

/-- Activity that an observation shows (R240); none = no decision. -/
def observed (n : Nat) (obs : ActivityObs) (s : State) : Option Bool :=
  let i := s.input n
  match refClass n i, obs with
  | .khz, .silent h | .mhz, .silent h => if 8 ≤ h then some false else none
  | .khz, .run k | .mhz, .run k => if 16 ≤ k then some true else none
  | .pps, .silent h => if 3 ≤ h then some false else none
  | .pps, .gap p => if p < 500 ∨ 1500 < p then some false else none
  | .pps, .run k => if 3 ≤ k then some true else none
  | .lane, .inner => some (laneActive i.laneNo s)
  | .flight, .inner => some (s.flight.syncOk)
  | _, _ => none

/-- R240: a change is registered in its row. -/
def execInputActivityChange (n : Nat) (obs : ActivityObs) (s : State) : Res :=
  onInput n (match observed n obs s with
    | some a =>
      if (s.input n).q = .off ∨ a = ((s.input n).actNew).getD (s.input n).active then s
      else s.modInput n (fun i => { i with actNew := some a, dirtySec := i.dirtySec || !a })
    | none => s)

/-- R243: registered in the due row. -/
def execRefWtrExpiry (n : Nat) (s : State) : Res :=
  onInput n (match (s.input n).wtrDue with
    | some d => if d ≤ s.time.rows ∧ (s.input n).q = .restoring then s.modInput n (fun i => { i with wtrHit := true }) else s
    | none => s)

/-- R243: registered in the due row. -/
def execHoldoffExpiry (n : Nat) (s : State) : Res :=
  onInput n (match (s.input n).holdoffDue with
    | some d => if d ≤ s.time.rows ∧ (s.input n).q = .holdoff then s.modInput n (fun i => { i with holdHit := true }) else s
    | none => s)

/-- R258. LOCKED begins at the service bandwidth then set (R257). DESIGN CHOICE (log entry 91): the dwell counts on while the selected
input is in HOLDOFF. -/
def execStaircaseDwellDone (s : State) : Res :=
  .next (match s.f.state, s.f.selected, s.f.dwellStart with
    | .acquiring, some n, some d =>
      let r := sampleRate n (s.input n)
      if s.f.software || decide (s.time.rows ≤ d + dwellRows s.f.bw r s.f.step) then s
      else if lastStep s.f.bw r s.f.step then setFState .locked (takeBw { s with f.dwellStart := none })
      else { s with f.step := s.f.step + 1, f.dwellStart := some s.time.rows }
    | _, _, _ => s)

/-- R254: HOLDOVER to LOST. -/
def execHoldLimitReached (s : State) : Res :=
  .next (match s.f.state, s.f.holdSince with
    | .holdover, some d =>
      if s.f.software || decide (s.time.rows ≤ d + holdLimitRows s) then s else setFState .lost s
    | _, _ => s)

/-- LOCALOSC differs from channel F, in LOCKED, by more than 100 ppm at the monitor second that has just closed (R256). -/
def oscOff (s : State) : Bool := s.f.secRow == s.time.rows && s.f.secFar

/-- The transitions of Table 9.7 that no selection brings, at a row tick that has made none already, so that there is at most one
EV_F_STATE (R254): the last dwell, the holdover limit, a sample beyond 4 times the threshold. `was` is the state before the tick. -/
def channelEnds (was : FState) (s : State) : State :=
  if s.f.state ≠ was then { s with f.beyond := false }
  else
    let s' := { s with f.beyond := false }
    if s.f.beyond && s.f.state == .locked && !s.f.software then acquire true s'
    else settle (settle s' (execStaircaseDwellDone s')) (execHoldLimitReached (settle s' (execStaircaseDwellDone s')))

/-- R256: the consequences for channel F follow at the row tick (R46); no edge for 4 nominal periods, or the difference at a
monitor second. -/
def oscFault (offset : Bool) (s : State) : State :=
  if offset && !oscOff s then s
  else if s.f.oscFault then { s with f.oscClean := 0 }
  else
    let c := if offset then 2 else 1
    let s := { s with f.oscFault := true, f.oscCause := c, f.oscFrame := s.time.frame, f.oscRow := s.time.row,
                      f.oscClean := 0, f.oscAct := true }
    raise 0x0606 [pack [(1, 0, c), (8, 8, 1)], pack [(47, 0, s.time.frame), (55, 48, s.time.row)]] s

/-- R256: 16 monitor seconds without a cause. -/
def execLocaloscFaultClear (s : State) : Res :=
  if s.f.oscFault && decide (16 ≤ s.f.oscClean) then
    .next (raise 0x0606 [pack [(1, 0, s.f.oscCause)], pack [(47, 0, s.f.oscFrame), (55, 48, s.f.oscRow)]]
      { s with f.oscFault := false })
  else .next s

/-! ## MONITOR_SECOND (R241, R242, R250, R255, R282) -/

/-- The sample given for input n. -/
def secondOf (inp : SecondInput) (n : Nat) : Option SecondSample := inp.samples.find? (fun x => x.input == n)

/-- A frequency at the resolution of the input's class (Table 9.2; the rounding is log entry 8). -/
def resolved (n : Nat) (i : Input) (v : Int) : Int := quot v (freqStepPpt n i) * (freqStepPpt n i : Nat)

/-- The measurement of one input over the second that ends (R241); k numbers the second. -/
def Input.measure (i : Input) (n k : Nat) (x : Option SecondSample) : Input :=
  match (if i.dirtySec || !i.active then none else x) with
  | some y =>
    let v := resolved n i y.freq
    let m := mag v
    { i with freq := some v, window := ((k, v) :: i.window).take 64,
             freqFault := if i.freqFault then decide (8 * i.freqLim < 10 * m) else decide (i.freqLim < m) }
  | none => { i with freq := none }

/-- Frequency transitions of Table 9.5. -/
def Input.freqStep (i : Input) (now : Nat) : Input :=
  match i.q with
  | .failed => if i.active && !i.freqFault then { i with q := .restoring, wtrDue := some (now + i.wtrRows) } else i
  | .restoring => if i.freqFault then { i with q := .failed, wtrDue := none } else i
  | .qualified | .suspect | .drifting => if i.freqFault then { i.enter .failed with cause := 2 } else i
  | _ => i

/-- Twice the median of a list (R242). -/
def median2 (l : List Int) : Int :=
  let m := l.mergeSort (fun a b => decide (a ≤ b))
  if m.length % 2 = 1 then 2 * m.getD (m.length / 2) 0 else m.getD (m.length / 2) 0 + m.getD (m.length / 2 - 1) 0

/-- What the rule of R242 that fits says of an input: the rule, numerator and denominator of its deviation, whether it
drifts or is suspect, whether the deviation is at most half its limit. -/
structure Drift where
  rule : Nat
  num : Int
  den : Nat
  bad : Bool
  calm : Bool

/-- The sum of a window. -/
def windowSum (w : List (Nat × Int)) : Int := (w.map (·.2)).foldl (· + ·) 0

/-- R242 for input x. DESIGN CHOICE (log entry 117): a second of x's window in which no member of the set holds a sample is left out of
the mean of rule 1; under rule 2 a window of y that is not full gives the mean of what it holds, and an empty one no decision. -/
def driftOf (x : Nat) (s : State) : Option Drift :=
  let i := s.input x
  let set := (List.range 25).filter (fun n => n != x && (s.input n).q == .qualified)
  let judge := fun (rule : Nat) (num : Int) (den lim : Nat) (more : Bool) =>
    ({ rule := rule, num := num, den := den, bad := decide (lim * den < mag num) && more,
       calm := decide (2 * mag num ≤ lim * den) } : Drift)
  if i.window.length < 64 then none
  else match set with
    | [] =>
      if longUsable s then some (judge 3 (windowSum i.window - 64 * s.f.longFreq) 64 (histLim s) true)
      else if holdUsable s then some (judge 3 (windowSum i.window - 64 * s.f.holdFreq) 64 (histLim s) true)
      else none
    | [y] =>
      let j := s.input y
      let m := j.window.length
      if longUsable s && m != 0 then
        let dy := windowSum j.window - (m : Int) * s.f.longFreq
        let diff := (m : Int) * windowSum i.window - 64 * windowSum j.window
        some (judge 2 (windowSum i.window - 64 * s.f.longFreq) 64 (histLim s)
          (decide (mag dy ≤ histLim s * m) && decide (min i.driftLim j.driftLim * (64 * m) < mag diff)))
      else none
    | _ =>
      let parts := i.window.filterMap (fun p =>
        let others := set.filterMap (fun n => ((s.input n).window.find? (fun q => q.1 == p.1)).map (·.2))
        if others.isEmpty then none else some (2 * p.2 - median2 others))
      if parts.isEmpty then none
      else some (judge 1 (parts.foldl (· + ·) 0) (2 * parts.length) i.driftLim true)

/-- Drift transitions of Table 9.5. -/
def Input.driftStep (i : Input) (d : Option Drift) (now : Nat) : Input :=
  match i.q, d with
  | .qualified, some d =>
    let i := { i with drift := some (quot d.num d.den) }
    if d.bad then
      if d.rule = 3 then { i.enter .suspect with cause := 6 } else { i.enter .drifting with cause := 3 + d.rule }
    else i
  | .drifting, some d =>
    let i := { i with drift := some (quot d.num d.den) }
    if d.calm then { i with q := .restoring, wtrDue := some (now + i.wtrRows) } else i
  | .suspect, some d =>
    let i := { i with drift := some (quot d.num d.den) }
    if d.calm then i.enter .qualified else i
  | _, _ => { i with drift := none }

/-- Sample of channel F for the averages (R255). -/
def averages (chanF : Int) (s : State) : State :=
  if s.f.lockedWhole && !s.f.oscFault && !s.f.software then
    let l := (chanF :: s.f.samples).take 4096
    let n := s.f.sampleCount + 1
    let h := (l.drop 4).take (holdAvg s)
    let hv := s.f.holdValid || decide (holdAvg s + 4 ≤ n)
    let lv := s.f.longValid || decide (4096 ≤ n)
    { s with f.samples := l, f.sampleCount := n, f.holdValid := hv, f.longValid := lv,
             f.holdFreq := if hv && !h.isEmpty then meanOf h else s.f.holdFreq,
             f.longFreq := if lv then meanOf l else s.f.longFreq }
  else s

/-- The largest and the smallest TIE (R282). -/
def tieClamp (v : Int) : Int := if v < -2147483647 then -2147483647 else if 2147483647 < v then 2147483647 else v

/-- The frequency and TIE record of one input (R282, Table 10.11); where VALID is 0 its values are free. DESIGN CHOICE (log entry 118):
an input that was inactive in the second at which it left OFF has its TIE start in its first second with VALID 1. -/
def tieRecord (n : Nat) (x : Option SecondSample) (s : State) : State :=
  let i := s.input n
  let base := [(47, 0, s.time.frame), (52, 48, n)]
  match (if i.dirtySec || !i.active then none else x) with
  | some y =>
    let t0 := i.tieStart.getD y.phase
    let d := y.phase - t0
    let r : Rec2 := { w0 := pack (base ++ [(53, 53, 1), (54, 54, b2n (decide (tieClamp d ≠ d)))]),
                      w1 := pack [(31, 0, twos 32 (resolved n i y.freq)), (63, 32, twos 32 (tieClamp d))] }
    s.modInput n (fun i => { i with tie := (r :: i.tie).take 1024, tieStart := some t0 })
  | none =>
    let r : Rec2 := { w0 := pack base, w1 := Config.freeWord64 s.free }
    { s.modInput n (fun i => { i with tie := (r :: i.tie).take 1024 }) with free := s.free + 1 }

/-- EV_REF_DISAGREE for one pair (R250). DESIGN CHOICE (log entry 117): a disagreement that stands is kept, and nothing is raised, while
one of the two is not QUALIFIED or their ranks or priorities differ. -/
def disagree (a b : Nat) (s : State) : State :=
  let i := s.input a
  let j := s.input b
  if i.q == .qualified && j.q == .qualified && i.rank == j.rank && i.prio == j.prio && i.window.length == 64 &&
      j.window.length == 64 then
    let d := windowSum i.window - windowSum j.window
    let far := decide (min i.driftLim j.driftLim * 64 < mag d)
    let stands := s.f.disagree.contains (a, b)
    if far = stands then s
    else raise 0x0604 [pack [(4, 0, a), (12, 8, b), (32, 32, b2n far)], w64 (twos 32 (quot d 64))]
      { s with f.disagree := if far then (a, b) :: s.f.disagree else s.f.disagree.filter (· ≠ (a, b)) }
  else s

/-- The 25 inputs that are not OFF. -/
def liveInputs (s : State) : List Nat := (List.range 25).filter (fun n => (s.input n).q != .off)

/-- R250 for input a and every live input of a higher number. -/
def disagreeAbove (a : Nat) (s : State) : State :=
  (liveInputs s).foldl (fun s b => if a < b then disagree a b s else s) s

/-- The decisions of a monitor second, in the order of R241, R242, R250, R255; a LOCALOSC fault leaves every qualification
state as it stands and no sample is taken, from the second that shows it on (R256). A second that TIME spent re-initialising gives no
sample (Table 17.1). -/
def monitorSecond (inp : SecondInput) (s : State) : State :=
  let k := s.time.rows / 2000000
  let before := s
  let s := (liveInputs s).foldl (fun s n => tieRecord n (secondOf inp n) s) s
  let far := s.f.state == .locked && decide (100000000 < mag inp.chanF)
  let s := if s.f.oscFault then { s with f.oscClean := if far then 0 else s.f.oscClean + 1 }
    else if far then s
    else
      let s := modInputs (fun n i => (i.measure n k (secondOf inp n)).freqStep s.time.rows) s
      let s' := modInputs (fun n i => i.driftStep (driftOf n s) s.time.rows) s
      let s := releaseSuspects before s'
      (liveInputs s).foldl (fun s a => disagreeAbove a s) s
  let s := if far then s else averages inp.chanF s
  let s := modInputs (fun _ i => { i with dirtySec := !i.active || s.fnDown 6 }) s
  let s := { s with f.secRow := s.time.rows, f.secFar := far }
  let s := channelEnds s.f.state (select s)
  refreshTimeOk (refEvents { s with f.lockedWhole := s.f.state == .locked && !(liveInputs s).any (fun n => (s.input n).q == .holdoff) })

/-- R241: at the tick that closes a monitor second. -/
def execMonitorSecond (inp : SecondInput) (s : State) : Res :=
  .next (if s.ticking && s.time.rows % 2000000 == 0 && s.time.rows != 0 && s.f.secRow != s.time.rows then
    monitorSecond inp s else s)

/-! ## Commands (Tables 9.9 to 9.14) -/

/-- A record of Table 9.10 keeps its ranges. -/
def inputRecOk (n : Nat) (w0 w1 : W64) : Bool :=
  let i : Input := { w0 := w0, w1 := w1 }
  fld w0 63 58 == 0 && fld w1 63 43 == 0 && i.msgMode != 3 &&
  (if n < 8 then decide (1 ≤ i.freqHz ∧ i.freqHz ≤ 800000000) else i.freqHz == 0) &&
  (decide (8 ≤ n ∧ n ≤ 23) || i.laneNo == 0) &&
  (i.msgMode != 2 || (decide (n < 8) && i.freqHz == 1)) &&
  (fld w1 10 0 == 0 || decide (10 ≤ fld w1 10 0 ∧ fld w1 10 0 ≤ 2000)) &&
  decide (fld w1 20 11 ≤ 1000) && decide (fld w1 27 21 ≤ 100) &&
  (if refClass n i = .mhz then fld w1 42 40 != 7 else fld w1 42 40 == 0)

/-- The configuration records as they will be after the commands of the row (R260). -/
def projectedRefs (s : State) : List (Nat × W64) :=
  (List.range 25).map (fun n =>
    let w := (s.host.prog.filter (fun r => r.cmd.opcode == 0x0601)).foldl (fun w r =>
      match (refRecords r).find? (fun x => x.1 == n) with | some x => x.2.1 | none => w) (s.input n).w0
    (n, w))

/-- Two enabled lane references name one lane (R231). -/
def lanesClash (l : List (Nat × W64)) : Bool :=
  hasTwice ((l.filter (fun x => decide (8 ≤ x.1 ∧ x.1 ≤ 23) && bit x.2 0)).map (fun x => fld x.2 57 49))
where
  hasTwice : List Nat → Bool
    | [] => false
    | x :: xs => xs.contains x || hasTwice xs

def execRefCfg (s : State) : Res := onEngine 0x0601 (fun r s =>
  let w := r.cmd.p 0
  let n := fld w 9 5
  let recs := refRecords r
  if fld w 63 10 != 0 || n == 0 || decide (25 < fld w 4 0 + n) || r.cmd.length != 8 * (1 + 2 * n) ||
      recs.any (fun x => !inputRecOk x.1 x.2.1 x.2.2) ||
      lanesClash ((projectedRefs s).map (fun x => match recs.find? (fun y => y.1 == x.1) with
        | some y => (y.1, y.2.1) | none => x)) then invalid r s
  else later r s) s

def execRefSelect (s : State) : Res := onEngine 0x0602 (fun r s =>
  let w := r.cmd.p 0
  let op := fld w 2 0
  let n := fld w 7 3
  if !sizeOk r || fld w 63 8 != 0 || decide (4 < op) || decide (24 < n) || (op == 0 && n != 0) then invalid r s
  else if (op = 1 ∧ eligible n s = false) ∨ (op = 2 ∧ forcible n s = false) then finish r stRefRefused [] s
  else later r s) s

/-- Seconds left of a timer, rounded up. -/
def secondsLeft (due : Option Nat) (now : Nat) : Nat :=
  match due with
  | some d => ceilDiv (d - now) 2000000
  | none => 0

/-- State code of Table 9.13. -/
def QState.code : QState → Nat
  | .off => 0 | .failed => 1 | .holdoff => 2 | .restoring => 3 | .qualified => 4 | .drifting => 5 | .suspect => 6

/-- 32 bits of a value; 0x8000_0000 = none. -/
def orNone (v : Option Int) : Nat := match v with | some x => twos 32 x | none => 0x80000000

/-- The input status record (Table 9.13). -/
def inputStatus (n : Nat) (s : State) : List W64 :=
  let i := s.input n
  [pack [(2, 0, i.q.code), (5, 3, i.cause), (9, 6, i.ql.1), (17, 10, i.ql.2),
         (21, 18, if i.q = .off then 0 else i.rank), (22, 22, b2n (eligible n s)),
         (23, 23, b2n (s.f.selected == some n)), (24, 24, b2n i.lockedOut), (25, 25, b2n (timeOkNow n s)),
         (63, 32, orNone i.freq)],
   pack [(31, 0, orNone i.drift), (43, 32, secondsLeft i.wtrDue s.time.rows), (59, 44, i.msgBad)]]

def execRefStatus (ok : Bool) (s : State) : Res := onEngine 0x0603 (fun r s =>
  let w := r.cmd.p 1
  let n := fld w 9 5
  if !sizeOk r || !bufOk (r.cmd.p 0) || fld w 63 10 != 0 || n == 0 || decide (25 < fld w 4 0 + n) then invalid r s
  else bufReply r ok (r.cmd.p 0).toNat ((List.range n).flatMap (fun j => inputStatus (fld w 4 0 + j) s)) [] s) s

/-- A record of Table 9.11 keeps its ranges (R260). -/
def chanFRecOk (w0 w1 : W64) : Bool :=
  fld w0 7 6 == 0 && fld w0 63 48 == 0 && fld w1 63 26 == 0 && decide (fld w0 4 1 ≤ 8) && decide (fld w0 19 8 ≤ 3600) &&
  decide (fld w0 27 20 ≤ 168) && decide (fld w1 9 0 ≤ 1000) &&
  (fld w1 25 10 == 0 || decide (10000 ≤ fld w1 25 10 ∧ fld w1 25 10 ≤ 50000)) &&
  ((fld w0 31 28 == 0 && fld w0 39 32 == 0) || decide (rankOf (fld w0 31 28) (fld w0 39 32) ≤ 8))

/-- LOCALOSC_KHZ; 0 = 25,000. -/
def localoscKhz (w1 : W64) : Nat := if fld w1 25 10 = 0 then 25000 else fld w1 25 10

def execDpllCfg (s : State) : Res := onEngine 0x0604 (fun r s =>
  if !sizeOk r || !chanFRecOk (r.cmd.p 0) (r.cmd.p 1) || localoscKhz (r.cmd.p 1) != localoscKhz s.f.recW1 then invalid r s
  else later r s) s

/-- Loop bandwidth in force in mHz; 0, the reset value of BW, where no loop runs (DEDUCED, log entry 91). -/
def bwNow (s : State) : Nat :=
  match s.f.state, s.f.selected with
  | .locked, some _ => if s.f.software then 0 else s.f.bw
  | .acquiring, some n =>
    let r := sampleRate n (s.input n)
    if s.f.software then 0
    else if lastStep s.f.bw r s.f.step then s.f.bw
    else (quot (startBw s.f.bw r) (4 ^ s.f.step)).toNat
  | _, _ => 0

/-- The channel F status record (Table 9.14). -/
def chanFStatus (s : State) : List W64 :=
  let q := advQl s
  [pack [(2, 0, s.f.state.code), (7, 3, s.f.selected.getD 31),
         (9, 8, match s.f.mode with | .auto => 0 | .manual => 1 | .forced => 2), (12, 10, s.f.step),
         (13, 13, b2n (holdUsable s)), (14, 14, b2n (longUsable s)), (15, 15, b2n s.f.oscFault), (16, 16, b2n s.f.software),
         (63, 32, twos 32 s.f.phaseErr)],
   pack [(31, 0, twos 32 s.f.freq), (63, 32, twos 32 s.f.holdFreq)],
   pack [(31, 0, twos 32 s.f.longFreq), (63, 32, bwNow s)],
   pack [(47, 0, s.f.stateFrame), (51, 48, q.1), (59, 52, q.2)]]

def execDpllStatus (s : State) : Res := onEngine 0x0605 (fun r s =>
  if !sizeOk r then invalid r s else finish r stOk (chanFStatus s) s) s

end Sys2Proof.Machine
end

