-- ==== Sys2Proof/Machine/Lanes.lean ====
section
/-! DEFINITION. Chapters 6 to 8: the marker hunter, barge delineation, what each kind of barge does, lane defects'
conditions, bring-up, pair orders. -/

namespace Sys2Proof.Machine

open Sys2Proof

/-- Network row number of the row in progress (R8). -/
def State.nrn (s : State) : Nat := s.time.frame * 250 + s.time.row

/-- Time since reset in ps, on the row count and the gaps of re-alignments, at an offset into the row. -/
def State.psAt (s : State) (ps : Nat) : Nat := s.time.rows * 500000 + s.time.gaps + ps

/-! ## Markers (Tables 6.2 to 6.4) -/

def pattern : BitVec 80 := 0x9C3AE5F10B6D72C4A85E#80
def patternInv : BitVec 80 := 0x36904F5BA1C7D86E02F4#80

/-- Number of bits that differ. -/
def differing (a b : BitVec 80) : Nat := ((List.range 80).filter (fun i => bit a i != bit b i)).length

/-- The form in which 80 received bits match PATTERN (R151): some false normal, some true inverted. -/
def matchForm (b : BitVec 80) : Option Bool :=
  if differing b pattern ≤ 3 then some false
  else if differing b patternInv ≤ 3 then some true
  else none

def idKind (i : W64) : Nat := fld i 63 63
def idSrc (i : W64) : Nat := fld i 62 51
def idOctet (i : W64) : Nat := fld i 50 45
def idLane (i : W64) : Nat := fld i 44 42
def idSeen (i : W64) : Bool := bit i 41
def idSeenInv (i : W64) : Nat := fld i 40 40
def idSeenLane (i : W64) : Nat := fld i 39 37
def idSeenOctet (i : W64) : Nat := fld i 36 31

/-- Scrambler seed of a marker (R149). -/
def seedOf (i : W64) : BitVec 58 :=
  BitVec.ofNat 58 (fld i 15 0 * 2 ^ 42 + idSrc i * 2 ^ 30 + idOctet i * 2 ^ 24 + idLane i * 2 ^ 21 + (2 ^ 21 - 1))

/-- The identity with LF_COUNT increased by 1 (R148, R150). -/
def nextIdentity (i : W64) : W64 := (i &&& ~~~0xFFFF#64) ||| w64 ((fld i 15 0 + 1) % 65536)

/-- The CHECK of a marker is good after FEC decoding in a form. -/
def checkGood (m : MarkerRx) (inv : Bool) : Bool := crc16 64 (markerId m inv).toNat == markerCheck m inv

/-- The lane frame's identity and seed fixed at its marker (R150). DESIGN CHOICE (log entry 69): when the marker that confirms
alignment has a bad CHECK and so no lane frame before it is known, the identity before it is the one kept from an earlier
alignment, or 0. -/
def Hunter.seedStep (h : Hunter) (m : MarkerRx) : Hunter :=
  let ok := checkGood m h.inv
  let c := if ok then markerId m h.inv else nextIdentity h.cur
  { h with cur := c, seed := seedOf c, seedPrev := h.seed, good := if ok then some (markerId m h.inv) else h.good }

/-- One examined marker position (Table 6.4). -/
def Hunter.step (h : Hunter) (m : MarkerRx) : Hunter :=
  let f := matchForm (markerBits m)
  if h.aligned then
    if m.pos ≠ h.pos then h
    else if f = some h.inv then ({ h with miss := 0 } : Hunter).seedStep m
    else if h.miss < 3 then ({ h with miss := h.miss + 1 } : Hunter).seedStep m
    else { h with aligned := false, cands := [], miss := 0, left := true, heard := some h.inv }
  else match h.cands.find? (fun c => c.1 == m.pos) with
    | some c =>
      if f = some c.2 then
        ({ h with aligned := true, cands := [], pos := m.pos, inv := c.2, miss := 0 } : Hunter).seedStep m
      else { h with cands := h.cands.filter (fun x => x.1 != m.pos) }
    | none => match f with
      | some i => if h.cands.length < 8 then { h with cands := h.cands ++ [(m.pos, i)] } else h
      | none => h

/-- The expected position of an aligned hunter did not match (MARKER_MISS of Table 7.6). -/
def Hunter.missed (h : Hunter) (m : MarkerRx) : Bool :=
  h.aligned && m.pos == h.pos && decide (matchForm (markerBits m) ≠ some h.inv)

/-- A hunter at the start of HUNT, with the identity of the latest good marker kept (Table 8.10 SEEN_SRC), and the form in which it was
ALIGNED earlier in the row, whose codewords are decoded all the same (R144). -/
def Hunter.fresh (h : Hunter) : Hunter :=
  { heard := if h.aligned then some h.inv else h.heard, good := h.good, cur := h.cur, seed := h.seed, seedPrev := h.seedPrev }

/-- Back to HUNT with candidates and counts cleared; left is kept and set when the hunter was ALIGNED. -/
def Hunter.lose (h : Hunter) : Hunter := { h.fresh with left := h.left || h.aligned }

/-! ## Headers and delineation (Tables 6.5, 6.6) -/

def hType (w : W64) : Nat := fld w 63 60
def hRow (w : W64) : Nat := fld w 59 48
def hIndex (w : W64) : Nat := fld w 47 43
def hSrcValid (w : W64) : Bool := bit w 42
def hSel (w : W64) : Nat := fld w 41 40
def hTerm (w : W64) : Nat := fld w 39 24
def hTypeData (w : W64) : Nat := fld w 23 16

/-- The three conditions of R155. -/
def headerFits (w : W64) : Bool :=
  (crc16 48 (fld w 63 16)).toNat == fld w 15 0 && decide (1 ≤ hType w ∧ hType w ≤ 5) && decide (hIndex w ≤ 23)

/-- The header that one corrected bit error makes fit (R155). -/
def headerFix (w : W64) : Option W64 :=
  ((List.range 64).map (fun i => w ^^^ (1#64 <<< i))).find? headerFits

/-- Back to HUNT with candidates and counts cleared. -/
def Delin.lose (d : Delin) : Delin := { left := d.left || d.sync, syncPrev := d.syncPrev }

/-- One header at a bit position (R156): the state after it, the header passed on, whether it was corrected, whether it
counts as an invalid header in SYNC. Table 6.5 passes barges on in SYNC alone. -/
def Delin.step (d : Delin) (pos : Nat) (hdr : W64) : Delin × Option W64 × Bool × Bool :=
  if d.sync then
    if pos ≠ d.pos then (d, none, false, false)
    else if headerFits hdr then ({ d with bad := 0 }, some hdr, false, false)
    else match headerFix hdr with
      | some w => ({ d with bad := 0 }, some w, true, false)
      | none => if d.bad < 6 then ({ d with bad := d.bad + 1 }, none, false, true) else (d.lose, none, false, true)
  else match d.cands.find? (fun c => c.1 == pos) with
    | some c =>
      if headerFits hdr then
        if c.2 < 5 then ({ d with cands := d.cands.map (fun x => if x.1 = pos then (pos, c.2 + 1) else x) }, none, false, false)
        else ({ d with sync := true, cands := [], pos := pos, bad := 0 }, none, false, false)
      else ({ d with cands := d.cands.filter (fun x => x.1 != pos) }, none, false, false)
    | none =>
      if headerFits hdr && decide (d.cands.length < 4) then
        ({ d with cands := d.cands ++ [(pos, 1)] }, none, false, false)
      else (d, none, false, false)

/-- The header whose SEL and TERM_LO are registered (R186): one that fits, in HUNT as well, unless Table 6.5 ignores it. -/
def Delin.fitting (d : Delin) (pos : Nat) (hdr : W64) : Option W64 :=
  if d.sync then (d.step pos hdr).2.1
  else if headerFits hdr && (d.cands.any (fun c => c.1 == pos) || decide (d.cands.length < 4)) then some hdr
  else none

/-! ## Counts, records, service -/

/-- Fixed lane count i of Table 7.6 raised by n, for a lane in service (R205, R424). -/
def Lane.count (l : Lane) (i n : Nat) : Lane :=
  if l.bring = .inService then
    { l with counts := l.counts.mapIdx (fun j v => if j = i then sat (2 ^ 48 - 1) (v + n) else v) }
  else l

/-- LANE record in force: PRESENT (Table 8.5). -/
def Lane.present (l : Lane) : Bool := bit l.recW1 0

/-- A lane of the device in or out of service. -/
def State.inService (s : State) (lane : Nat) : Bool := (s.lane lane).bring == .inService

/-- The reported defect (R194). -/
def Lane.reported (l : Lane) : Nat :=
  if l.los then 1 else if l.loa then 2 else if l.lod then 3 else if l.lora then 4 else if l.deg then 5 else 0

/-- A signal-fail trigger of Table 7.1 is declared. -/
def Lane.sfTrigger (l : Lane) : Bool := l.los || l.loa || l.lod || l.lora

/-- The seven defect bits of Table 7.5. -/
def Lane.bits (l : Lane) : Nat :=
  b2n l.los + 2 * b2n l.loa + 4 * b2n l.lod + 8 * b2n l.lora + 16 * b2n l.deg + 32 * b2n l.frm + 64 * b2n l.far

/-- A lane with every defect and every registered change cleared (R196). -/
def Lane.clearDefects (l : Lane) : Lane :=
  { l with los := false, loa := false, lod := false, lora := false, deg := false, frm := false, far := false,
           losReg := none, loraReg := none, degReg := none, frmReg := none, farReg := none, discarded := false,
           badRun := 0, goodRun := 0, degOpen := false, degEnd := false, degSym := 0, degUnc := 0, degSf := false, sfFrame := false,
           outRun := 0, idFails := 0 }

/-- A held-back LANE record takes effect when the lane leaves service (R217). -/
def Lane.takeRecord (l : Lane) : Lane :=
  match l.recNext with
  | some w => { l with recW1 := w.1, recW2 := w.2, recNext := none }
  | none => l

/-- The receive side cleared: hunter and delineation to HUNT, basin emptied. DESIGN CHOICE (log entry 110): the latest arrival phase of
R176 is forgotten with it, since the spec only says what shows where there is no measurement. -/
def Lane.clearRx (l : Lane) : Lane :=
  { l with hunter := l.hunter.fresh, delin := {}, basin := [], prevRow := [], olderRow := [], arrivals := [], skews := [], discards := [], got := [], inRun := 0, outRun := 0,
           goodFrame0 := false, attemptDue := none, offset := none, arrival := none }

/-- A lane leaves service (R196, R224); the caller gives the state that it enters. -/
def Lane.leave (l : Lane) : Lane :=
  if l.bring = .inService then
    { l.clearDefects.clearRx.takeRecord with leftSvc := true, bwPartial := true }
  else l

/-- A lane enters OFF (Table 8.7). -/
def Lane.toOff (l : Lane) : Lane :=
  let l := l.leave.clearRx
  { l with bring := .off, eyeV := 0, eyeH := 0, snr := 0, noSigRun := 0, sigRun := 0 }

/-- A lane enters SIGNAL_WAIT (Table 8.7). -/
def Lane.toSignalWait (l : Lane) : Lane :=
  { l.clearRx with bring := .signalWait, eyeV := 0, eyeH := 0, snr := 0 }

/-- Receive order in force (Table 8.4, R219): some true = reversed, none = undecided. -/
def Octet.rx (o : Octet) : Option Bool :=
  match fld o.cfg 1 0 with
  | 0 => some false
  | 1 => some true
  | _ => o.rxOrder

/-- Transmit order in force (R220). -/
def Octet.tx (o : Octet) : Option Bool :=
  match fld o.cfg 3 2 with
  | 0 => some false
  | 1 => some true
  | _ => o.txOrder

/-- Receive-side state exchanged between two lanes of an octet when its order proves reversed. DESIGN CHOICE (log entry 122): the SEL and
TERM_LO that each lane has registered before, and the terms formed from them, stay with the lane (R186). -/
def Lane.withRx (a b : Lane) : Lane :=
  { a with bring := b.bring, attemptDue := b.attemptDue, idFaultFrame := b.idFaultFrame, idFails := b.idFails,
           goodFrame0 := b.goodFrame0, hunter := b.hunter, delin := b.delin, noSigRun := b.noSigRun,
           sigRun := b.sigRun, eyeV := b.eyeV, eyeH := b.eyeH, snr := b.snr, basin := b.basin, prevRow := b.prevRow, olderRow := b.olderRow,
           arrivals := b.arrivals, skews := b.skews, discards := b.discards, got := b.got, inRun := b.inRun, outRun := b.outRun }

/-- A lane that takes the receive pair of another; whether it is on is its own. -/
def Lane.swapWith (a b : Lane) : Lane :=
  if a.bring = .off then a else if b.bring = .off then (a.withRx b).toSignalWait else a.withRx b

/-- The receive sides of an octet under the other order. -/
def swapRx (k : Nat) (s : State) : State :=
  let o := (List.range 8).map (fun p => s.lane (8 * k + p))
  (List.range 8).foldl (fun s p => s.modLane (8 * k + p) (fun l => l.swapWith (o.getD (7 - p) {}))) s

/-- An octet changed; where its receive order in force turns round, its lanes take their other pairs. -/
def setOctet (k : Nat) (f : Octet → Octet) (s : State) : State :=
  let t := s.modOctet k f
  if ((t.octet k).rx == some true) = ((s.octet k).rx == some true) then t else swapRx k t

/-- An octet without automatic orders. -/
def Octet.undecided (o : Octet) : Octet :=
  { o with rxOrder := none, txOrder := none, rxVotes := [], txVotes := [], txNew := false }

/-- The lane has restarted its bring-up from OFF and does not rely on the pair orders of its octet (R221). DESIGN CHOICE (log entry
109): a lane that has passed IDENTIFY relies on them. -/
def Lane.restarted (l : Lane) : Bool :=
  match l.bring with
  | .off => true
  | .delineate | .phase | .inService => false
  | _ => l.offSeen

/-- An automatic order is fixed: the lanes whose bring-up has got beyond SIGNAL_WAIT use it (R221). -/
def fixOrder (k : Nat) (f : Octet → Octet) (s : State) : State :=
  let s := setOctet k f s
  (List.range 8).foldl (fun s p => s.modLane (8 * k + p) (fun l =>
    if l.bring = .off ∨ l.bring = .signalWait then l else { l with offSeen := false })) s

/-- The record that an octet still holds back takes effect when none of its lanes is in service (R217), and its automatic
orders are given up when every lane of it has restarted from OFF (R221). -/
def settleOctet (k : Nat) (s : State) : State :=
  let ls := (List.range 8).map (fun p => s.lane (8 * k + p))
  let s := if ls.any (fun l => l.bring == .inService) then s
    else match (s.octet k).recNext with
      | some w => setOctet k (fun o => { o.undecided with cfg := w, recNext := none }) s
      | none => s
  let o := s.octet k
  if ls.all Lane.restarted && (o.rxOrder.isSome || o.txOrder.isSome || o.txNew || ls.all (fun l => l.bring == .off)) then
    setOctet k Octet.undecided s
  else s

/-- The logical lane of physical receive pair n; straight while its order is undecided. -/
def logicalLane (n : Nat) (s : State) : Nat :=
  if (s.octet (n / 8)).rx = some true then 8 * (n / 8) + (7 - n % 8) else n

/-- Votes of a position withdrawn. -/
def dropVotes (lane : Nat) (s : State) : State :=
  s.modOctet (lane / 8) (fun o =>
    let p := if o.rx = some true then 7 - lane % 8 else lane % 8
    { o with rxVotes := o.rxVotes.filter (fun v => v.1 != p), txVotes := o.txVotes.filter (fun v => v.1 != lane % 8) })

/-- An identity fault: ID_FAULT, leaving service if it was in service (Table 8.7). -/
def idFault (lane cause : Nat) (s : State) : State :=
  let s := s.modLane lane (fun l => { l.leave with bring := .idFault, idFaultFrame := s.time.rows, idCause := cause,
                                                   idChanged := true, attemptDue := none })
  settleOctet (lane / 8) (dropVotes lane s)

/-- The lane's attempt ends (Table 8.7, ADAPT to PHASE): SIGNAL_WAIT and BRINGUP_FAILS + 1. -/
def failAttempt (lane : Nat) (s : State) : State :=
  dropVotes lane (s.modLane lane (fun l => { l.toSignalWait with fails := inc16 l.fails }))

/-- ADAPT, ALIGN, IDENTIFY, DELINEATE and PHASE. -/
def Bring.trying : Bring → Bool
  | .adapt | .align | .identify | .delineate | .phase => true
  | _ => false

/-- First rule of R223 that an identity received on lane 8k + x fails (Table 8.10 ID_CAUSE); 0 = it passes. -/
def idFailure (lane : Nat) (l : Lane) (i : W64) : Nat :=
  if idKind i ≠ 0 then 1
  else if idOctet i ≠ lane / 8 then 2
  else if idLane i ≠ lane % 8 then 3
  else if bit l.recW1 2 = false ∧ idSrc i ≠ fld l.recW1 14 3 then 4
  else 0

/-! ## Pair orders (R219 to R221) -/

/-- A row of 500 ns in units of 1/257 ps: 200,781.25 information bits of 640 units each (Table 6.1). -/
def rowTau : Nat := 128500000

/-- The marker: 160 information bits. -/
def markerTau : Nat := 102400

/-- Admin state and presence decide between OFF and SIGNAL_WAIT, from SERVICES on (Table 8.7, first and last rows, Table 18.6). The transmitter starts with
a marker at a time that the spec leaves open: a free value, as is its first LF_COUNT (R148; log entries 7 and 70). -/
def admitLane (lane : Nat) (s : State) : State :=
  let l := s.lane lane
  if l.present && l.admin && (s.boot.st == .services || s.boot.st == .ready) && !s.boot.straps.keeperOnly then
    if l.bring = .off then
      { s.modLane lane (fun l => { l with bring := .signalWait, offSeen := true, lfTime := 0, frameDue := false, txLen := 0, txInfo := 0,
                                          txNext := markerTau + (Config.freeWord64 (s.free + 1)).toNat % rowTau,
                                          lfCount := (Config.freeWord64 s.free).toNat % 65536 }) with free := s.free + 2 }
    else s
  else if l.bring = .off then s
  else settleOctet (lane / 8) (dropVotes lane (s.modLane lane Lane.toOff))

/-- Votes settled: all agree and they are two or more, or they disagree. -/
inductive Verdict where
  | wait
  | fixed (reversed : Bool)
  | clash
deriving DecidableEq, Repr

def verdict (vs : List (Nat × Bool)) : Verdict :=
  if vs.any (·.2) && vs.any (fun v => !v.2) then .clash
  else if 2 ≤ vs.length then .fixed (vs.any (·.2))
  else .wait

/-- A vote of one position or lane. -/
def vote (p : Nat) (rev : Bool) (vs : List (Nat × Bool)) : List (Nat × Bool) := (p, rev) :: vs.filter (fun v => v.1 != p)

/-- Identity faults of every lane of the octet that voted and is in IDENTIFY (R219). -/
def voteFaults (lanes : List Nat) (s : State) : State :=
  lanes.foldl (fun s l => if (s.lane l).bring = .identify then idFault l 5 s else dropVotes l s) s

/-- The vote of pair p of octet k on the receive order (R219). -/
def rxVote (k p : Nat) (i : W64) (s : State) : State :=
  if fld (s.octet k).cfg 1 0 ≠ 2 ∨ (s.octet k).rxOrder.isSome = true then s
  else if idOctet i ≠ k ∨ (idLane i ≠ p ∧ idLane i ≠ 7 - p) then
    if (s.lane (8 * k + p)).bring = .identify then idFault (8 * k + p) (if idOctet i ≠ k then 2 else 3) s else s
  else
    let s := s.modOctet k (fun o => { o with rxVotes := vote p (idLane i != p) o.rxVotes })
    let vs := (s.octet k).rxVotes
    match verdict vs with
    | .wait => s
    | .fixed rev => fixOrder k (fun o => { o with rxOrder := some rev }) s
    | .clash => voteFaults (vs.map (fun v => 8 * k + v.1)) s

/-- The vote of lane 8k + x on the transmit order (R220); a reversed order waits for the next lane frame boundary. -/
def txVote (lane : Nat) (i : W64) (s : State) : State :=
  let k := lane / 8
  let x := lane % 8
  if (s.octet k).rx.isNone ∨ fld (s.octet k).cfg 3 2 ≠ 2 ∨ (s.octet k).txOrder.isSome ∨ (s.octet k).txNew ∨ !idSeen i then s
  else if idSeenOctet i ≠ k ∨ (idSeenLane i ≠ x ∧ idSeenLane i ≠ 7 - x) then
    if (s.lane lane).bring = .identify then idFault lane (if idSeenOctet i ≠ k then 2 else 3) s else s
  else
    let s := s.modOctet k (fun o => { o with txVotes := vote x (idSeenLane i != x) o.txVotes })
    let vs := (s.octet k).txVotes
    match verdict vs with
    | .wait => s
    | .fixed false => fixOrder k (fun o => { o with txOrder := some false }) s
    | .fixed true => fixOrder k (fun o => { o with txNew := true }) s
    | .clash => voteFaults (vs.map (fun v => 8 * k + v.1)) s

/-- The transmit vote that the latest good marker of a lane gives. -/
def txVoteOf (lane : Nat) (s : State) : State :=
  let l := s.lane lane
  match l.hunter.good with
  | some i => if l.hunter.aligned && (l.bring.trying || l.bring == .inService) then txVote lane i s else s
  | none => s

/-- The transmit votes that the latest good markers of an octet's lanes give once its receive order is fixed. -/
def txVotes (k : Nat) (s : State) : State := (List.range 8).foldl (fun s x => txVoteOf (8 * k + x) s) s

/-- IDENTIFY (Table 8.7): with both orders fixed, DELINEATE or ID_FAULT. -/
def identify (lane : Nat) (s : State) : State :=
  let l := s.lane lane
  let o := s.octet (lane / 8)
  match l.bring, l.hunter.good with
  | .identify, some i =>
    if o.rx.isNone ∨ o.tx.isNone then s
    else if idFailure lane l i = 0 then s.modLane lane (fun l => { l with bring := .delineate, delin := l.delin.lose })
    else idFault lane (idFailure lane l i) s
  | _, _ => s

/-- Every lane of an octet that waits in IDENTIFY. -/
def identifyAll (k : Nat) (s : State) : State := (List.range 8).foldl (fun s p => identify (8 * k + p) s) s

/-! ## The marker row -/

/-- What a good marker does to the lane that receives it (R189, R223, Table 8.7). -/
def goodMarker (lane : Nat) (i : W64) (s : State) : State :=
  let s := s.modLane lane (fun l => { l with
    seenBad := !idSeen i,
    farReg := if l.bring = .inService ∧ idSeen i = false then some true else l.farReg })
  let l := s.lane lane
  match l.bring with
  | .align => s.modLane lane (fun l => { l with bring := .identify })
  | .inService =>
    if idFailure lane l i = 0 then s.modLane lane (fun l => { l with idFails := 0 })
    else if l.idFails = 0 then s.modLane lane (fun l => { l with idFails := 1 })
    else idFault lane (idFailure lane l i) s
  | _ => s

/-- The receiver of a lane is on and past adaptation. -/
def Bring.hunts : Bring → Bool
  | .align | .identify | .delineate | .phase | .inService | .idFault => true
  | _ => false

/-- A marker position of physical receive pair n. -/
def pairMarker (n : Nat) (m : MarkerRx) (s : State) : State :=
  let lane := logicalLane n s
  let l := s.lane lane
  if l.bring.hunts then
    let h := l.hunter.step m
    let lost := l.hunter.aligned && !h.aligned
    let s := s.modLane lane (fun l =>
      let l := { l.count 2 (b2n (l.hunter.missed m)) with hunter := h }
      if lost then
        { l with delin := l.delin.lose,
                 bring := if l.bring.trying then .align else l.bring, goodFrame0 := false }
      else l)
    let fresh := h.aligned && m.pos == h.pos && checkGood m h.inv
    if fresh then
      let s := goodMarker lane (markerId m h.inv) s
      let k := n / 8
      let votes := (s.lane lane).bring.trying || s.inService lane
      let s := if votes then rxVote k (n % 8) (markerId m h.inv) s else s
      identifyAll k (txVotes k s)
    else s
  else s

/-- A marker position of twin lane n (R319, R321). A lane that leaves alignment ends the messages in progress. -/
def twinMarker (n : Nat) (m : MarkerRx) (s : State) : State :=
  let h := kget {} s.twin.hunters n
  let h' := h.step m
  let s := { s with twin.hunters := kset {} s.twin.hunters n h' }
  if h.aligned && !h'.aligned then { s with twin.laneDown := true, ckpt.rxBulk := [], ckpt.rxUrgent := [] } else s

/-! ## Terms shown by the attach chips and the watch frames (R292, R304) -/

/-- The term that a header's TERM_LO forms with T (R181). DESIGN CHOICE (log entry 71): where the upper half of T is 0xFFFF the
third case gives a number above 32 bits, which is compared as it is and not wrapped. -/
def formTerm (t h : Nat) : Nat :=
  if h < t % 65536 then t - t % 65536 + 65536 + h else t - t % 65536 + h

/-- The device takes a twin role (R290). -/
def State.twinRole (s : State) : Bool :=
  match s.twin.role with
  | .solo | .keeper => false
  | _ => true

/-- A registered source shows term t; why: 1 keeper frame, 2 heartbeat, 3 attach chips (R292, R304). -/
def showTerm (t why : Nat) (s : State) : State := { s with twin.seen := (t, why) :: s.twin.seen }

/-! ## Barges -/

/-- A barge position of which only the header is read. -/
def headerAt (pos : Nat) (h : HeaderRx) : BargeRx := { pos := pos, first := h.first, off := h.off, words := h.words, arrival := 0 }

/-- One barge position at a lane, read from its codewords (R144, R149, R150, R154), with its header (R156, R186) and the step of
Table 8.7 that SYNC brings; the header that is passed on and the barge. -/
def header (lane : Nat) (b : BargeRx) (s : State) : State × Option (W64 × BargeBits) :=
  let l := s.lane lane
  if l.hunter.aligned && l.bring.hunts then
    let x := readBarge b l.hunter
    let r := l.delin.step b.pos x.hdr
    let fits := l.delin.fitting b.pos x.hdr
    let s := s.modLane lane (fun l =>
      let l := { (l.count 3 (b2n r.2.2.1)).count 4 (b2n r.2.2.2) with delin := r.1 }
      let l := if l.bring = .delineate ∧ r.1.sync = true then { l with bring := .phase, inRun := 0, outRun := 0 } else l
      match fits with
      | some w => { l with sel := hSel w, termLo := hTerm w,
                           hdrOther := if hSel w = 2 ∧ l.hdrOther.contains (hTerm w) = false then hTerm w :: l.hdrOther
                             else l.hdrOther }
      | none => l)
    (s, r.2.1.map (fun w => (w, x)))
  else (s, none)

/-- The network row that a ROW stamp received in row n names (R158). -/
def resolveRow (n row : Nat) : Int :=
  let lo : Int := (n : Int) - 2047
  lo + ((row : Int) - lo) % 4096

/-- The barge at a row and index of the basin, or of the two rows released last. -/
def Lane.held (l : Lane) (y i : Nat) (n : Nat) : Option BargeW :=
  match kget none l.basin (24 * y + i) with
  | some b => some b
  | none => if y = n then kget none l.prevRow i else if y + 1 = n then kget none l.olderRow i else none

/-- Table 6.9 and the depth of the basin: the row cannot be taken in (R24). -/
def tooEarly (n : Nat) (y : Int) (phase : Int) : Bool := decide (phase < -1500000) || decide ((n : Int) + 3 < y)

/-- The row is discarded (R24), once. -/
def Lane.discard (l : Lane) (y : Nat) : Lane :=
  if l.discards.contains y then l
  else
    let l := l.count 9 1
    { l with discards := y :: l.discards, discarded := true, basin := l.basin.filter (fun e => e.1 / 24 != y) }

/-- The arrival phase of row y as barge i gives it, received in row n (R175): that of barge 0, or, where barge 0 has not been
received, the barge's own arrival less i barge positions (DEDUCED, log entry 72). -/
def Lane.rowPhase (l : Lane) (n : Nat) (y : Int) (i : Nat) (arrival : Int) : Int :=
  let p := ((n : Int) - y) * 500000 + arrival
  if i = 0 then p
  else match kget none l.arrivals y.toNat with
    | some q => q
    | none => p - (i * 5283840 / 257 : Nat)

/-- A barge that comes in the row of its release, or later, finds its basin empty (R24), unless at its own position of the row it keeps
the arrival phase up to which Table 6.9 switches the lane: the last barges of such a row come behind the release tick. DEDUCED
(log entry 44). -/
def tooLate (n : Nat) (y : Int) (i : Nat) (arrival : Int) : Bool :=
  decide (y < (n : Int)) || (decide (y = (n : Int)) && decide (-450000 < arrival - ((i * 5283840 / 257 : Nat) : Int)))

/-- The arrival phase of a row measured at its barge 0, for a row that is discarded or comes too late as well (R176). -/
def Lane.measure (l : Lane) (y : Int) (i : Nat) (phase : Int) : Lane :=
  if i = 0 ∧ 0 ≤ y then { l with arrivals := kset none l.arrivals y.toNat (some phase), arrival := some phase } else l

/-- A barge placed in its row (R161): discarded as a duplicate, with its row under R24 where the basin would overflow or underflow, or
kept; true when kept. A barge of the row being released joins that row, of which nothing is left when it is discarded. -/
def Lane.place (l : Lane) (n : Nat) (y : Int) (i : Nat) (arrival phase : Int) (b : BargeW) : Lane × Bool :=
  if l.got.contains (24 * y.toNat + i) then (l.count 5 1, false)
  else
    let l := { l with got := (24 * y.toNat + i) :: l.got }.measure y i phase
    if tooEarly n y phase || tooLate n y i arrival then
      ({ l.discard y.toNat with prevRow := if y = (n : Int) then [] else l.prevRow }, false)
    else if l.discards.contains y.toNat then (l, false)
    else if y ≤ (n : Int) then ({ l with prevRow := kset none l.prevRow i (some b) }, true)
    else ({ l with basin := kset none l.basin (24 * y.toNat + i) (some b) }, true)

/-- A barge of the row being released in the ingress interchanger (R18): one that is kept joins the row there; where the row has been
discarded under R24, none of the lane's barges is left in it, so that none is switched. -/
def joinRow (lane : Nat) (y : Int) (i : Nat) (b : BargeW) (kept : Bool) (s : State) : State :=
  if y = (s.nrn : Int) ∧ s.inService lane = true then
    if kept then { s with fab.ingress := kset none s.fab.ingress (24 * lane + i) (some b) }
    else if (s.lane lane).discards.contains y.toNat then
      { s with fab.ingress := s.fab.ingress.filter (fun e => e.1 / 24 != lane) }
    else s
  else s

/-- The arrival of the first DATA barge of a row whose copy skew is measured (R121): row 0 of each frame (log entry 77). -/
def Lane.noteData (l : Lane) (y at_ : Int) : Lane :=
  if 0 ≤ y ∧ y.toNat % 250 = 0 ∧ kget none l.skews y.toNat = none then { l with skews := kset none l.skews y.toNat (some at_) }
  else l

/-- Lanes are numbered 0 to 511, and events of the running device reach them while row ticks run. -/
def onRunningLane (lane : Nat) (s : State) (t : State) : Res := onLane lane (if s.ticking then t else s)

/-- R161, R187. -/
def dataBarge (lane : Nat) (b : BargeRx) (s : State) : State :=
  match header lane b s with
  | (s, some (w, x)) =>
    if hType w ≠ 1 then s
    else
      let l := s.lane lane
      let y := resolveRow s.nrn (hRow w)
      let phase := l.rowPhase s.nrn y (hIndex w) b.arrival
      let tag := l.bring == .inService && !x.uncorr && hSrcValid w && decide (phase ≤ -450000)
      let b' : BargeW := { words := x.slots, tag := tag }
      let r := l.place s.nrn y (hIndex w) b.arrival phase b'
      let ok := r.2 && tag
      let s := s.modLane lane (fun _ =>
        let l := (r.1.count 6 (b2n (!hSrcValid w))).noteData y (((s.nrn : Int) - y) * 500000 + b.arrival)
        if ok then { l with bwRx := l.bwRx + 8192 } else l)
      countEvent (if ok then 1 else 2) lane 1 (joinRow lane y (hIndex w) b' r.2 s)
  | (s, none) => s

/-- R160: the words that the basin holds for the same barge of the row before, or free values where it holds none. -/
def holdBarge (lane : Nat) (b : BargeRx) (s : State) : State :=
  match header lane b s with
  | (s, some (w, _)) =>
    if hType w ≠ 4 then s
    else
      let l := s.lane lane
      let y := resolveRow s.nrn (hRow w)
      let words := match l.held (y.toNat - 1) (hIndex w) s.nrn with
        | some x => x.words
        | none => (List.range 256).map (fun j => Config.freeWord (s.free + j))
      let b' : BargeW := { words := words, tag := false }
      let r := l.place s.nrn y (hIndex w) b.arrival (l.rowPhase s.nrn y (hIndex w) b.arrival) b'
      let s := { s.modLane lane (fun _ => r.1.count 7 1) with free := s.free + 256 }
      joinRow lane y (hIndex w) b' r.2 s
  | (s, none) => s

/-- The bytes of a FRAME barge that its CRC covers (R167), in transmission order. -/
def frameBytes (ws : List W64) : List (BitVec 8) :=
  ((List.range 127).flatMap (fun i => beBytes 8 (wd ws i).toNat)) ++ beBytes 4 (fld (wd ws 127) 63 32)

/-- R167. -/
def frameGood (ws : List W64) : Bool :=
  fld (wd ws 0) 63 56 == 1 && (crc32c (frameBytes ws)).toNat == fld (wd ws 127) 31 0

/-- A round-trip delay sample (R170, R283); suspended while the defects that R283 names are declared. -/
def Lane.delay (l : Lane) (ws : List W64) (at_ frame : Nat) : Lane :=
  if l.los || l.loa || l.lod || l.lora || l.frm then l
  else match l.sent.find? (fun x => fld (wd ws 5) 47 0 != 0 && x.1 == fld (wd ws 5) 47 0) with
    | some x =>
      let d := (at_ : Int) - (x.2 : Int) - ((fld (wd ws 6) 31 0 : Nat) : Int)
      let v := twos 32 d
      { l with rtdLast := some v, rtdMin := some (match l.rtdMin with | some m => min m v | none => v),
               rtdMax := max l.rtdMax v, rtdCount := l.rtdCount + 1, rtdSum := l.rtdSum + v,
               rtdFrame := frame }
    | none => l

/-- The quality level message that a good FRAME barge carries to the input that names its lane (R235). -/
def frameQl (lane : Nat) (ws : List W64) (s : State) : State :=
  if bit (wd ws 2) 51 then
    ((List.range 16).map (· + 8)).foldl (fun s n =>
      if (s.input n).q != .off && (s.input n).laneNo == lane then qlMessage n (fld (wd ws 2) 63 60) (fld (wd ws 2) 59 52) s
      else s) s
  else s

/-- A good FRAME barge (R169, R170, R186, R189, Table 8.7). -/
def goodFrame (lane : Nat) (ws : List W64) (arrival : Int) (s : State) : State :=
  let at_ := ((s.psAt 0 : Nat) + arrival).toNat
  let s := s.modLane lane (fun l =>
    let l := l.delay ws at_ s.time.frame
    { l with frmRow := s.time.rows, rxState := fld (wd ws 7) 2 0, fSel := fld (wd ws 4) 63 62,
             fSelTerm := fld (wd ws 4) 31 0, echoFrame := fld (wd ws 0) 47 0, echoRow := at_,
             goodFrame0 := l.goodFrame0 || (l.bring == .phase && !bit (wd ws 0) 54),
             frmReg := if l.bring = .inService then some false else l.frmReg,
             farReg := if l.bring = .inService then
                 (if fld (wd ws 7) 2 0 ≠ 7 then some true else if l.seenBad then l.farReg else some false)
               else l.farReg })
  let s := frameQl lane ws s
  if s.twinRole && fld (wd ws 4) 63 62 == 2 then showTerm (fld (wd ws 4) 31 0) 3 s else s

/-- R166, R167. -/
def frameBarge (lane : Nat) (b : BargeRx) (s : State) : State :=
  match header lane b s with
  | (s, some (w, x)) =>
    if hType w ≠ 3 then s
    else if frameGood x.words then goodFrame lane x.words b.arrival s
    else s.modLane lane (fun l => l.count 10 1)
  | (s, none) => s

/-- One step of a PRBS-31 generator (R67, R171): the bit and the next state. -/
def prbs31 (st : BitVec 31) : Bool × BitVec 31 :=
  let k := bit st 30 != bit st 27
  (k, (st <<< 1) ||| (if k then 1#31 else 0#31))

/-- n bits of the generator, first bit most significant, and the state after them. -/
def prbsBits : Nat → BitVec 31 → Nat → Nat × BitVec 31
  | 0, st, acc => (acc, st)
  | n + 1, st, acc => prbsBits n (prbs31 st).2 (2 * acc + b2n (prbs31 st).1)

/-- The 128 payload words of the TEST barge with a TYPE_DATA (R171). -/
def testPayload (seq : Nat) : List W64 :=
  go 128 (BitVec.ofNat 31 (seq * 2 ^ 23 + (2 ^ 23 - 1)))
where
  go : Nat → BitVec 31 → List W64
    | 0, _ => []
    | n + 1, st => w64 (prbsBits 64 st 0).1 :: go n (prbsBits 64 st 0).2

/-- Bits of a word that are set. -/
def onesOf (w : W64) : Nat := ((List.range 64).filter (fun i => bit w i)).length

/-- R172. -/
def testBarge (lane : Nat) (b : BargeRx) (s : State) : State :=
  match header lane b s with
  | (s, some (w, x)) =>
    if hType w ≠ 5 then s
    else
      let bad := (List.zipWith (fun p q => onesOf (p ^^^ q)) (testPayload (hTypeData w)) x.words).foldl (· + ·) 0
      s.modLane lane (fun l => { l with testChecked := sat (2 ^ 48 - 1) (l.testChecked + 1),
                                        testBits := sat (2 ^ 48 - 1) (l.testBits + bad) })
  | (s, none) => s

/-- R166. -/
def idleBarge (lane : Nat) (b : BargeRx) (s : State) : State :=
  match header lane b s with
  | (s, some (w, _)) => if hType w = 2 then countEvent 3 lane 1 s else s
  | (s, none) => s

/-! ## Rows of the table -/

def execAlignmentMarker (port : MarkerPort) (m : MarkerRx) (s : State) : Res :=
  match port with
  | .pair n => onRunningLane n s (pairMarker n m s)
  | .twin n => if n < 4 then .next (if s.ticking then twinMarker n m s else s) else .fault (.noSuchObject "twin lane")

def execDataBarge (lane : Nat) (b : BargeRx) (s : State) : Res := onRunningLane lane s (dataBarge lane b s)

def execHoldBarge (lane : Nat) (b : BargeRx) (s : State) : Res := onRunningLane lane s (holdBarge lane b s)

def execFrameBarge (lane : Nat) (b : BargeRx) (s : State) : Res := onRunningLane lane s (frameBarge lane b s)

def execTestBarge (lane : Nat) (b : BargeRx) (s : State) : Res := onRunningLane lane s (testBarge lane b s)

def execIdleBarge (lane : Nat) (b : BargeRx) (s : State) : Res := onRunningLane lane s (idleBarge lane b s)

def execInvalidHeader (lane pos : Nat) (h : HeaderRx) (s : State) : Res :=
  onRunningLane lane s (header lane (headerAt pos h) s).1

/-- R189, R153, Table 8.7: no signal for 2 consecutive rows. -/
def losDeclare (lane : Nat) (s : State) : State :=
  let l := s.lane lane
  if l.noSigRun < 2 then s
  else if l.bring = .inService then
    s.modLane lane (fun l => { l with losReg := some true, hunter := l.hunter.lose, delin := l.delin.lose })
  else if l.bring.trying then failAttempt lane s
  else if l.bring = .idFault then s.modLane lane (fun l => { l with hunter := l.hunter.lose, delin := l.delin.lose })
  else s

def execLosDeclareRun (lane : Nat) (s : State) : Res := onRunningLane lane s (losDeclare lane s)

/-- R189. -/
def execLosClearRun (lane : Nat) (s : State) : Res :=
  onRunningLane lane s (s.modLane lane (fun l =>
    if l.bring = .inService ∧ l.los = true ∧ 250 ≤ l.sigRun then { l with losReg := some false } else l))

/-- R190. -/
def execLoraDeclareRun (lane : Nat) (s : State) : Res :=
  onRunningLane lane s (s.modLane lane (fun l =>
    if l.bring = .inService ∧ 4 ≤ l.outRun then { l with loraReg := some true } else l))

/-- R190. DESIGN CHOICE (log entry 73): rows in place before a row was discarded under R24 count on towards the 250. -/
def execLoraClearRun (lane : Nat) (s : State) : Res :=
  onRunningLane lane s (s.modLane lane (fun l =>
    if l.bring = .inService ∧ l.lora = true ∧ 250 ≤ l.inRun ∧ (l.los || l.loa || l.lod) = false then
      { l with loraReg := some false } else l))

/-- R189. -/
def execFrmMissingTimeout (lane : Nat) (s : State) : Res :=
  onRunningLane lane s (s.modLane lane (fun l =>
    if l.bring = .inService ∧ l.frm = false ∧ l.frmRow + 500 ≤ s.time.rows then { l with frmReg := some true } else l))

/-! ## Degraded signal (R191, R192) -/

def degInt (l : Lane) : Nat := if fld l.degW0 63 48 = 0 then 8000 else fld l.degW0 63 48
def degM (l : Lane) : Nat := if fld l.degW1 3 0 = 0 then 7 else fld l.degW1 3 0

/-- The interval is bad (R191 case 2): 0 means the default, all ones never. -/
def degBad (l : Lane) : Bool :=
  let a := fld l.degW0 31 0
  let u := fld l.degW0 47 32
  (a != 0xFFFFFFFF && decide ((if a = 0 then 4250000 else a) ≤ l.degSym)) ||
  (u != 0xFFFF && decide ((if u = 0 then 1 else u) ≤ l.degUnc))

/-- The number of the frame that follows the frame in progress (R30, R279). -/
def State.nextFrame (s : State) : Nat :=
  match s.realignAt s.time.frame with
  | some r => r.n
  | none => frameNo (s.time.frame + 1)

/-- A signal-fail trigger is declared in the row: it stands, or its declaration has been registered in the row (R189, R191). -/
def Lane.sfNow (l : Lane) : Bool :=
  l.sfTrigger || l.losReg == some true || l.hunter.left || l.delin.left || l.loraReg == some true || l.discarded

/-- A DEG interval classed at its end (R191). -/
def Lane.classDeg (l : Lane) : Lane :=
  if l.degSf || l.sfNow then { l with degOpen := false, degEnd := false }
  else if degBad l then
    let l := l.count 12 1
    let l := { l with badRun := min 10 (l.badRun + 1), goodRun := 0, degOpen := false, degEnd := false }
    if degM l ≤ l.badRun ∧ l.deg = false then { l with degReg := some true } else l
  else
    let l := { l with goodRun := min 10 (l.goodRun + 1), badRun := 0, degOpen := false, degEnd := false }
    if degM l ≤ l.goodRun ∧ l.deg = true then { l with degReg := some false } else l

/-- R191: in row 249 of the interval's last frame. The interval is classed at the end of the row, when the counts and the triggers of
the row are complete (log entry 24). -/
def execDegIntervalEnd (lane : Nat) (s : State) : Res :=
  onRunningLane lane s (s.modLane lane (fun l =>
    if l.bring = .inService ∧ l.degOpen = true ∧ s.time.row = 249 ∧ s.nextFrame % degInt l = 0 then { l with degEnd := true } else l))

/-! ## Bring-up rows (Table 8.7) -/

/-- SIGNAL_WAIT to ADAPT: the 100 ms attempt timer starts. -/
def execSignalReportedRun (lane : Nat) (s : State) : Res :=
  onRunningLane lane s (s.modLane lane (fun l =>
    if l.bring = .signalWait ∧ 2 ≤ l.sigRun then
      { l with bring := .adapt, attemptDue := some (s.time.rows + 200000) } else l))

/-- ADAPT to ALIGN with an eye margin of 10 mV or more: the marker hunter hunts. -/
def execAdaptationConverged (lane eyeV eyeH snr : Nat) (s : State) : Res :=
  onRunningLane lane s (s.modLane lane (fun l =>
    if l.bring = .adapt ∧ 10 ≤ eyeV then
      { l with bring := .align, hunter := l.hunter.fresh, delin := {}, eyeV := eyeV % 256, eyeH := eyeH % 256, snr := snr % 256 }
    else l))

/-- R222: the attempt timer has expired (R46). -/
def execAttemptTimerExpiry (lane : Nat) (s : State) : Res :=
  onRunningLane lane s (match (s.lane lane).attemptDue with
    | some d => if d < s.time.rows ∧ (s.lane lane).bring.trying = true then failAttempt lane s else s
    | none => s)

/-- R222: 8,000 frames after the entry to ID_FAULT. No attempt timer runs after it (DEDUCED, log entry 100). -/
def execIdFaultExpiry (lane : Nat) (s : State) : Res :=
  onRunningLane lane s (s.modLane lane (fun l =>
    if l.bring = .idFault ∧ l.idFaultFrame + 2000000 < s.time.rows then { l with bring := .align } else l))

end Sys2Proof.Machine
end

