-- ==== Sys2Proof/Machine/Flags.lean ====
section
/-! DEFINITION. The flags that the device derives from one row to the next: row validity of a copy, signal fail, signal
degrade, the defects of a lane, the run of rows in place. -/

namespace Sys2Proof.Machine

open Sys2Proof

/-- Copy A and copy B runs after one readout row (R129). -/
def Sel.rowValid (x : Sel) (a b : Bool) : Sel :=
  { x with invA := if a then 0 else x.invA + 1, valA := if a then x.valA + 1 else 0,
           invB := if b then 0 else x.invB + 1, valB := if b then x.valB + 1 else 0 }

/-- SF and SD of both copies at a row tick: a signal-fail trigger on the copy's lane sets SF (R129); SD is the DEG of the
copy's lane while SF is clear (R130). -/
def Sel.conditions (x : Sel) (trigA trigB degA degB : Bool) : Sel :=
  let fa := x.sfA || trigA
  let fb := x.sfB || trigB
  { x with sfA := fa, sfB := fb, sdA := degA && !fa, sdB := degB && !fb }

/-- SF_ROWS_REACHED: SF_ROWS consecutive invalid readout rows (R129). -/
def Sel.sfReached (x : Sel) (copyB : Bool) (n : Nat) : Sel :=
  if copyB then (if n ≤ x.invB then { x with sfB := true } else x)
  else (if n ≤ x.invA then { x with sfA := true } else x)

/-- SF_CLEAR_RUN: 250 consecutive valid readout rows on a lane without a trigger (R129). -/
def Sel.sfCleared (x : Sel) (copyB trig : Bool) : Sel :=
  if trig then x
  else if copyB then (if 250 ≤ x.valB then { x with sfB := false } else x)
  else (if 250 ≤ x.valA then { x with sfA := false } else x)

/-- A defect that cascades (R189): declared with its own cause or with any defect above it, before or now; it clears once
every defect above is clear, as it was in the row and as it is after it, and its own condition is met. -/
def cascade (was own aboveWas aboveNow clear : Bool) : Bool :=
  if own || aboveNow then true else if clear && !aboveWas then false else was

/-- Defects applied at the tick that ends a row (R189, R203). -/
def Lane.applyDefects (l : Lane) : Lane :=
  let los := l.losReg.getD l.los
  let loa := cascade l.loa l.hunter.left l.los los l.hunter.aligned
  let lod := cascade l.lod (l.delin.left) (l.los || l.loa) (los || loa) l.delin.sync
  let up := los || loa || lod
  let lora := cascade l.lora (l.loraReg == some true || l.discarded) false up (l.loraReg == some false)
  { l with los := los, loa := loa, lod := lod, lora := lora, deg := l.degReg.getD l.deg, frm := l.frmReg.getD l.frm,
           far := l.farReg.getD l.far, losReg := none, loraReg := none, degReg := none, frmReg := none, farReg := none,
           discarded := false, inRun := if up || l.los || l.loa || l.lod then 0 else l.inRun }

/-- The marks of the row just ended cleared. -/
def Lane.nextRow (l : Lane) : Lane :=
  { l with hunter := { l.hunter with left := false, heard := none },
           delin := { l.delin with left := false, syncPrev := l.delin.syncRow && l.delin.sync, syncRow := l.delin.sync } }

/-- R190: the row being released judged; only a row before which delineation was in SYNC throughout. Of a row within the phases of
Table 6.9 those of the last barges that begin behind the tick are not missing at it (DEDUCED, log entry 44). -/
def Lane.judge (l : Lane) (y : Nat) : Lane :=
  if !l.delin.syncPrev then l
  else
    let due := fun (i : Nat) => match kget none l.arrivals y with
      | some p => decide (p + ((i * 5283840 / 257 : Nat) : Int) < 0)
      | none => true
    let whole := (List.range 24).all (fun i => !due i || (kget none l.basin (24 * y + i)).isSome)
    let timely := match kget none l.arrivals y with
      | some p => decide (-1500000 ≤ p ∧ p ≤ -450000)
      | none => false
    if whole && timely then { l with inRun := l.inRun + 1, outRun := 0 }
    else { l.count 8 1 with inRun := 0, outRun := l.outRun + 1 }

/-- The state of LANE_STATUS and EV_LANE_SERVICE (Table 8.10). -/
def Bring.code : Bring → Nat
  | .off => 0 | .signalWait => 1 | .adapt => 2 | .align => 3 | .identify => 4 | .delineate => 5 | .phase => 6
  | .inService => 7 | .idFault => 8

/-- What EV_LANE_DEFECT reports of a lane: its reported defect, FRM_MISSING and FAR_FAULT (R195). -/
def Lane.shows (l : Lane) : Nat := l.reported + 8 * b2n l.frm + 16 * b2n l.far

end Sys2Proof.Machine
end

