-- ==== Sys2Proof/Machine/Select.lean ====
section
/-! DEFINITION. Chapters 3 and 5: the readout of a row, hold timers, selectors, protection commands. -/

namespace Sys2Proof.Machine

open Sys2Proof

/-! ## Pages in force during a lockage (Table 4.2, R102) -/

/-- The page whose entries and tributary records govern the readout row in progress: the incoming one from row 2 of the
lockage frame on. -/
def readoutPage (s : State) : Page :=
  if s.fab.swap.isSome ∧ 2 ≤ s.time.row ∧ s.time.row < 249 then s.fab.stby else s.fab.act

/-- The page whose stage memory the space stage uses: the incoming one from row 1 of the lockage frame on. -/
def spacePage (s : State) : Page :=
  if s.fab.swap.isSome ∧ 1 ≤ s.time.row ∧ s.time.row < 249 then s.fab.stby else s.fab.act

/-- The switch die runs selectors (R425): in SOLO and ACTIVE, and from two rows after the start on while TAKING, WARMING or
WARM (R302). -/
def State.switches (s : State) : Bool :=
  s.fab.running && (match s.twin.role with
    | .solo | .active => true
    | .taking | .warming | .warm => (match s.twin.started with
      | some d => decide (d + 2 ≤ s.time.rows)
      | none => false)
    | _ => false)

/-! ## One slot of a row (R65, R123 to R127) -/

/-- What the egress interchanger sends on one slot. -/
structure SlotOut where
  slot : Nat
  word : BitVec 32
  pick : Pick
  bad : Bool
  leg : Bool
  trib : Option Nat
deriving DecidableEq, Repr

/-- The held word of a slot (R125, R302). -/
def heldWord (lane slot : Nat) (s : State) : BitVec 32 :=
  if s.fab.heldOnes && !s.fab.sentLanes.contains lane then 0xFFFFFFFF#32
  else kget 0 s.fab.words (entryIndex lane slot)

/-- Held and inserted words clear source-valid (R127). -/
def Pick.bad : Pick → Bool
  | .held | .ones => true
  | _ => false

/-- Tributaries of an egress lane with their records. -/
def laneTribs (pg : Page) (lane : Nat) : List (Nat × List W64) :=
  (pg.tribList.map (fun t => (t, pg.tribRec t))).filter (fun t => tLane t.2 == lane)

/-- The word of an entry that names no ingress slot (Table 3.3). -/
def constWord (e : BitVec 32) (test : BitVec 32) : BitVec 32 :=
  if eValid e = false then 0
  else match eKind e with
    | 2 => 0xFFFFFFFF#32
    | 3 => test
    | _ => 0

/-- What slot e mod 6,144 of its lane sends in the row. -/
def slotOut (tribs : List (Nat × List W64)) (lane : Nat) (s : State) (e : Nat × BitVec 32) : SlotOut :=
  let slot := e.1 % 6144
  let a := half s.fab.read lane slot
  let plain := constWord e.2 (s.lane lane).testWord
  match tribs.find? (fun t => (memberOf (tRanges t.2) slot).isSome) with
  | none =>
    if eLeg e.2 then { slot := slot, word := a.1, pick := .plain, bad := !a.2, leg := true, trib := none }
    else { slot := slot, word := plain, pick := .plain, bad := false, leg := false, trib := none }
  | some t =>
    let x := s.sel t.1
    let h := heldWord lane slot s
    if tProt t.2 then
      let r := pickProtected x.sel (tNoSubst t.2) (x.st == .lo) x.expired a (half s.fab.read lane (6144 + slot)) h
      { slot := slot, word := r.1, pick := r.2, bad := r.2.bad, leg := true, trib := some t.1 }
    else if eLeg e.2 then
      let r := pickPlain x.expired a h
      { slot := slot, word := r.1, pick := r.2, bad := r.2.bad, leg := true, trib := some t.1 }
    else { slot := slot, word := plain, pick := .plain, bad := false, leg := false, trib := some t.1 }

/-- Every listed slot of a lane in the row being read out. -/
def laneOut (pg : Page) (lane : Nat) (s : State) : List SlotOut :=
  let tribs := laneTribs pg lane
  (pg.entries.filter (fun e => e.1 / 6144 == lane)).map (slotOut tribs lane s)

/-! ## Counts of a tributary (Table 5.9) -/

/-- Count i raised by n. -/
def Sel.count (x : Sel) (i n : Nat) : Sel :=
  { x with counts := x.counts.mapIdx (fun j v => if j = i then sat (2 ^ 32 - 1) (v + n) else v) }

/-- Tributary counts run: in SOLO, ACTIVE, WARMING and WARM, not while TAKING (R425). -/
def State.countsTribs (s : State) : Bool := s.fab.running && s.twin.role != .taking

/-- A selector whose counts stand still where they do not run. -/
def Sel.counted (on : Bool) (before x : Sel) : Sel := if on then x else { x with counts := before.counts }

/-- The row's words of one tributary: its counts, and the hold timer (R126, R139). `now` is the row read out. -/
def Sel.row (x : Sel) (hold now : Nat) (ps : List Pick) : Sel :=
  let held := ps.contains .held
  let ones := ps.contains .ones
  let x := ((((x.count 0 (b2n (ps.contains .substB))).count 1 (b2n (ps.contains .substA))).count 2 (b2n held)).count 3
    (b2n ones))
  if held || ones then { x with idle := false, holdDue := some ((x.holdDue).getD (now + hold)) }
  else { x with idle := true }

/-- One tributary after the readout of its lane (Table 16.4: TRIB_SUBST, TRIB_HELD). -/
def tribRow (out : List SlotOut) (t : Nat × List W64) (s : State) : State :=
  let ps := (out.filter (fun o => o.trib == some t.1)).map (·.pick)
  let s := s.modSel t.1 (fun x => (x.row (tHoldRows t.2) s.time.rows ps).counted s.countsTribs x)
  if !s.countsTribs then s else
  let s := countEvent 0x20 t.1 (b2n (ps.contains .substA || ps.contains .substB)) s
  countEvent 0x21 t.1 (b2n (ps.contains .held)) s

/-- The words of one lane replaced. -/
def setLaneWords (lane : Nat) (out : List SlotOut) (m : KMap (BitVec 32)) : KMap (BitVec 32) :=
  out.foldl (fun m o => kset 0 m (entryIndex lane o.slot) o.word) (m.filter (fun e => e.1 / 6144 != lane))

/-- The readout of one lane in service (R123 to R127, R139, R439). -/
def readoutLane (lane : Nat) (s : State) : State :=
  let pg := readoutPage s
  let out := laneOut pg lane s
  let bads := (out.filter (·.bad)).map (fun o => o.slot / 256)
  let s := (laneTribs pg lane).foldl (fun s t => tribRow out t s) s
  let s := if s.sendsRows || s.twin.role == .taking then
      let good := (out.filter (fun o => o.leg && !o.bad)).length
      s.modLane lane (fun l => { l with bwTx := l.bwTx + 32 * good })
    else s
  { s with fab.words := setLaneWords lane out s.fab.words,
           fab.badBarge := s.fab.badBarge.filter (fun b => b.1 != lane) ++ bads.eraseDups.map (fun b => (lane, b)),
           fab.sentLanes := if s.fab.sentLanes.contains lane then s.fab.sentLanes else lane :: s.fab.sentLanes }

/-- Copy validity of one protected tributary in the row read out (R129). -/
def copiesRow (t : Nat × List W64) (s : State) : State :=
  let ms := tMembers t.2
  let l := tLane t.2
  s.modSel t.1 (fun y =>
    let x := y.rowValid (ms.all (fun m => (half s.fab.read l m).2)) (ms.all (fun m => (half s.fab.read l (6144 + m)).2))
    ((x.count 5 (b2n x.sfA)).count 6 (b2n x.sfB)).counted s.countsTribs x)

/-- The protected tributaries of a page. -/
def Page.protectedTribs (p : Page) : List (Nat × List W64) :=
  (p.tribList.map (fun t => (t, p.tribRec t))).filter (fun t => tProt t.2)

/-- Lanes in service, in order. -/
def State.serviceLanes (s : State) : List Nat :=
  s.lanes.filterMap (fun e => if e.2.bring = .inService then some e.1 else none)

/-- The row read out at the row tick (R123 to R128). A tributary whose lane is out of service carries nothing. -/
def readout (s : State) : State :=
  let pg := readoutPage s
  let s := pg.protectedTribs.foldl (fun s t => copiesRow t s) s
  let s := s.serviceLanes.foldl (fun s l => readoutLane l s) s
  { s with sels := kmap {} (fun t x =>
      if x.holdDue.isSome && !(s.inService (tLane (pg.tribRec t)) && pg.tribList.contains t) then { x with idle := true }
      else x) s.sels }

/-- Hold timers at the tick after a row without a held or an inserted word (R126, R201). -/
def holdTick (s : State) : State :=
  { s with sels := kmap {} (fun _ x =>
      if x.holdDue.isSome && x.idle then
        { x with holdDue := none, idle := false, expired := false,
                 expChanged := if x.expired then some false else x.expChanged }
      else x) s.sels }

/-- EV_HOLD_EXPIRED and EV_HOLD_ENDED (R202). -/
def holdEvents (s : State) : State :=
  let on := (s.sels.filter (fun e => e.2.expChanged == some true)).map (·.1)
  let off := (s.sels.filter (fun e => e.2.expChanged == some false)).map (·.1)
  let s := raiseSummary 0x0202 off 0 0 (raiseSummary 0x0201 on 0 0 s)
  { s with sels := kmap {} (fun _ x => { x with expChanged := none }) s.sels }

/-! ## Selectors (Tables 5.2 and 5.3) -/

/-- Selector state code (Table 5.8). -/
def SelState.code : SelState → Nat
  | .nrA => 0 | .nrB => 1 | .lo => 2 | .fs => 3 | .sfB => 4 | .sfA => 5 | .sdB => 6 | .sdA => 7 | .msB => 8 | .msA => 9
  | .wtr => 10 | .notProt => 15

/-- Selector state of a code. -/
def SelState.ofCode (n : Nat) : SelState :=
  match n with
  | 0 => .nrA | 1 => .nrB | 2 => .lo | 3 => .fs | 4 => .sfB | 5 => .sfA | 6 => .sdB | 7 => .sdA | 8 => .msB | 9 => .msA
  | 10 => .wtr | _ => .notProt

/-- Copy that a state selects: true = B. -/
def SelState.copyB : SelState → Bool
  | .nrB | .fs | .sfA | .sdA | .msB | .wtr => true
  | _ => false

/-- The highest request of priority 1 to 6 (Table 5.2). -/
def Sel.strong (x : Sel) (sdSw : Bool) : Option SelState :=
  if x.lo then some .lo
  else if x.sfB then some .sfB
  else if x.fs then some .fs
  else if x.sfA then some .sfA
  else if x.sdB && sdSw then some .sdB
  else if x.sdA && sdSw then some .sdA
  else none

/-- The highest request of priority 1 to 7. -/
def Sel.top (x : Sel) (sdSw : Bool) : Option SelState :=
  match x.strong sdSw with
  | some r => some r
  | none => x.ms.map (fun b => if b then .msB else .msA)

/-- A selector in a state, with the copy that it selects. -/
def Sel.goTo (x : Sel) (st : SelState) : Sel := { x with st := st, sel := st.copyB, wtrDue := none }

/-- WTR entered: the timer starts at its full length. -/
def Sel.startWtr (x : Sel) (wtr now : Nat) : Sel := { x.goTo .wtr with wtrDue := some (now + wtr) }

/-- Table 5.3 at a row tick, with no request above WTR. -/
def Sel.rest (x : Sel) (rev : Bool) (wtr now : Nat) : Sel :=
  match x.st with
  | .sfA | .sdA => if rev then x.startWtr wtr now else x.goTo .nrB
  | .fs | .msB => if rev then x.goTo .nrA else x.goTo .nrB
  | .lo | .sfB | .sdB | .msA => x.goTo .nrA
  | .nrB => if rev then x.startWtr wtr now else x
  | .wtr => if x.wtrHit then x.goTo .nrA else x
  | .nrA | .notProt => x

/-- Table 5.3 at a row tick. -/
def Sel.decideSel (x : Sel) (ws : List W64) (now : Nat) : Sel :=
  match x.top (tSdSw ws) with
  | some r => x.goTo r
  | none => x.rest (tRev ws) (tWtrRows ws) now

/-- LO, FS and CLEAR of a PROT_CMD; an MS is judged later (R133, R134). -/
def Sel.command (x : Sel) (req : Nat) : Sel :=
  match req with
  | 0 =>
    let y : Sel := { x with lo := false, fs := false, ms := none }
    if y.st = .wtr then y.goTo .nrA else y
  | 1 => { x with lo := true }
  | 2 => { x with fs := true }
  | _ => x

/-- The frame that holds a row to come, in the numbering in force (R48, Table 12.2 WTR_DUE). -/
def State.frameOf (s : State) (due : Nat) : Nat := s.time.frame + (s.time.row + (due - s.time.rows)) / 250

/-- The selector record of Table 12.2; `frameOf` gives the frame that holds the due row of the WTR timer. -/
def Sel.record (x : Sel) (frameOf : Nat → Nat) : W64 :=
  pack [(3, 0, x.st.code), (4, 4, b2n x.sel), (5, 5, b2n x.lo), (6, 6, b2n x.fs), (7, 7, b2n x.ms.isSome),
        (8, 8, b2n (x.ms == some true)), (63, 16, (x.wtrDue.map frameOf).getD 0)]

/-- The tributary and the request of a PROT_CMD. -/
def protTrib (r : Run) : Nat := fld (r.cmd.p 0) 16 0
def protReq (r : Run) : Nat := fld (r.cmd.p 0) 19 17

/-- Tributary t is protected in the generation that governs the readout row. -/
def isProtected (t : Nat) (s : State) : Bool := tProt ((readoutPage s).tribRec t) && tCount ((readoutPage s).tribRec t) != 0

/-- The PROT_CMDs that take effect at this tick, scheduled ones first (R134, R138). -/
def protDue (s : State) : List Run :=
  let cs := s.progOf 0x0401
  cs.filter (fun r => r.at_ != 0 && r.at_ == s.time.frame && s.time.row == 0) ++ cs.filter (fun r => r.at_ == 0)

/-- Conditions at the tick: the lanes of both copies (R129, R130). -/
def condTrib (t : Nat × List W64) (s : State) : State :=
  let a := s.lane (tALane t.2)
  let b := s.lane (tBLane t.2)
  s.modSel t.1 (fun x => x.conditions a.sfTrigger b.sfTrigger a.deg b.deg)

/-- An MS accepted or refused against the requests present (R133). -/
def judgeMs (refused : List Key) (r : Run) (s : State) : List Key × State :=
  let t := protTrib r
  if ((s.sel t).strong (tSdSw ((readoutPage s).tribRec t))).isSome then (r.key :: refused, s)
  else (refused, s.modSel t (fun x => { x with ms := some (protReq r == 3) }))

/-- An MS in force is cancelled when a request of priority 1 to 6 is present. -/
def cancelMs (t : Nat × List W64) (s : State) : State :=
  let x := s.sel t.1
  if x.ms.isSome && (x.strong (tSdSw t.2)).isSome then
    raise 0x0402 [w64 t.1] (s.modSel t.1 (fun x => { x with ms := none }))
  else s

/-- A change of SEL counted and stamped (Table 5.8, Table 5.9). -/
def switched (before : State) (t : Nat) (s : State) : State :=
  if (before.sel t).sel = (s.sel t).sel then s
  else s.modSel t (fun x => { (x.count 4 1).counted s.countsTribs x with lastSwitch := s.time.frame })

/-- EV_PROT_SWITCH (R140). -/
def switchEvent (before : State) (ts : List Nat) (s : State) : State :=
  let ch := ts.filter (fun t => (before.sel t).sel != (s.sel t).sel)
  match ch with
  | [] => s
  | t :: _ =>
    let st := (s.sel t).st
    raiseSummary 0x0401 ch (if ch.all (fun u => (s.sel u).st == st) then st.code else 15) 0 s

/-- The reply of a PROT_CMD (Table 5.7). -/
def protReply (refused : List Key) (r : Run) (s : State) : State :=
  let x := s.sel (protTrib r)
  finish r (if refused.contains r.key then stProtRefused else stOk) [pack [(3, 0, x.st.code), (4, 4, b2n x.sel)]] s

/-- The MS commands of the row judged one after the other (R136): the keys refused, and the state after them. -/
def judgeAll (rs : List Run) (s : State) : List Key × State := rs.foldl (fun a r => judgeMs a.1 r a.2) ([], s)

/-- The selector decision of the row tick (R134). -/
def selectorTick (s : State) : State :=
  let ts := (readoutPage s).protectedTribs
  let due := protDue s
  let bad := due.filter (fun r => !isProtected (protTrib r) s)
  let good := due.filter (fun r => isProtected (protTrib r) s)
  let s := bad.foldl (fun s r => finish r stInvalidParam [] s) s
  let before := s
  let s := good.foldl (fun s r => s.modSel (protTrib r) (fun x => x.command (protReq r))) s
  let s := ts.foldl (fun s t => condTrib t s) s
  let j := judgeAll (good.filter (fun r => decide (3 ≤ protReq r))) s
  let s := ts.foldl (fun s t => cancelMs t s) j.2
  let s := ts.foldl (fun s t => s.modSel t.1 (fun x =>
    { x.decideSel t.2 s.time.rows with wtrHit := false })) s
  let s := ts.foldl (fun s t => switched before t.1 s) s
  let s := switchEvent before (ts.map (·.1)) s
  let s := good.foldl (fun s r => protReply j.1 r s) s
  let ch := (ts.map (·.1)).filter (fun t => (before.sel t).record s.frameOf != (s.sel t).record s.frameOf)
  { s with ckpt.selDirty := ch ++ s.ckpt.selDirty.filter (fun t => !ch.contains t) }

/-- Conditions while the selectors follow the partner's SEL messages (R332). -/
def followTick (s : State) : State :=
  (readoutPage s).protectedTribs.foldl (fun s t => condTrib t s) s

/-- A selector's conditions, commands and skew discarded (R131). DESIGN CHOICE (log entry 78): LAST_SWITCH stays, and the return
to copy A that a lockage brings counts as no switch. -/
def Sel.discardSel (x : Sel) : Sel :=
  { x with sfA := false, sfB := false, sdA := false, sdB := false, lo := false, fs := false,
           ms := none, invA := 0, invB := 0, valA := 0, valB := 0, wtrHit := false, skew := none, skewOut := false }

/-- One tributary at the tick at which the incoming records begin to govern the readout (R131). DESIGN CHOICE (log entry 77): a change of
A_LANE or B_LANE clears what R131 names; the measured skew and its flag stay until the next measurement. -/
def lockageTrib (old new : Page) (t : Nat) (s : State) : State :=
  let a := old.tribRec t
  let b := new.tribRec t
  if tProt b && !tProt a then
    s.modSel t (fun x => x.discardSel.goTo .nrA)
  else if tProt a && !tProt b then
    s.modSel t (fun x => x.discardSel.goTo .notProt)
  else if tProt a && tProt b then
    s.modSel t (fun x =>
      let x := if tALane a = tALane b then x else { x with sfA := false, sdA := false, invA := 0, valA := 0 }
      if tBLane a = tBLane b ∧ tBFirst a = tBFirst b then x else { x with sfB := false, sdB := false, invB := 0, valB := 0 })
  else s

/-- R131 over every tributary whose record the lockage changes. -/
def lockageTribs (s : State) : State :=
  let ts := (s.fab.act.tribList ++ s.fab.stby.tribList).eraseDups
  let before := s
  let s := ts.foldl (fun s t => lockageTrib s.fab.act s.fab.stby t s) s
  let ch := ts.filter (fun t => (before.sel t).record s.frameOf != (s.sel t).record s.frameOf)
  { s with ckpt.selDirty := ch ++ s.ckpt.selDirty.filter (fun t => !ch.contains t) }

/-- Selector records that changed in the row are streamed by an ACTIVE twin (R317, R320), and mirrored while a handover is
pending (R335). -/
def streamSels (s : State) : State :=
  let ws := s.ckpt.selDirty.map (fun t => ({ off := selOff t, word := (s.sel t).record s.frameOf } : SlotWrite))
  let s := { s with ckpt.selDirty := [] }
  if ws.isEmpty || s.twin.role != .active then s
  else
    let s := if s.ckpt.mirror then
        { s with ckpt.x := s.ckpt.x.writeAll ws, ckpt.y := s.ckpt.y.writeAll ws }
      else s
    sendTwin 6 s.fab.act.gen 0 0 ws s

/-! ## Skew (R121) -/

/-- The measured skew of one protected tributary, in ps (R121); PROT_STATUS gives it in ns. DESIGN CHOICE (log entry 77): a skew beyond the
16-bit field of Table 5.8 is shown modulo 2^16, since the spec states no saturation. -/
def skewOne (t : Nat) (v : Int) (s : State) : State :=
  let out := decide (500000 < mag v)
  let x := s.sel t
  let ns := quot v 1000
  let s := s.modSel t (fun x => { x with skew := some ns, skewOut := out })
  if x.skewOut = out then s
  else raise 0x0403 [pack [(16, 0, t), (32, 32, b2n out)], w64 (twos 16 ns)] s

/-- The copy skew of row y: its arrival on B_LANE minus its arrival on A_LANE; no measurement where it has not reached both. -/
def skewOf (y : Nat) (t : Nat × List W64) (s : State) : State :=
  match kget none (s.lane (tALane t.2)).skews y, kget none (s.lane (tBLane t.2)).skews y with
  | some a, some b => skewOne t.1 (b - a) (s.modSel t.1 (fun x => { x with skewRow := y }))
  | _, _ => s

/-- The rows that have reached both lanes of a tributary since its latest measurement, each once (R121). -/
def skewsOf (t : Nat × List W64) (s : State) : State :=
  (((s.lane (tALane t.2)).skews.map (·.1)).filter (fun y => decide ((s.sel t.1).skewRow < y))).foldl (fun s y => skewOf y t s) s

/-- Once per frame (R121), when the row stamped with the frame's row 0 has reached both lanes. DESIGN CHOICE (log entry 77): the spec
does not say which row of the frame is measured. -/
def skewTick (s : State) : State :=
  if s.switches then (readoutPage s).protectedTribs.foldl (fun s t => skewsOf t s) s else s

/-! ## Rows of the table -/

/-- Tributaries are numbered 0 to 131,071 (R114). -/
def onTrib (t : Nat) (x : State) : Res := if t < 131072 then .next x else .fault (.noSuchObject "tributary")

/-- R129: registered in the readout row that meets it. -/
def execSfRowsReached (t : Nat) (copyB : Bool) (s : State) : Res :=
  onTrib t (if s.switches && isProtected t s then
    s.modSel t (fun x => x.sfReached copyB (tSfRows ((readoutPage s).tribRec t))) else s)

/-- R129. -/
def execSfClearRun (t : Nat) (copyB : Bool) (s : State) : Res :=
  let ws := (readoutPage s).tribRec t
  let trig := (s.lane (if copyB then tBLane ws else tALane ws)).sfTrigger
  onTrib t (if s.switches && isProtected t s then s.modSel t (fun x => x.sfCleared copyB trig) else s)

/-- R126, R201: the hold timer of a tributary in the row at the end of which it expires. -/
def Sel.holdEnd (now : Nat) (x : Sel) : Sel :=
  match x.holdDue with
  | some d => if d ≤ now ∧ x.expired = false ∧ x.idle = false then { x with expired := true, expChanged := some true } else x
  | none => x

def execHoldExpiry (t : Nat) (s : State) : Res := onTrib t (s.modSel t (fun x => x.holdEnd s.time.rows))

/-- R135: the WTR timer of a tributary in the row in which it is due. -/
def Sel.wtrEnd (now : Nat) (x : Sel) : Sel :=
  match x.st, x.wtrDue with
  | .wtr, some d => if d ≤ now then { x with wtrHit := true } else x
  | _, _ => x

/-- R135: registered in the due row. While the selectors follow the partner (R332) its SEL messages decide. -/
def execWtrExpiry (t : Nat) (s : State) : Res :=
  onTrib t (if s.twin.role == .warming || s.twin.role == .warm then s
    else s.modSel t (fun x => x.wtrEnd s.time.rows))

/-- R133, R136, R138: the effect and the reply come at a row tick. -/
def execProtCmd (s : State) : Res := onEngine 0x0401 (fun r s =>
  if !s.isActive then finish r stNotActive [] s
  else if !sizeOk r || fld (r.cmd.p 0) 63 20 != 0 || decide (4 < protReq r) || !isProtected (protTrib r) s then invalid r s
  else later r s) s

/-- One record of Table 5.8. -/
def protStatus (t : Nat) (s : State) : List W64 :=
  let x := s.sel t
  let prot := isProtected t s
  [pack [(3, 0, if prot then x.st.code else 15), (4, 4, b2n (prot && x.sel)), (5, 5, b2n (prot && x.sfA)),
         (6, 6, b2n (prot && x.sfB)), (7, 7, b2n (prot && x.sdA)), (8, 8, b2n (prot && x.sdB)),
         (9, 9, b2n x.holdDue.isSome), (10, 10, b2n x.expired), (11, 11, b2n (prot && x.lo)), (12, 12, b2n (prot && x.fs)),
         (13, 13, b2n (prot && x.ms.isSome)), (14, 14, b2n (prot && x.ms == some true)),
         (27, 16, secondsLeft x.wtrDue s.time.rows)],
   pack [(47, 0, x.lastSwitch), (63, 48, match x.skew with | some v => twos 16 v | none => 0x8000)]]

/-- Each record is sampled at the next row tick. -/
def execProtStatus (ok : Bool) (s : State) : Res := onEngine 0x0402 (fun r s =>
  let w1 := r.cmd.p 1
  let w2 := r.cmd.p 2
  if !sizeOk r || !bufOk (r.cmd.p 0) || fld w1 31 0 != 0 || fld w1 63 49 != 0 || fld w2 63 18 != 0 || fld w2 17 0 == 0 ||
      decide (131072 < fld w1 48 32 + fld w2 17 0) then invalid r s
  else later { r with mem := [b2n ok] } s) s

end Sys2Proof.Machine
end

