-- ==== Sys2Proof/Machine/LaneCmds.lean ====
section
/-! DEFINITION. Chapters 7 and 8: a lane's entry to service, and the commands on lanes. -/

namespace Sys2Proof.Machine

open Sys2Proof

/-- A lane enters service (Table 8.7): no defect, no run, a fresh test pattern, its release offset fixed (R17, R67, R196). DESIGN
CHOICE (log entry 79): the offset is the magnitude of the latest arrival phase; the spec gives no formula for it. -/
def Lane.enterService (l : Lane) (frame : Nat) : Lane :=
  let g := prbsBits 32 (BitVec.allOnes 31) 0
  { l.clearDefects with bring := .inService, offSeen := false, attemptDue := none, serviceFrame := frame,
                        prbs := g.2, testWord := BitVec.ofNat 32 g.1, offset := l.arrival.map mag, bwPartial := true }

/-- The lane carries DATA rows from its first outgoing row on (R58): that row is the one read out in the row in progress. -/
def startRows (lane : Nat) (s : State) : State :=
  let s := { s with fab.words := s.fab.words.filter (fun e => e.1 / 6144 != lane) }
  if s.switches && s.fab.kind == .data then readoutLane lane s else s

/-- R222: 250 consecutive rows in place after a good FRAME barge with KIND 0. -/
def execPhaseRowsInPlace (lane : Nat) (s : State) : Res :=
  let l := s.lane lane
  onRunningLane lane s (if l.bring = .phase ∧ l.goodFrame0 = true ∧ 250 ≤ l.inRun then
    startRows lane (s.modLane lane (fun l => l.enterService s.time.frame)) else s)

/-! ## Runs of lanes -/

/-- First lane and number of lanes of a word (Tables 7.4, 8.9). -/
def laneRun (w : W64) : List Nat := (List.range (fld w 18 9)).map (fld w 8 0 + ·)

/-- The run of lanes is out of range. -/
def laneRunBad (w : W64) : Bool := fld w 18 9 == 0 || decide (512 < fld w 8 0 + fld w 18 9)

/-- One lane command takes effect at a row tick and is completed. -/
def applyLaneCmd (r : Run) (s : State) : State :=
  let w := r.cmd.p 0
  let ls := laneRun w
  let s := match r.cmd.opcode with
    | 0x0501 => ls.foldl (fun s i => admitLane i (s.modLane i (fun l => { l with admin := bit w 19 }))) s
    | 0x0502 =>
      let off := ls.foldl (fun s i => settleOctet (i / 8) (dropVotes i (s.modLane i Lane.toOff))) s
      ls.foldl (fun s i => admitLane i s) off
    | _ => ls.foldl (fun s i => s.modLane i (fun l => { l with testOn := bit w 19 })) s
  finish r stOk [] s

/-- LANE_ADMIN, LANE_RESTART and LANE_TEST at the row tick that follows their start (R226). -/
def laneCmdTick (s : State) : State :=
  (s.host.prog.filter (fun r => [0x0501, 0x0502, 0x0504].contains r.cmd.opcode)).foldl (fun s r => applyLaneCmd r s) s

def execLaneAdmin (s : State) : Res := onEngine 0x0501 (fun r s =>
  if !sizeOk r || laneRunBad (r.cmd.p 0) || fld (r.cmd.p 0) 63 20 != 0 then invalid r s else later r s) s

def execLaneRestart (s : State) : Res := onEngine 0x0502 (fun r s =>
  if !sizeOk r || laneRunBad (r.cmd.p 0) || fld (r.cmd.p 0) 63 19 != 0 then invalid r s else later r s) s

def execLaneTest (s : State) : Res := onEngine 0x0504 (fun r s =>
  if !sizeOk r || laneRunBad (r.cmd.p 0) || fld (r.cmd.p 0) 63 20 != 0 then invalid r s else later r s) s

/-- Code of a pair order (Table 8.10). -/
def orderCode (o : Option Bool) : Nat :=
  match o with
  | some false => 0
  | some true => 1
  | none => 2

/-- The lane status record (Table 8.10). -/
def laneStatus (i : Nat) (s : State) : List W64 :=
  let l := s.lane i
  let o := s.octet (i / 8)
  let x := i % 8
  let good := (l.hunter.good).getD 0
  [pack [(3, 0, l.bring.code), (4, 4, b2n l.admin), (5, 5, b2n l.testOn), (8, 6, if o.rx = some true then 7 - x else x),
         (11, 9, if o.tx = some true then 7 - x else x), (13, 12, orderCode o.rx), (15, 14, orderCode o.tx),
         (16, 16, b2n l.hunter.inv), (17, 17, idSeenInv good), (18, 18, b2n (bit l.recW1 1)), (31, 20, idSrc good),
         (39, 32, l.eyeV), (47, 40, l.eyeH), (55, 48, l.snr), (60, 56, fld l.recW2 36 32), (63, 61, l.idCause)],
   pack [(47, 0, l.serviceFrame), (63, 48, l.fails)],
   pack [(47, 0, l.testChecked)],
   pack [(47, 0, l.testBits)]]

/-- Each record is sampled at the next row tick (R226). -/
def execLaneStatus (ok : Bool) (s : State) : Res := onEngine 0x0503 (fun r s =>
  if !sizeOk r || !bufOk (r.cmd.p 0) || laneRunBad (r.cmd.p 1) || fld (r.cmd.p 1) 63 19 != 0 then invalid r s
  else later { r with mem := [b2n ok] } s) s

/-! ## Lane defects (Tables 7.2, 7.5) -/

/-- A record of Table 7.2 keeps its ranges. -/
def degRecOk (w0 w1 : W64) : Bool :=
  (fld w0 63 48 == 0 || decide (8 ≤ fld w0 63 48)) && fld w1 63 4 == 0 &&
  (fld w1 3 0 == 0 || decide (2 ≤ fld w1 3 0 ∧ fld w1 3 0 ≤ 10))

/-- R193: the record waits for the frame boundary. -/
def execLaneDefCfg (s : State) : Res := onEngine 0x0520 (fun r s =>
  let w := r.cmd.p 0
  if !sizeOk r || laneRunBad w || fld w 63 19 != 0 || !degRecOk (r.cmd.p 1) (r.cmd.p 2) then invalid r s
  else finish r stOk [] ((laneRun w).foldl (fun s i =>
    s.modLane i (fun l => { l with degNext := some (r.cmd.p 1, r.cmd.p 2) })) s)) s

/-- A waiting DEG configuration applied at a frame boundary (R193). -/
def Lane.applyDeg (l : Lane) : Lane :=
  match l.degNext with
  | some w => { l with degW0 := w.1, degW1 := w.2, degNext := none, degOpen := false, degEnd := false, badRun := 0, goodRun := 0 }
  | none => l

/-- A DEG interval begins at the frames that are multiples of DEG_INT (R191, R193, R196). -/
def Lane.degBoundary (l : Lane) (frame : Nat) : Lane :=
  let l := l.applyDeg
  if l.bring = .inService ∧ frame % degInt l = 0 then
    { l with degOpen := true, degEnd := false, degSym := 0, degUnc := 0, degSf := false }
  else l

/-- The lane defect status record (Table 7.5). -/
def laneDefStatus (i : Nat) (s : State) : List W64 :=
  let l := s.lane i
  [pack [(6, 0, l.bits), (7, 7, b2n (l.bring == .inService)), (10, 8, l.reported), (19, 16, l.badRun), (23, 20, l.goodRun)],
   pack [(47, 0, l.lastFrame), (55, 48, l.lastRow)]]

/-- Each record is sampled at the next row tick (R204). -/
def execLaneDefStatus (ok : Bool) (s : State) : Res := onEngine 0x0521 (fun r s =>
  if !sizeOk r || !bufOk (r.cmd.p 0) || laneRunBad (r.cmd.p 1) || fld (r.cmd.p 1) 63 19 != 0 then invalid r s
  else later { r with mem := [b2n ok] } s) s

end Sys2Proof.Machine
end

