-- ==== Sys2Proof/Machine/Timing.lean ====
section
/-! DEFINITION. Chapters 2 and 10: channel P, the software loop, outputs, re-alignment, measurement records, and their
commands. -/

namespace Sys2Proof.Machine

open Sys2Proof

/-! ## Channel P (R262 to R264, R271) -/

/-- 500 ms in units of 1/1,024 ps. -/
def phiLimit : Int := 512000000000000

/-- What one row adds to the channel P offset: p ppt of 500 ns in 1/1,024 ps (R263; a fraction is rounded, log entry 8). -/
def phiRow (p : Int) : Int := quot (8 * p) 15625

/-- A change of the channel P offset, stopped at its limit (R263); true when it was stopped. -/
def movePhi (d : Int) (s : State) : State × Bool :=
  let v := s.p.phi + d
  if v < -phiLimit then ({ s with p.phi := -phiLimit, p.freq := 0, p.steerDue := none }, true)
  else if phiLimit < v then ({ s with p.phi := phiLimit, p.freq := 0, p.steerDue := none }, true)
  else ({ s with p.phi := v }, false)

/-- PHI_UPDATE at a row tick (R263). -/
def phiTick (s : State) : State × Bool := if s.p.freq = 0 then (s, false) else movePhi (phiRow s.p.freq) s

/-- EV_P_LIMIT, at most once per row tick (R285). -/
def limitEvent (hit : Bool) (s : State) : State := if hit then raise 0x0607 [] s else s

/-- One P_STEER takes effect (R271). -/
def applySteer (r : Run) (s : State) : State :=
  let d := fld (r.cmd.p 1) 63 32
  finish r stOk [] { s with p.freq := sgn 32 (fld (r.cmd.p 0) 31 0), p.after := sgn 32 (fld (r.cmd.p 1) 31 0),
                            p.steerDue := if d = 0 then none else some (s.time.rows + 250 * d) }

/-- R271: at the row tick that begins the same row DURATION frames later. -/
def execSteerDurationEnd (s : State) : Res :=
  .next (match s.p.steerDue with
    | some d => if d ≤ s.time.rows then { s with p.freq := s.p.after, p.steerDue := none } else s
    | none => s)

/-- A value of p is in range. -/
def pOk (v : Nat) : Bool := decide (-200000000 ≤ sgn 32 v ∧ sgn 32 v ≤ 200000000)

def execPSteer (s : State) : Res := onEngine 0x0609 (fun r s =>
  if !sizeOk r || fld (r.cmd.p 0) 63 32 != 0 || !pOk (fld (r.cmd.p 0) 31 0) || !pOk (fld (r.cmd.p 1) 31 0) then invalid r s
  else later r s) s

/-- TIME_VALID (R269). -/
def timeValid (s : State) : Bool := s.time.anchored && (s.f.state == .locked || s.f.state == .holdover)

/-- The channel P status record (Table 10.7). -/
def pStatusWords (s : State) : List W64 :=
  [w64 (twos 64 s.p.phi),
   pack [(31, 0, twos 32 s.p.freq), (63, 32, match s.p.steerDue with | some d => ceilDiv (d - s.time.rows) 250 | none => 0)],
   pack [(31, 0, orNone s.p.err), (36, 32, s.p.errRef), (37, 37, b2n (timeValid s))],
   pack [(47, 0, s.p.errFrame)]]

def execPStatus (s : State) : Res := onEngine 0x060A (fun r s =>
  if !sizeOk r then invalid r s else finish r stOk (pStatusWords s) s) s

/-! ## The software loop (R273 to R276) -/

/-- F_SOFT and F_FREQ at the row tick that follows their start. -/
def applySoft (r : Run) (s : State) : State :=
  if r.cmd.opcode = 0x0606 then
    let s := if bit (r.cmd.p 0) 0 then
        (if s.f.software then s
         else { s with f.software := true, f.target := s.f.freq, f.ffreqRow := s.time.rows, f.newRef := false,
                       f.lockedWhole := false, f.closing := false })
      else closeSoft 0 s
    finish r stOk [pack [(31, 0, twos 32 s.f.freq)]] s
  else if s.f.software then
    finish r stOk [] { s with f.target := 10 * sgn 32 (fld (r.cmd.p 0) 31 0), f.ffreqRow := r.row }
  else invalid r s

/-- The ramp of an open loop: at most 100 ppt per row (R275). It stands still while TIME re-initialises (Table 17.1). -/
def rampF (s : State) : State :=
  if s.f.software && !s.fnDown 6 then
    let d := s.f.target - s.f.freq
    { s with f.freq := if d < -100 then s.f.freq - 100 else if 100 < d then s.f.freq + 100 else s.f.target }
  else s

/-- The phase sample of an open loop (R274), the first on a new input by phase build-out; where VALID is 0 the sample's phase is a
free value. -/
def softSample (phase : Int) (s : State) : State :=
  if s.f.software && s.time.row == 0 && s.time.frame % 500 == 0 then
    let valid : Bool := match s.f.selected with
      | some n => (s.input n).q != .holdoff
      | none => false
    let b := if valid then builtOut phase s else (sgn 32 (Config.freeWord s.free).toNat, s)
    let s := b.2
    let ph := twos 32 b.1
    let r : Rec2 := {
      w0 := pack [(47, 0, s.time.frame), (52, 48, s.f.selected.getD 31), (53, 53, b2n valid), (54, 54, b2n s.f.newRef)],
      w1 := pack [(31, 0, ph), (63, 32, twos 32 s.f.freq)] }
    { s with f.soft := (r :: s.f.soft).take 256, f.newRef := false, free := s.free + 1 }
  else s

def execFSoft (s : State) : Res := onEngine 0x0606 (fun r s =>
  if !sizeOk r || fld (r.cmd.p 0) 63 1 != 0 then invalid r s else later r s) s

def execFFreq (s : State) : Res := onEngine 0x0607 (fun r s =>
  let v := sgn 32 (fld (r.cmd.p 0) 31 0)
  if !sizeOk r || fld (r.cmd.p 0) 63 32 != 0 || decide (v < -10000000 ∨ 10000000 < v) || !s.f.software then invalid r s
  else later r { s with f.ffreqRow := s.time.rows }) s

/-- Newest COUNT samples, oldest first; only those that are held. -/
def execFSamples (ok : Bool) (s : State) : Res := onEngine 0x0608 (fun r s =>
  let n := fld (r.cmd.p 1) 8 0
  if !sizeOk r || !bufOk (r.cmd.p 0) || fld (r.cmd.p 1) 63 9 != 0 || n == 0 || decide (256 < n) then invalid r s
  else bufReply r ok (r.cmd.p 0).toNat ((s.f.soft.take n).reverse.flatMap (fun x => [x.w0, x.w1])) [] s) s

/-- SW_TIMEOUT in rows; 0 = 16,000 frames. -/
def swTimeoutRows (s : State) : Nat := (if fld s.time.timeW0 31 16 = 0 then 16000 else fld s.time.timeW0 31 16) * 250

/-- R276: no F_FREQ started for SW_TIMEOUT frames. -/
def execSoftLoopTimeout (s : State) : Res :=
  .next (if s.f.software && decide (s.f.ffreqRow + swTimeoutRows s < s.time.rows) then closeSoft 1 s else s)

/-! ## Outputs (R265 to R270) -/

/-- The record that an output has in force or will have at the next frame boundary. -/
def outRecord (n : Nat) (s : State) : W64 × W64 :=
  let d : W64 × W64 := (0, 0)
  if (s.outs.next.map (·.1)).contains n then kget d s.outs.next n else kget d s.outs.recs n

/-- PERIOD of a pulse output in frames; 0 = 8,000. -/
def pulsePeriod (w0 : W64) : Nat := if fld w0 20 4 = 0 then 8000 else fld w0 20 4

/-- WIDTH of a pulse output in ns; 0 = 100,000. -/
def pulseWidth (w0 : W64) : Nat := if fld w0 54 21 = 0 then 100000 else fld w0 54 21

/-- A pulse output that a time-of-day output may be linked to (Table 10.4). -/
def pulseLinkable (w : W64 × W64) : Bool := pulsePeriod w.1 == 8000 && fld w.2 43 0 == 0

/-- The record keeps its ranges (Tables 10.2 to 10.4, R285). -/
def outRecOk (n : Nat) (w0 w1 : W64) : Bool :=
  if n < 16 then
    !bit w0 3 && fld w0 63 34 == 0 && fld w1 63 27 == 0 && decide (1000 ≤ fld w0 33 4 ∧ fld w0 33 4 ≤ 1000000000) &&
    decide (fld w1 26 0 ≤ 124999999) && (fld w0 33 4 % 8000 == 0 || fld w1 26 0 == 0)
  else if n < 20 then
    fld w0 63 55 == 0 && fld w1 63 44 == 0 && decide (pulsePeriod w0 ≤ 80000) &&
    decide (10 ≤ pulseWidth w0 ∧ pulseWidth w0 < pulsePeriod w0 * 125000) && decide (fld w1 43 0 < pulsePeriod w0 * 125000000)
  else fld w0 63 5 == 0 && w1 == 0

/-- The links of the time-of-day outputs hold after the record is set (R285). DESIGN CHOICE (log entry 92): the record of zeros,
which an output without a record has too, links none. -/
def outLinksOk (n : Nat) (w0 w1 : W64) (s : State) : Bool :=
  if n < 16 then true
  else if n < 20 then
    pulseLinkable (w0, w1) ||
      !([20, 21].any (fun t => (outRecord t s).1 != 0 && fld (outRecord t s).1 2 1 + 16 == n))
  else w0 == 0 || pulseLinkable (outRecord (fld w0 2 1 + 16) s)

def execOutCfg (s : State) : Res := onEngine 0x060B (fun r s =>
  let n := fld (r.cmd.p 0) 4 0
  let w0 := r.cmd.p 1
  let w1 := r.cmd.p 2
  if !sizeOk r || fld (r.cmd.p 0) 63 5 != 0 || decide (21 < n) || !outRecOk n w0 w1 || !outLinksOk n w0 w1 s then invalid r s
  else finish r stOk [] { s with outs.next := (n, w0, w1) :: s.outs.next.filter (fun x => x.1 != n) }) s

/-- High time of a clock output in ps: half its period (R266). -/
def highPs (w0 : W64) : Nat := 500000000000 / max 1 (fld w0 33 4)

/-- Where a high level or a pulse that a change of its record meets ends (R265): at the boundary, or when it is as long as the shorter of
the old and the new one (log entry 92). -/
def cutEnd (p : Nat × Nat) (short now : Nat) : Nat := min p.2 (max now (p.1 + short))

/-- The high level that a clock output has at the boundary is kept so far. -/
def cutClock (s : State) (m : KMap (Option Nat)) (x : Nat × W64 × W64) : KMap (Option Nat) :=
  match kget none s.outs.high x.1 with
  | some p =>
    let e := cutEnd p (min (highPs (kget (0, 0) s.outs.recs x.1).1) (highPs x.2.1)) (s.psAt 0)
    if x.1 < 16 ∧ s.psAt 0 < e then kset none m x.1 (some e) else m
  | none => m

/-- Output records that take effect at a frame boundary (R265). The phase of a clock output that R266 leaves undefined is a free
value within its period. -/
def outBoundary (s : State) : State :=
  let f := fun (m : KMap Nat) (x : Nat × W64 × W64) =>
    if x.1 < 16 then kset 0 m x.1 (if fld x.2.1 33 4 % 8000 = 0 then 0
      else (Config.freeWord64 (s.free + x.1)).toNat % ceilDiv 1000000000000 (max 1 (fld x.2.1 33 4))) else m
  let now := s.psAt 0
  let cut := fun (m : KMap (Option (Nat × Nat))) (x : Nat × W64 × W64) =>
    match kget none m (x.1 - 16) with
    | some p =>
      let short := min (pulseWidth (kget (0, 0) s.outs.recs x.1).1) (pulseWidth x.2.1)
      if 16 ≤ x.1 ∧ x.1 < 20 then kset none m (x.1 - 16) (some (p.1, cutEnd p (1000 * short) now)) else m
    | none => m
  { s with outs.held := s.outs.next.foldl (cutClock s) s.outs.held,
           outs.pulse := s.outs.next.foldl cut s.outs.pulse, outs.recs := s.outs.next.foldl (fun m x => kset (0, 0) m x.1 x.2) s.outs.recs,
           outs.phases := s.outs.next.foldl f s.outs.phases, outs.next := [], free := s.free + 16 }

/-- Source time of an output at the row tick that begins the row, and one row later, in 1/1,024 ps (R262). -/
def sourceTime (chanP : Bool) (s : State) : Int × Int :=
  let d : Int := (s.time.frame * 250 + s.time.row : Nat) * 512000000
  if chanP then (d + s.p.phi, d + s.p.phi + 512000000 + phiRow s.p.freq) else (d, d + 512000000)

/-- One second in 1/1,024 ps. -/
def oneSecond : Int := 1024000000000000

/-- The record of an output leaves its pin low (R265): it is disabled, or squelched by F_STATE. -/
def outLow (w0 : W64) (s : State) : Bool :=
  !bit w0 0 || (bit w0 2 && (s.f.state == .freeRun || s.f.state == .lost))

/-- Source time of the next frame boundary for an output that changes there; none for one that does not (R265). -/
def changeAt (n : Nat) (chanP : Bool) (s : State) : Option Int :=
  if (s.outs.next.map (·.1)).contains n then
    let d : Int := ((s.time.frame + 1) * 250 : Nat) * 512000000
    some (if chanP then d + s.p.phi + (250 - s.time.row : Nat) * phiRow s.p.freq else d)
  else none

/-- Smallest whole number at or above a quotient. -/
def ceilQ (a : Int) (b : Nat) : Int := -((-a) / (b : Int))

/-- The rising edges of a clock output in the row that begins (R266): those whose whole period ends by a change of its record
(R265). -/
def clockRow (n : Nat) (s : State) : List ClockRow :=
  let w := kget (0, 0) s.outs.recs n
  let f := fld w.1 33 4
  let ph := if f % 8000 = 0 then fld w.2 26 0 else kget 0 s.outs.phases n
  let t := sourceTime (bit w.1 1) s
  let k := fun (x : Int) => ceilQ ((x - 1024 * (ph : Int)) * (f : Int)) 1024000000000000
  let last := match changeAt n (bit w.1 1) s with
    | some c => min (k t.2) ((c - 1024 * (ph : Int)) * (f : Int) / 1024000000000000)
    | none => k t.2
  if outLow w.1 s || decide (last ≤ k t.1) then []
  else [{ out := n, freq := f, phase := 1024 * ph, first := k t.1, count := (last - k t.1).toNat }]

/-- Source time of the leading edge that PULSE[n] has in the row that begins (R267); a change of its record does not cut a pulse
short (R265). -/
def pulseEdge (n : Nat) (s : State) : Option Int :=
  let w := kget (0, 0) s.outs.recs (16 + n)
  let per : Int := (pulsePeriod w.1 : Int) * 128000000000
  let off : Int := 1024 * (fld w.2 43 0 : Int)
  let t := sourceTime (bit w.1 1) s
  let e := off + (t.2 - 1 - off) / per * per
  let whole := match changeAt (16 + n) (bit w.1 1) s with
    | some c => decide (e + 1024000 * (pulseWidth w.1 : Int) ≤ c)
    | none => true
  if outLow w.1 s || decide (e < t.1) || !whole then none else some e

/-- Length of the row in progress in ps: the gap of a re-alignment lengthens the last row before it (R279). -/
def rowLength (s : State) : Nat := 500000 + if s.time.row = 249 then ((s.realignAt s.time.frame).map (·.gap)).getD 0 else 0

/-- The trailing edge of the pulse in progress, where it falls into the row that begins. -/
def pulseEnd (n : Nat) (s : State) : State :=
  match kget none s.outs.pulse n with
  | some p =>
    if p.2 < s.psAt (rowLength s) then
      { s with out.pulseEnds := s.out.pulseEnds ++ [(n, p.2 - s.psAt 0)], outs.pulse := kset none s.outs.pulse n none }
    else s
  | none => s

/-- One pulse output in the row that begins (R265, R267): driven low, once the pulse of an output that has been disabled has ended, or the end of a pulse and the begin of the next, whose edge is
kept for the linked messages (R268). -/
def pulseTick (n : Nat) (s : State) : State :=
  let w := (kget (0, 0) s.outs.recs (16 + n)).1
  if outLow w s then
    if bit w 0 || (kget none s.outs.pulse n).isNone then
      { s with out.lows := s.out.lows ++ [16 + n], outs.pulse := kset none s.outs.pulse n none }
    else pulseEnd n s
  else
    let s := pulseEnd n s
    match pulseEdge n s with
    | some e =>
      let x : PulseEdge := { out := n, at_ := e - (sourceTime (bit w 1) s).1, width := pulseWidth w, low := bit w 3 }
      let ps := s.psAt (x.at_ / 1024).toNat
      pulseEnd n { s with out.pulses := s.out.pulses ++ [x], outs.edges := s.outs.edges ++ [{ out := n, ps := ps }],
                          outs.pulse := kset none s.outs.pulse n (some (ps, ps + 1000 * pulseWidth w)) }
    | none => s

/-- Begin and end, in ps since reset, of the high level that the last rising edge of the row gives. -/
def lastHigh (r : ClockRow) (s : State) : Nat × Nat :=
  let w := (kget (0, 0) s.outs.recs r.out).1
  let e := (r.phase : Int) + (r.first + (r.count : Int) - 1) * oneSecond / (r.freq : Int) - (sourceTime (bit w 1) s).1
  let ps := s.psAt (e / 1024).toNat
  (ps, ps + highPs w)

/-- A clock output that its record squelches is low at once (R265). -/
def dropHigh (s : State) (n : Nat) : State :=
  let w := (kget (0, 0) s.outs.recs n).1
  if bit w 0 && outLow w s then { s with outs.high := kset none s.outs.high n none, outs.held := kset none s.outs.held n none } else s

/-- The clock outputs in the row that begins (R265, R266). -/
def clockTick (s : State) : State :=
  let s := (List.range 16).foldl dropHigh s
  let rows := (List.range 16).flatMap (fun n => clockRow n s)
  let holds := (List.range 16).filterMap (fun n =>
    ((kget none s.outs.held n).filter (fun e => decide (s.psAt 0 < e))).map (fun e => (n, e - s.psAt 0)))
  { s with out.clocks := rows, out.clockHolds := holds,
           out.lows := (List.range 16).filter (fun n => outLow (kget (0, 0) s.outs.recs n).1 s && !holds.any (fun h => h.1 == n)),
           outs.held := (List.range 16).foldl (fun m n => if holds.any (fun h => h.1 == n) then m else kset none m n none) s.outs.held,
           outs.high := rows.foldl (fun m r => kset none m r.out (some (lastHigh r s))) s.outs.high }

/-- A time-of-day output that is disabled is low; an enabled one idles high (R237, R265). -/
def todLows (s : State) : List Nat := [20, 21].filter (fun n => !bit (kget (0, 0) s.outs.recs n).1 0)

/-- The outputs in the row that begins: before SERVICES clocks and pulses are low, and TODOUT idles high (Table 18.2); in FAILED as in the
state that failed (R473). -/
def edgeTick (s : State) : State :=
  let s := { s with outs.edges := s.outs.edges.filter (fun e => decide (s.psAt 0 ≤ e.ps + 500000000000)) }
  if s.pinStage = .services ∨ s.pinStage = .ready then
    let s := (List.range 4).foldl (fun s n => pulseTick n s) (clockTick s)
    { s with out.lows := s.out.lows ++ todLows s }
  else { s with out.lows := List.range 20, outs.pulse := [], outs.high := [], outs.held := [] }

/-- A message of TODOUT[out] is due in the row in progress after this edge, and has not been sent (R268). -/
def EdgeMark.due (e : EdgeMark) (out : Nat) (ql : Bool) (s : State) : Bool :=
  let at_ := e.ps + if ql then 500000000000 else 200000000000
  !e.sent.contains (out, ql) && decide (s.psAt 0 ≤ at_ ∧ at_ < s.psAt (rowLength s))

/-- A message in the layout of Table 9.4. -/
def refMessageBytes (type : Nat) (payload : List (BitVec 8)) : List (BitVec 8) :=
  let body := [BitVec.ofNat 8 type, BitVec.ofNat 8 payload.length] ++ payload
  (0xA5#8 :: body) ++ beBytes 2 (crc16Bytes body).toNat

/-- The levels of the line while it carries these bytes (R237): each byte as a start bit, which is low, its eight bits, least
significant first, and a stop bit, which is high. -/
def serialLevels (bs : List (BitVec 8)) : List Bool :=
  bs.flatMap (fun b => false :: (List.range 8).map (fun i => b.toNat.testBit i) ++ [true])

/-- R268, R269: 200 ms after a leading edge that the linked pulse output made a TOD message begins, and 500 ms after it a QL
message. TAI_SEC is the whole second of the pulse's source time at its next edge. -/
def todSend (out : Nat) (ql : Bool) (s : State) : State :=
  let w := (kget (0, 0) s.outs.recs (20 + out)).1
  let pulse := (kget (0, 0) s.outs.recs (16 + fld w 2 1)).1
  if !bit w 0 || !(if ql then bit w 3 else bit w 4) || !s.outs.edges.any (fun e => e.out == fld w 2 1 && e.due out ql s) then s
  else
    let m := if ql then refMessageBytes 1 [BitVec.ofNat 8 (advQl s).1, BitVec.ofNat 8 (advQl s).2]
      else refMessageBytes 2 (beBytes 6 (twos 48 ((sourceTime (bit pulse 1) s).1 / oneSecond + 1)) ++ [BitVec.ofNat 8 (b2n (timeValid s))])
    { s with out.tod := s.out.tod ++ [{ out := out, bytes := m, levels := serialLevels m }],
             outs.edges := modFirst (fun e => e.out == fld w 2 1 && e.due out ql s) (fun e => { e with sent := (out, ql) :: e.sent })
               s.outs.edges }

/-- The messages due in the row that ends, which no command has sent. -/
def todRow (s : State) : State :=
  if s.ticking then todSend 1 true (todSend 1 false (todSend 0 true (todSend 0 false s))) else s

def execTodMessageSend (out : Nat) (ql : Bool) (s : State) : Res :=
  if out < 2 then .next (if s.ticking then todSend out ql s else s) else .fault (.noSuchObject "TODOUT")

/-! ## The offset to TAI (R36, R238, R239, R280) -/

/-- A TOD message attaches to the first edge that arrives 10 ms, 20,000 rows, or more after it (R238); of two the later one counts
(DESIGN CHOICE, log entry 88). -/
def Input.edge (i : Input) (now : Nat) : Input :=
  let old := i.tod.filter (fun m => decide (m.row + 20000 ≤ now))
  let i := { i with tod := i.tod.filter (fun m => decide (now < m.row + 20000)) }
  match old.getLast? with
  | some m =>
    if m.valid then
      { i with todSec := m.sec, todRun := if i.todRun = 0 ∨ m.sec ≠ i.todSec + 1 then 1 else min 3 (i.todRun + 1) }
    else { i with todRun := 0 }
  | none => { i with todRun := 0 }

/-- ANCHOR_LIM in ps; 0 = 100 ns. -/
def anchorLim (s : State) : Nat := (if fld s.time.timeW0 15 0 = 0 then 100 else fld s.time.timeW0 15 0) * 1000

/-- EV_ANCHOR_OFFSET (R280). -/
def anchorEvent (s : State) : State :=
  let out := s.time.anchored && (s.time.offFrames != 0 || decide (anchorLim s < mag s.time.offPhase))
  if s.time.anchored && out != s.time.offExceeded then
    raise 0x060A [w64 (b2n out), pack [(47, 0, twos 48 s.time.offFrames)], pack [(31, 0, twos 32 s.time.offPhase)]]
      { s with time.offExceeded := out }
  else { s with time.offExceeded := out }

/-- An offset centred in one second, in ps. -/
def centred (v : Int) : Int := (v + 500000000000) % 1000000000000 - 500000000000

/-- P_ERR at an edge (Table 10.7); a value beyond the field is a free value. -/
def measureP (n : Nat) (s : State) : State :=
  let e := centred (s.time.offFrames * 125000000 + s.time.offPhase - quot s.p.phi 1024)
  if -2147483648 < e ∧ e ≤ 2147483647 then
    { s with p.err := some e, p.errRef := n, p.errFrame := s.time.frame }
  else
    { s with p.err := some (sgn 32 (Config.freeWord s.free).toNat), p.errRef := n, p.errFrame := s.time.frame,
             free := s.free + 1 }

/-- OFFSET_FRAMES and OFFSET_PHASE when the boundary of TAI frame `tai` lies `x` ps after the device's row 0 tick of the frame in
progress: the difference at the device boundary nearest to it (Table 2.4; the earlier of two equally near, log entry 93). -/
def offsetOf (tai : Nat) (x : Int) (s : State) : Int × Int :=
  let k := (x + 62499999) / 125000000
  ((tai : Int) - (s.time.frame : Int) - k, k * 125000000 - x)

/-- What an edge of input n shows (R36, R238, R280): row 0 of frame TAI_SEC × 8,000 begins at it. A SYNC of the flight shows the
boundary of the frame that it names (DEDUCED, log entry 93). -/
def edgeOffset (n ps : Nat) (s : State) : Option (Int × Int) :=
  if n = 24 then
    (s.flight.syncSeen.find? (fun y => s.flight.syncDir == some y.dirB)).map (fun y => offsetOf y.frame (-y.sample) s)
  else some (offsetOf ((s.input n).todSec * 8000) ((s.time.row * 500000 + ps : Nat) : Int) s)

/-- R280: the offsets taken over. -/
def measureOffset (n : Nat) (o : Int × Int) (s : State) : State :=
  measureP n (anchorEvent { s with time.offFrames := o.1, time.offPhase := o.2, time.offValid := true })

/-- An edge of input n, `ns` nanoseconds and `ps` picoseconds after the row tick of the row in progress: its TOD message, then
the measurement when it is the time reference that ranks first. -/
def execTimeRefEdgeMeasure (n ns ps : Nat) (s : State) : Res :=
  onInput n (if s.ticking && (s.input n).q != .off then
    let s := if n < 8 ∧ (s.input n).freqHz = 1 ∧ (s.input n).msgMode = 2 then
        s.modInput n (fun i => i.edge s.time.rows) else s
    let s := refreshTimeOk s
    match (if timeRef s = some n then edgeOffset n (1000 * ns + ps) s else none) with
    | some o => measureOffset n o s
    | none => s
  else s)

/-! ## Re-alignment (R278, R279, R50) -/

/-- At-frames and deadline frames that stand (R50): of commands that wait, of started ones but the re-alignment judged, and those
that a PLAN_SEAL or a LOCKAGE_AT has given a plan. -/
def standingFrames (own : Option Key) (s : State) : List Nat :=
  ((s.host.work ++ s.host.staging).flatMap (fun w => [w.cmd.atFrame, w.cmd.deadline])) ++
  (((s.host.engine.toList ++ s.host.prog.filter (fun r => r.cmd.opcode != 0x0301)).filter (fun r => decide (some r.key ≠ own))).map
    (·.at_)) ++
  ((s.planner.sealed.filter (fun p => p.st != .swapping)).map (·.atFrame))

/-- R50: a re-alignment from K to N meets a standing frame. Its own at-frame is none that it skips. -/
def realignConflict (own : Option Key) (k n : Nat) (s : State) : Bool :=
  decide (k + 1 < n) && (standingFrames own s).any (fun f => decide (k + 1 ≤ f ∧ f ≤ n - 1))

/-- The time reference that a command names: an input, or 31 for the one that ranks first. -/
def namedRef (n : Nat) (s : State) : Option Nat :=
  if n = 31 then timeRef s else if n < 25 ∧ timeOkNow n s = true then some n else none

/-- N and the gap that MODE 1 takes from the latest measurement (R278). -/
def anchorTo (a : Nat) (s : State) : Nat × Nat :=
  let d : Int := (a : Int) + s.time.offFrames
  if s.time.offPhase ≤ 0 then (frameNo d.toNat, (-s.time.offPhase).toNat)
  else (frameNo (d + 1).toNat, (125000000 - s.time.offPhase).toNat)

/-- A member reports the start of a REALIGN to the gateway (R398). Table 14.3 has no type of its own for it: a COMMIT packet to the
gateway alone. DESIGN CHOICE (log entry 23). -/
def reportStart (k : Nat) (s : State) : State :=
  if s.isGateway || !s.flight.addressed then s
  else match s.gatewayAddr with
    | some g => match (s.member g).side with
      | some sd => portSend sd { type := 5, dst := g, src := s.flight.addr, all := false, dir := sd == .b, hops := 0, tseq := 0,
                                 flight := s.flightId, payload := [pack [(47, 0, k)]] } s
      | none => s
    | none => s

/-- A REALIGN that fixes N and the gap (R278). -/
def fixRealign (r : Run) (n gap : Nat) (mode1 : Bool) (s : State) : State :=
  let k := r.at_ - 1
  if realignConflict (some r.key) k n s then finish r stScheduleConflict [] s
  else reportStart k (later r { s with time.realigns := s.time.realigns ++
    [{ k := k, n := n, gap := gap, mode1 := mode1, key := some r.key }] })

/-- DESIGN CHOICE (log entry 118): MODE 1 with a qualified time reference of which no measurement is held yet completes with
ST_REF_REFUSED, since R278 takes the latest one. -/
def execRealign (s : State) : Res := onEngine 0x060C (fun r s =>
  let w := r.cmd.p 0
  let n := fld (r.cmd.p 1) 47 0
  let gap := fld (r.cmd.p 2) 26 0
  let ref := fld w 5 1
  if !sizeOk r || fld w 63 6 != 0 || fld (r.cmd.p 1) 63 48 != 0 || fld (r.cmd.p 2) 63 27 != 0 ||
      decide (124999999 < gap) ||
      (if bit w 0 then n != 0 || gap != 0 || !(decide (ref < 25) || ref == 31) else n == 0 || ref != 0) then invalid r s
  else if bit w 0 then
    match namedRef ref s with
    | some _ =>
      let x := anchorTo r.at_ s
      if s.time.offValid then fixRealign r x.1 x.2 true s else finish r stRefRefused [] s
    | none => finish r stRefRefused [] s
  else fixRealign r n gap false s) s

/-- A re-alignment withdrawn (R50, R398). -/
def withdrawRealign (status : Nat) (x : Realign) (s : State) : State :=
  let s := { s with time.realigns := s.time.realigns.filter (fun y => decide (y ≠ x)) }
  let s := match x.key with
    | some k => finishKey k status [] s
    | none => s
  raise 0x060C [pack [(47, 0, x.k)], pack [(47, 0, x.n)]] s

/-- The checks at the end of frame K − 1 (R50, R398): a COMMIT registered, and no standing frame that it skips. -/
def realignChecks (s : State) : State :=
  (s.realignsAt s.nextFrame).foldl (fun s x =>
    if !((s.realignsAt s.nextFrame).contains x) then s
    else if realignConflict x.key x.k x.n s then withdrawRealign stScheduleConflict x s
    else if s.flight.commits.contains x.k then s
    else withdrawRealign stWithdrawn x s) s

/-- Gateway: COMMIT at the end of frame K − 2 when every reachable member, itself included, has started the REALIGN and reported its
start (R398; log entry 23). -/
def commitRealigns (s : State) : State :=
  let others := s.reachables.filter (fun a => a != s.flight.addr)
  (s.realignsAt (s.nextFrame + 1)).foldl (fun s x =>
    if s.isGateway && !s.flight.commits.contains x.k && others.all (fun a => s.flight.starts.contains (a, x.k)) then
      let s := { s with flight.commits := s.flight.commits ++ [x.k],
                        flight.starts := s.flight.starts.filter (fun e => decide (e.2 ≠ x.k)) }
      if others.isEmpty then s else towSendAll 0x5 [pack [(47, 0, x.k)]] s
    else s) s

/-- A basin in a new numbering, in which the row that begins is n: rows whose stamps lie beyond it are discarded (R24, R279), and
the rows and arrivals of the old numbering count for nothing. -/
def Lane.renumber (n : Nat) (l : Lane) : Lane :=
  let gone := (l.basin.filter (fun e => decide (e.1 / 24 < n ∨ n + 3 < e.1 / 24))).map (fun e => e.1 / 24)
  { gone.eraseDups.foldl (fun l y => l.discard y) l with arrivals := [], skews := [], got := [], discards := [] }

/-- The re-alignment takes effect: number, phase, anchored flag (R37, R278, R279, Table 2.4); where N is A the numbering goes on and
every stamp resolves as before. The selector records of running WTR
timers change with the numbering (R48, R317). -/
def applyRealign (x : Realign) (s : State) : State :=
  let moved := decide (x.n ≠ frameNo (x.k + 1))
  { s with time.realigns := s.time.realigns.filter (fun y => decide (y ≠ x)),
           time.anchored := x.mode1, time.realignFrame := x.n,
           time.realignGen := (s.time.realignGen + 1) % 65536, time.gaps := s.time.gaps + x.gap,
           flight.commits := s.flight.commits.filter (· ≠ x.k),
           ckpt.selDirty := (s.sels.filter (fun e => e.2.wtrDue.isSome)).map (·.1) ++
             s.ckpt.selDirty.filter (fun t => (s.sel t).wtrDue.isNone),
           lanes := if moved then kmap {} (fun _ (l : Lane) => l.renumber s.nrn) s.lanes else s.lanes,
           sels := if moved then kmap {} (fun _ (x : Sel) => { x with skewRow := 0 }) s.sels else s.sels }

/-- EV_REALIGN_DONE (R279): an event of the row that begins. -/
def realignDone (x : Realign) (s : State) : State :=
  raise 0x060B [pack [(47, 0, x.k)], pack [(47, 0, x.n)], pack [(26, 0, x.gap), (32, 32, b2n x.mode1)]] s

/-- The reply of the REALIGN (Table 10.9). -/
def realignReply (x : Realign) (s : State) : State :=
  match x.key with
  | some k => finishKey k stOk [pack [(47, 0, x.n)], pack [(26, 0, x.gap)]] s
  | none => s

/-! ## Output re-alignment (R281) -/

/-- OFFSET_PHASE of the latest edge in the numbering and phase that the boundary's re-alignment leaves. -/
def phaseAfter (x : Option Realign) (s : State) : Int :=
  match x with
  | some r => (s.time.offPhase + (r.gap : Int) + 62500000) % 125000000 - 62500000
  | none => s.time.offPhase

/-- One OUT_REALIGN at the row 0 tick of its at-frame; true when the limit stopped it. DESIGN CHOICE (log entry 118): MODE 1 takes
OFFSET_PHASE as it stands, also before the first edge has been measured. -/
def outRealignOne (x : Option Realign) (r : Run) (s : State) : State × Bool :=
  let w := r.cmd.p 0
  if bit w 0 then
    match namedRef (fld w 5 1) s with
    | some _ =>
      let m := movePhi (-(phaseAfter x s) * 1024 - s.p.phi) s
      (finish r stOk [w64 (twos 64 m.1.p.phi)] m.1, m.2)
    | none => (finish r stRefRefused [w64 (twos 64 s.p.phi)] s, false)
  else
    let m := movePhi (sgn 64 (r.cmd.p 1).toNat) s
    (finish r stOk [w64 (twos 64 m.1.p.phi)] m.1, m.2)

/-- The OUT_REALIGNs due at a row 0 tick, in start order (Table 2.2). -/
def outRealignTick (x : Option Realign) (s : State) : State × Bool :=
  ((s.progOf 0x060D).filter (fun r => r.at_ == s.time.frame)).foldl
    (fun a r => let b := outRealignOne x r a.1; (b.1, a.2 || b.2)) (s, false)

def execOutRealign (s : State) : Res := onEngine 0x060D (fun r s =>
  let w := r.cmd.p 0
  let ref := fld w 5 1
  if !sizeOk r || fld w 63 6 != 0 ||
      (if bit w 0 then r.cmd.p 1 != 0 || !(decide (ref < 25) || ref == 31) else ref != 0) then invalid r s
  else later r s) s

/-! ## Records (R282 to R284, R54) -/

/-- The lane delay record (Table 10.12). RTD_MEAN is rounded to the nearest, half up (DEDUCED, log entry 8). -/
def delayWords (l : Lane) : List W64 :=
  [pack [(31, 0, l.rtdLast.getD 0xFFFFFFFF), (63, 32, l.rtdMin.getD 0xFFFFFFFF)],
   pack [(31, 0, l.rtdMax), (63, 32, sat 0xFFFFFFFF l.rtdCount)],
   pack [(47, 0, l.rtdFrame), (48, 48, b2n (l.los || l.loa || l.lod || l.lora || l.frm))],
   pack [(31, 0, if l.rtdCount = 0 then 0 else (2 * l.rtdSum + l.rtdCount) / (2 * l.rtdCount)), (63, 32, orNone l.arrival)]]

/-- The records of one input, newest last, zeros where it holds fewer (R284). -/
def tieWords (n k : Nat) (s : State) : List W64 :=
  let rs := ((s.input n).tie.take k).reverse.flatMap (fun x => [x.w0, x.w1])
  rs ++ List.replicate (2 * k - rs.length) 0

/-- The TIE start of an input moved to now (R282): its phase against channel F at the row tick, which ROW_TICK brings; a free value
where it brings none. -/
def restartTie (tie : List (Nat × Int)) (n : Nat) (s : State) : State :=
  let ph := ((tie.find? (fun x => x.1 == n)).map (·.2)).getD (Config.freePhase s.free)
  { s.modInput n (fun i => { i with tieStart := some ph }) with free := s.free + 1 }

/-- Delay statistics of a lane cleared (R283). -/
def restartDelay (n : Nat) (s : State) : State :=
  s.modLane n (fun l => { l with rtdMin := none, rtdMax := 0, rtdCount := 0, rtdSum := 0 })

/-- The records of a MEAS_READ (R284), and RESTART after they are copied (R282, R283). -/
def measRecords (tie : List (Nat × Int)) (r : Run) (ok : Bool) (s : State) : State :=
  let w := r.cmd.p 1
  let type := fld w 1 0
  let objs := (List.range (fld w 20 11)).map (fld w 10 2 + ·)
  let ws := if type = 0 then objs.flatMap (fun i => tieWords i (fld w 32 22) s)
    else objs.flatMap (fun i => delayWords (s.lane i))
  let s := bufReply r ok (r.cmd.p 0).toNat ws [] s
  if bit w 21 then objs.foldl (fun s i => if type = 0 then restartTie tie i s else restartDelay i s) s else s

/-- R284: the records are sampled at the row tick that follows the start. -/
def execMeasRead (ok : Bool) (s : State) : Res := onEngine 0x060E (fun r s =>
  let w := r.cmd.p 1
  let type := fld w 1 0
  let n := fld w 20 11
  let k := fld w 32 22
  if !sizeOk r || !bufOk (r.cmd.p 0) || fld w 63 33 != 0 || decide (1 < type) || n == 0 ||
      decide ((if type = 0 then 25 else 512) < fld w 10 2 + n) ||
      (if type = 0 then k == 0 || decide (1024 < k) else k != 0) then invalid r s
  else later { r with mem := [b2n ok] } s) s

/-- A time record keeps its ranges (Table 10.5). -/
def timeRecOk (w0 w1 : W64) : Bool :=
  decide (fld w0 15 0 ≤ 62500) && (fld w0 31 16 == 0 || decide (500 ≤ fld w0 31 16)) && fld w0 63 32 == 0 && w1 == 0

def execTimeCfg (s : State) : Res := onEngine 0x060F (fun r s =>
  if !sizeOk r || !timeRecOk (r.cmd.p 0) (r.cmd.p 1) then invalid r s
  else finish r stOk [] { s with time.timeW0 := r.cmd.p 0, time.timeW1 := r.cmd.p 1 }) s

/-- The frame status record (Table 2.4). -/
def frameStatusWords (s : State) : List W64 :=
  [pack [(47, 0, s.time.frame), (55, 48, s.time.row), (56, 56, b2n s.time.anchored), (59, 57, s.f.state.code)],
   pack [(47, 0, s.time.realignFrame), (63, 48, s.time.realignGen)],
   pack [(47, 0, twos 48 s.time.offFrames)],
   pack [(31, 0, twos 32 s.time.offPhase), (32, 32, b2n s.time.offValid)]]

/-- R375: the record is sampled at the row tick that follows the start. -/
def execFrameStatus (s : State) : Res := onEngine 0x0610 (fun r s =>
  if !sizeOk r then invalid r s else later r s) s

/-- FRAME_STATUS commands completed at the row tick (R375). -/
def frameStatusTick (s : State) : State :=
  (s.progOf 0x0610).foldl (fun s r => finish r stOk (frameStatusWords s) s) s

end Sys2Proof.Machine
end

