-- ==== Sys2Proof/Machine/Twin.lean ====
section
/-! DEFINITION. Chapters 11 and 12: watch frames, terms, role transitions, take-over, warming, revert, and their commands. -/

namespace Sys2Proof.Machine

open Sys2Proof

/-! ## Watch frames (Tables 11.3 to 11.5) -/

/-- CRC-32C of bytes 0 to 27, most significant byte of each word first (R294, R167). -/
def watchCrc (w0 w1 w2 : W64) (hi : Nat) : Nat := headCrc w0 w1 w2 hi

/-- VERSION and CRC are good (R295). -/
def watchSound (f : WatchFrame) : Bool :=
  f.version == 1 && fld f.w3 31 0 == watchCrc f.w0 f.w1 f.w2 (fld f.w3 63 32)

/-- The frame that a device sends, with its CRC. -/
def mkWatch (type keeper src pair seq term : Nat) (w1 w2 : W64) (hi : Nat) : WatchFrame :=
  let w0 := pack [(63, 60, 1), (59, 56, type), (55, 55, keeper), (54, 49, src), (48, 44, pair), (39, 32, seq), (31, 0, term)]
  { w0 := w0, w1 := w1, w2 := w2, w3 := pack [(63, 32, hi), (31, 0, watchCrc w0 w1 w2 hi)] }

/-- The device takes part in its pair: start-up is complete, it is admitted (R400) and it has a twin role (R290). -/
def State.twinUp (s : State) : Bool := s.ready && s.flight.admitted && s.twinRole

/-- The device takes no watch frame at all, or stopped sending for step 3 (R290, R400, R448). -/
def State.watchSends (s : State) : Bool := s.twinUp && s.twin.silent.isNone

/-- A frame put on a watch port, between idle ordered sets. How many sets have gone before is not given, so the running disparity at
which it begins is free (log entry 111). -/
def watchOut (port : Bool) (f : WatchFrame) (s : State) : State :=
  { s with out.watch := s.out.watch ++ [(port, f)], free := s.free + 1,
           out.watchLine := s.out.watchLine ++
             [(port, codeGroups (idleSet ++ watchChars f ++ idleSet) (bit (Config.freeWord64 s.free) 0))] }

/-- A twin's watch frame put on WATCH0 (false) or WATCH1 (true). -/
def sendWatch (port : Bool) (type : Nat) (w1 w2 : W64) (hi : Nat) (s : State) : State :=
  if s.watchSends then
    let seq := if port then s.twin.seq1 else s.twin.seq0
    let f := mkWatch type 0 s.flight.addr s.pair seq s.advTerm w1 w2 hi
    let s := watchOut port f s
    if port then { s with twin.seq1 := (seq + 1) % 256 } else { s with twin.seq0 := (seq + 1) % 256 }
  else s

/-- Generation that the device resumes from or switches (Tables 11.5, 12.8). -/
def State.genService (s : State) : Nat := (s.serviceSlot.map (·.page.gen)).getD 0

/-- GEN of TAKEN: what a TAKING device resumes from, or the generation that an ACTIVE one switches. -/
def resumeGen (s : State) : Nat := if s.twin.role = .taking then s.twin.resume else s.fab.act.gen

/-- SYNCED of Tables 11.5 and 11.13. -/
def State.syncedShown (s : State) : Bool := if s.isActive then s.ckpt.peer else s.ckpt.synced

/-- PEER_OK and KEEPER_OK. -/
def State.peerOk (s : State) : Bool := s.twinUp && !s.twin.partnerLost
def State.keeperOk (s : State) : Bool := s.twinUp && !s.twin.keeperLost

/-- Word 1 of a HEARTBEAT or STATUS. -/
def statusWord (renew : Bool) (s : State) : W64 :=
  pack [(3, 0, s.twin.role.code), (5, 4, s.twin.role.adv), (6, 6, b2n s.boot.straps.twinPref), (7, 7, b2n s.syncedShown),
        (8, 8, b2n s.peerOk), (9, 9, b2n s.keeperOk), (10, 10, b2n renew), (63, 16, s.time.frame)]

/-- Word 2 of a HEARTBEAT or STATUS. -/
def genWord (s : State) : W64 := pack [(31, 0, if s.isActive then resumeGen s else s.genService), (39, 32, s.time.row)]

/-- PEER_TERM. -/
def peerTerm (s : State) : Nat := (s.twin.hb.map (·.term)).getD 0

def sendHeartbeat (s : State) : State := sendWatch false 0x1 (statusWord false s) (genWord s) (peerTerm s) s

def sendStatus (renew : Bool) (s : State) : State := sendWatch true 0x2 (statusWord renew s) (genWord s) (peerTerm s) s

/-- HANDOVER_REQ (R334): the partner is to serve. -/
def sendHandoverReq (at_ : Nat) (s : State) : State := sendWatch true 0xA (pack [(47, 0, at_)]) (pack [(5, 0, s.partner)]) 0 s

/-- LOST of an ANSWER (R298). -/
def answerLost (ask : Nat) (s : State) : Bool :=
  s.twin.partnerLost || s.twin.hb.any (fun b => b.role != 1 || decide (b.term < ask))

/-- READY of an ANSWER (R298). -/
def answerReady (ask : Nat) (s : State) : Bool :=
  s.twin.hterm == ask &&
    (s.twin.role == .active ||
     (s.ckpt.synced && (s.twin.role == .cold || s.twin.role == .warming || s.twin.role == .warm)))

def sendAnswer (a : AnsReg) (s : State) : State :=
  sendWatch true 0x5
    (pack [(0, 0, b2n (answerLost a.ask s)), (1, 1, b2n (answerReady a.ask s && !a.taken)), (63, 32, a.ask)]) 0 0 s

/-- Frames that the keeper is sent in the row after their cause (Table 11.4). -/
def watchReplies (s : State) : State :=
  let s := if s.twin.helloDue then sendStatus false s else s
  let s := s.twin.answer.foldl (fun s a => sendAnswer a s) s
  let s := if s.twin.takenDue && (s.twin.role == .active || s.twin.role == .taking) then
      sendWatch true 0x7 (pack [(31, 0, resumeGen s)]) 0 0 s
    else s
  { s with twin.helloDue := false, twin.answer := [], twin.takenDue := false }

/-! ## The partner checkpoint store, as roles use it -/

/-- Both slots discarded (R323). -/
def emptySlots (s : State) : State :=
  { s with ckpt.x := {}, ckpt.y := {}, ckpt.promo := none, ckpt.before := none, ckpt.acked2 := false, ckpt.fullGot := false,
           ckpt.fixWait := none, ckpt.filling := none }

/-- LF_COUNT of the lane frame in progress on a receiving twin lane (R319). -/
def twinCount (n : Nat) (s : State) : Nat := fld ((kget {} s.twin.hunters n).good.getD 0) 15 0

/-- Every twin lane that the device receives is aligned, and their lane frames fit together by LF_COUNT: within the skew of
100 ns one lane may be a marker ahead of another (R319). -/
def twinLanesUp (s : State) : Bool :=
  (List.range 4).all (fun n => (kget {} s.twin.hunters n).aligned) &&
  (List.range 4).all (fun n => (List.range 4).all (fun m =>
    decide ((twinCount n s + 65536 - twinCount m s) % 65536 ≤ 1 ∨ (twinCount m s + 65536 - twinCount n s) % 65536 ≤ 1)))

/-- FULL_REQ, held back after a lane defect until all four lanes are aligned again (R321). -/
def sendFullReq (s : State) : State :=
  if s.twin.laneDown && !twinLanesUp s then s
  else sendTwin 0x1 0 0 0 [] { s with twin.laneDown := false }

/-- The role transition registered now and applied at the row tick. -/
def pendRole (r : Role) (cause : Nat) (s : State) : State := { s with twin.pend := s.twin.pend ++ [(r, cause)] }

/-- COLD, WARMING and WARM. -/
def Role.standsBy : Role → Bool
  | .cold | .warming | .warm => true
  | _ => false

/-- A WARM device with a HANDOVER pending stays WARM (R335). -/
def State.handoverHeld (s : State) : Bool := s.twin.role == .warm && s.twin.hand.any (·.here)

/-- The standby's checkpoint stops being synchronised (R321, Table 11.6): an event cause and a role cause. A standby that is
still SYNCING starts over. -/
def loseSync (cause roleCause : Nat) (s : State) : State :=
  let s := if s.ckpt.synced then { s with ckpt.synced := false, ckpt.ev := some (false, cause) } else s
  if s.twin.role == .syncing then sendFullReq (emptySlots s)
  else if s.twin.role.standsBy && !s.handoverHeld then pendRole .syncing roleCause s
  else s

/-- What the device switches, as a slot holds it. -/
def ownSlot (s : State) : Slot :=
  { st := .inService, page := s.fab.act,
    sels := s.fab.act.protectedTribs.foldl (fun m t => kset 15 m t.1 ((s.sel t.1).record s.frameOf)) [] }

/-- A copy of the slot in service with a plan's delta written into it. -/
def Slot.withDelta (sv : Slot) (p : Plan) : Slot :=
  let y := ({ sv with st := .committed } : Slot).writeAll p.writes
  { y with page := { y.page with gen := p.gen }, frame := p.lock }

/-- The active's own state put into its checkpoint store while a HANDOVER is pending (R335): the generation in service, and
in the other slot the delta that it has shipped. -/
def mirrorCopy (s : State) : State :=
  let x := ownSlot s
  let y : Slot := match s.planner.sealed.find? (fun p => p.shipped) with
    | some p => x.withDelta p
    | none => { x with st := .free }
  { s with ckpt.x := x, ckpt.y := y, ckpt.promo := none, ckpt.before := none, ckpt.filling := none }

/-- A slot as R327 promotes it. -/
def Slot.promote (sl : Slot) : Slot := if sl.st = .committed then { sl with st := .inService } else { sl with st := .filling }

/-- The COMMITTED slot becomes IN_SERVICE at the row 0 tick of its frame, or at the next tick when that frame has begun
(R327). A WARM device, or a WARMING one that has started, whose standby page holds that generation performs the lockage (R332). -/
def promoteTick (s : State) : State :=
  match s.committed with
  | some sl =>
    if sl.frame ≠ 0 ∧ sl.frame ≤ s.time.frame then
      let s' := { s with ckpt.before := some (s.ckpt.x.st, s.ckpt.y.st), ckpt.promo := some s.time.rows,
                         ckpt.x := s.ckpt.x.promote, ckpt.y := s.ckpt.y.promote }
      if (s.twin.role = .warm ∨ s.twin.role = .warming) ∧ s.twin.started.isSome ∧ s.twin.warmLoad = none ∧
          s.fab.stby.gen = sl.page.gen ∧ s.time.row = 0 then
        { s' with fab.swap := some s.time.frame, planner.lastLock := s.time.frame, planner.lockRow := some s.time.rows }
      else s'
    else s
  | none => s

/-! ## Selectors from a checkpoint (R318) -/

/-- A selector from its record; `left` is the number of rows until row 0 of a frame. -/
def Sel.load (x : Sel) (w : W64) (now : Nat) (left : Nat → Nat) : Sel :=
  let st := SelState.ofCode (fld w 3 0)
  let run := fld w 63 16 != 0
  { x.discardSel with st := st, sel := bit w 4, lo := bit w 5, fs := bit w 6, ms := if bit w 7 then some (bit w 8) else none,
                      wtrDue := if run then some (now + left (fld w 63 16)) else none }

/-- Hold timers stopped (R302). -/
def stopHolds (s : State) : State :=
  { s with sels := kmap {} (fun _ (x : Sel) => { x with holdDue := none, idle := false, expired := false }) s.sels }

/-- Rows until row 0 of a frame. -/
def rowsUntil (s : State) (frame : Nat) : Nat := frame * 250 - (s.time.frame * 250 + s.time.row)

/-- The selectors loaded from a slot: those of its protected tributaries; every other one is not protected. DESIGN CHOICE (log entry
110): a SEL that the load brings is no change of SEL, so it is neither counted in SWITCHES nor stamped in LAST_SWITCH. -/
def loadSels (sl : Slot) (s : State) : State :=
  let s := { s with sels := kmap {} (fun _ (x : Sel) => x.discardSel.goTo .notProt) s.sels }
  sl.page.protectedTribs.foldl (fun s t =>
    s.modSel t.1 (fun x => x.load (kget 15 sl.sels t.1) s.time.rows (rowsUntil s))) (stopHolds s)

/-! ## Role transitions (Table 11.6) -/

/-- The switch die starts: interchangers cleared, tributary counts 0 with PARTIAL marked (R425, Table 12.5). -/
def startDie (s : State) : State :=
  { s with fab.running := true, fab.cross := [], fab.read := [], twin.started := none, twin.startRow := s.time.rows,
           sels := kmap {} (fun _ (x : Sel) => { x with counts := [0, 0, 0, 0, 0, 0, 0] }) s.sels,
           ctr.banks := (List.range 17).foldl (fun m b =>
             let k : Bank := kget {} m b
             let trib := b == 16 || s.ctr.ctrs.any (fun c => c.1 / 256 == b && bit c.2.w0 0 &&
               decide (0x20 ≤ fld c.2.w0 13 6 ∧ fld c.2.w0 13 6 ≤ 0x2F))
             if trib then kset {} m b { k with partialI := true } else m) s.ctr.banks }

/-- The switch die stops and keeps nothing of what its interchangers and selectors held; the counts stay in the counter store
(R29). A sealed plan in SWAPPING still completes at the row 3 tick (Table 4.1). -/
def stopDie (s : State) : State :=
  { s with fab.running := false, fab.kind := .fill, fab.cross := [], fab.read := [], fab.ingress := [], fab.ingressOut := [],
           fab.words := [], fab.badBarge := [], fab.sentLanes := [],
           fab.swap := if s.followsLockage then none else s.fab.swap,
           sels := kmap {} (fun _ (x : Sel) => { counts := x.counts }) s.sels, twin.started := none,
           twin.takeRow := none, twin.ones := false, twin.warmDue := none, twin.warmLoad := none, ckpt.fixWait := none }

/-- What an active device gives up (R108, R305): plans, and what it kept about its partner's checkpoint. -/
def leaveActive (s : State) : State :=
  let s := withdrawAll { s with ckpt.peer := false, twin.req := none, ckpt.selDirty := [] }
  { releaseDrops (fun _ => true) s with
    ckpt.queue := [], planner.deltas := [], ckpt.dropped := [], ckpt.bulk := [], ckpt.sending := none, ckpt.fullDue := false,
    ckpt.endGen := none, ckpt.freeGen := none }

/-- A started command completed with a status, and what it had scheduled given up. -/
def endRun (status : Nat) (r : Run) (s : State) : State :=
  let k := some r.key
  finish r status []
    { s with time.realigns := s.time.realigns.filter (fun x => decide (x.key ≠ k)),
             ctr.snaps := s.ctr.snaps.filter (fun x => decide (x.key ≠ r.key)),
             ctr.banks := kmap {} (fun _ (b : Bank) =>
               match b.pend with
               | some p => if p.key = r.key then { b with pend := none } else b
               | none => b) s.ctr.banks }

/-- A started command is withdrawn, with what it had scheduled (R368). -/
def withdrawRun (r : Run) (s : State) : State := endRun stWithdrawn r s

/-- Opcodes that only an active device executes (R366): the connection and plan opcodes that ST_NOT_ACTIVE refuses, PROT_CMD and
HANDOVER_AT. -/
def activeOps : List Nat := [0x0201, 0x0202, 0x0203, 0x0301, 0x0302, 0x0303, 0x0306, 0x0401, 0x0713]

/-- Started commands whose effect is still to come and that need a role which the device has left (R368): PROT_CMD and
HANDOVER_AT need the active role, and so does a CONN_LOAD that waits for its buffer, any command the role that its header names. Seals are
completed with their plans; what writes the flash, recovers the device or waits for its step has begun its effect. Of a command that the
engine still holds the whole effect is to come. -/
def withdrawRoleRuns (s : State) : State :=
  let named := fun (r : Run) => r.cmd.role != 0 && r.cmd.role - 1 != s.twin.role.adv
  let s := match s.host.engine with
    | some r => if named r || (!s.isActive && activeOps.contains r.cmd.opcode) then
        withdrawRun r { s with host.engine := none } else s
    | none => s
  (s.host.prog.filter (fun r =>
    !([0x0301, 0x0A01].contains r.cmd.opcode) && !(s.boot.flash.any (fun j => decide (j.key = r.key))) &&
    ((!s.isActive && [0x0202, 0x0401, 0x0713].contains r.cmd.opcode) ||
     named r))).foldl (fun s r => withdrawRun r s) s

/-- What entering a role does besides. -/
def enterRole (r : Role) (s : State) : State :=
  match r with
  | .syncing => sendFullReq (emptySlots (stopDie { s with ckpt.synced := false, twin.rwtrDue := none }))
  | .init => emptySlots (stopDie { s with ckpt.synced := false, twin.rwtrDue := none })
  | .cold => { stopDie s with fab.act := {}, fab.stby := {}, fab.image := {} }
  | .steppedDown => stopDie s
  | .warming => startDie { s with twin.rwtrDue := none, twin.revEv := s.twin.revEv ++ [(2, 0, 0)] }
  | .warm => if s.twin.hand.any (·.here) then s else { s with twin.warmDue := some (s.time.rows +
      (if fld s.twin.revCfg 20 13 = 0 then 10 else fld s.twin.revCfg 20 13) * 2000000) }
  | _ => { s with twin.rwtrDue := none, twin.warmDue := none }

/-- LEASED ends for another reason than time; EV_LEASE follows at the row tick (R296, R315). -/
def dropLease (s : State) : State := if s.twin.leased then { s with twin.leased := false, twin.leaseEv := 1 } else s

/-- A transition of Table 11.6 with its cause (R315). -/
def setRole (r : Role) (cause : Nat) (s : State) : State :=
  let old := s.twin.role
  let was := s.isActive
  let s := { s with
    twin.role := r, twin.oldRole := some (s.twin.oldRole.getD old), twin.causes := s.twin.causes ++ [cause],
    twin.roleFrame := if old = r then s.twin.roleFrame else s.time.frame,
    twin.roleRow := if old = r then s.twin.roleRow else s.time.row }
  let s := if was && !s.isActive then leaveActive (dropLease s) else s
  let s := if old = r then s else enterRole r s
  withdrawRoleRuns s

/-- EV_TWIN_ROLE for the transitions of a row tick (R315). -/
def roleEvent (s : State) : State :=
  match s.twin.oldRole with
  | some o =>
    raise 0x0701 [pack [(3, 0, o.code), (7, 4, s.twin.role.code), (11, 8, s.twin.causes.getLast?.getD 0), (63, 32, s.advTerm)]]
      { s with twin.oldRole := none, twin.causes := [] }
  | none => s

/-- Own term set; it enters HTERM (R292). -/
def ownTerm (t : Nat) (s : State) : State := { s with twin.term := t, twin.hterm := max s.twin.hterm t }

/-- Nothing has been sent yet in the term that begins: held words are all-ones until then (R302). -/
def newTerm (s : State) : State := { s with fab.heldOnes := true, fab.sentLanes := [] }

/-- TAKING begins (R301, R302, R329): a COMMITTED slot still to come and a FILLING one are discarded. -/
def beginTaking (t : TakeReg) (s : State) : State :=
  let warm := s.twin.role == .warm
  let drop := fun (sl : Slot) => if sl.st = .inService then sl else {}
  let s := ownTerm t.term { s with
    ckpt.x := drop s.ckpt.x, ckpt.y := drop s.ckpt.y, ckpt.promo := none, ckpt.before := none, ckpt.synced := false,
    twin.hold := s.twin.holdCfg, twin.takeRow := some s.time.rows, twin.takeFrame := s.time.frame,
    twin.takeFRow := s.time.row, twin.prevTerm := t.prev, twin.ones := false, twin.takenDue := true,
    twin.resume := (s.serviceSlot.map (·.page.gen)).getD s.fab.act.gen, ckpt.filling := none,
    twin.leased := false, twin.startWarm := warm, twin.started := none, twin.startRow := s.time.rows,
    fab.kind := .hold, fab.heldOnes := true, fab.sentLanes := [], fab.running := true }
  let s := stopHolds (if warm then s else startDie s)
  setRole .taking 1 s

/-- A TAKE to self applied at a row tick (Table 11.6). -/
def applyTake (t : TakeReg) (s : State) : State :=
  match s.twin.role with
  | .init => beginTaking t { s with fab.act := { gen := 1 }, fab.stby := {}, fab.image := {} }
  | .cold | .warming | .warm => beginTaking t s
  | .active => setRole .active 1 (ownTerm t.term (dropLease (newTerm { s with twin.takenDue := true })))
  | .syncing => { s with twin.answer := s.twin.answer ++ [{ ask := t.term, taken := true }] }
  | _ => s

/-- The own term that the device will have after a TAKE registered in the row. -/
def termAfterTake (s : State) : Nat :=
  match s.twin.role, s.twin.takeReg with
  | .active, some t => t.term
  | .init, some t | .cold, some t | .warming, some t | .warm, some t => t.term
  | _, _ => s.twin.term

/-- Terms formed from headers in ACTIVE and TAKING (R304 (d)): on two lanes or more above the own term; the lowest that any header of
the row forms (R292). -/
def headerTerm (s : State) : Option Nat :=
  if s.twin.role = .active ∨ s.twin.role = .taking then
    let above := fun (l : Lane) => (l.hdrOther.map (formTerm s.twin.term)).filter (fun t => decide (s.twin.term < t))
    if (s.lanes.filter (fun l => !(above l.2).isEmpty)).length < 2 then none
    else match s.lanes.flatMap (fun l => above l.2) with
      | [] => none
      | a :: cs => some (cs.foldl min a)
  else none

/-- The terms of the row, those from headers among them, at the row tick that ends it or just before: the term of a pending
HANDOVER is spared in every row before row 0 of AT_FRAME. -/
def State.rowTerms (s : State) : List (Nat × Nat) :=
  let spared := fun (t : Nat) => s.twin.hand.any (fun h =>
    h.term == t && decide (s.time.frame < h.at_ ∨ (s.time.frame = h.at_ ∧ s.time.row = 0)))
  (((headerTerm s).map (fun t => (t, 3))).toList ++ s.twin.seen).map (fun (x : Nat × Nat) => (x.1, if spared x.1 then 0 else x.2))

/-- The case of R304 that a step-down registered in the row falls under; 0 = none. -/
def stepDownCase (s : State) : Nat :=
  let own := termAfterTake s
  let active := s.twin.role == .active || s.twin.role == .taking || (s.twin.takeReg.isSome &&
    (s.twin.role.standsBy || s.twin.role == .init))
  if active then
    match (s.rowTerms.filter (fun t => t.2 != 0 && decide (own < t.1))).map (·.2) with
    | [] => 0
    | w :: ws => ws.foldl min w
  else 0

/-- The transition that a registered cause still leads to. -/
def pendOne (x : Role × Nat) (s : State) : State :=
  match x.1 with
  | .syncing => if s.twin.role.standsBy && !s.handoverHeld then setRole .syncing x.2 s else s
  | .cold => if s.twin.role == .syncing && s.ckpt.synced then setRole .cold x.2 s else s
  | .init => if s.twin.role == .syncing then setRole .init x.2 { s with ckpt.ev := some (false, 5) } else s
  | .taking => if s.twin.role == .taking then setRole .taking x.2 s else s
  | _ => s

/-- The NOTICEs registered in the row that name a holder (Table 11.6): one that names the partner with TERM = HTERM. -/
def noticeTick (s : State) : State :=
  let named := s.twin.notices.any (fun n => n.1 == s.partner && n.2 == s.twin.hterm)
  let s := { s with twin.notices := [] }
  if (s.twin.role = .init ∨ s.twin.role = .steppedDown) ∧ named = true ∧ s.twin.partnerLost = false then setRole .syncing 6 s else s

/-- The HANDOVER_AT command that asked for this frame, if it is in progress, is completed (R340). -/
def handoverDone (at_ st : Nat) (s : State) : State :=
  match (s.progOf 0x0713).find? (fun r => r.at_ == at_) with
  | some r => finishKey r.key st [] s
  | none => s

/-- A slot filled with the contents of the one in service and marked FREE. -/
def Slot.copyOf (sv : Slot) : Slot := { sv with st := .free, frame := 0 }

/-- The slot that is not in service marked FREE as a copy of the one in service; SLOT_FREE is sent by a standby (R324). -/
def freeOther (s : State) : State :=
  let s := if s.ckpt.x.st = .inService then { s with ckpt.y := s.ckpt.x.copyOf }
    else if s.ckpt.y.st = .inService then { s with ckpt.x := s.ckpt.y.copyOf } else s
  if s.isActive then s else sendTwin 0x8 s.genService 0 0 [] s

/-- The twin that a handover names at AT_FRAME (R336): WARM begins to serve, any other state does not. -/
def handoverGained (h : Hand) (s : State) : State :=
  if s.twin.role = .warm then
    let s := ownTerm h.term { newTerm s with ckpt.peer := true, ckpt.ev := some (true, 10), ckpt.synced := false,
                                             ckpt.syncFrame := s.time.frame,
                                             twin.revEv := s.twin.revEv ++ [(4, h.at_, h.term)], twin.leased := false }
    setRole .active 9 (emptySlots s)
  else
    let s := { s with twin.revEv := s.twin.revEv ++ [(5, h.at_, h.term)] }
    if s.twin.role = .warming then setRole .cold 15 s else s

/-- The active that keeps serving at AT_FRAME because the check failed (R336). -/
def handoverKept (h : Hand) (s : State) : State :=
  armReady (handoverDone h.at_ stHandoverRefused (setRole .active 9 (ownTerm h.term (dropLease (newTerm
    { s with twin.keepServe := false, twin.takenDue := true, ckpt.mirror := false, ckpt.x := {}, ckpt.y := {},
             ckpt.promo := none, ckpt.before := none, twin.revEv := s.twin.revEv ++ [(5, h.at_, h.term)] })))))

/-- The slots of the active that gives service at AT_FRAME: what it has mirrored, or its own state now where that copy has not ended
(R335). -/
def handoverSlots (s : State) : State :=
  if s.serviceSlot.isSome || !s.reaches 3 [0, 1, 6] then s
  else if s.fab.swap.isSome then mirrorCopy { s with fab.act := s.fab.stby }
  else mirrorCopy s

/-- The active that gives service to its partner at AT_FRAME (R336, R335). Its plans are withdrawn (R108), so a slot that mirrors a
shipped delta is FREE again. DESIGN CHOICE (log entry 116): where the checkpoint engine could not mirror, no slot is in service, and the
device is a standby without a synchronised checkpoint. -/
def handoverOut (h : Hand) (s : State) : State :=
  let s := handoverDone h.at_ stOk { handoverSlots s with ckpt.mirror := false }
  let s := setRole .cold 9 s
  let s := { s with twin.revEv := s.twin.revEv ++ [(4, h.at_, h.term)] }
  if s.serviceSlot.isNone then setRole .syncing 12 s
  else
    let s := { s with ckpt.synced := true, ckpt.ev := some (true, 10), ckpt.acked2 := true, ckpt.syncFrame := s.time.frame }
    if s.committed.isSome ∨ s.ckpt.x.st = .free ∨ s.ckpt.y.st = .free then freeOther s else s

/-- The row tick of AT_FRAME (R336, R335, R340). DESIGN CHOICE (log entry 101): a HANDOVER whose AT_FRAME lies among the frames that a
positive re-alignment skips stays pending, since no frame of that number begins. -/
def handoverTick (s : State) : State :=
  match s.twin.hand with
  | some h =>
    if s.time.row = 0 ∧ h.at_ = s.time.frame then
      let s := { s with twin.hand := none }
      if h.here then handoverGained h s
      else if s.twin.role = .active then (if s.twin.keepServe then handoverKept h s else handoverOut h s)
      else { s with twin.revEv := s.twin.revEv ++ [(5, h.at_, h.term)] }
    else s
  | none => s

/-- The check at the end of row 249 of frame AT_FRAME − 1 (R336): whether the device keeps serving. It looks at the latest heartbeat,
whatever term that one shows. -/
def handoverCheck (s : State) : State :=
  match s.twin.hand with
  | some h =>
    if h.here = false ∧ s.twin.role = .active ∧ s.nextFrame = h.at_ then
      let ok := !s.twin.partnerLost && decide (s.time.rows ≤ s.twin.hbRow + s.time.row) &&
        s.twin.hb.any (fun b => b.roleSt == 6 && b.term == h.term)
      { s with twin.keepServe := !ok }
    else s
  | none => s

/-- WARMING ends at the row 0 tick that ends the first frame switched whole after the load (R331). -/
def warmTick (s : State) : State :=
  match s.twin.role, s.twin.started with
  | .warming, some d => if s.time.row = 0 ∧ d + 252 ≤ s.time.rows then setRole .warm 14 s else s
  | _, _ => s

/-- HTERM rises to the terms registered in the row, and the lanes' header terms are forgotten (R292). -/
def raiseHterm (s : State) : State :=
  { s with twin.hterm := s.rowTerms.foldl (fun a (t : Nat × Nat) => max a t.1) s.twin.hterm, twin.seen := [],
           lanes := kmap {} (fun _ (l : Lane) => { l with hdrOther := [] }) s.lanes }

/-- The transitions registered in the row, then a TAKE to this device (R297, R303). DESIGN CHOICE (log entry 123): a transition to SYNCING of
the same row comes first, so that the TAKE is only answered with ANSWER. -/
def pendTick (s : State) : State :=
  let ps := s.twin.pend
  let s := ps.foldl (fun s p => pendOne p s) { s with twin.pend := [] }
  match s.twin.takeReg with
  | some t => applyTake t { s with twin.takeReg := none }
  | none => s

/-- A step-down (R304, R305), and only without one the handover: a device that has stepped down makes none, and a HANDOVER of this
tick is over for it (R502). -/
def stepDownTick (why : Nat) (s : State) : State :=
  handoverTick (if why ≠ 0 ∧ (s.twin.role = .active ∨ s.twin.role = .taking) ∧ s.twin.term < s.twin.hterm then
    setRole .steppedDown (2 + why) { s with ckpt.mirror := false }
  else s)

/-- Roles and terms at a row tick (R292, R297, R303 to R305, R336): HTERM rises, registered transitions, TAKE to self, then
a step-down, and only without one the handover. -/
def roleTick (s : State) : State :=
  if s.twinUp then warmTick (noticeTick (stepDownTick (stepDownCase s) (pendTick (raiseHterm s))))
  else
    { s with twin.seen := [], twin.pend := [], twin.takeReg := none, twin.notices := [],
             lanes := kmap {} (fun _ (l : Lane) => { l with hdrOther := [] }) s.lanes }

/-! ## Revert (R333, R339, R340) -/

def State.revert (s : State) : Bool := bit s.twin.revCfg 0
def State.lockout (s : State) : Bool := bit s.twin.revCfg 21
/-- RWTR in rows; 0 = 300 s. -/
def rwtrRows (s : State) : Nat := (if fld s.twin.revCfg 12 1 = 0 then 300 else fld s.twin.revCfg 12 1) * 2000000

/-- The conditions under which the revert wait-to-restore runs (R333); a pairing fault about to be raised at the tick counts
(R288). -/
def rwtrRuns (s : State) : Bool :=
  s.twinUp && !s.boot.straps.twinPref && s.twin.role == .cold && s.ckpt.synced && s.revert && !s.lockout &&
  s.twin.known.any (fun b => b.roleSt == 2) && !s.twin.partnerLost && !s.twin.keeperLost && !s.twin.pairFault &&
  !s.twin.pairNew

/-- The wait-to-restore started, or stopped and reset. -/
def rwtrTick (s : State) : State :=
  if rwtrRuns s then
    match s.twin.rwtrDue with
    | some _ => s
    | none => { s with twin.rwtrDue := some (s.time.rows + rwtrRows s), twin.revEv := s.twin.revEv ++ [(1, 0, 0)] }
  else { s with twin.rwtrDue := none }

/-- One REVERT_CFG, REVERT_LOCK or STANDBY_WARM at the row tick after its start (R340). -/
def applyRevert (r : Run) (s : State) : State :=
  let w := r.cmd.p 0
  match r.cmd.opcode with
  | 0x0711 => finish r stOk [] { s with twin.revCfg := w }
  | 0x0712 => finish r stOk [] { s with twin.revCfg := (s.twin.revCfg &&& ~~~(1#64 <<< 21)) ||| ((w &&& 1#64) <<< 21) }
  | _ =>
    if s.twin.role.standsBy then
      let s := if bit w 0 then (if s.twin.role = .cold then setRole .warming 13 s else s)
        else if s.twin.role = .cold then s else setRole .cold 15 s
      finish r stOk [] s
    else finish r stWithdrawn [] s

/-- The revert commands at the row tick. -/
def revertCmdTick (s : State) : State :=
  (s.host.prog.filter (fun r => [0x0711, 0x0712, 0x0714].contains r.cmd.opcode)).foldl (fun s r => applyRevert r s) s

/-! ## Events of a row tick (R315, R341) -/

/-- EV_REVERT: cause, AT_FRAME and term (R341). -/
def revertEvent (e : Nat × Nat × Nat) (s : State) : State :=
  raise 0x0706 [pack [(3, 0, e.1), (63, 32, e.2.2)], pack [(47, 0, e.2.1)]] s

/-- EV_WATCH_FAULT, EV_LEASE, EV_CKPT_SYNC and EV_REVERT for what the row just ended registered and the tick decided. DESIGN CHOICE
(log entry 112): at most one EV_REVERT per row tick; further causes of the same tick follow one by one at the next ticks. -/
def twinEvents (s : State) : State :=
  let pair := s.twin.pairNew && !s.twin.pairFault
  let s := if s.twin.wf0 then raise 0x0702 [pack [(9, 8, 2), (12, 12, b2n pair)]] s
    else if pair then raise 0x0702 [pack [(9, 8, 3)]] s else s
  let s := { s with twin.pairFault := s.twin.pairFault || s.twin.pairNew }
  let s := if s.twin.wf1 then raise 0x0702 [pack [(0, 0, 1), (9, 8, 2)]] s else s
  let s := if s.twin.leaseEv = 0 then s else raise 0x0703 [pack [(1, 0, s.twin.leaseEv)]] s
  let s := match s.ckpt.ev with
    | some e => raise 0x0705 [pack [(0, 0, b2n e.1), (11, 8, e.2)]] s
    | none => s
  let s := match s.twin.revEv with
    | e :: _ => revertEvent e s
    | [] => s
  { s with twin.wf0 := false, twin.wf1 := false, twin.pairNew := false, twin.leaseEv := 0, ckpt.ev := none,
           twin.revEv := s.twin.revEv.drop 1 }

/-- A twin lane that left alignment (R321): a synchronised standby loses synchronisation; one that waits sends FULL_REQ when
all four lanes are aligned again. -/
def twinLaneTick (s : State) : State :=
  if s.twin.laneDown && s.twinUp then
    if s.ckpt.synced && s.twin.role.standsBy then loseSync 3 12 s
    else if s.twin.role == .syncing && twinLanesUp s then sendFullReq (emptySlots s)
    else if s.twin.role == .syncing || s.twin.role.standsBy then s
    else { s with twin.laneDown := false }
  else s

/-! ## Losses (R296, R321) -/

/-- What a loss of the partner does in each role (R107, R321, Table 11.6). -/
def partnerGone (s : State) : State :=
  let s := { s with twin.partnerLost := true }
  let s := raise 0x0702 [pack [(9, 8, 1), (12, 12, b2n (s.twin.pairNew && !s.twin.pairFault))]] s
  let s := if s.twin.pairNew then { s with twin.pairFault := true, twin.pairNew := false } else s
  if s.isActive then forgetAcks (peerLost 4 { s with ckpt.sending := none, ckpt.fullDue := false, ckpt.endGen := none })
  else if s.twin.role = .syncing then setRole .init 8 { s with ckpt.ev := some (false, 5) }
  else if s.twin.role.standsBy then
    let drop := fun (sl : Slot) => if sl.st = .filling then ({} : Slot) else sl
    { s with ckpt.x := drop s.ckpt.x, ckpt.y := drop s.ckpt.y, ckpt.filling := none, ckpt.before := none }
  else s

/-- The partner's loss is due: the row in which it was last to be heard has ended (R46, R296). -/
def settlePeer (s : State) : State :=
  if s.twinUp && !s.twin.partnerLost && decide (s.twin.hbRow + 160 < s.time.rows) then rwtrTick (partnerGone s) else s

def execPeerLost (s : State) : Res := .next (settlePeer s)

/-- The keeper's loss is due; the device keeps its role (R296, R311). -/
def settleKeeper (s : State) : State :=
  if s.twinUp && !s.twin.keeperLost && decide (s.twin.keeperRow + 160 < s.time.rows) then
    rwtrTick (raise 0x0702 [pack [(0, 0, 1), (9, 8, 1)]] { s with twin.keeperLost := true }) else s

def execKeeperLost (s : State) : Res := .next (settleKeeper s)

/-- The end of LEASED is due (R296). -/
def settleLease (s : State) : State :=
  if s.twinUp && s.twin.leased && (s.twin.role == .active || s.twin.role == .taking) &&
      decide (s.twin.leaseRow + 400 < s.time.rows) then
    raise 0x0703 [pack [(1, 0, 1)]] { s with twin.leased := false } else s

def execLeaseExpiry (s : State) : Res := .next (settleLease s)

/-! ## Registering frames -/

/-- PREF of a heartbeat against the own strap (R288). -/
def prefSeen (pref : Bool) (s : State) : State :=
  if pref = s.boot.straps.twinPref then { s with twin.pairNew := !s.twin.pairFault }
  else { s with twin.pairFault := false, twin.pairNew := false }

/-- A secondary's request for a revert (R334). -/
def requestRevert (pref : Bool) (roleSt : Nat) (s : State) : State :=
  if s.twin.role = .active ∧ s.boot.straps.twinPref = true ∧ s.revert = true ∧ s.lockout = false ∧ pref = false ∧ roleSt = 6 ∧
      s.twin.req = none ∧ s.twin.hand = none ∧ s.twin.pairFault = false then
    let a := s.time.frame + 24
    sendHandoverReq a { s with twin.req := some { at_ := a, key := none } }
  else s

/-- A valid HEARTBEAT registered (R292, R296, R288, R321, R334). One with a term below HTERM shows that the partner is alive
and nothing more (R293). A loss that was due before this row comes first (R46). -/
def heartbeatIn (f : WatchFrame) (s : State) : State :=
  let s := settlePeer s
  let role := fld f.w1 5 4
  let roleSt := fld f.w1 3 0
  let pref := bit f.w1 6
  let back := s.twin.partnerLost
  let b : Beat := { role := role, roleSt := roleSt, term := f.term, addr := f.src }
  let s := { s with twin.hb := some b, twin.hbRow := s.time.rows, twin.partnerLost := false, twin.wf0 := s.twin.wf0 || back }
  if f.term < s.twin.hterm then s
  else
    let s := { s with twin.known := some b }
    let s := if role = 1 then showTerm f.term 2 s else s
    let s := prefSeen pref s
    let s := if back && role == 1 && s.twin.role.standsBy then loseSync 6 11 s else s
    let s := if s.twin.role = .syncing ∧ role ≠ 1 then pendRole .init 8 s else s
    requestRevert pref roleSt s

/-- A TAKE (Table 11.6). -/
def takeIn (f : WatchFrame) (s : State) : State :=
  if f.term ≤ s.twin.hterm then
    if s.twin.role = .taking ∧ f.term = s.twin.term ∧ fld f.w1 37 32 = s.flight.addr then
      pendRole .taking 1 { s with twin.takenDue := true }
    else { s with twin.stale := inc16 s.twin.stale }
  else if fld f.w1 37 32 = s.flight.addr then
    let t : TakeReg := { term := f.term, prev := fld f.w1 31 0 }
    if s.twin.takeReg.all (fun x => decide (x.term < t.term)) then { s with twin.takeReg := some t } else s
  else s

/-- A HANDOVER (R336, R502, R341): pending on both twins of the pair, whatever their role; an active that it relieves begins to mirror
its own state (R335). -/
def handoverIn (f : WatchFrame) (s : State) : State :=
  let a := fld f.w1 47 0
  let here := fld f.w2 5 0 == s.flight.addr
  if s.time.frame < a ∧ (here = true ∨ fld f.w2 5 0 = s.partner) then
    let s := if here = false ∧ s.twin.role = .active then
        { s with ckpt.x := { st := .filling }, ckpt.y := {}, ckpt.promo := none, ckpt.before := none, ckpt.mirrorRow := s.time.rows }
      else s
    { s with twin.hand := some { at_ := a, term := f.term, here := here },
             twin.req := s.twin.req.filter (fun r => r.at_ != a), twin.warmDue := if here then none else s.twin.warmDue,
             twin.revEv := s.twin.revEv ++ [(3, a, f.term)], ckpt.mirror := s.ckpt.mirror || (!here && s.isActive) }
  else s

/-- A valid keeper frame registered (R292, R293, R296 to R298, R311), after the losses that were due before this row (R46). -/
def keeperIn (f : WatchFrame) (s : State) : State :=
  let s := settleLease (settleKeeper s)
  if f.term < s.twin.hterm then { s with twin.stale := inc16 s.twin.stale }
  else
    let back := s.twin.keeperLost
    let s := { s with twin.keeperRow := s.time.rows, twin.keeperLost := false, twin.wf1 := s.twin.wf1 || back }
    let s := if f.type = 0xB then handoverIn f s else s
    let s := if f.type = 0x6 then takeIn f s else s
    let s := showTerm f.term 1 s
    match f.type with
    | 0x3 =>
      if (s.twin.role = .active ∨ s.twin.role = .taking) ∧ f.term = s.twin.term then
        { s with twin.leaseRow := s.time.rows, twin.leased := true,
                 twin.leaseEv := if s.twin.leased then s.twin.leaseEv else 2 }
      else s
    | 0x4 => { s with twin.answer := s.twin.answer ++ [{ ask := fld f.w1 31 0, taken := false }] }
    | 0x8 => if bit f.w1 6 then { s with twin.notices := s.twin.notices ++ [(fld f.w1 5 0, f.term)] } else s
    | 0x9 => { s with twin.helloDue := true }
    | _ => s

/-- TYPE listed for its direction (Table 11.4): from the partner on WATCH0, from the keeper on WATCH1. -/
def watchTypeOk (port : Bool) (type : Nat) : Bool := if port then [3, 4, 6, 8, 9, 0xB].contains type else type == 1

/-- R295 on a twin. -/
def watchValid (port : Bool) (f : WatchFrame) (s : State) : Bool :=
  watchSound f && watchTypeOk port f.type && f.pair == s.pair &&
    (if port then f.fromKeeper else !f.fromKeeper && f.src == s.partner)

/-- A frame on a watch port of a twin; SOLO devices and devices not admitted ignore it (R290, R400), and a keeper takes no
such frame (R295). -/
def twinFrame (port : Bool) (f : WatchFrame) (s : State) : State :=
  if s.twin.role = .keeper then (if s.ready then { s with keeper.bad := inc16 s.keeper.bad } else s)
  else if !s.twinUp then s
  else if !watchValid port f s then { s with twin.bad := inc16 s.twin.bad }
  else if port then keeperIn f s
  else heartbeatIn f s

/-- The port on which a twin receives a frame of a type that only a keeper sends is WATCH1. -/
def execHeartbeat (f : WatchFrame) (s : State) : Res := .next (twinFrame false f s)
def execLease (f : WatchFrame) (s : State) : Res := .next (twinFrame true f s)
def execQuery (f : WatchFrame) (s : State) : Res := .next (twinFrame true f s)
def execTake (f : WatchFrame) (s : State) : Res := .next (twinFrame true f s)
def execNotice (f : WatchFrame) (s : State) : Res := .next (twinFrame true f s)
def execHello (f : WatchFrame) (s : State) : Res := .next (twinFrame true f s)
def execHandover (f : WatchFrame) (s : State) : Res := .next (twinFrame true f s)

/-- R295: a frame that the operands of no other row carry: a code or disparity error, a wrong length. -/
def execWatchFrameBad (_port : Bool) (s : State) : Res :=
  .next (if s.twin.role = .keeper ∧ s.ready = true then { s with keeper.bad := inc16 s.keeper.bad }
    else if s.twinUp then { s with twin.bad := inc16 s.twin.bad } else s)

/-- R294: every 40 rows. -/
def execHeartbeatSend (s : State) : Res :=
  .next (if s.twinUp && decide (s.twin.beatDue ≤ s.time.rows) then
    sendStatus false (sendHeartbeat { s with twin.beatDue := s.time.rows + 40 }) else s)

/-- R296, Table 11.4: every 100 rows in ACTIVE and TAKING. -/
def execRenewSend (s : State) : Res :=
  .next (if s.twinUp && (s.twin.role == .active || s.twin.role == .taking) && decide (s.twin.renewDue ≤ s.time.rows) then
    sendStatus true { s with twin.renewDue := s.time.rows + 100 } else s)

/-! ## Starting (R301, R302, R330, R331) -/

/-- A slot loaded into the active page and the selectors (Table 12.5, Load). -/
def loadSlot (sl : Slot) (s : State) : State :=
  loadSels sl { s with fab.act := sl.page, fab.stby := {}, fab.image := sl.page }

/-- Selector conditions cleared (Table 12.5, Prime). -/
def primeSels (s : State) : State :=
  { s with sels := kmap {} (fun _ (x : Sel) =>
      { x with sfA := false, sfB := false, sdA := false, sdB := false, invA := 0, invB := 0, valA := 0, valB := 0 }) s.sels }

/-- The start stages of a take-over end (R330). A start in INIT runs from the reset pages; one in WARM needs no load unless its
slot holds a generation that its pages do not (R329). A start that fails is reported to the recovery ladder as a fault of CKPT,
which loads (Table 11.6; DESIGN CHOICE, log entry 85: by EV_WEDGED with cause 1; the cause is kept as 4, since no progress mark takes it
back). -/
def coldStart (matches_ : Bool) (s : State) : State :=
  match s.serviceSlot with
  | some sl =>
    if s.twin.startWarm && (s.fab.act.gen == sl.page.gen || (s.fab.swap.isSome && s.fab.stby.gen == sl.page.gen)) then primeSels (emptySlots { s with twin.started := some s.time.rows })
    else if matches_ && sl.page.check then
      primeSels (emptySlots { loadSlot sl s with twin.started := some s.time.rows })
    else
      let s := if s.fnDown 3 || s.rcv.wedged.contains 3 || s.rcv.wedgeReg.any (fun w => w.1 == 3) then s
        else { s with rcv.wedgeReg := s.rcv.wedgeReg ++ [(3, 4, 15)] }
      setRole .steppedDown 10 s
  | none => primeSels { s with fab.image := s.fab.act, twin.started := some s.time.rows }

def execColdStartDone (matches_ : Bool) (s : State) : Res :=
  .next (if s.twin.role = .taking ∧ s.twin.started = none ∧ s.reaches 3 [0, 1, 6] = true then coldStart matches_ s else s)

/-- R302, R315: EV_TAKEOVER. -/
def execFirstSwitchedRow (s : State) : Res :=
  .next (match s.twin.role, s.twin.started with
    | .taking, some d =>
      if d + 2 ≤ s.time.rows then
        let n := d + 2 - s.twin.takeRow.getD 0
        let s := setRole .active 2 { s with fab.kind := .data, twin.takeRow := none, twin.ones := false }
        raise 0x0704 [pack [(31, 0, s.twin.term), (63, 32, s.twin.prevTerm)], pack [(31, 0, s.twin.resume), (47, 32, n)],
                      pack [(47, 0, s.twin.takeFrame), (55, 48, s.twin.takeFRow)]] s
      else s
    | _, _ => s)

/-- HOLD in rows (Table 11.10): units of 0.5 ms; 0 = 4. -/
def holdRows (s : State) : Nat := (if s.twin.hold = 0 then 4 else s.twin.hold) * 1000

/-- R301: commanded in the row in which HOLD ends; the rows from the next row tick on carry all-ones. -/
def execTakeoverHoldExpiry (s : State) : Res :=
  .next (match s.twin.role, s.twin.takeRow with
    | .taking, some t =>
      if t + holdRows s ≤ s.time.rows ∧ s.fab.kind = .hold then { s with twin.ones := true } else s
    | _, _ => s)

/-- R331: the load ends; when it fails the device gives up its checkpoint. -/
def execWarmingLoadDone (matches_ : Bool) (s : State) : Res :=
  .next (if s.twin.role = .warming ∧ s.twin.started = none ∧ s.reaches 3 [0, 1, 6] = true then
    match s.serviceSlot with
    | some sl =>
      if matches_ && sl.page.check then primeSels { loadSlot sl s with twin.started := some s.time.rows }
      else setRole .syncing 12 { s with ckpt.synced := false, ckpt.ev := some (false, 9) }
    | none => setRole .syncing 12 { s with ckpt.synced := false, ckpt.ev := some (false, 9) }
  else s)

/-- R333, R46: not when a condition has failed in the due row or before. -/
def execRevertWtrExpiry (s : State) : Res :=
  .next (match s.twin.rwtrDue with
    | some d =>
      if d < s.time.rows ∧ rwtrRuns s = true then setRole .warming 13 { s with twin.rwtrDue := none } else s
    | none => s)

/-- R331, R341. -/
def execWarmLimitExpiry (s : State) : Res :=
  .next (match s.twin.warmDue with
    | some d =>
      if d < s.time.rows ∧ s.twin.role = .warm ∧ s.twin.hand.any (·.here) = false then
        setRole .cold 15 { s with twin.warmDue := none, twin.revEv := s.twin.revEv ++ [(6, 0, 0)] }
      else s
    | none => s)

/-- R502: the end of row 249 of frame AT_FRAME − 2 has passed without a HANDOVER. -/
def execHandoverRequestLapse (s : State) : Res :=
  .next (match s.twin.req with
    | some q =>
      if q.at_ ≤ s.time.frame + 1 then
        let s := { s with twin.req := none }
        match q.key with
        | some k => finishKey k stHandoverRefused [] s
        | none => s
      else s
    | none => s)

/-! ## Commands -/

/-- The twin status record (Table 11.13). -/
def twinStatusWords (s : State) : List W64 :=
  let this := (s.lanes.filter (fun l => l.2.fSel == 1 && l.2.fSelTerm == s.advTerm)).length
  let other := (s.lanes.filter (fun l => l.2.fSel == 2)).length
  [pack [(3, 0, s.twin.role.code), (5, 4, s.twin.role.adv), (6, 6, b2n s.boot.straps.twinPref), (11, 7, s.pair),
         (17, 12, s.partner), (18, 18, b2n s.peerOk), (19, 19, b2n s.keeperOk), (20, 20, b2n s.twin.leased),
         (21, 21, b2n s.syncedShown), (22, 22, b2n s.twin.hand.isSome), (63, 32, s.advTerm)],
   pack [(31, 0, s.twin.hterm), (63, 32, peerTerm s)],
   pack [(47, 0, s.twin.roleFrame), (55, 48, s.twin.roleRow)],
   pack [(15, 0, s.twin.stale), (31, 16, s.twin.bad), (41, 32, this), (51, 42, other)]]

def execTwinStatus (s : State) : Res := onEngine 0x0701 (fun r s =>
  if !sizeOk r then invalid r s else finish r stOk (twinStatusWords s) s) s

/-- R314: the hold time applies from the next TAKE on. -/
def execTwinCfg (s : State) : Res := onEngine 0x0702 (fun r s =>
  let w := r.cmd.p 0
  if !sizeOk r || fld w 63 6 != 0 || decide (32 < fld w 5 0) || !s.twinRole then invalid r s
  else finish r stOk [] { s with twin.holdCfg := fld w 5 0 }) s

/-- R340: a command of Table 12.6 on a SOLO device. -/
def noPair (s : State) : Bool := s.twin.role == .solo

def execRevertCfg (s : State) : Res := onEngine 0x0711 (fun r s =>
  if !sizeOk r || fld (r.cmd.p 0) 63 22 != 0 || noPair s then invalid r s else later r s) s

def execRevertLock (s : State) : Res := onEngine 0x0712 (fun r s =>
  if !sizeOk r || fld (r.cmd.p 0) 63 1 != 0 || noPair s then invalid r s else later r s) s

def execHandoverAt (s : State) : Res := onEngine 0x0713 (fun r s =>
  let warm := !s.twin.partnerLost && s.twin.known.any (fun b => b.roleSt == 6)
  if noPair s then invalid r s
  else if !s.isActive then finish r stNotActive [] s
  else if !sizeOk r then invalid r s
  else if s.lockout || s.twin.req.isSome || s.twin.hand.isSome || !warm then finish r stHandoverRefused [] s
  else later r (sendHandoverReq r.at_ { s with twin.req := some { at_ := r.at_, key := some r.key } })) s

def execStandbyWarm (s : State) : Res := onEngine 0x0714 (fun r s =>
  if !sizeOk r || fld (r.cmd.p 0) 63 1 != 0 || !s.twin.role.standsBy then invalid r s else later r s) s

end Sys2Proof.Machine
end

