-- ==== Sys2Proof/Machine/Ckpt.lean ====
section
/-! DEFINITION. Chapter 12: the checkpoint engine, the two slots of the partner checkpoint store, and the messages between
twins. -/

namespace Sys2Proof.Machine

open Sys2Proof

/-! ## The active's side -/

/-- The sections of a FULL: the whole slot (R322, Tables 12.1 and 12.4). -/
def fullWrites (s : State) : List SlotWrite := (ownSlot s).whole

/-- The copy of a FULL begins (R322): it holds the generation in service then. The checkpoint engine reads it as master M3, and waits
while it does not reach the page or the tributary table (R19; DESIGN CHOICE, log entry 116). -/
def beginFull (s : State) : State :=
  if s.reaches 3 [0, 1] then
    sendTwin 0x2 s.fab.act.gen 0 0 (fullWrites s)
      { s with ckpt.fullDue := false, ckpt.sending := some { gen := s.fab.act.gen, row := s.time.rows } }
  else { s with ckpt.fullDue := true }

/-- FULL_REQ registered on the active (R322, R107, R402). -/
def fullReq (s : State) : State :=
  beginFull { forgetAcks (peerLost 7 s) with ckpt.sending := none, ckpt.endGen := none, ckpt.freeGen := none }

/-- The FULL has been sent (R322, R323): the deltas of the plans done meanwhile, which the delta queue holds, follow as catch-up
DELTAs, and SYNC_END. -/
def fullCopyEnd (f : FullSend) (s : State) : State :=
  let ds := (s.ckpt.queue ++ s.planner.deltas).filter (fun d => d.done s)
  let last := ((ds.getLast?).map (·.gen)).getD f.gen
  let s := ds.foldl (fun s d => sendTwin 0x3 d.gen d.frame 0 d.writes s) (dropDeltas (fun d => d.done s) s)
  sendTwin 0x9 last 0 0 [] { s with ckpt.sending := none, ckpt.endGen := some last }

/-- The partner is registered as synchronised (R323, R107): an ARMED plan without an acknowledgement waits again. -/
def peerSynced (s : State) : State :=
  { s with ckpt.peer := true, ckpt.endGen := none, ckpt.ev := some (true, 1), ckpt.syncFrame := s.time.frame,
           planner.sealed := s.planner.sealed.map (fun p => if p.st = .armed ∧ p.acked = false then { p with st := .loaded } else p) }

/-- ACK registered on the active (R106, R323, R325, R326, R328). -/
def ckptAck (m : TwinMsg) (s : State) : State :=
  match m.acked with
  | 0x2 => if s.ckpt.endGen.isSome && m.gen == s.fab.act.gen then peerSynced s else s
  | 0x3 =>
    match findPlan (fun p => p.gen == m.gen && p.shipped) s with
    | some n =>
      dropDeltas (fun d => d.gen == m.gen) (armReady (modPlan n (fun p => { p with acked := true, ackFrame := m.frame }) s))
    | none =>
      if s.ckpt.dropped.contains m.gen then
        sendTwin 0x5 m.gen 0 0 [] { s with ckpt.dropped := s.ckpt.dropped.filter (· ≠ m.gen) }
      else
        let s := dropDeltas (fun d => d.gen == m.gen && d.sent) s
        if s.ckpt.endGen.isSome && m.gen == s.fab.act.gen then peerSynced s else s
  | 0x4 =>
    match findPlan (fun p => p.gen == m.gen) s with
    | some n => modPlan n (fun p => { p with ackFrame := m.frame }) s
    | none => s
  | 0x5 => releaseDrops (fun w => w.gen == m.gen) s
  | _ => s

/-- The first delta of the queue that has not been shipped. -/
def nextDelta (s : State) : Option Delta := s.ckpt.queue.find? (fun d => !d.sent)

/-- The active ships a delta (R324): SLOT_FREE names the generation before it. -/
def deltaShip (s : State) : State :=
  match nextDelta s, s.ckpt.freeGen with
  | some d, some g =>
    if (s.ckpt.peer || s.ckpt.endGen.isSome) && s.ckpt.sending.isNone && genAdd g 1 == d.gen then
      let s := { s with ckpt.freeGen := none,
                        ckpt.queue := s.ckpt.queue.map (fun x => if x.gen = d.gen then { x with sent := true } else x) }
      match findPlan (fun p => p.gen == d.gen) s with
      | some n =>
        let lock := ((s.planner.sealed[n]?).map (·.lock)).getD 0
        sendTwin 0x3 d.gen lock 0 d.writes (modPlan n (fun p => { p with shipped := true }) s)
      | none => sendTwin 0x3 d.gen d.frame 0 d.writes s
    else s
  | _, _ => s

/-- The mirrored slot that is not in service follows the delta that the active has shipped (R335). -/
def mirrorOther (sv : Slot) (s : State) : Slot :=
  match s.planner.sealed.find? (fun p => p.shipped) with
  | some p => sv.withDelta p
  | none => { sv with st := .free, frame := 0 }

/-- R335 at a row tick, while the checkpoint engine reaches the pages and its store (R19). -/
def mirrorTick (s : State) : State :=
  if s.ckpt.mirror && s.twin.role == .active && s.ckpt.promo.isNone && s.reaches 3 [0, 1, 6] then
    if s.ckpt.x.st = .inService then { s with ckpt.y := mirrorOther s.ckpt.x s }
    else if s.ckpt.y.st = .inService then { s with ckpt.x := mirrorOther s.ckpt.y s }
    else s
  else s

/-! ## The standby's side -/

/-- A message of this type stored in the checkpoint store, as master M3 (R19). DESIGN CHOICE (log entry 116): where M3 does not reach the
store the message has no effect, and a FULL, DELTA or SEL ends the standby's synchronisation as a discarded one does. -/
def onStore (type : Nat) (f : State → State) (s : State) : State :=
  if s.reaches 3 [6] then f s
  else if [2, 3, 6].contains type then loseSync 2 12 (notReached 3 s)
  else notReached 3 s

/-- A FULL written into slot X (R323). Selector updates that arrived meanwhile are newer and stay. -/
def fullIn (m : TwinMsg) (s : State) : State :=
  let s := { s with ckpt.fulls := inc16 s.ckpt.fulls }
  if s.twin.role = .syncing then
    let x := ({ st := .filling } : Slot).writeAll m.writes
    let x := { x with page := { x.page with gen := m.gen },
                      sels := s.ckpt.x.sels.foldl (fun n e => kset 15 n e.1 e.2) x.sels }
    { s with ckpt.x := x, ckpt.y := {}, ckpt.fullGot := true }
  else s

/-- The slot as a DELTA seals it (R325). -/
def Slot.commit (sl : Slot) (m : TwinMsg) : Slot :=
  let y := ({ sl with st := .committed, frame := m.frame } : Slot).writeAll m.writes
  { y with page := { y.page with gen := m.gen } }

/-- The active role of a pair that is up, with CKPT at work (Table 17.1). -/
def State.activeTwin (s : State) : Bool := s.twinUp && s.twin.role == .active && !s.fnDown 3

/-- A FULL that waits for its pages, at a row tick. -/
def fullTick (s : State) : State := if s.ckpt.fullDue && s.activeTwin then beginFull s else s

/-- A standby role of a pair that is up, with CKPT at work. -/
def State.standbyTwin (s : State) : Bool := s.twinUp && !s.fnDown 3 && (s.twin.role.standsBy || s.twin.role == .syncing)

/-- A message discarded and counted (R321); a FULL, DELTA or SEL ends the standby's synchronisation. -/
def discardMsg (type : Nat) (s : State) : State :=
  let s := { s with ckpt.bad := sat 0xFFFFFFFF (s.ckpt.bad + 1) }
  if s.standbyTwin && [2, 3, 6].contains type then loseSync 2 12 s else s

/-- The FREE slot becomes FILLING as a DELTA arrives, and holds no generation until it is sealed (R324, R325). -/
def Slot.fill (sl : Slot) : Slot := { sl with st := .filling, page := { sl.page with gen := 0 } }

/-- The FREE slot, if there is one, opened for a DELTA. -/
def openFree (s : State) : State :=
  if s.ckpt.filling.isSome then s
  else if s.ckpt.x.st = .free then { s with ckpt.filling := some false, ckpt.x := s.ckpt.x.fill }
  else if s.ckpt.y.st = .free then { s with ckpt.filling := some true, ckpt.y := s.ckpt.y.fill }
  else s

/-- A DELTA (R323 to R325): a catch-up DELTA goes into slot X in place; once ACK 0x02 has been sent it needs a FREE slot. -/
def deltaIn (m : TwinMsg) (s : State) : State :=
  if s.twin.role = .syncing ∧ s.ckpt.acked2 = false then
    if s.ckpt.fullGot then
      let x := s.ckpt.x.writeAll m.writes
      { s with ckpt.x := { x with page := { x.page with gen := m.gen } } }
    else s
  else if s.twin.role.standsBy || s.twin.role == .syncing then
    let ack := sendTwin 0x7 m.gen m.frame 3 []
    let s := openFree s
    if s.ckpt.filling = some false then ack { s with ckpt.filling := none, ckpt.x := s.ckpt.x.commit m }
    else if s.ckpt.filling = some true then ack { s with ckpt.filling := none, ckpt.y := s.ckpt.y.commit m }
    else discardMsg 3 s
  else s

/-- The committed slot with a generation replaced by f of it. -/
def modCommitted (gen : Nat) (f : Slot → Slot) (s : State) : State :=
  let g := fun (sl : Slot) => if sl.st = .committed ∧ sl.page.gen = gen then f sl else sl
  { s with ckpt.x := g s.ckpt.x, ckpt.y := g s.ckpt.y }

/-- A promotion taken back (R327), and with it the lockage that a WARM device has begun. -/
def unpromote (gen frame : Nat) (s : State) : State :=
  match s.ckpt.before with
  | some b =>
    let s := { s with ckpt.x := { s.ckpt.x with st := b.1 }, ckpt.y := { s.ckpt.y with st := b.2 },
                      ckpt.promo := none, ckpt.before := none, fab.swap := none }
    modCommitted gen (fun sl => { sl with frame := frame }) s
  | none => s

/-- FIX (R326, R327, R332): a device in WARMING or WARM acknowledges once its standby page holds the generation. -/
def fixIn (m : TwinMsg) (s : State) : State :=
  let late := s.ckpt.before.isSome && decide (s.time.frame < m.frame) && s.genService == m.gen &&
    s.ckpt.promo.any (fun r => decide (s.time.rows ≤ r + 2))
  let s := if late then unpromote m.gen m.frame s else modCommitted m.gen (fun sl => { sl with frame := m.frame }) s
  if (s.committed).any (fun sl => sl.page.gen == m.gen) then
    if (s.twin.role = .warm ∨ s.twin.role = .warming) ∧ (s.fab.stby.gen ≠ m.gen ∨ s.twin.warmLoad.isSome) then
      { s with ckpt.fixWait := some m.frame }
    else sendTwin 0x7 m.gen m.frame 4 [] s
  else s

/-- DROP (R328): the COMMITTED slot returns to FREE; a copy that a WARM device has loaded of it is given up. -/
def dropIn (m : TwinMsg) (s : State) : State :=
  if (s.committed).any (fun sl => sl.page.gen == m.gen) then
    let s := freeOther (sendTwin 0x7 m.gen 0 5 [] s)
    if s.twin.role = .warm ∨ s.twin.role = .warming then
      { s with ckpt.fixWait := none, twin.warmLoad := none, fab.stby := if s.fab.stby.gen = m.gen then {} else s.fab.stby }
    else s
  else s

/-- The selector of a device in WARMING or WARM set from its partner's record: STATE, SEL and commands (R332). -/
def Sel.follow (x : Sel) (w : W64) (now : Nat) (left : Nat → Nat) : Sel :=
  let y := x.load w now left
  { x with st := y.st, sel := y.sel, lo := y.lo, fs := y.fs, ms := y.ms, wtrDue := y.wtrDue, wtrHit := false }

/-- A selector that follows its record of the partner (R332): a change of SEL is counted and stamped (Tables 5.8, 5.9). DESIGN
CHOICE (log entry 86): it raises no EV_PROT_SWITCH. -/
def followWrite (w : SlotWrite) (s : State) : State :=
  let t := (w.off - 0x2000000) / 8
  if 0x2000000 ≤ w.off ∧ t < 131072 then
    switched s t (s.modSel t (fun x => x.follow w.word s.time.rows (rowsUntil s)))
  else s

/-- SEL (R317, R332): both slots that hold a generation take the records, or slot X while a FULL is on its way. -/
def selIn (m : TwinMsg) (s : State) : State :=
  let ws := m.writes.filter (fun w => decide (0x2000000 ≤ w.off))
  let put := fun (sl : Slot) => if sl.st = .empty then sl else sl.writeAll ws
  let s := { s with ckpt.x := if s.twin.role = .syncing then s.ckpt.x.writeAll ws else put s.ckpt.x, ckpt.y := put s.ckpt.y }
  if (s.twin.role = .warm ∨ s.twin.role = .warming) ∧ s.twin.started.isSome = true then
    ws.foldl (fun s w => followWrite w s) s
  else s

/-- SYNC_END (R323): slot X in service, slot Y a FREE copy, ACK 0x02 and SLOT_FREE, and COLD at the row tick. -/
def syncEndIn (s : State) : State :=
  if s.twin.role = .syncing ∧ s.ckpt.fullGot = true ∧ s.ckpt.acked2 = false then
    let s := { s with ckpt.x := { s.ckpt.x with st := .inService }, ckpt.synced := true, ckpt.acked2 := true,
                      ckpt.ev := some (true, 1), ckpt.syncFrame := s.time.frame }
    pendRole .cold 7 (freeOther (sendTwin 0x7 s.genService 0 2 [] s))
  else s

/-- The copy of R327 has ended: a FREE slot, and SLOT_FREE from a standby. It waits while the checkpoint engine does not reach the store
(R19; log entry 116). -/
def refreshDone (s : State) : State :=
  match s.ckpt.promo with
  | some r =>
    if r + 3 ≤ s.time.rows ∧ s.reaches 3 [6] = true then freeOther { s with ckpt.promo := none, ckpt.before := none } else s
  | none => s

/-! ## Rows of the table -/

/-- A message that the reassembly has given, by its type, when its checks pass; discarded otherwise (R321). -/
def handleMsg (ws : List W64) (s : State) : State :=
  if msgGood ws then
    let m := readMsg ws
    match m.type with
    | 1 => if s.activeTwin && s.twin.certOk then fullReq s else s
    | 2 => if s.standbyTwin then onStore 2 (fullIn m) s else s
    | 3 => if s.standbyTwin then onStore 3 (deltaIn m) s else s
    | 4 => if s.standbyTwin then onStore 4 (fixIn m) s else s
    | 5 => if s.standbyTwin then onStore 5 (dropIn m) s else s
    | 6 => if s.standbyTwin then onStore 6 (selIn m) s else s
    | 7 => if s.activeTwin then ckptAck m s else s
    | 8 => if s.activeTwin then { s with ckpt.freeGen := some m.gen } else s
    | _ => if s.standbyTwin then onStore 9 syncEndIn s else s
  else discardMsg (fld (wd ws 0) 63 56) s

/-- The slot that the message in progress on the bulk stream is being written into is FILLING (R323, R325), where the checkpoint engine
reaches the store (R19). -/
def beginWrite (s : State) : State :=
  let b := s.ckpt.rxBulk
  if s.standbyTwin && decide (4 ≤ b.length) && headGood b && s.reaches 3 [6] then
    if fld (wd b 0) 63 56 = 2 ∧ s.twin.role = .syncing ∧ s.ckpt.acked2 = false then { s with ckpt.x.st := .filling }
    else if fld (wd b 0) 63 56 = 3 ∧ (s.twin.role.standsBy = true ∨ s.ckpt.acked2 = true) then openFree s
    else s
  else s

/-- Blocks that the twin lanes have brought (R500): every message that they end is handled as its header says, in the order in
which they end. Which of the ten rows brings the blocks makes no difference (log entry 87). -/
def twinBlocks (bs : List (List W64)) (s : State) : State :=
  if s.twinUp && !s.fnDown 3 then
    let r := takeBlocks bs s
    beginWrite (r.1.foldl (fun s ws => handleMsg ws s) r.2)
  else s

/-! ## The receiving twin lanes (R319) -/

/-- Places of a codeword: LF_COUNT modulo 65,536, 8,192 codewords in a lane frame. -/
def twinPlaces : Nat := 65536 * 8192

/-- A codeword received on a twin lane: decoded, its marker taken off, and descrambled with the seed of its lane frame
(R143, R144, R149, R150). -/
def TwinLane.take (h : Hunter) (first : Nat) (word : List Pam) (x : TwinLane) : TwinLane :=
  if !h.aligned then {}
  else
    let v := (rsDecode (turn h.inv (lineBits word))).info
    let put := fun (lf len v st : Nat) =>
      let m := scramble len st 0
      ({ on := true, lf := lf, scr := BitVec.ofNat 58 m.2,
         queue := x.queue ++ [{ place := 8192 * lf + first % 8192, len := len, bits := v ^^^ m.1 }] } : TwinLane)
    if first = 0 then put (fld h.cur 15 0) 4980 (v % 2 ^ 4980) h.seed.toNat
    else if x.on then put x.lf 5140 v x.scr.toNat
    else x

/-- The words of one place on all four lanes, dealt back: lanes 0, 1, 2 and 3 in turn. -/
def undeal (k len : Nat) (acc : List Nat) : List W64 :=
  (List.range k).flatMap (fun j => acc.map (fun a => BitVec.ofNat 64 (a >>> (len - 64 * (j + 1)))))

/-- Blocks of 256 words in a run, and the words behind them; `n` bounds their number. -/
def cutBlocks : Nat → List W64 → List (List W64) × List W64
  | 0, ws => ([], ws)
  | n + 1, ws =>
    if ws.length < 256 then ([], ws)
    else let r := cutBlocks n (ws.drop 256); (ws.take 256 :: r.1, r.2)

/-- One place of all four lanes taken in, and the blocks that it ends. Where the codewords before it are missing, blocks begin again in
the lane frame that begins. DESIGN CHOICE (log entry 114): how many bits of a block lie before that boundary is the operand `phase`. -/
def joinPlace (phase : Nat) (cs : List TwinBits) (s : State) : List (List W64) × State :=
  let p := (cs.head?.map (·.place)).getD 0
  let len := (cs.head?.map (·.len)).getD 0
  let t := s.twin
  let start := t.rxNext != some p
  if start && p % 8192 != 0 then ([], { s with twin.rxNext := none })
  else
    let acc := if start then [0, 0, 0, 0] else t.rxAcc
    let had := if start then 0 else t.rxLen
    let skip := if start then (4096 - phase % 4096) % 4096 else t.rxSkip
    let drop := min skip (had + len)
    let n := had + len - drop
    let acc := (List.range 4).map (fun i => (acc.getD i 0 * 2 ^ len + ((cs[i]?).map (·.bits)).getD 0) % 2 ^ n)
    let k := n / 64
    let words := (if start then [] else t.rxWords) ++ undeal k n acc
    let r := cutBlocks (words.length / 256) words
    (r.1, { s with twin.rxNext := some ((p + 1) % twinPlaces), twin.rxAcc := acc.map (fun a => a % 2 ^ (n - 64 * k)),
                   twin.rxLen := n - 64 * k, twin.rxSkip := skip - drop, twin.rxWords := r.2 })

/-- The four lanes aligned by LF_COUNT: codewords of one place are taken together, and one that another lane does not have is passed
over; `n` bounds the number of steps. -/
def joinLanes : Nat → Nat → State → List (List W64) × State
  | 0, _, s => ([], s)
  | n + 1, phase, s =>
    let heads := (List.range 4).filterMap (fun i => (kget {} s.twin.rxLanes i).queue.head?)
    if heads.length < 4 then ([], s)
    else
      let behind := fun (a b : Nat) => decide (a ≠ b ∧ (b + twinPlaces - a) % twinPlaces < twinPlaces / 2)
      let last := heads.foldl (fun m c => if behind m c.place then c.place else m) ((heads.head?.map (·.place)).getD 0)
      let same := heads.all (fun c => c.place == last)
      let s' := { s with twin.rxLanes := kmap {} (fun _ (x : TwinLane) =>
        if same || x.queue.head?.any (fun c => behind c.place last) then { x with queue := x.queue.drop 1 } else x) s.twin.rxLanes }
      let a := if same then joinPlace phase heads s' else ([], s')
      let r := joinLanes n phase a.2
      (a.1 ++ r.1, r.2)

/-- Codewords received on the twin lanes in a row, and the blocks that they end (R319, R500). -/
def twinReceive (rx : List TwinRx) (phase : Nat) (s : State) : State :=
  let s := (rx.filter (fun x => decide (x.lane < 4))).foldl (fun s x =>
    let l := (kget {} s.twin.rxLanes x.lane).take (kget {} s.twin.hunters x.lane) x.first x.word
    { s with twin.rxLanes := kset {} s.twin.rxLanes x.lane l }) s
  let r := joinLanes ((s.twin.rxLanes.map (fun e => e.2.queue.length)).foldl (· + ·) 0) phase s
  twinBlocks r.1 r.2

/-- Blocks that end a FULL_REQ (R322). -/
def execFullReq (blocks : List (List W64)) (s : State) : Res := .next (twinBlocks blocks s)

/-- Blocks that end a FULL (R323). -/
def execFull (blocks : List (List W64)) (s : State) : Res := .next (twinBlocks blocks s)

/-- Blocks that end a DELTA (R325). -/
def execDelta (blocks : List (List W64)) (s : State) : Res := .next (twinBlocks blocks s)

/-- Blocks that end a FIX (R326). -/
def execFix (blocks : List (List W64)) (s : State) : Res := .next (twinBlocks blocks s)

/-- Blocks that end a DROP (R328). -/
def execDrop (blocks : List (List W64)) (s : State) : Res := .next (twinBlocks blocks s)

/-- Blocks that end a SEL (R317). -/
def execSel (blocks : List (List W64)) (s : State) : Res := .next (twinBlocks blocks s)

/-- Blocks that end an ACK (R106). -/
def execCkptAck (blocks : List (List W64)) (s : State) : Res := .next (twinBlocks blocks s)

/-- Blocks that end a SLOT_FREE (R324). -/
def execSlotFree (blocks : List (List W64)) (s : State) : Res := .next (twinBlocks blocks s)

/-- Blocks that end a SYNC_END (R323). -/
def execSyncEnd (blocks : List (List W64)) (s : State) : Res := .next (twinBlocks blocks s)

/-- Blocks that end with a discarded message or block (R321). -/
def execTwinMessageBad (blocks : List (List W64)) (s : State) : Res := .next (twinBlocks blocks s)

def execDeltaShip (s : State) : Res := .next (if s.activeTwin then deltaShip s else s)

def execSlotRefreshDone (s : State) : Res := .next (refreshDone s)

def execMirrorCopyDone (s : State) : Res :=
  .next (if s.activeTwin && s.ckpt.mirror && s.twin.hand.isSome && s.serviceSlot.isNone && s.reaches 3 [0, 1, 6] then
    mirrorCopy s else s)

def execFullCopyEnd (s : State) : Res :=
  .next (match s.ckpt.sending with
    | some f => if s.activeTwin && s.reaches 3 [0, 1] then fullCopyEnd f s else s
    | none => s)

/-- The checkpoint status record (Table 12.8). -/
def ckptStatusWords (s : State) : List W64 :=
  let code := fun (x : SlotSt) => match x with
    | .empty => 0 | .filling => 1 | .committed => 2 | .inService => 3 | .free => 4
  let c := s.committed
  [pack [(2, 0, code s.ckpt.x.st), (5, 3, code s.ckpt.y.st), (6, 6, b2n s.ckpt.synced), (7, 7, b2n s.ckpt.peer),
         (8, 8, b2n s.revert), (9, 9, b2n s.lockout), (10, 10, b2n s.twin.hand.isSome), (63, 32, s.genService)],
   pack [(31, 0, (c.map (·.page.gen)).getD 0), (63, 32, s.ckpt.bad)],
   pack [(47, 0, (c.map (·.frame)).getD 0), (59, 48, secondsLeft s.twin.rwtrDue s.time.rows)],
   pack [(47, 0, s.ckpt.syncFrame), (63, 48, s.ckpt.fulls)]]

def execCkptStatus (s : State) : Res := onEngine 0x0710 (fun r s =>
  if !sizeOk r || noPair s then invalid r s else finish r stOk (ckptStatusWords s) s) s

end Sys2Proof.Machine
end

