-- ==== Sys2Proof/Machine/Keeper.lean ====
section
/-! DEFINITION. Chapter 11: the keeper of a device strapped KEEPER_ONLY (Table 11.9, R307 to R312). -/

namespace Sys2Proof.Machine

open Sys2Proof

/-- The device keeps a pair: start-up is complete and its role state is KEEPER, and it is admitted (R400). -/
def State.keeps (s : State) : Bool := s.ready && s.flight.admitted && s.twin.role == .keeper

/-- What the keeper knows of the twin on a port. -/
def State.kport (s : State) (port : Bool) : KPort := if port then s.keeper.p1 else s.keeper.p0

def State.setKport (s : State) (port : Bool) (k : KPort) : State :=
  if port then { s with keeper.p1 := k } else { s with keeper.p0 := k }

def State.modKport (s : State) (port : Bool) (f : KPort → KPort) : State := s.setKport port (f (s.kport port))

/-- Pair served and START_WAIT in rows (Table 11.11); 0 = 100 ms. -/
def kPair (s : State) : Nat := fld s.keeper.cfg 4 0
def kStartWait (s : State) : Nat := (if fld s.keeper.cfg 17 5 = 0 then 100 else fld s.keeper.cfg 17 5) * 2000

/-- A keeper frame (Tables 11.3, 11.5): CUR_TERM in TERM, FROM_KEEPER 1, SRC_ADDR 0. -/
def keeperSend (port : Bool) (type : Nat) (w1 w2 : W64) (s : State) : State :=
  let seq := if port then s.keeper.seq1 else s.keeper.seq0
  let s := watchOut port (mkWatch type 1 0 (kPair s) seq s.keeper.cur w1 w2 0) s
  if port then { s with keeper.seq1 := (seq + 1) % 256 } else { s with keeper.seq0 := (seq + 1) % 256 }

/-- HOLDER_VALID: HELD and LAPSED. -/
def holderValid (s : State) : Bool := s.keeper.st == .held || s.keeper.st == .lapsed

/-- Address of the holder. -/
def holderAddr (s : State) : Nat :=
  match s.keeper.holder with
  | some h => (s.kport h).addr
  | none => 0

/-- NOTICE to a twin; without a confirmed holder it names none. -/
def sendNotice (port : Bool) (s : State) : State :=
  keeperSend port 0x8 (pack [(5, 0, if holderValid s then holderAddr s else 0), (6, 6, b2n (holderValid s))]) 0 s

/-- HELLO on both ports. -/
def sendHello (s : State) : State :=
  keeperSend true 0x9 0 0 (keeperSend false 0x9 0 0 { s with keeper.helloRow := s.time.rows })

/-- QUERY to the twin that does not hold the term. -/
def sendQuery (s : State) : State :=
  match s.keeper.holder with
  | some h => keeperSend (!h) 0x4 (pack [(31, 0, s.keeper.cur)]) 0 { s with keeper.queryRow := s.time.rows }
  | none => s

/-- TAKE to the grantee. -/
def sendTake (s : State) : State :=
  match s.keeper.grantee with
  | some g =>
    keeperSend g 0x6 (pack [(31, 0, s.keeper.prev), (37, 32, (s.kport g).addr)]) 0 { s with keeper.takeSent := s.time.rows }
  | none => s

/-- HELD with a holder and a lease that starts now. -/
def kHeld (port : Bool) (term : Nat) (s : State) : State :=
  { s with keeper.st := .held, keeper.cur := term, keeper.holder := some port, keeper.grantee := none,
           keeper.leaseRow := some s.time.rows, keeper.lapsed := false, keeper.repeats := 0 }

/-- GRANTING: the next term above `base` is issued to a twin (R291); none above 0xFFFF_FFFF (R309). A twin whose identity check
failed gets none (R402). -/
def kGrant (port : Bool) (base : Nat) (s : State) : State :=
  if (s.kport port).certOk && decide (base < 0xFFFFFFFF) then
    sendTake { s with keeper.st := .granting, keeper.cur := base + 1, keeper.prev := base, keeper.grantee := some port,
                      keeper.repeats := 0, keeper.grants := inc16 s.keeper.grants }
  else s

/-- The highest term that either twin has reported. -/
def kTop (s : State) : Nat := max s.keeper.p0.topTerm s.keeper.p1.topTerm

/-- The lease has lapsed and the holder is lost: LAPSED, with a QUERY (R310). -/
def kLapse (s : State) : State :=
  match s.keeper.st, s.keeper.holder with
  | .held, some h =>
    if s.keeper.lapsed && (s.kport h).lost then sendQuery { s with keeper.st := .lapsed } else s
  | _, _ => s

/-- R295 at a keeper port: a type that a twin sends to its keeper, of the pair that it serves. -/
def kValid (f : WatchFrame) (s : State) : Bool :=
  watchSound f && [0x2, 0x5, 0x7, 0xA].contains f.type && f.pair == kPair s && !f.fromKeeper

/-- What every valid frame tells. -/
def KPort.hear (k : KPort) (f : WatchFrame) (now : Nat) : KPort :=
  let k := { k with seen := true, row := now, lost := false, term := f.term, topTerm := max k.topTerm f.term }
  if f.type = 0x2 then
    { k with statusRow := some now, addr := f.src, roleSt := fld f.w1 3 0, role := fld f.w1 5 4 }
  else k

/-- A twin that advertises ACTIVE with a term other than CUR_TERM (the last two rows of Table 11.9); true when one applied. -/
def kActive (port : Bool) (f : WatchFrame) (s : State) : State × Bool :=
  if (s.kport port).role ≠ 1 then (s, false)
  else if f.term < s.keeper.cur then (sendNotice port { s with keeper.stale := inc16 s.keeper.stale }, true)
  else if s.keeper.cur < f.term ∧ s.keeper.st ≠ .learning then
    let s := kHeld port f.term s
    (if f.type = 0x2 then sendNotice port s else s, true)
  else (s, false)

/-- STATUS: a renewal or a NOTICE. -/
def kStatus (port : Bool) (f : WatchFrame) (s : State) : State :=
  if bit f.w1 10 && holderValid s && s.keeper.holder == some port && f.term == s.keeper.cur then
    keeperSend port 0x3 (pack [(7, 0, f.seq)]) 0 (kHeld port s.keeper.cur s)
  else sendNotice port s

/-- ANSWER: the other twin is granted the next term. -/
def kAnswer (port : Bool) (f : WatchFrame) (s : State) : State :=
  if s.keeper.st = .lapsed ∧ bit f.w1 0 = true ∧ bit f.w1 1 = true ∧ fld f.w1 63 32 = s.keeper.cur then
    kGrant port s.keeper.cur s
  else s

/-- TAKEN: the grantee holds the term. -/
def kTaken (port : Bool) (f : WatchFrame) (s : State) : State :=
  if s.keeper.st = .granting ∧ s.keeper.grantee = some port ∧ f.term = s.keeper.cur then kHeld port s.keeper.cur s else s

/-- HANDOVER_REQ: a new term for the WARM partner of the holder, named on both ports; none above 0xFFFF_FFFF (R309). -/
def kHandover (port : Bool) (f : WatchFrame) (s : State) : State :=
  let o := s.kport (!port)
  if s.keeper.st = .held ∧ s.keeper.holder = some port ∧ f.term = s.keeper.cur ∧ o.statusRow.isSome = true ∧
      fld f.w2 5 0 = o.addr ∧ o.lost = false ∧ o.roleSt = 6 ∧ o.certOk = true ∧ s.keeper.cur < 0xFFFFFFFF then
    let s := kHeld (!port) (s.keeper.cur + 1) { s with keeper.grants := inc16 s.keeper.grants }
    let w1 := pack [(47, 0, fld f.w1 47 0)]
    let w2 := pack [(5, 0, o.addr)]
    keeperSend true 0xB w1 w2 (keeperSend false 0xB w1 w2 s)
  else s

/-- A frame at a keeper port (R307). -/
def keeperFrame (port : Bool) (f : WatchFrame) (s : State) : State :=
  if !s.keeps then s
  else if !kValid f s then { s with keeper.bad := inc16 s.keeper.bad }
  else
    let s := s.modKport port (fun k => k.hear f s.time.rows)
    match kActive port f s with
    | (s, true) => s
    | (s, false) =>
      match f.type with
      | 0x2 => kStatus port f s
      | 0x5 => kAnswer port f s
      | 0x7 => kTaken port f s
      | _ => kHandover port f s

/-- Frames that a twin sends to its keeper, at a twin: a type not listed for its direction (R295). -/
def toKeeper (port : Bool) (f : WatchFrame) (s : State) : State :=
  if s.keeps then keeperFrame port f s
  else if s.twinUp then { s with twin.bad := inc16 s.twin.bad } else s

def execStatus (port : Bool) (f : WatchFrame) (s : State) : Res := .next (toKeeper port f s)
def execAnswer (port : Bool) (f : WatchFrame) (s : State) : Res := .next (toKeeper port f s)
def execTaken (port : Bool) (f : WatchFrame) (s : State) : Res := .next (toKeeper port f s)
def execHandoverReq (port : Bool) (f : WatchFrame) (s : State) : Res := .next (toKeeper port f s)

/-! ## Time at the keeper -/

/-- LEARNING begins (Table 11.9, first row). -/
def keeperStart (s : State) : State :=
  let k : Keeper := { cfg := s.keeper.cfg, learnRow := s.time.rows, upRow := s.time.rows,
                      p0 := { row := s.time.rows, certOk := s.keeper.p0.certOk },
                      p1 := { row := s.time.rows, certOk := s.keeper.p1.certOk } }
  sendHello { s with keeper := k }

def execKeeperReset (s : State) : Res := .next (if s.keeps then keeperStart s else s)

/-- LEARNING ends after 1 ms (Table 11.9). -/
def keeperLearnt (s : State) : State :=
  let top := kTop s
  let act := fun (p : Bool) => (s.kport p).statusRow.isSome && (s.kport p).role == 1
  let has := fun (p : Bool) => act p && (s.kport p).term == top
  if has false then kHeld false top s
  else if has true then kHeld true top s
  else if act false then kGrant false top { s with keeper.st := .vacant, keeper.cur := top }
  else if act true then kGrant true top { s with keeper.st := .vacant, keeper.cur := top }
  else { s with keeper.st := .vacant, keeper.cur := top }

def execKeeperLearningEnd (s : State) : Res :=
  .next (if s.keeps && s.keeper.st == .learning && decide (s.keeper.learnRow + 2000 < s.time.rows) then keeperLearnt s else s)

def execKeeperHelloInterval (s : State) : Res :=
  .next (if s.keeps && s.keeper.st == .learning && decide (s.keeper.helloRow + 40 ≤ s.time.rows) then sendHello s else s)

/-- R310: 200 µs after the renewal. -/
def execKeeperLeaseLapse (s : State) : Res :=
  .next (match s.keeper.leaseRow with
    | some r =>
      if s.keeps && s.keeper.st == .held && !s.keeper.lapsed && decide (r + 400 < s.time.rows) then
        kLapse { s with keeper.lapsed := true }
      else s
    | none => s)

/-- R310: 80 µs without a valid frame. -/
def execKeeperTwinLost (port : Bool) (s : State) : Res :=
  .next (if s.keeps && !(s.kport port).lost && decide ((s.kport port).row + 160 < s.time.rows) then
    kLapse (s.modKport port (fun k => { k with lost := true })) else s)

def execKeeperQueryRepeat (s : State) : Res :=
  .next (if s.keeps && s.keeper.st == .lapsed && decide (s.keeper.queryRow + 40 < s.time.rows) then sendQuery s else s)

/-- 100 µs without TAKEN: the TAKE is repeated, or after the third repeat the grantee holds the term. -/
def execKeeperTakeRepeat (s : State) : Res :=
  .next (match s.keeper.grantee with
    | some g =>
      if s.keeps && s.keeper.st == .granting && decide (s.keeper.takeSent + 200 < s.time.rows) then
        if s.keeper.repeats < 3 then sendTake { s with keeper.repeats := s.keeper.repeats + 1 }
        else kHeld g s.keeper.cur s
      else s
    | none => s)

/-- R308: the twin qualifies for a grant. -/
def kQualifies (port : Bool) (s : State) : Bool :=
  let x := s.kport port
  let o := s.kport (!port)
  (match x.statusRow with
    | some r => decide (s.time.rows ≤ r + 160)
    | none => false) && [0, 4, 5, 6].contains x.roleSt && x.certOk &&
  (o.lost || (o.statusRow.isSome && o.role != 1))

/-- Whether the primary qualifies is kept at every row tick (R308). -/
def keeperTick (s : State) : State :=
  if s.keeps && kQualifies false s then s.modKport false (fun k => { k with qualRow := some s.time.rows }) else s

/-- R308: the primary when it qualifies; the secondary once the primary has not qualified for START_WAIT. -/
def keeperGrant (s : State) : State :=
  if kQualifies false s then kGrant false s.keeper.cur s
  else if kQualifies true s && decide (max s.keeper.upRow (s.keeper.p0.qualRow.getD 0) + kStartWait s < s.time.rows) then
    kGrant true s.keeper.cur s
  else s

def execKeeperGrant (s : State) : Res := .next (if s.keeps && s.keeper.st == .vacant then keeperGrant s else s)

/-- The keeper status record (Table 11.14); R314. -/
def keeperStatusWords (s : State) : List W64 :=
  let code := match s.keeper.st with
    | .learning => 0 | .vacant => 1 | .held => 2 | .lapsed => 3 | .granting => 4
  [pack [(2, 0, code), (3, 3, b2n (holderValid s)), (9, 4, holderAddr s), (10, 10, b2n (s.keeps && !s.keeper.p0.lost)),
         (11, 11, b2n (s.keeps && !s.keeper.p1.lost)), (63, 32, s.keeper.cur)],
   pack [(15, 0, s.keeper.stale), (31, 16, s.keeper.bad), (47, 32, s.keeper.grants)]]

def execKeeperStatus (s : State) : Res := onEngine 0x0703 (fun r s =>
  if !sizeOk r || !s.boot.straps.keeperOnly then invalid r s else finish r stOk (keeperStatusWords s) s) s

end Sys2Proof.Machine
end

