-- ==== Sys2Proof/Machine/Tow.lean ====
section
/-! DEFINITION. Chapter 14: the towpath ring, routes, timing distribution, members, admission and identity. -/

namespace Sys2Proof.Machine

open Sys2Proof

/-- The towpath runs from PHASE on (Table 18.6), in FAILED as in the state that failed (R473), while TOW is not re-initialising (Table 17.1). -/
def State.towUp (s : State) : Bool :=
  (s.pinStage == .phase || s.pinStage == .services || s.pinStage == .ready) && !s.fnDown 2

/-- The other port. -/
def otherSide : Side → Side
  | .a => .b
  | .b => .a

/-! ## Receiving a packet (R383, R384, R387) -/

/-- Types that are never forwarded (Table 14.3). -/
def hopLocal (type : Nat) : Bool := type == 2 || type == 3 || type == 4

/-- A discarded packet (R383), counted for the device and for the member that sent it (Table 14.9). -/
def towBad (src : Nat) (s : State) : State :=
  { s with flight.towBad := inc16 s.flight.towBad }.modMember src (fun m => { m with towBad := inc16 m.towBad })

/-- ACK of a CONTROL or BULK packet (R387). DESIGN CHOICE (log entry 105): bit 33 tells that the write of a DMA_WR has failed. -/
def ackPacket (p : TowPkt) (s : State) : State :=
  let bad := p.type == 0xD && s.flight.wrBad.contains (p.src, p.tseq)
  towSend 0xA p.src [pack [(31, 0, p.tseq), (32, 32, towClass p.type - 1), (33, 33, b2n bad)]] s

/-- The gateway has deleted a queue: its commands that have not been started are withdrawn without a reply, and its sequence states and
cached results are discarded (R355; log entry 104). -/
def queueGone (q src : Nat) (s : State) : State :=
  let mine : Work → Bool := fun w => decide (w.key.q = q ∧ w.key.gw = some src)
  refill { s with
    host.work := s.host.work.filter (fun w => !mine w), host.staging := s.host.staging.filter (fun w => !mine w),
    host.dups := s.host.dups.filter (fun w => !mine w), host.seq := s.host.seq.filter (fun e => e.1 / 1024 != q) }

/-- A command that the gateway has sent to this member; one that was withdrawn brings nothing (log entry 104). -/
def cmdIn (p : TowPkt) (priv : Nat) (s : State) : State :=
  let c : Cmd := { w0 := wd p.payload 0, w1 := wd p.payload 1, w2 := wd p.payload 2, w3 := wd p.payload 3,
                   params := p.payload.drop 4 }
  if p.payload.isEmpty then s
  else if p.payload.length = 1 then queueGone c.queue p.src s
  else arrive { key := { q := c.queue, session := c.session, seq := c.seq, gw := some p.src, priv := priv }, cmd := c } s

/-- R389: the gateway reads host memory for a member; a read that fails, or cannot be made since the endpoint does not answer, is answered
without data (log entry 105). -/
def dmaRdIn (p : TowPkt) (data : Option (List W64)) (s : State) : State :=
  let data := if s.hostUp then data.getD [] else []
  towSend 0xC p.src (data.take (ceilDiv (wd p.payload 1).toNat 8)) s

/-- R389: the data of the oldest DMA_RD that is not answered; fewer than it asked for fail the read. -/
def dmaDataIn (p : TowPkt) (s : State) : State :=
  let f := fun (j : DmaJob) => { j with asked := j.asked.drop 1, got := j.got ++ p.payload,
                                        failed := j.failed || j.asked.head? != some p.payload.length }
  { s with host.dma := modFirst (fun j => !j.asked.isEmpty) f s.host.dma }

/-- The series of a packet, by its source and class (R387). -/
def towSeries (p : TowPkt) : Nat := 2 * p.src + (towClass p.type - 1)

/-- Every packet of this source and class from the first of the series up to this one has been consumed (R387). -/
def inTurn (p : TowPkt) (s : State) : Bool :=
  let base := kget 1 s.flight.rxBase (towSeries p)
  (List.range (p.tseq - base)).all (fun i => s.flight.rxSeq.contains (p.src, towClass p.type, base + i))

/-- A packet put among those that wait, by its number. -/
def holdIn (h : HeldPkt) : List HeldPkt → List HeldPkt
  | [] => [h]
  | x :: xs => if x.pkt.tseq ≤ h.pkt.tseq then x :: holdIn h xs else h :: x :: xs

/-- A held packet is taken. -/
def takeHeld (h : HeldPkt) (s : State) : State :=
  match h.pkt.type with
  | 7 => cmdIn h.pkt h.priv s
  | 0xB => dmaRdIn h.pkt h.data s
  | _ => dmaDataIn h.pkt s

/-- Held packets whose turn has come are taken in the order of their numbers, so that commands start in queue order (R361) and
data come in the order of their DMA_RD. DESIGN CHOICE (log entry 105). -/
def releaseHeld (s : State) : State :=
  let now : HeldPkt → Bool := fun h => inTurn h.pkt s
  (s.flight.rxHold.filter now).foldl (fun s h => takeHeld h s)
    { s with flight.rxHold := s.flight.rxHold.filter (fun h => !now h) }

/-- A packet whose order counts waits for its turn. -/
def hold (p : TowPkt) (priv : Nat) (data : Option (List W64)) (s : State) : State :=
  { s with flight.rxHold := holdIn { pkt := p, priv := priv, data := data, row := s.time.rows } s.flight.rxHold }

/-- A packet has waited for 16 frames, the time after which a member counts as unreachable (R388): what came before it in its series is no
longer awaited, since a device that has been reset does not know the numbers already used. DESIGN CHOICE (log entry 105): the series
then counts from the lowest number that waits. -/
def heldTick (s : State) : State :=
  let late := s.flight.rxHold.filter (fun h => decide (h.row + 4000 < s.time.rows))
  if late.isEmpty then s
  else
    let low := fun (h : HeldPkt) =>
      ((s.flight.rxHold.filter (fun x => towSeries x.pkt == towSeries h.pkt)).map (·.pkt.tseq)).foldl min h.pkt.tseq
    releaseHeld { s with flight.rxBase := late.foldl (fun b h => kset 1 b (towSeries h.pkt) (low h)) s.flight.rxBase }

/-- The packet is consumed: acknowledged when it is numbered, and each number once (R387). -/
def consume (p : TowPkt) (f : State → State) (s : State) : State :=
  if towClass p.type = 0 ∨ p.all = true ∨ p.type = 0xA then f s
  else
    let k := (p.src, towClass p.type, p.tseq)
    let s := ackPacket p s
    if s.flight.rxSeq.contains k then s else releaseHeld (f { s with flight.rxSeq := k :: s.flight.rxSeq })

/-- The buffer of a packet that came by this port is free (R385); a SYNC-class packet takes no credits. -/
def freeBuffer (p : TowPkt) (side : Side) (s : State) : State :=
  if towClass p.type = 0 then s else creditBack p (some side) s

/-- A packet that a port receives (R383, R384, R385): discarded for another FLIGHT_ID, consumed, forwarded as `fwd` says it
is changed on the way. Its buffer is free once it has been consumed or has left. -/
def receive (type : Nat) (side : Side) (p : TowPkt) (fwd : TowPkt → TowPkt) (f : State → State) (s : State) : State :=
  if p.type ≠ type ∨ !s.towUp ∨ !(s.port side).up then s
  else if p.flight ≠ s.flightId then freeBuffer p side (towBad p.src s)
  else
    let own := s.flight.addressed && p.src == s.flight.addr
    let mine := hopLocal type || p.all || (s.flight.addressed && p.dst == s.flight.addr)
    let on := !hopLocal type && (if p.all then !own && p.hops != 63 else !mine)
    let back := if towClass type = 0 then none else some side
    let s := if mine then consume p f s else s
    if on then portForward (otherSide side) { fwd p with hops := (p.hops + 1) % 64 } back s
    else if mine || own then freeBuffer p side s else s

/-! ## Members and routes (R378 to R381, R386, R388) -/

/-- EV_MEMBER for a member at the next row tick (R403): DETAIL 1 joined, 2 unreachable, 3 reachable again. -/
def memberEvent (a detail : Nat) (s : State) : State :=
  { s with flight.memEv := s.flight.memEv.filter (fun e => e.1 != a) ++ [(a, detail)] }

/-- The device is the timing source of its flight. -/
def State.timing (s : State) : Bool := s.flight.addressed && (s.flight.addr == s.timeSrc || s.flight.backup)

/-- Word 0 [6:0] of a member record (Table 14.9), which CHANGE_FRAME follows; the device's own shows what it knows of itself. -/
def memberFlags (a : Nat) (s : State) : List (Nat × Nat × Nat) :=
  let m := s.member a
  let own := s.flight.addressed && a == s.flight.addr
  [(0, 0, b2n (m.present || own)), (1, 1, b2n ((m.present || own) && s.reachable a)),
   (2, 2, b2n (if own then s.flight.admitted else m.admitted)), (3, 3, b2n m.certOk),
   (4, 4, b2n (if own then s.isGateway else m.gateway)), (5, 5, b2n (if own then s.timing else m.timeSrc)),
   (6, 6, b2n m.conflict)]

/-- CHANGE_FRAME of a member after a step. -/
def stampMember (before : State) (a : Nat) (s : State) : State :=
  if memberFlags a before = memberFlags a s then s else s.modMember a (fun m => { m with change := s.time.frame })

/-- Events that waited for a route to the gateway are sent (R388). -/
def flushEvents (s : State) : State :=
  match s.gatewayAddr with
  | some g =>
    if !s.isGateway && s.flight.addressed && (s.member g).routed then
      s.host.memPend.foldl (fun s r => towSend 0x9 g r.words s) { s with host.memPend := [] }
    else s
  | none => s

/-- Outstanding commands of a member that the gateway cannot reach are completed (R368, R388), broadcasts among them (R397). -/
def dropMember (a : Nat) (s : State) : State :=
  let gone := s.host.fwd.filter (fun f => f.dst == a)
  gone.foldl (fun s f =>
      let r : Reply := { opcode := f.opcode, seq := f.key.seq, q := f.key.q, status := stUnreachable, frame := s.time.frame,
                         row := s.time.row, device := a, cached := false, session := f.key.session, words := [],
                         holder := none }
      gatewayReply r s)
    { s with host.fwd := s.host.fwd.filter (fun f => f.dst != a) }

/-- A member of lower address that advertises GATEWAY 1 and has a route (R378). -/
def lowerGateway (s : State) : Option Nat :=
  (s.flight.members.find? (fun e => decide (e.1 < s.flight.addr) && e.2.gateway && e.2.routed)).map (·.1)

/-- The endpoint is enabled only while no lower gateway is known (R378). -/
def gatewayRule (s : State) : State :=
  match lowerGateway s with
  | some a =>
    if s.gatewayFlag && !s.flight.gwConflict then
      raise 0x0804 [pack [(5, 0, a), (9, 8, 2)]] (functionReset { s with flight.gwConflict := true })
    else s
  | none => { s with flight.gwConflict := false }

/-- What a MEMBER packet tells of its sender (R386, R380). `side` is the port it arrived on. -/
def Member.learn (m : Member) (side : Side) (p : TowPkt) (now : Nat) : Member :=
  let w := wd p.payload 0
  let uid := BitVec.ofNat 128 ((wd p.payload 1).toNat + 2 ^ 64 * (wd p.payload 2).toNat)
  let twice := m.present && m.routed && uid != m.uid
  let m := { m with present := true, admitted := bit w 2, gateway := bit w 4, timeSrc := bit w 5, uid := uid,
                    conflict := twice || (m.conflict && decide (now ≤ m.conflictRow + 1000)),
                    conflictRow := if twice then now else m.conflictRow, down := false, lostAt := none }
  match side with
  | .b => { m with hopsB := some (p.hops + 1), rowB := now }
  | .a => { m with hopsA := some (p.hops + 1), rowA := now }

/-- A DELAY_REQ on one port (R392); an unaddressed device originates none (R379). -/
def delayAsk (sd : Side) (s : State) : State :=
  if s.flight.addressed then
    portSend sd { type := 3, dst := 0, src := s.flight.addr, all := false, dir := sd == .b, hops := 0, tseq := 0,
                  flight := s.flightId, payload := [] } s
  else s

/-- The device takes its address (R379), asks for the delays of its links and returns what it owes (log entry 29). -/
def takeAddress (a : Nat) (s : State) : State :=
  let s := { s with flight.addr := a, flight.addressed := true }
  payCredits .b (payCredits .a (delayAsk .b (delayAsk .a s)))

/-- A MEMBER of another device. -/
def memberIn (side : Side) (p : TowPkt) (s : State) : State :=
  let before := s
  let old := s.member p.src
  let s := s.modMember p.src (fun m => m.learn side p s.time.rows)
  let s := if old.present = false then memberEvent p.src 1 s else if old.down then memberEvent p.src 3 s else s
  let s := if (s.member p.src).conflict && !old.conflict then dropMember p.src s else s
  let s := if s.enumerated && !s.flight.addressed && !s.flight.noAddr && !s.gatewayFlag && side == .b && bit (wd p.payload 0) 4
    then takeAddress (p.hops + 1) s else s
  flushEvents (gatewayRule (stampMember before p.src s))

/-- Own address advertised by a device with another UID (R380). -/
def ownAddressSeen (p : TowPkt) (s : State) : State :=
  let uid := BitVec.ofNat 128 ((wd p.payload 1).toNat + 2 ^ 64 * (wd p.payload 2).toNat)
  if uid = s.boot.uid then s
  else
    let new := !(s.member p.src).conflict
    let s := stampMember s p.src (s.modMember p.src (fun m => { m with conflict := true, conflictRow := s.time.rows }))
    if new then raise 0x0804 [pack [(5, 0, p.src), (9, 8, 1)]] s else s

def memberPacket (side : Side) (p : TowPkt) (s : State) : State :=
  if s.flight.addressed ∧ p.src = s.flight.addr then ownAddressSeen p s else memberIn side p s

/-- Word 0 of an own MEMBER packet, and the UID (Table 14.3). -/
def ownMember (s : State) : List W64 :=
  [pack [(2, 2, b2n s.flight.admitted), (4, 4, b2n s.isGateway),
         (5, 5, b2n (s.flight.addressed && (s.flight.addr == s.timeSrc || s.flight.backup)))],
   w64 s.boot.uid.toNat, w64 (s.boot.uid.toNat / 2 ^ 64)]

/-- MEMBER_SEND at the row 125 tick (R386). -/
def memberSend (s : State) : State := if s.towUp && s.time.row == 125 then towSendAll 0x6 (ownMember s) s else s

/-- Members counted as reachable, the gateway included (R381, R388). -/
def reachCount (s : State) : Nat := s.reachables.length

/-- MEMBERS of the FLIGHT record; 0 = not checked. -/
def membersExpected (s : State) : Nat := if s.flight.hasRec then fld s.flight.cfg 21 15 else 0

/-- MEMBER_COUNT_COMPARE at the row 0 tick (R381). -/
def countMembers (s : State) : State :=
  if s.ready && s.isGateway && s.time.row == 0 && membersExpected s != 0 &&
      decide (s.flight.readyRow + 2000000 ≤ s.time.rows) then
    let n := reachCount s
    let bad := n != membersExpected s
    let run := if bad != s.flight.mcBad then s.flight.mcRun + 1 else 0
    if 16 ≤ run then
      raise 0x0808 [pack [(6, 0, n), (14, 8, membersExpected s), (16, 16, b2n bad)]]
        { s with flight.mcRun := 0, flight.mcBad := bad }
    else { s with flight.mcRun := run }
  else s

/-- CHANGE_FRAME of the device's own record. -/
def ownRecord (s : State) : State :=
  let w := (pack (memberFlags s.flight.addr s)).toNat
  if !s.flight.addressed || w == s.flight.ownShown then s
  else { s.modMember s.flight.addr (fun m => { m with change := s.time.frame }) with flight.ownShown := w }

/-- EV_MEMBER, one per row tick (R403), conflicts whose second device has left (R380), and the device's own record. -/
def memberTick (s : State) : State :=
  let es := s.flight.memEv
  let s := { s with flight.memEv := [],
                    flight.members := kmap {} (fun _ (m : Member) =>
                      if m.conflict && decide (m.conflictRow + 1000 < s.time.rows) then
                        { m with conflict := false, change := s.time.frame }
                      else m) s.flight.members }
  let s := ownRecord s
  match es with
  | [] => s
  | e :: _ =>
    if s.isGateway then
      let low := es.foldl (fun (x y : Nat × Nat) => if y.1 < x.1 then y else x) e
      raiseSummary 0x0802 (es.map (·.1)) low.2 0 s
    else s

/-! ## Timing distribution (R390 to R395) -/

def backupAddr (s : State) : Nat := fld s.flight.cfg 13 8
def backupValid (s : State) : Bool := s.flight.hasRec && bit s.flight.cfg 14

/-- A member may send SYNC: TIME_SRC, or the backup once 64 frames have passed without a SYNC from TIME_SRC (R390). -/
def rightSource (a : Nat) (s : State) : Bool :=
  a == s.timeSrc ||
  (backupValid s && a == backupAddr s && match s.flight.srcRow with
    | some r => decide (r + 16000 < s.time.rows)
    | none => true)

/-- SYNC_SEND at the row 0 tick of every frame (R390). The moment of departure, 100 ns to 1 µs after the tick, is the part's:
a free value in that range, in 1/16 ps. -/
def syncSend (s : State) : State :=
  if s.timing && s.time.row == 0 && (s.boot.st == .services || s.boot.st == .ready) then
    let c := 1600000 + (Config.freeWord64 s.free).toNat % 14400001
    let q := advQl s
    towSendAll 0x1
      [pack [(47, 0, s.time.frame), (48, 48, b2n s.time.anchored), (51, 49, s.f.state.code)],
       pack [(63, 60, q.1), (59, 52, q.2), (15, 0, s.time.realignGen)], pack [(47, 0, c)], 0]
      { s with free := s.free + 1 }
  else s

/-- DELAY_REQ on both ports once per 8,000 frames of rows, counted from the start of the towpath (R392); a port that comes up
asks at once (log entry 29). -/
def delaySend (s : State) : State :=
  if s.towUp && decide (s.flight.towRow < s.time.rows) && (s.time.rows - s.flight.towRow) % 2000000 == 0 then
    delayAsk .b (delayAsk .a s)
  else s

/-- The SYNC as it is forwarded: the incoming link's delay and the residence time join CORRECTION (R392). -/
def syncForward (delay residence : Nat) (p : TowPkt) : TowPkt :=
  let c := fld (wd p.payload 2) 47 0 + 16 * (delay + residence)
  { p with payload := p.payload.mapIdx (fun i w => if i = 2 then pack [(47, 0, c)] else w) }

/-- Time from the row 0 tick of the SYNC's frame to its arrival, by the sender's clock, in ps. -/
def syncAge (delay : Nat) (p : TowPkt) : Int := (delay : Int) + quot (fld (wd p.payload 2) 47 0) 16

/-- No SYNC has come for 4 frames in the direction in use (R393). -/
def dirLapsed (s : State) : Bool := decide ((s.flight.syncRow.getD 0) + 1000 < s.time.rows)

/-- The direction in use after a SYNC (R393). It changes only after 4 frames without a SYNC in it; the choice is then open until the
next row 0 tick. -/
def nextDir (dirB : Bool) (s : State) : Option Bool :=
  match s.flight.syncDir with
  | none => none
  | some d => if d ≠ dirB ∧ dirLapsed s = true then none else some d

/-- The SYNC of fewer hops, direction A when equal (R393). -/
def bestSync : List SyncSeen → Option SyncSeen
  | [] => none
  | x :: xs => match bestSync xs with
    | none => some x
    | some y => if x.hops < y.hops ∨ (x.hops = y.hops ∧ x.dirB = false) then some x else some y

/-- At the row 0 tick an open choice of direction is made among the SYNC registered since it opened, and the frame's sample is
taken (R393; log entry 106). -/
def fixDir (s : State) : State :=
  if s.flight.syncDir.isSome || s.time.row != 0 || s.time.frame == 0 then s
  else match bestSync s.flight.syncSeen with
    | some x =>
      let s := { s with flight.syncDir := some x.dirB }
      if s.f.selected = some 24 then samplePhase x.sample s else s
    | none => s

/-- EV_FLIGHT_FRAME (R395). -/
def flightFrame (frame : Nat) (s : State) : State :=
  let bad := frame != s.time.frame
  if s.time.frame != 0 && bad != s.flight.differs then
    raise 0x0805 [w64 (b2n bad), pack [(47, 0, s.time.frame)], pack [(47, 0, frame)]] { s with flight.differs := bad }
  else s

/-- Input 24 is inactive from now on (R232, R394). -/
def dropSync (s : State) : State :=
  State.modInput { s with flight.syncOk := false } 24 (fun (i : Input) =>
    if i.q = .off ∨ (i.actNew.getD i.active) = false then i else { i with actNew := some false, dirtySec := true })

/-- Input 24 is active by the SYNC registered (R232, R394): the count came from the flight, the device is not the timing source
itself, and in the last 8 frames no SYNC came from another member than the timing source (log entry 106). -/
def syncActive (s : State) : Bool :=
  s.flight.counted && s.flight.addr != s.timeSrc && !s.flight.backup &&
    !s.flight.alien.any (fun r => decide (s.time.rows ≤ r + 2000))

/-- A SYNC from the timing source (R391, R393, R235, R239). -/
def syncUse (side : Side) (p : TowPkt) (arrival : Nat) (s : State) : State :=
  let w0 := wd p.payload 0
  let w1 := wd p.payload 1
  let age := syncAge (s.port side).delay p
  let x : SyncSeen := { dirB := p.dir, frame := fld w0 47 0, sample := (arrival : Int) - age, src := p.src, hops := p.hops }
  let d := nextDir p.dir s
  let kept := s.flight.syncSeen.filter (fun y => y.dirB != p.dir && (d.isSome || s.flight.syncDir.isNone))
  let used := d = some p.dir
  let first : SyncFirst := { frame := fld w0 47 0, row := s.time.rows, ps := age.toNat, anchored := bit w0 48 }
  let s := { s with
    flight.syncDir := d, flight.syncSeen := x :: kept,
    flight.srcAnchored := bit w0 48, flight.syncOk := syncActive s,
    flight.syncRow := if used ∨ d = none then some s.time.rows else s.flight.syncRow,
    flight.firstSync := if s.boot.st = .phase then some (s.flight.firstSync.getD first) else s.flight.firstSync }
  let s := qlMessage 24 (fld w1 63 60) (fld w1 59 52) s
  let s := flightFrame (fld w0 47 0) s
  if used ∧ s.f.selected = some 24 then samplePhase x.sample s else s

/-- SYNC registered. -/
def syncIn (side : Side) (p : TowPkt) (arrival : Nat) (s : State) : State :=
  if s.flight.addressed ∧ p.src = s.flight.addr then s
  else
    let s := if p.src = s.timeSrc then { s with flight.srcRow := some s.time.rows, flight.backEnd := s.flight.backup } else s
    if rightSource p.src s then syncUse side p arrival s
    else dropSync { s with flight.alien := some s.time.rows }

/-- The backup stops being the timing source in the row after it has registered a SYNC from TIME_SRC (R390). -/
def backupTick (s : State) : State :=
  if s.flight.backEnd then
    let s := { s with flight.backup := false, flight.backEnd := false }
    { s with flight.syncOk := syncActive s }
  else s

/-! ## Rows of the table -/

def execTowSync (side : Side) (p : TowPkt) (arrival residence : Nat) (s : State) : Res :=
  .next (receive 1 side p (syncForward (s.port side).delay residence) (syncIn side p arrival) s)

/-- R385: credits come back, and what waited for them leaves. -/
def creditIn (side : Side) (p : TowPkt) (s : State) : State :=
  let q := s.port side
  portDrain side (s.setPort side
    { q with ctl := min 256 (q.ctl + p.tseq % 1024), bulk := min 512 (q.bulk + p.tseq / 65536 % 1024) })

def execCredit (side : Side) (p : TowPkt) (s : State) : Res := .next (receive 2 side p id (creditIn side p) s)

/-- R392: answered on the port it came by, with the turnaround; an unaddressed device originates nothing (R379). -/
def delayReqIn (side : Side) (turnaround : Nat) (s : State) : State :=
  if s.flight.addressed then
    portSend side { type := 4, dst := 0, src := s.flight.addr, all := false, dir := side == .b, hops := 0, tseq := 0,
                    flight := s.flightId, payload := [w64 turnaround] } s
  else s

def execDelayReq (side : Side) (p : TowPkt) (turnaround : Nat) (s : State) : Res :=
  .next (receive 3 side p id (delayReqIn side turnaround) s)

/-- R392: half of the round trip less the turnaround. -/
def delayRespIn (side : Side) (p : TowPkt) (roundTrip : Nat) (s : State) : State :=
  s.setPort side { s.port side with delay := (quot ((roundTrip : Int) - (wd p.payload 0).toNat) 2).toNat }

def execDelayResp (side : Side) (p : TowPkt) (roundTrip : Nat) (s : State) : Res :=
  .next (receive 4 side p id (delayRespIn side p roundTrip) s)

/-- R398: the gateway's COMMIT, or a member's report to the gateway that it has started (log entry 23). -/
def commitIn (p : TowPkt) (s : State) : State :=
  let k := fld (wd p.payload 0) 47 0
  if p.all = false then
    if s.isGateway ∧ s.flight.starts.contains (p.src, k) = false then { s with flight.starts := s.flight.starts ++ [(p.src, k)] } else s
  else if (s.flight.addressed ∧ p.src = s.flight.addr) ∨ s.flight.commits.contains k = true then s
  else { s with flight.commits := s.flight.commits ++ [k] }

def execCommit (side : Side) (p : TowPkt) (s : State) : Res := .next (receive 5 side p id (commitIn p) s)

def execMember (side : Side) (p : TowPkt) (s : State) : Res := .next (receive 6 side p id (memberPacket side p) s)

def execCmd (side : Side) (p : CmdPkt) (s : State) : Res := .next (receive 7 side p.pkt id (hold p.pkt p.priv none) s)

/-- A reply for an outstanding command; one for no outstanding command is discarded (R388). -/
def replyIn (p : TowPkt) (s : State) : State :=
  let r := replyOfWords p.payload
  let k : Key := { q := r.q, session := r.session, seq := r.seq }
  let hit : Fwd → Bool := fun f => decide (f.key = k) && f.dst == p.src
  if s.isGateway && s.host.fwd.any hit then gatewayReply r { s with host.fwd := dropFirst hit s.host.fwd } else s

def execReply (side : Side) (p : TowPkt) (s : State) : Res := .next (receive 8 side p id (replyIn p) s)

/-- An event record from a member. -/
def eventOf (ws : List W64) : EvRec :=
  { code := fld (wd ws 0) 23 8, device := fld (wd ws 0) 29 24, seq := fld (wd ws 0) 63 32, frame := fld (wd ws 1) 47 0,
    row := fld (wd ws 1) 55 48, lastFrame := fld (wd ws 2) 47 0, lastRow := fld (wd ws 1) 63 56,
    merged := fld (wd ws 2) 63 48, term := fld (wd ws 3) 31 0, payload := (ws.drop 4).take 4 }

def eventIn (p : TowPkt) (s : State) : State := if s.isGateway then deliverEvent (eventOf p.payload) s else s

def execEvent (side : Side) (p : TowPkt) (s : State) : Res := .next (receive 9 side p id (eventIn p) s)

/-- The packet that an ACK names. -/
def Unacked.named (u : Unacked) (p : TowPkt) : Bool :=
  u.pkt.dst == p.src && u.pkt.tseq == fld (wd p.payload 0) 31 0 && towClass u.pkt.type - 1 == b2n (bit (wd p.payload 0) 32)

/-- The ACK of a DMA_WR: its write has been made, or has failed (R389; log entry 105). -/
def WrJob.acked (p : TowPkt) (j : WrJob) : WrJob :=
  let n := fld (wd p.payload 0) 31 0
  if j.gw = p.src ∧ bit (wd p.payload 0) 32 = true ∧ j.asked.contains n = true then
    { j with asked := j.asked.filter (· ≠ n), failed := j.failed || bit (wd p.payload 0) 33 }
  else j

/-- R387; the acknowledged reply of a RECOVER lets its step begin (R452), and a DMA_WR has been carried out (R389). -/
def ackIn (p : TowPkt) (s : State) : State :=
  match s.flight.unacked.find? (fun u => u.named p) with
  | some u =>
    let s := { s with host.wr := s.host.wr.map (WrJob.acked p) }
    let s := { s with flight.unacked := dropFirst (fun u => u.named p) s.flight.unacked }
    match s.rcv.step with
    | some st =>
      let r := replyOfWords u.pkt.payload
      if u.pkt.type = 8 ∧ st.begun = false ∧
          st.key.any (fun k => decide (k.q = r.q ∧ k.session = r.session ∧ k.seq = r.seq ∧ k.gw = some u.pkt.dst)) = true then
        { s with rcv.step := some { st with go := true } }
      else s
    | none => s
  | none => s

def execTowAck (side : Side) (p : TowPkt) (s : State) : Res := .next (receive 0xA side p id (ackIn p) s)

def execDmaRd (side : Side) (p : TowPkt) (data : Option (List W64)) (s : State) : Res :=
  .next (receive 0xB side p id (hold p 0 data) s)

def execDmaData (side : Side) (p : TowPkt) (s : State) : Res := .next (receive 0xC side p id (hold p 0 none) s)

/-- R389: the gateway writes host memory for a member. After a write that fails the contents are undefined (R345). -/
def dmaWrIn (p : TowPkt) (s : State) : State :=
  let a := (wd p.payload 0).toNat
  let ws := p.payload.drop 1
  if !s.hostUp then s
  else if s.flight.wrBad.contains (p.src, p.tseq) then bufUndefined a (8 * ws.length) s
  else bufWrite a ws s

/-- A DMA_WR that this device is about to consume and cannot carry out: the endpoint does not answer, or the write fails (R389). It is
remembered, so that every ACK of the packet tells it (log entry 105). -/
def dmaWrBad (side : Side) (p : DmaWrPkt) (s : State) : State :=
  let x := p.pkt
  if x.type = 0xD ∧ s.towUp = true ∧ (s.port side).up = true ∧ x.flight = s.flightId ∧ x.all = false ∧ s.flight.addressed = true ∧
      x.dst = s.flight.addr ∧ s.flight.rxSeq.contains (x.src, 2, x.tseq) = false ∧ (p.ok && s.hostUp) = false then
    { s with flight.wrBad := (x.src, x.tseq) :: s.flight.wrBad }
  else s

def execDmaWr (side : Side) (p : DmaWrPkt) (s : State) : Res :=
  .next (receive 0xD side p.pkt id (dmaWrIn p.pkt) (dmaWrBad side p s))

/-- What a right header says of a packet that is discarded: its type and its length, which fix the credits that it took (R385). With a
wrong HCRC, or for an unknown TYPE, no class is known (log entry 107). -/
def discarded (bytes : List (BitVec 8)) : Option TowPkt :=
  let w0 := w64 (ofBeBytes (bytes.take 8))
  let w1 := w64 (ofBeBytes ((bytes.drop 8).take 8))
  if fld w1 31 0 = (crc32c (bytes.take 12)).toNat ∧ 1 ≤ fld w0 59 56 ∧ fld w0 59 56 ≤ 13 then
    some { type := fld w0 59 56, dst := 0, src := fld w0 49 44, all := false, dir := false, hops := 0, tseq := 0, flight := 0,
           payload := List.replicate (ceilDiv (fld w1 47 35) 8) 0 }
  else none

/-- R383: the bytes that a port received are judged, and a packet that is no good is discarded; the member counted is the one that
its SRC field names. Its buffer is free (R385). -/
def execTowPacketBad (b : BadPkt) (s : State) : Res :=
  .next (if s.towUp && (s.port b.side).up && !(towOf b.bytes).any (fun p => p.flight == s.flightId) then
    let s := towBad (fld (w64 (ofBeBytes (b.bytes.take 8))) 49 44) s
    match discarded b.bytes with
    | some p => freeBuffer p b.side s
    | none => s
    else s)

/-- The route that a packet in flight took no longer exists. -/
def Unacked.lapsed (u : Unacked) (s : State) : Bool :=
  let m := s.member u.pkt.dst
  if u.pkt.dir then m.hopsB.isNone else m.hopsA.isNone

/-- The copy of a packet that still waits for credits leaves its queue. -/
def unqueue (u : Unacked) (s : State) : State :=
  let f := fun (x : TowPort) => { x with queue := x.queue.filter (fun e => !u.is e.pkt s.flight.addr) }
  { s with flight.a := f s.flight.a, flight.b := f s.flight.b }

/-- The packet waits for credits in a port's queue. -/
def Unacked.queued (u : Unacked) (s : State) : Bool :=
  (s.flight.a.queue ++ s.flight.b.queue).any (fun e => u.is e.pkt s.flight.addr)

/-- R387: sent again by the route in force, 20 µs after it was sent or once its route has lapsed. One that still waits for credits
has not been sent, and only a lapse moves it to the other route; one that has not been sent and waits nowhere, since there was no route
or its queue was emptied, is sent now. -/
def resend (i : Nat) (s : State) : State :=
  match s.flight.unacked[i]? with
  | some u =>
    if u.row.any (fun r => decide (r + 40 < s.time.rows)) || u.lapsed s || (u.row.isNone && !u.queued s) then
      match (s.member u.pkt.dst).side with
      | some sd =>
        let p := { u.pkt with dir := sd == .b }
        portSend sd p { unqueue u s with flight.unacked := s.flight.unacked.mapIdx (fun j v =>
          if j = i then { pkt := p, row := none } else v) }
      | none => s
    else s
  | none => s

def execTowResend (i : Nat) (s : State) : Res := .next (if s.towUp then resend i s else s)

/-- EV_RING (R382). -/
def ringEvent (side : Side) (up : Bool) (s : State) : State :=
  raise 0x0803 [pack [(0, 0, b2n (side == .b)), (9, 8, if up then 2 else 1)]] s

/-- What the receiver of a port met in a row (R382); what is not reported is as it was. -/
def TowPort.report (x : TowPort) (r : Option TowLine) : TowPort :=
  let x := match r with
    | some l => { x with lock := l.lock, fault := l.localFault || l.remoteFault, remote := l.remoteFault }
    | none => x
  { x with noLock := if x.lock then 0 else x.noLock + 1, good := if x.lock && !x.fault then x.good + 1 else 0 }

/-- The reports of the row that begins (log entry 108). -/
def towReports (rs : List TowLine) (s : State) : State :=
  if s.towUp then
    let f := fun (sd : Side) => (s.port sd).report (rs.find? (fun l => l.side == sd))
    { s with flight.a := f .a, flight.b := f .b }
  else s

/-- A down port sends remote fault (R382). -/
def remoteFaults (s : State) : State :=
  { s with out.towFault :=
      if s.towUp then ([Side.a, Side.b].filter (fun sd => !(s.port sd).up)).map (fun sd => (sd, remoteFaultBlock)) else [] }

/-- R382: no block lock for 2 consecutive rows, or remote fault. -/
def execTowPortDown (side : Side) (s : State) : Res :=
  .next (if s.towUp && (s.port side).up && ((s.port side).remote || decide (2 ≤ (s.port side).noLock)) then
    ringEvent side false (s.setPort side { s.port side with up := false }) else s)

/-- R382: 250 consecutive rows of block lock with neither fault. R385: full credits, and nothing is owed any longer. -/
def execTowPortUp (side : Side) (s : State) : Res :=
  .next (if s.towUp && !(s.port side).up && decide (250 ≤ (s.port side).good) then
    delayAsk side (ringEvent side true
      (portDrain side (s.setPort side { s.port side with up := true, ctl := 256, bulk := 512, owedCtl := 0, owedBulk := 0 })))
    else s)

/-- R386: 4 frames without a MEMBER in a direction. -/
def routeLapse (a : Nat) (side : Side) (s : State) : State :=
  let before := s
  let s := s.modMember a (fun m =>
    let m := match side with
      | .a => if m.hopsA.isSome ∧ m.rowA + 1000 < s.time.rows then { m with hopsA := none } else m
      | .b => if m.hopsB.isSome ∧ m.rowB + 1000 < s.time.rows then { m with hopsB := none } else m
    if m.routed || m.lostAt.isSome || !m.present then m else { m with lostAt := some s.time.rows })
  gatewayRule (stampMember before a s)

def execRouteLapse (addr : Nat) (side : Side) (s : State) : Res :=
  if 64 ≤ addr then .fault (.noSuchObject "member address") else .next (routeLapse addr side s)

/-- R389: a member that has been without the gateway for so long has become unreachable during its transfers. -/
def failReads (s : State) : State :=
  { s with host.dma := s.host.dma.map (fun j => { j with failed := true }),
           host.wr := s.host.wr.map (fun j => { j with failed := true }) }

/-- R388: 16 frames without a route. A member that joins again is checked again (R402). -/
def memberLost (a : Nat) (s : State) : State :=
  let m := s.member a
  match m.lostAt with
  | some r =>
    if !m.down && decide (r + 4000 < s.time.rows) then
      let s' := s.modMember a (fun m => { m with down := true, checkedRow := none })
      if s.isGateway then memberEvent a 2 (dropMember a s')
      else if s.gatewayAddr = some a then failReads s'
      else s'
    else s
  | none => s

def execMemberUnreachable (addr : Nat) (s : State) : Res :=
  if 64 ≤ addr then .fault (.noSuchObject "member address") else .next (memberLost addr s)

/-- R390. -/
def execBackupTimeSource (s : State) : Res :=
  .next (if s.towUp && backupValid s && s.flight.addressed && s.flight.addr == backupAddr s && s.flight.addr != s.timeSrc &&
      !s.flight.backup && decide ((s.flight.srcRow.getD s.flight.towRow) + 16000 < s.time.rows) then
    raise 0x0807 [pack [(5, 0, s.flight.addr)]] (dropSync { s with flight.backup := true })
  else s)

/-- R394: 8 frames without a SYNC. -/
def execSyncAbsent (s : State) : Res :=
  .next (if s.flight.syncOk && decide ((s.flight.syncRow.getD 0) + 2000 < s.time.rows) then dropSync s else s)

/-- R379: 8,000 frames. -/
def execEnumerationTimeout (s : State) : Res :=
  .next (if s.towUp && s.enumerated && !s.flight.addressed && decide (s.flight.towRow + 2000000 < s.time.rows) then
    { s with flight.noAddr := true } else s)

/-! ## Identity and admission (R399 to R402) -/

/-- EV_IDENTITY_FAULT cause (Table 14.10); 0 = the check passed. -/
def identCause : IdentResult → Nat
  | .ok => 0 | .certificate => 1 | .challenge => 2 | .uidDiffers => 3

/-- A STATUS from this port has named the address of its twin (Table 11.3). -/
def KPort.names (k : KPort) (a : Nat) : Bool := k.statusRow.isSome && k.addr == a

/-- The device verifies this member: the gateway every one, a twin its partner, a keeper its twins. -/
def verifies (a : Nat) (s : State) : Bool :=
  s.isGateway || (s.twinOn && a == s.partner) ||
  (s.twin.role == .keeper && (s.keeper.p0.names a || s.keeper.p1.names a))

/-- The outcome at a twin and at a keeper (R402). -/
def certOutcome (a : Nat) (ok : Bool) (s : State) : State :=
  let s := if s.twinOn && a == s.partner then { s with twin.certOk := ok } else s
  if s.twin.role = .keeper then
    let f := fun (k : KPort) => if k.names a then { k with certOk := ok } else k
    { s with keeper.p0 := f s.keeper.p0, keeper.p1 := f s.keeper.p1 }
  else s

/-- R402: when the member joins and again every 24 h, 172,800,000,000 rows. -/
def identityCheck (a : Nat) (r : IdentResult) (s : State) : State :=
  let m := s.member a
  let due : Bool := match m.checkedRow with
    | some x => decide (x + 172800000000 ≤ s.time.rows)
    | none => true
  if s.ready && verifies a s && m.present && due then
    let ok := identCause r == 0
    let before := s
    let s := s.modMember a (fun m => { m with certOk := ok, faulty := s.isGateway && !ok, checkedRow := some s.time.rows })
    let s := stampMember before a (certOutcome a ok s)
    if ok then s
    else
      let s := raise 0x0806 [pack [(5, 0, a), (9, 8, identCause r)]] s
      if s.isGateway then dropMember a s else s
  else s

def execIdentityCheck (addr : Nat) (result : IdentResult) (s : State) : Res :=
  if 64 ≤ addr then .fault (.noSuchObject "member address") else .next (identityCheck addr result s)

/-- The role that follows reset (Table 11.6) and what it starts. A device that is not admitted stays in INIT (R400). DEDUCED (log
entry 113): one strapped KEEPER_ONLY is in KEEPER all the same (R290), and keeps no pair until it is admitted. -/
def startRole (s : State) : State :=
  let now := s.time.rows
  let s := { s with twin.hbRow := now, twin.keeperRow := now, twin.beatDue := now, twin.renewDue := now,
                    twin.partnerLost := false, twin.keeperLost := false }
  withdrawRoleRuns (
    if s.boot.straps.keeperOnly then
      (if s.flight.admitted then keeperStart { s with twin.role := .keeper } else { s with twin.role := .keeper })
    else if !s.flight.admitted then { s with twin.role := .init }
    else if s.twinOn then { s with twin.role := .init }
    else startDie { s with twin.role := .solo })

/-- An admission record (R399). -/
def admRecord (uid : BitVec 128) (frame : Nat) : BitVec 512 :=
  let body := leBytes 8 0x41444D31 ++ leBytes 16 uid.toNat ++ leBytes 6 frame ++ List.replicate 30 0#8
  BitVec.ofNat 512 (ofLeBytes (body ++ leBytes 4 (crc32c body).toNat))

/-- What a copy of the admission record says: none without a good CRC, else whether it names this UID (R399). -/
def admJudge (uid : BitVec 128) (r : BitVec 512) : Option Bool :=
  let bs := leBytes 64 r.toNat
  if ofLeBytes (bs.drop 60) = (crc32c (bs.take 60)).toNat ∧ ofLeBytes (bs.take 4) = 0x41444D31 then
    some (ofLeBytes ((bs.drop 8).take 16) == uid.toNat)
  else none

/-- R401. -/
def execAdmit (s : State) : Res := onEngine 0x0802 (fun r s =>
  if !sizeOk r || (r.cmd.p 0).toNat + 2 ^ 64 * (r.cmd.p 1).toNat != s.boot.uid.toNat then invalid r s
  else if s.flight.admitted then finish r stOk [] s
  else if s.boot.flash.isSome then finish r stBusy [] s
  else later r { s with boot.flash := some { kind := 2, key := r.key } }) s

/-- A copy whose readback failed holds nothing that the spec states. -/
def freeRecord (s : State) : BitVec 512 :=
  BitVec.ofNat 512 ((List.range 8).foldl (fun a i => a + (Config.freeWord64 (s.free + i)).toNat * 2 ^ (64 * i)) 0)

/-- R401: the copy at 0x0108_1000 is written and read back, then the copy at 0x0108_0000, and the device takes the role that
follows reset. The first readback that fails ends it; where the boot engine does not reach the flash then, the first copy holds nothing
that the spec states (log entry 116). -/
def admitDone (second first : Bool) (j : FlashJob) (s : State) : State :=
  let s := { s with boot.flash := none }
  let a := admRecord s.boot.uid s.time.frame
  if !s.reaches 7 [7] then
    finishKey j.key stFunctionDown [] { notReached 7 s with flight.adm1 := freeRecord s, free := s.free + 8 }
  else if second && first then
    let s := { s with flight.adm0 := a, flight.adm1 := a, flight.admitted := true, boot.replaced := false }
    let s := { s with boot.alert := s.boot.st == .failed || s.boot.pwrCycle }
    finishKey j.key stOk [] (startRole s)
  else if second then finishKey j.key stBtCheck [] { s with flight.adm1 := a, flight.adm0 := freeRecord s, free := s.free + 8 }
  else finishKey j.key stBtCheck [] { s with flight.adm1 := freeRecord s, free := s.free + 8 }

def execAdmitDone (b : AdmReadback) (s : State) : Res :=
  .next (match s.boot.flash with
    | some j => if j.kind = 2 then admitDone b.second b.first j s else s
    | none => s)

/-! ## Commands -/

/-- The member record of an address (Table 14.9); the device's own record shows what it knows of itself. -/
def memberWords (a : Nat) (s : State) : List W64 :=
  let m := s.member a
  let own := s.flight.addressed && a == s.flight.addr
  [pack (memberFlags a s ++ [(13, 8, (m.hopsA).getD 63), (19, 14, (m.hopsB).getD 63)]),
   pack [(47, 0, m.change), (63, 48, m.towBad)],
   w64 (if own then s.boot.uid.toNat else m.uid.toNat),
   w64 ((if own then s.boot.uid.toNat else m.uid.toNat) / 2 ^ 64)]

/-- Every other reachable member has a route in both directions. -/
def bothWays (s : State) : Bool :=
  s.reachables.all (fun a => a == s.flight.addr || ((s.member a).hopsA.isSome && (s.member a).hopsB.isSome))

/-- The records are sampled at the row tick that ends the row (R403). -/
def execFlightStatus (ok : Bool) (s : State) : Res := onEngine 0x0801 (fun r s =>
  if !sizeOk r || !bufOk (r.cmd.p 0) then invalid r s
  else later { r with mem := [b2n ok] } s) s

/-- R402: the certificate, padded with zeros to 1,024 bytes. -/
def execCertRead (ok : Bool) (s : State) : Res := onEngine 0x0B02 (fun r s =>
  if !sizeOk r || !bufOk (r.cmd.p 0) then invalid r s
  else
    let n := Config.certLength.val
    let byte := fun i => if i < n then (Config.certByte i).toNat else 0
    let ws := (List.range 128).map (fun i => w64 ((List.range 8).foldl (fun a j => a + byte (8 * i + j) * 2 ^ (8 * j)) 0))
    bufReply r ok (r.cmd.p 0).toNat ws [w64 n] s) s

/-- R402, Table 14.8: the signature over nonce, UID and the starting frame. -/
def execIdentChallenge (ok : Bool) (s : State) : Res := onEngine 0x0B03 (fun r s =>
  if !sizeOk r || !bufOk (r.cmd.p 0) then invalid r s
  else
    let msg := wordBytes (r.cmd.params.drop 1) ++ leBytes 16 s.boot.uid.toNat ++ leBytes 8 s.time.frame
    let ws := (List.range 8).map (fun i =>
      w64 ((List.range 8).foldl (fun a j => a + (Config.sigByte msg (8 * i + j)).toNat * 2 ^ (8 * j)) 0))
    bufReply r ok (r.cmd.p 0).toNat ws [w64 s.time.frame] s) s

end Sys2Proof.Machine
end

