-- ==== Sys2Proof/Machine/MatrixM.lean ====
section
/-! DEFINITION. Chapter 15: the control matrix. -/

namespace Sys2Proof.Machine

open Sys2Proof

/-! ## The address map and the access rights (Tables 15.2, 15.3) -/

/-- First and last byte of each target's range (Table 15.2). -/
def targetRange (t : Nat) : Nat × Nat :=
  match t with
  | 0 => (0x00000000, 0x02FFFFFF)
  | 1 => (0x08000000, 0x087FFFFF)
  | 2 => (0x10000000, 0x105FFFFF)
  | 3 => (0x18000000, 0x183FFFFF)
  | 4 => (0x20000000, 0x200FFFFF)
  | 5 => (0x28000000, 0x28FFFFFF)
  | 6 => (0x30000000, 0x341FFFFF)
  | 7 => (0x38000000, 0x3C000FFF)
  | _ => (0x40000000, 0x4000FFFF)

/-- Bytes that a master port moves in one matrix cycle (Table 15.1). -/
def masterWidth (m : Nat) : Nat := [64, 64, 32, 2048, 2048, 256, 32, 32].getD m 32

/-- Native clock of a master port in Hz (Table 15.1); M0 and M3 to M6 have the core clock. -/
def masterClock (m : Nat) : Nat := [1536000000, 1000000000, 390625000, 1536000000, 1536000000, 1536000000, 1536000000, 384000000].getD m 0

/-- Bytes that a target port moves in one matrix cycle (Table 15.2). -/
def targetWidth (t : Nat) : Nat := [2048, 2048, 256, 64, 32, 256, 2048, 8, 8].getD t 8

/-- The matrix clock in Hz (R409). -/
def matrixClock (s : State) : Nat := if s.mx.fast then 1536000000 else 768000000

/-- Bytes of one beat between a master and a target: the width of the narrower end (R405). -/
def beatWidth (m t : Nat) : Nat := min (masterWidth m) (targetWidth t)

/-- The target that an address names. -/
def targetOf (a : Nat) : Option Nat :=
  (List.range 9).find? (fun t => decide ((targetRange t).1 ≤ a ∧ a ≤ (targetRange t).2))

/-- Table 15.3: read and write rights of a master at a target. -/
def mayReach (m t : Nat) (write : Bool) : Bool :=
  let rd := match m with
    | 0 | 1 => true
    | 2 => [4, 5, 8].contains t
    | 3 => [0, 1, 5, 6].contains t
    | 4 => [0, 1, 5].contains t
    | 5 => [1, 2, 3, 5].contains t
    | 6 => [3, 4, 5].contains t
    | _ => true
  let wr := match m with
    | 0 => [2, 3, 4, 5].contains t
    | 1 => t == 5
    | 2 => [4, 5].contains t
    | 3 => [0, 1, 5, 6].contains t
    | 4 => [0, 1, 5].contains t
    | 5 => [2, 5].contains t
    | 6 => [3, 4, 5].contains t
    | _ => true
  if write then wr else rd

/-- Cause of a decode error (R407, Table 15.7 DECERR_CAUSE); 0 = the request goes to its target. -/
def decodeCause (r : MReq) : Nat :=
  match targetOf r.addr with
  | none => 1
  | some t =>
    if !mayReach r.master t r.write then 2
    else if 4096 < r.len ∨ 4096 < r.addr % 4096 + r.len ∨ (targetRange t).2 + 1 < r.addr + r.len then 3
    else 0

/-- The function that owns a target (Table 17.1); a lane control bank belongs to its octet's function. -/
def targetOwner (t a : Nat) : Nat :=
  match t with
  | 0 | 1 => 4
  | 2 => 5
  | 3 => 64 + (a - 0x18000000) / 0x10000
  | 4 => 6
  | 5 => 0
  | 6 => 3
  | _ => 7

/-! ## Weights and outstanding requests -/

/-- Requests of a master that are outstanding, orphans included. -/
def State.outOf (s : State) (m : Nat) : List MOut := s.mx.out.filter (fun x => x.req.master == m)

/-- WEDGE_TIME in µs; 0 = 64. -/
def wedgeTime (s : State) : Nat := if fld s.mx.w1 17 8 = 0 then 64 else fld s.mx.w1 17 8

/-- Submission, completion and event queues with a transfer pending. -/
def queueTransfers (s : State) : Nat :=
  (s.host.sqs.filter (fun x => x.2.any (fun q => q.avail != 0))).length +
  (s.host.cqs.filter (fun x => x.2.any (fun q => !q.pend.isEmpty))).length +
  (s.host.eqs.filter (fun x => x.2.any (fun q => !q.pend.isEmpty))).length

/-- Sub-requesters of a master that have a request pending at its port. -/
def subsPending (m : Nat) (s : State) : Nat := ((s.mx.wait.filter (fun w => w.master == m)).map (·.sub)).eraseDups.length

/-- The master has a request pending at its port. -/
def hasPending (m : Nat) (s : State) : Bool := s.mx.wait.any (fun w => w.master == m)

/-- A stream of the checkpoint engine is sent: a FULL or a DELTA waits or is on its way (R322, R324). -/
def sendsStream (s : State) : Bool := s.ckpt.sending.isSome || !s.ckpt.bulk.isEmpty || !s.ckpt.bulkRest.isEmpty

/-- One is received: a FULL or a DELTA is on its way in, or the device is being synchronised (R323, R325). -/
def receivesStream (s : State) : Bool :=
  !s.ckpt.rxBulk.isEmpty || s.ckpt.filling.isSome || (s.twin.role == .syncing && !s.ckpt.synced)

/-- The sub-requester count that a port reports (Table 15.1). -/
def subRequesters (m : Nat) (s : State) : Nat :=
  match m with
  | 0 => min 4 (subsPending 0 s)
  | 1 => queueTransfers s
  | 2 => b2n (!s.flight.a.queue.isEmpty) + b2n (!s.flight.b.queue.isEmpty)
  | 3 => b2n (sendsStream s) + b2n (receivesStream s) + b2n (s.twin.role == .taking)
  | 4 => b2n (s.planner.sealed.any (fun p => p.st == .planning || p.st == .loading) || s.twin.warmLoad.isSome)
  | 5 => min 16 (subsPending 5 s)
  | _ => b2n (hasPending m s)

/-- The weight of a master in force (R415). -/
def weightNow (m : Nat) (s : State) : Nat :=
  let w := fld s.mx.w0 (8 * m + 7) (8 * m)
  if w ≠ 0 then w
  else
    let n := subRequesters m s
    if n = 0 then b2n (hasPending m s) else n

/-! ## Errors (R408, R413) -/

/-- A function is declared wedged in the row, unless it is wedged or re-initialising already (R446, R447). -/
def declareWedged (f cause target : Nat) (s : State) : State :=
  if s.fnDown f || s.rcv.wedged.contains f || s.rcv.wedgeReg.any (fun w => w.1 == f) then s
  else { s with rcv.wedgeReg := s.rcv.wedgeReg ++ [(f, cause, target)] }

/-- The command for which a request was made is completed with ST_FUNCTION_DOWN when the request meets an error (R408, R413), whether an
engine holds it or it is in progress; a command of the recovery sequencer never is (Table 17.4). -/
def failCommand (q : MReq) (s : State) : State :=
  let hit := fun (r : Run) => decide (q.cmd = some (r.key.q, r.key.session, r.key.seq)) && r.cmd.opcode / 256 != 0x0A
  match s.host.engine.filter hit with
  | some r => endRun stFunctionDown r { s with host.engine := none }
  | none => match s.host.prog.find? hit with
    | some r => endRun stFunctionDown r s
    | none => s

/-- A decode error (R408). -/
def decodeError (r : MReq) (cause : Nat) (s : State) : State :=
  declareWedged r.master 3 15 (failCommand r
    { s with mx.errCount := sat 0xFFFFFFFF (s.mx.errCount + 1), mx.errAddr := r.addr % 2 ^ 32, mx.errMaster := r.master,
             mx.errWrite := r.write, mx.errCause := cause, mx.errFrame := s.time.frame, mx.errRow := s.time.row })

/-- A target error answered to a master (R412, R413). -/
def targetError (q : MReq) (s : State) : State :=
  failCommand q { s with mx.tgtErr := sat 0xFFFFFFFF (s.mx.tgtErr + 1) }

/-! ## Issue and arbitration (R410, R411, R414 to R416) -/

/-- The master holds its new requests until none is outstanding, for at most 1 µs (R413). -/
def holdsNew (m : Nat) (s : State) : Bool := s.mx.taggedEnd.any (fun x => x.1 == m && decide (s.time.rows < x.2 + 2))

/-- The target of an address holds a free response slot (R410). -/
def slotAt (a : Nat) (s : State) : Bool := kget none s.mx.slots ((targetOf a).getD 9) != some 0

/-- The count of free response slots at the target of an address, where one is known, changed by f. -/
def modSlots (a : Nat) (f : Nat → Nat) (s : State) : State :=
  let t := (targetOf a).getD 9
  { s with mx.slots := kset none s.mx.slots t ((kget none s.mx.slots t).map f) }

/-- What a request finds at its target: no free response slot, or one at least. -/
def slotSeen (a : Nat) (free : Bool) (s : State) : State :=
  let t := (targetOf a).getD 9
  if !free then { s with mx.slots := kset none s.mx.slots t (some 0) }
  else if slotAt a s then s
  else { s with mx.slots := kset none s.mx.slots t (some 1) }

/-- A request that waits at its port can be issued: a response slot at its target, which is reserved at issue, and the conditions of its
master's mode. -/
def issuable (w : MReq) (s : State) : Bool :=
  let mine := s.outOf w.master
  slotAt w.addr s && !holdsNew w.master s &&
  (if s.mx.tagged.contains w.master then
    decide (mine.length < 64) && !mine.any (fun x => x.req.id == w.id)
   else decide (mine.length < 16) && mine.all (fun x => targetOf x.req.addr == targetOf w.addr))

/-- The first request that waits at a master's port. -/
def headOf (m : Nat) (s : State) : Option MReq := s.mx.wait.find? (fun w => w.master == m)

/-- The request that a master presents to target t: the first that waits at its port, and in tagged mode the first of those to t that can
be issued (R410, R411). -/
def offers (m t : Nat) (s : State) : Option MReq :=
  if s.mx.tagged.contains m then
    s.mx.wait.find? (fun w => w.master == m && targetOf w.addr == some t && issuable w s)
  else (headOf m s).filter (fun w => targetOf w.addr == some t && issuable w s)

/-- The master has a request for target t that can be issued. -/
def bids (m t : Nat) (s : State) : Bool := (offers m t s).isSome

/-- The master has a request pending at target t, whether it can be issued or not (R415). -/
def pendsAt (m t : Nat) (s : State) : Bool :=
  if s.mx.tagged.contains m then s.mx.wait.any (fun w => w.master == m && targetOf w.addr == some t)
  else (headOf m s).any (fun w => targetOf w.addr == some t)

/-- Length of a request in bytes, rounded up to 64 (R416). -/
def lengthOf (r : MReq) : Nat := ceilDiv r.len 64 * 64

/-- The request that a master presents granted: it takes its response slot and is outstanding from now on. -/
def grantHead (m t : Nat) (s : State) : State :=
  match offers m t s with
  | some w =>
    let k := 8 * t + m
    let s := modSlots w.addr (· - 1) s
    { s with mx.wait := dropFirst (fun x => decide (x = w)) s.mx.wait,
             mx.out := s.mx.out ++ [{ req := w, row := s.time.rows }],
             mx.deficit := kset 0 s.mx.deficit k (kget 0 s.mx.deficit k - lengthOf w),
             mx.last := kset 0 s.mx.last t m }
  | none => s

/-- A visit of the arbiter to one master: granted while its length fits its deficit. -/
def visit (m t : Nat) : Nat → State → State
  | 0, s => s
  | n + 1, s =>
    match offers m t s with
    | some w => if lengthOf w ≤ kget 0 s.mx.deficit (8 * t + m) then visit m t n (grantHead m t s) else s
    | none => s

/-- The deficits at the start of a round (R415). -/
def openRound (t : Nat) (s : State) : State :=
  { s with mx.deficit := (List.range 8).foldl (fun d m =>
      let k := 8 * t + m
      let w := weightNow m s
      kset 0 d k (if pendsAt m t s then min (kget 0 d k + w * 64) (w * 64 + 4096) else 0)) s.mx.deficit }

/-- One round at target t: the masters in turn, starting after the master served last. -/
def round (t : Nat) (s : State) : State :=
  let start := kget 0 s.mx.last t + 1
  (List.range 8).foldl (fun s i => visit ((start + i) % 8) t (s.mx.wait.length + 1) s) (openRound t s)

/-- Rounds at target t until no request can be issued there: at most 64 for each (R416). -/
def rounds (t : Nat) : Nat → State → State
  | 0, s => s
  | n + 1, s => if (List.range 8).any (fun m => bids m t s) then rounds t n (round t s) else s

/-- Every target's arbiter. -/
def arbitrate (s : State) : State :=
  (List.range 9).foldl (fun s t => rounds t (64 * (s.mx.wait.length + 1)) s) s

/-- The matrix is out of reset (Table 18.6: it moves data from FW_LOAD on). -/
def State.matrixOn (s : State) : Bool := !(s.boot.st == .reset || s.boot.st == .failed)

/-- One request at its port. -/
def matrixRequest (r : MReq) (slotFree : Bool) (s : State) : State :=
  let r := { r with orphan := false }
  if s.mx.reset.any (fun x => x.1 == r.master) then s
  else if decodeCause r ≠ 0 then decodeError r (decodeCause r) s
  else if s.mx.wedged.any (fun t => targetOf r.addr == some t) then targetError r s
  else
    let s := slotSeen r.addr slotFree s
    arbitrate { s with mx.wait := s.mx.wait ++ [r] }

def execMatrixRequest (r : MReq) (slotFree : Bool) (s : State) : Res :=
  if 8 ≤ r.master then .fault (.noSuchObject "matrix master")
  else if 64 ≤ r.id then .fault (.noSuchObject "request ID")
  else .next (if s.matrixOn then matrixRequest r slotFree s else s)

/-! ## Responses (R410 to R413, R418, R419) -/

/-- Wedged targets that have been re-initialised and whose requests are all answered work again (R412). -/
def releaseTargets (s : State) : State :=
  let free := s.mx.cleaned.filter (fun t => !s.mx.out.any (fun x => targetOf x.req.addr == some t))
  { s with mx.wedged := s.mx.wedged.filter (fun t => !free.contains t),
           mx.cleaned := s.mx.cleaned.filter (fun t => !free.contains t) }

/-- R413: the master may return to ordered mode. -/
def mayOrder (m : Nat) (s : State) : Bool :=
  s.mx.tagged.contains m && !bit s.mx.w1 m &&
  !((s.outOf m).any (fun x => s.mx.wedged.any (fun t => targetOf x.req.addr == some t) && !x.req.orphan))

/-- Masters that begin, or give up, their return to ordered mode (R413). -/
def orderMarks (s : State) : State :=
  { s with mx.taggedEnd := (List.range 8).filterMap (fun m =>
      if mayOrder m s then
        some ((s.mx.taggedEnd.find? (fun x => x.1 == m)).getD (m, s.time.rows))
      else none) }

/-- The response answers this outstanding request. -/
def answers (r : MReq) (x : MOut) : Bool :=
  x.req.master == r.master && x.req.addr == r.addr && x.req.id == r.id && x.req.write == r.write && x.req.len == r.len

/-- The outstanding request that a response answers: a target answers the requests of a master in the order of their issue, so only the
oldest of that master at that target (R410, R411). -/
def answered (r : MReq) (s : State) : Option MOut :=
  (s.mx.out.find? (fun x => x.req.master == r.master && targetOf x.req.addr == targetOf r.addr)).filter (answers r)

/-! ## The objects behind the targets (R405, R406, R417) -/

/-- Byte i of a word that is stored most significant byte first. -/
def byteIn (w : W64) (i : Nat) : BitVec 8 := BitVec.ofNat 8 (w.toNat / 256 ^ (7 - i))

/-- A word with byte i replaced. -/
def setByte (w : W64) (i : Nat) (b : BitVec 8) : W64 :=
  BitVec.ofNat 64 (w.toNat - (byteIn w i).toNat * 256 ^ (7 - i) + b.toNat * 256 ^ (7 - i))

/-- One byte written at an offset of a slot's layout (Table 12.1). -/
def Slot.putByte (sl : Slot) (off : Nat) (b : BitVec 8) : Slot :=
  sl.write { off := off / 8 * 8, word := setByte (sl.word (off / 8 * 8)) (off % 8) b }

/-- One byte read there. -/
def Slot.getByte (sl : Slot) (off : Nat) : BitVec 8 := byteIn (sl.word (off / 8 * 8)) (off % 8)

/-- One byte written at an address of Table 15.2: an entry or stage memory word of a half of T0, a tributary record, a word of a
checkpoint slot; DESIGN CHOICE (log entry 115): the tributary table is that of the active page, a byte within a word lies as in log
entry 80, and elsewhere, where the spec lays out no object, the byte is kept as it is. -/
def storeByte (a : Nat) (b : BitVec 8) (s : State) : State :=
  let onPage := fun (p : Page) (off : Nat) => (({ page := p } : Slot).putByte off b).page
  match targetOf a with
  | some 0 =>
    let off := a % 0x1800000
    if decide (0x1800000 ≤ a) == s.fab.half then { s with fab.act := onPage s.fab.act off }
    else { s with fab.stby := onPage s.fab.stby off }
  | some 1 => { s with fab.act := onPage s.fab.act (0x1800000 + (a - 0x08000000)) }
  | some 6 =>
    let off := a - 0x30000000
    if off < 0x2100000 then { s with ckpt.x := s.ckpt.x.putByte off b } else { s with ckpt.y := s.ckpt.y.putByte (off - 0x2100000) b }
  | some _ => { s with mx.store := kput a b s.mx.store }
  | none => s

/-- One byte read there; a byte of T2, T3, T4, T5, T7 or T8 that no matrix write has reached is arbitrary. -/
def loadByte (a : Nat) (s : State) : BitVec 8 :=
  match targetOf a with
  | some 0 =>
    let p := if decide (0x1800000 ≤ a) == s.fab.half then s.fab.act else s.fab.stby
    ({ page := p } : Slot).getByte (a % 0x1800000)
  | some 1 => ({ page := s.fab.act } : Slot).getByte (0x1800000 + (a - 0x08000000))
  | some 6 =>
    let off := a - 0x30000000
    if off < 0x2100000 then s.ckpt.x.getByte off else s.ckpt.y.getByte (off - 0x2100000)
  | _ => kget (Config.freeByte (s.free + a)) s.mx.store a

/-- A write taken by its target: the bytes whose strobes are on, up to the beat at which its master was reset (R405, R417). -/
def storeBytes (cut : Option Nat) : Nat → List (Option (BitVec 8)) → State → State
  | _, [], s => s
  | a, d :: ds, s =>
    let s := match d with
      | some b => if cut.any (fun c => decide (c ≤ a)) then s else storeByte a b s
      | none => s
    storeBytes cut (a + 1) ds s

/-- One response of a target, which frees its response slot: a write has reached its object, a read brings its bytes; the answers that a wedged target gives while its
function is re-initialised are target errors (R412). DESIGN CHOICE (log entry 115): a write answered with an error has changed
nothing. -/
def matrixResponse (r : MReq) (err : Bool) (s : State) : State :=
  match answered r s with
  | some x =>
    let t := targetOf r.addr
    let s := modSlots r.addr (· + 1) { s with mx.out := dropFirst (fun y => decide (y = x)) s.mx.out }
    let dropped := x.req.orphan || s.masterHeld r.master
    let bad := err || s.mx.wedged.any (fun u => t == some u && s.fnDown (targetOwner u r.addr))
    let s := if bad then (if dropped then s else targetError x.req s)
      else if x.req.write then storeBytes x.cut r.addr (x.req.data.take r.len) s
      else if dropped then s
      else { s with mx.got := some (r.master, (List.range r.len).map (fun i => loadByte (r.addr + i) s)) }
    let s := orderMarks (releaseTargets s)
    let zero := ((s.mx.taggedEnd.map (·.1)).filter (fun m => (s.outOf m).isEmpty && !s.mx.zeroed.contains m))
    arbitrate { s with mx.zeroed := s.mx.zeroed ++ zero }
  | none => s

def execMatrixResponse (r : MReq) (err : Bool) (s : State) : Res :=
  if 8 ≤ r.master then .fault (.noSuchObject "matrix master")
  else .next (if s.matrixOn then matrixResponse r err s else s)

/-- R412: a request outstanding to the target for WEDGE_TIME. -/
def execTargetWedged (t : Nat) (s : State) : Res :=
  if 9 ≤ t then .fault (.noSuchObject "matrix target")
  else .next (match s.mx.out.find? (fun x => targetOf x.req.addr == some t) with
    | some x =>
      if s.matrixOn && decide (x.row + 2 * wedgeTime s ≤ s.time.rows) && !s.mx.wedged.contains t &&
          !s.mx.wedgedReg.contains t then
        declareWedged (targetOwner t x.req.addr) 2 t { s with mx.wedgedReg := s.mx.wedgedReg ++ [t] }
      else s
    | none => s)

/-! ## Master resets (R417 to R419) -/

/-- Bytes of the aligned place of an object at an address (R406): entries, stage memory words, tributary records, selector records, lane
control bank and timing registers; the other targets hold no object of R21. -/
def objectBytes (a : Nat) : Nat :=
  let inSlot := fun (off : Nat) => if off < 0xC00000 then 4 else if off < 0x1800000 then 2 else if off < 0x2000000 then 64 else 8
  match targetOf a with
  | some 0 => inSlot (a % 0x1800000)
  | some 1 => 64
  | some 3 | some 4 => 8
  | some 6 => inSlot ((a - 0x30000000) % 0x2100000)
  | _ => 1

/-- Where a write stops that its master's reset cuts short: behind any number of its beats, and never within an object. -/
def cutAt (r : MReq) (n : Nat) : Nat :=
  let w := beatWidth r.master ((targetOf r.addr).getD 0)
  let first := r.addr / w
  let c := (first + n % ((r.addr + r.len - 1) / w - first + 2)) * w
  ceilDiv c (objectBytes c) * objectBytes c

/-- A master is reset: what waits is dropped, a write already granted ends with its strobes off, its deficits go to 0. -/
def resetMaster (m : Nat) (s : State) : State :=
  let burst := (s.outOf m).any (fun x => x.req.write && !x.req.orphan)
  let stop := fun (x : MOut) =>
    if x.req.master = m ∧ x.req.write = true ∧ x.req.orphan = false ∧ x.cut = none then
      { x with cut := some (cutAt x.req (Config.freeWord64 (s.free + x.req.id)).toNat) }
    else x
  { s with free := s.free + 64, mx.out := s.mx.out.map stop, mx.zeroed := s.mx.zeroed.filter (· ≠ m),
           mx.wait := s.mx.wait.filter (fun w => w.master != m),
           mx.deficit := s.mx.deficit.filter (fun d => d.1 % 8 != m),
           mx.reset := (m, s.time.rows) :: s.mx.reset.filter (fun x => x.1 != m),
           mx.tagged := s.mx.tagged.filter (· ≠ m),
           mx.taggedEnd := s.mx.taggedEnd.filter (fun x => x.1 != m),
           mx.mid := if burst then kset 0 s.mx.mid m (sat 255 (kget 0 s.mx.mid m + 1)) else s.mx.mid }

/-- A master readmitted: reads still outstanding become orphans; it starts in ordered mode unless it is forced (R418). -/
def readmit (m : Nat) (s : State) : State :=
  { s with mx.reset := s.mx.reset.filter (fun x => x.1 != m),
           mx.out := s.mx.out.map (fun x => if x.req.master = m then { x with req := { x.req with orphan := true } } else x),
           mx.tagged := if bit s.mx.w1 m && !s.mx.tagged.contains m then s.mx.tagged ++ [m] else s.mx.tagged }

/-- R417, R418: at the first cycle at which no ID is in use, or 2 µs after the reset. -/
def execMasterReadmit (m : Nat) (s : State) : Res :=
  if 8 ≤ m then .fault (.noSuchObject "matrix master")
  else .next (match s.mx.reset.find? (fun x => x.1 == m) with
    | some x => if (s.outOf m).isEmpty || decide (x.2 + 4 ≤ s.time.rows) then readmit m s else s
    | none => s)

/-! ## The row tick -/

/-- Requests that wait for a target that is wedged from this tick on are answered with a target error: they do not reach it (R412). -/
def refuseWaiting (s : State) : State :=
  let lost := s.mx.wait.filter (fun w => s.mx.wedged.any (fun t => targetOf w.addr == some t))
  lost.foldl (fun s w => targetError w s) { s with mx.wait := s.mx.wait.filter (fun w => !lost.contains w) }

/-- MATRIX_CFG takes effect (R420). -/
def applyMatrixCfg (r : Run) (s : State) : State :=
  finish r stOk [] { s with mx.w0 := r.cmd.p 0, mx.w1 := r.cmd.p 1 }

/-- Some request to target t has been outstanding for WEDGE_TIME by row n (R412). -/
def waitsTooLong (t n : Nat) (s : State) : Bool :=
  s.mx.out.any (fun x => targetOf x.req.addr == some t && decide (x.row + 2 * wedgeTime s ≤ n))

/-- A declaration of the row just ended that a response registered in the same row has overtaken is none (R46, R47). -/
def judgeWedges (s : State) : State :=
  let kept := s.mx.wedgedReg.filter (fun t => waitsTooLong t (s.time.rows - 1) s)
  { s with mx.wedgedReg := kept, rcv.wedgeReg := s.rcv.wedgeReg.filter (fun w => w.2.1 != 2 || kept.contains w.2.2) }

/-- Targets declared wedged in the row are wedged from this tick on, and their masters enter tagged mode (R412, R419); forced
masters are tagged, and masters with nothing outstanding return to ordered mode (R413). -/
def matrixTick (s : State) : State :=
  let s := (s.progOf 0x0A04).foldl (fun s r => applyMatrixCfg r s) s
  let s := judgeWedges s
  let reg := s.mx.wedgedReg
  let hit := (s.mx.out.filter (fun x => !x.req.orphan && reg.any (fun t => targetOf x.req.addr == some t))).map (·.req.master)
  let forced := (List.range 8).filter (fun m => bit s.mx.w1 m)
  let s := { s with mx.wedged := s.mx.wedged ++ reg, mx.wedgedReg := [],
                    mx.tagged := (s.mx.tagged ++ (hit ++ forced).filter (fun m => !s.mx.reset.any (fun x => x.1 == m))).eraseDups }
  let s := orderMarks (refuseWaiting s)
  let back := (s.mx.taggedEnd.map (·.1)).filter (fun m => (s.outOf m).isEmpty || s.mx.zeroed.contains m)
  arbitrate { s with mx.zeroed := [], mx.tagged := s.mx.tagged.filter (fun m => !back.contains m),
                     mx.taggedEnd := s.mx.taggedEnd.filter (fun x => !back.contains x.1) }

/-! ## Commands (R420, R421) -/

def execMatrixCfg (s : State) : Res := onEngine 0x0A04 (fun r s =>
  let w := fld (r.cmd.p 1) 17 8
  if !sizeOk r || fld (r.cmd.p 1) 63 18 != 0 || decide (1 ≤ w ∧ w ≤ 15) then invalid r s else later r s) s

/-- The matrix status record (Table 15.7). -/
def matrixStatusWords (s : State) : List W64 :=
  let bits := fun (l : List Nat) => l.eraseDups.foldl (fun a i => a + 2 ^ i) 0
  let each := fun (n : Nat) (f : Nat → Nat) => (List.range 8).foldl (fun a m => a + (f m % 2 ^ n) * 2 ^ (n * m)) 0
  [pack [(0, 0, b2n s.mx.fast), (1, 1, b2n s.boot.straps.matrixFast), (10, 2, bits s.mx.wedged), (18, 11, bits s.mx.tagged)],
   w64 (each 7 (fun m => (s.outOf m).length)),
   w64 (each 8 (fun m => weightNow m s)),
   pack [(31, 0, s.mx.errCount), (63, 32, s.mx.errAddr)],
   pack [(2, 0, s.mx.errMaster), (3, 3, b2n s.mx.errWrite), (5, 4, s.mx.errCause), (47, 16, s.mx.tgtErr)],
   pack [(47, 0, s.mx.errFrame), (55, 48, s.mx.errRow)],
   w64 (each 8 (fun m => kget 0 s.mx.mid m)),
   0]

def execMatrixStatus (ok : Bool) (s : State) : Res := onEngine 0x0A05 (fun r s =>
  if !sizeOk r || !bufOk (r.cmd.p 0) then invalid r s
  else bufReply r ok (r.cmd.p 0).toNat (matrixStatusWords s) [] s) s

end Sys2Proof.Machine
end

