-- ==== Sys2Proof/Machine/CountersM.lean ====
section
/-! DEFINITION. Chapter 16: programmable counters, accounting periods, snapshots, reads, derived bandwidth. -/

namespace Sys2Proof.Machine

open Sys2Proof

/-- Counter c. -/
def State.counter (s : State) (c : Nat) : Ctr := kget {} s.ctr.ctrs c

/-- Bank b; 16 stands for the fixed counts. -/
def State.bank (s : State) (b : Nat) : Bank := kget {} s.ctr.banks b

/-- Bank b replaced by f of it. -/
def State.modBank (s : State) (b : Nat) (f : Bank → Bank) : State :=
  { s with ctr.banks := kset {} s.ctr.banks b (f (s.bank b)) }

/-! ## Counting (R426, R428, R429) -/

def Ctr.preset (c : Ctr) : Nat := fld c.w1 47 0
def Ctr.action (c : Ctr) : Nat := fld c.w0 2 1

/-- The events of the row added (R428). -/
def Ctr.advance (c : Ctr) : Ctr :=
  let d : Ctr := { c with ev := 0 }
  let v := c.value + c.ev
  if c.full = true then d
  else if v < 2 ^ 48 then { d with value := v }
  else
    let wrap := fun (k x : Nat) (full : Bool) =>
      ({ d with value := x, ovf := sat 65535 (c.ovf + k), rowOvf := c.rowOvf + k, full := full } : Ctr)
    if c.action = 1 then
      let m := v - 2 ^ 48
      let cycle := 2 ^ 48 - c.preset
      wrap (1 + m / cycle) (c.preset + m % cycle) false
    else if c.action = 2 then wrap 1 (2 ^ 48 - 1) true
    else wrap (v / 2 ^ 48) (v % 2 ^ 48) false

/-- EV_COUNTER_OVERFLOW of bank b (R429), stamped with the row that is ending. -/
def overflowEvent (b : Nat) (s : State) : State :=
  match s.ctr.ctrs.filter (fun c => c.1 / 256 == b && c.2.rowOvf != 0) with
  | [] => s
  | c :: cs =>
    raise 0x0901 [pack [(31, 0, cs.foldl (fun a x => a + x.2.rowOvf) c.2.rowOvf), (63, 32, c.1)],
                  pack [(7, 0, c.2.action), (63, 32, (s.bank b).gen)]] s

/-- The counter engine reaches the counter store, as master M5 (R19); while CTR re-initialises programmable counters do not count
(Table 17.1). -/
def State.counting (s : State) : Bool := !s.fnDown 5 && s.reaches 5 [2]

/-- The events of the row so far added to every counter. -/
def advanceAll (s : State) : State :=
  let on := s.counting
  { s with ctr.ctrs := kmap {} (fun _ (c : Ctr) => if on then c.advance else { c with ev := 0 }) s.ctr.ctrs }

/-- Banks with an overflow in the row. -/
def overflowed (s : State) : List Nat :=
  (List.range 16).filter (fun b => s.ctr.ctrs.any (fun c => c.1 / 256 == b && c.2.rowOvf != 0))

/-- The EV_COUNTER_OVERFLOWs of the row are events of that row (R423, R429), which a counter of group 9 counts in it, and which may
overflow further banks; at most one for each of the 16. -/
def overflowCounts : Nat → List Nat → State → State
  | 0, _, s => s
  | n + 1, done, s =>
    let fresh := (overflowed s).filter (fun b => !done.contains b)
    if fresh.isEmpty then s else overflowCounts n (done ++ fresh) (advanceAll (countEvent 0x49 9 fresh.length s))

/-- Step 1 of Table 16.2: the events of the row just ended, and the overflows, whose events are counted already as they are raised. -/
def countStep (s : State) : State :=
  let s := overflowCounts 17 [] (advanceAll s)
  let s := (List.range 16).foldl (fun s b => overflowEvent b s) s
  { s with ctr.ctrs := kmap {} (fun _ (c : Ctr) => { c with rowOvf := 0, ev := 0 }) s.ctr.ctrs }

/-- R428: the row's events so far take the counter past its limit. -/
def execCounterOverflow (c : Nat) (s : State) : Res :=
  if 4096 ≤ c then .fault (.noSuchObject "counter")
  else .next (let x := s.counter c
    if 2 ^ 48 ≤ x.value + x.ev ∧ s.counting = true then { s with ctr.ctrs := kset {} s.ctr.ctrs c x.advance } else s)

/-! ## Records of Table 16.3 -/

/-- Range of OBJECT and of WEIR of an event code (Table 16.4): exclusive upper bounds with the lowest object; none for a code
that is not listed. -/
def eventRange (code : Nat) : Option (Nat × Nat × Nat) :=
  match code with
  | 0x01 | 0x02 | 0x03 | 0x04 | 0x05 | 0x06 | 0x07 => some (0, 512, 1)
  | 0x08 => some (0, 512, 96)
  | 0x20 | 0x21 => some (0, 131072, 1)
  | 0x40 => some (0, 64, 1)
  | 0x41 => some (0, 1, 256)
  | 0x42 | 0x43 => some (0, 1, 4)
  | 0x44 => some (0, 8, 4096)
  | 0x45 => some (0, 2, 256)
  | 0x46 => some (0, 8, 64)
  | 0x47 | 0x48 => some (0, 1, 1)
  | 0x49 => some (1, 12, 1)
  | _ => none

/-- A counter configuration record keeps its ranges (R440). -/
def ctrRecOk (w0 w1 : W64) : Bool :=
  fld w0 2 1 != 3 && fld w0 4 3 != 3 && !bit w0 5 && fld w0 63 44 == 0 && fld w1 63 48 == 0 &&
  match eventRange (fld w0 13 6) with
  | some (lo, hi, weir) => decide (lo ≤ fld w0 30 14 ∧ fld w0 30 14 < hi ∧ fld w0 43 31 < weir)
  | none => false

/-- Occupancy that an event of Table 16.4 samples, of an object; none for another event. -/
def occupancy (code obj : Nat) (s : State) : Option Nat :=
  match code with
  | 0x08 => some (s.lane obj).basin.length
  | 0x41 => some s.host.work.length
  | 0x42 => some (s.planner.sealed.length + s.planner.dropWait.length)
  | 0x43 => some (s.ckpt.queue ++ s.planner.deltas).length
  | 0x44 => if s.isGateway then (s.evq obj).map (fun q => q.unread + q.pend.length) else none
  | 0x45 => some (256 - (s.port (if obj = 0 then .a else .b)).ctl)
  | 0x46 => some (s.outOf obj).length
  | _ => none

/-- Core cycles of the row at levels above a weir: those that the levels given for the row have lasted, at most 768, and the rest of the
768 at the level at its end. -/
def cyclesAbove (weir level : Nat) : Nat → List (Nat × Nat) → Nat
  | left, [] => if weir < level then left else 0
  | left, x :: xs => (if weir < x.1 then min left x.2 else 0) + cyclesAbove weir level (left - min left x.2) xs

/-- Occupancy samples of the row (R427): one per core cycle, strictly greater than WEIR. How an occupancy moved within the row comes
with ROW_TICK: event, object, level, core cycles. -/
def weirStep (weirs : List (Nat × Nat × Nat × Nat)) (s : State) : State :=
  { s with ctr.ctrs := kmap {} (fun _ (c : Ctr) =>
      let code := fld c.w0 13 6
      let obj := fld c.w0 30 14
      match occupancy code obj s with
      | some n =>
        if bit c.w0 0 then
          let ls := (weirs.filter (fun w => w.1 == code && w.2.1 == obj)).map (fun w => w.2.2)
          { c with ev := c.ev + cyclesAbove (fld c.w0 43 31) n 768 ls }
        else c
      | none => c) s.ctr.ctrs }

/-! ## Accounting periods (R433, R434, R441) -/

/-- PERIOD or FIXED_PERIOD of a bank word; 0 = 7,200,000 frames. -/
def periodOf (b : Nat) (w : W64) : Nat :=
  let p := if b = 16 then fld w 23 0 else fld w 29 0
  if p = 0 then 7200000 else p

def State.period (s : State) (b : Nat) : Nat := periodOf b (s.bank b).w

/-- BW_WINDOW in frames; 0 = 8,000. -/
def bwOf (w : W64) : Nat := if fld w 39 24 = 0 then 8000 else fld w 39 24
def State.bwWindow (s : State) : Nat := bwOf (s.bank 16).w

/-- Counts of a bank as they stand, of the counters that have any. -/
def bankValues (b : Nat) (s : State) : KMap (List Nat) :=
  s.ctr.ctrs.filterMap (fun c =>
    if c.1 / 256 = b ∧ (c.2.value ≠ 0 ∨ c.2.ovf ≠ 0) then some (c.1 % 256, [c.2.value, c.2.ovf]) else none)

def laneValues (s : State) : KMap (List Nat) :=
  s.lanes.filterMap (fun l => if l.2.counts.any (· != 0) then some (l.1, l.2.counts) else none)

def tribValues (s : State) : KMap (List Nat) :=
  s.sels.filterMap (fun t => if t.2.counts.any (· != 0) then some (t.1, t.2.counts) else none)

/-- Some lane has left service in the fixed interval in progress (R434). -/
def State.anyLeft (s : State) : Bool := s.lanes.any (fun l => l.2.leftSvc)

/-- The interval in progress of a bank as it stands, latched at a row tick. -/
def intervalNow (b frame row : Nat) (short : Bool) (s : State) : Interval :=
  let k := s.bank b
  { start := k.fromFrame, frame := frame, row := row, short := k.short || short, mixed := k.mixed,
    part := k.partialI || (b == 16 && s.anyLeft), genStart := if b = 16 then 0 else k.genStart,
    genEnd := if b = 16 then 0 else k.gen, values := if b = 16 then laneValues s else bankValues b s,
    tribs := if b = 16 then tribValues s else [] }

/-- The counts of a bank through the row just ended: those of the record latched at the tick, when its period has been closed there
already. -/
def current (b : Nat) (s : State) : Interval :=
  let x := intervalNow b s.time.frame s.time.row false s
  if s.ctr.closed.contains b then (s.bank b).ints.headD x else x

/-- A counter restarted at a boundary under its RESTART field (R433). -/
def Ctr.restart (c : Ctr) : Ctr :=
  match fld c.w0 4 3 with
  | 0 => { c with value := 0, ovf := 0, full := false }
  | 1 => { c with value := c.preset, ovf := 0, full := false }
  | _ => { c with ovf := 0 }

/-- The counts of a bank restarted. -/
def restartBank (b : Nat) (s : State) : State :=
  if b = 16 then
    { s with lanes := kmap {} (fun _ (l : Lane) => { l with counts := [0, 0, 0, 0, 0, 0, 0, 0, 0, 0, 0, 0, 0], leftSvc := false }) s.lanes,
             sels := kmap {} (fun _ (x : Sel) => { x with counts := [0, 0, 0, 0, 0, 0, 0] }) s.sels }
  else { s with ctr.ctrs := kmap {} (fun i (c : Ctr) => if i / 256 = b then c.restart else c) s.ctr.ctrs }

/-- The interval in progress of bank b closes at frame F; the next begins there, short or not. Tributary counts are kept for
the newest interval only (Table 16.1). -/
def closeInterval (b frame : Nat) (short nextShort : Bool) (s : State) : State :=
  let x := intervalNow b frame 0 short s
  let s := s.modBank b (fun k => { k with
    ints := (x :: k.ints.map (fun (i : Interval) => { i with tribs := [] })).take (if b = 16 then 8 else 32),
    fromFrame := frame, genStart := k.gen, short := nextShort, mixed := false, partialI := false })
  { restartBank b s with ctr.closed := s.ctr.closed ++ [b] }

/-- The counter engine, as master M5, can write the records of bank b: to the counter store, from the tributaries and the lanes for
the fixed counts (R19). While CTR re-initialises a latch is made all the same (R443). -/
def State.latches (s : State) (b : Nat) : Bool := s.fnDown 5 || s.reaches 5 (if b = 16 then [1, 2, 3] else [2])

/-- Bank b closes a period at frame F, once (R433). DESIGN CHOICE (log entry 116): where the record cannot be written the interval goes
on. -/
def closePeriod (b frame : Nat) (s : State) : State :=
  if (frame % s.period b = 0 ∨ s.ctr.ends.contains b = true) ∧ s.ctr.closed.contains b = false ∧ s.latches b = true then
    closeInterval b frame false false s
  else s

/-! ## Derived bandwidth (R439) -/

/-- The record of a lane's window that closes at frame F. -/
def Lane.closeBw (l : Lane) (window frame : Nat) (short : Bool) : Lane :=
  let out := !(l.bring == .inService)
  { l with bwRx := 0, bwTx := 0, bwPartial := out,
           bwRec := { w0 := pack [(47, 0, l.bwRx)], w1 := pack [(47, 0, l.bwTx)],
                      w2 := pack [(31, 0, l.bwRx * 8 / window), (63, 32, l.bwTx * 8 / window)],
                      w3 := pack [(47, 0, frame), (48, 48, b2n short), (49, 49, b2n (l.bwPartial || out))] } }

/-- The window in progress ends at frame F. -/
def closeBw (frame : Nat) (short nextShort : Bool) (s : State) : State :=
  let w := s.bwWindow
  let sh := s.ctr.bwShort || short
  let s := (List.range 512).foldl (fun s i => s.modLane i (fun l => l.closeBw w frame sh)) s
  { s with ctr.bwShort := nextShort, ctr.closed := s.ctr.closed ++ [17] }

/-- The window closes at frame F when the window rule says so, once, and its records can be written (log entry 116). -/
def closeWindow (frame : Nat) (s : State) : State :=
  if (frame % s.bwWindow = 0 ∨ s.ctr.ends.contains 17 = true) ∧ s.ctr.closed.contains 17 = false ∧ s.latches 16 = true then
    closeBw frame false false s
  else s

/-! ## Reads (R437) -/

/-- The header of a read (Table 16.7). -/
def readHeader (source : Nat) (x : Option Interval) (frame row : Nat) : List W64 :=
  match x with
  | some i =>
    [pack [(47, 0, i.start), (49, 48, source), (50, 50, b2n i.short), (51, 51, b2n i.mixed), (52, 52, b2n i.part)],
     pack [(47, 0, i.frame), (55, 48, i.row)], pack [(31, 0, i.genStart), (63, 32, i.genEnd)], 0, 0, 0, 0, 0]
  | none => [pack [(49, 48, source), (53, 53, 1)], pack [(47, 0, frame), (55, 48, row)], 0, 0, 0, 0, 0, 0]

/-- The copy that SOURCE and INTERVAL name. -/
def sourceOf (b source interval : Nat) (snap : Option Interval) (s : State) : Option Interval :=
  match source with
  | 0 => some (current b s)
  | 1 => snap
  | _ => (s.bank b).ints[interval]?

/-- A counter record (Table 16.8). -/
def ctrWords (c : Nat) (v : List Nat) (s : State) : List W64 :=
  let w := (s.counter c).w0
  [pack [(47, 0, v.getD 0 0), (63, 48, v.getD 1 0)], pack [(7, 0, fld w 13 6), (24, 8, fld w 30 14), (25, 25, b2n (bit w 0))]]

/-- Fields of CTR_READ word 1. -/
def crBank (r : Run) : Nat := fld (r.cmd.p 1) 3 0
def crFirst (r : Run) : Nat := fld (r.cmd.p 1) 11 4
def crCount (r : Run) : Nat := fld (r.cmd.p 1) 20 12
def crSource (r : Run) : Nat := fld (r.cmd.p 1) 22 21
def crInterval (r : Run) : Nat := fld (r.cmd.p 1) 27 23

/-- The words that a CTR_READ copies at a row tick. -/
def ctrReadWords (r : Run) (s : State) : List W64 :=
  let b := crBank r
  let x := sourceOf b (crSource r) (crInterval r) (s.ctr.snapProg[b]?) s
  let vs := (x.map (·.values)).getD []
  readHeader (crSource r) x s.time.frame s.time.row ++
    (List.range (crCount r)).flatMap (fun i => ctrWords (256 * b + crFirst r + i) (kget [] vs (crFirst r + i)) s)

/-- Bits of the counts of a list that stand at their maximum. -/
def satBits (limit : Nat) (v : List Nat) : Nat := (v.mapIdx (fun i x => if limit ≤ x then 2 ^ i else 0)).foldl (· + ·) 0

/-- A lane record of 128 bytes. -/
def laneCountWords (v : List Nat) : List W64 :=
  (List.range 13).map (fun i => pack [(47, 0, v.getD i 0)]) ++ [pack [(12, 0, satBits (2 ^ 48 - 1) v)], 0, 0]

/-- A tributary record of 32 bytes. -/
def tribCountWords (v : List Nat) : List W64 :=
  [pack [(31, 0, v.getD 0 0), (63, 32, v.getD 1 0)], pack [(31, 0, v.getD 2 0), (63, 32, v.getD 3 0)],
   pack [(31, 0, v.getD 4 0), (63, 32, v.getD 5 0)], pack [(31, 0, v.getD 6 0), (38, 32, satBits (2 ^ 32 - 1) v)]]

/-- Fields of FIXED_READ word 1. -/
def frKind (r : Run) : Bool := bit (r.cmd.p 1) 0
def frFirst (r : Run) : Nat := fld (r.cmd.p 1) 18 1
def frCount (r : Run) : Nat := fld (r.cmd.p 1) 36 19
def frSource (r : Run) : Nat := fld (r.cmd.p 1) 38 37
def frInterval (r : Run) : Nat := fld (r.cmd.p 1) 41 39

/-- The words that a FIXED_READ copies at a row tick. -/
def fixedReadWords (r : Run) (s : State) : List W64 :=
  let k := frKind r
  let x := sourceOf 16 (frSource r) (frInterval r) (if k then s.ctr.snapTrib else s.ctr.snapLane) s
  let vs := (x.map (fun i => if k then i.tribs else i.values)).getD []
  readHeader (frSource r) x s.time.frame s.time.row ++
    (List.range (frCount r)).flatMap (fun i =>
      let v := kget [] vs (frFirst r + i)
      if k then tribCountWords v else laneCountWords v)

/-- The bandwidth records that a BW_READ copies at a row tick. -/
def bwReadWords (r : Run) (s : State) : List W64 :=
  let w := r.cmd.p 1
  (List.range (fld w 18 9)).flatMap (fun i =>
    let x := (s.lane (fld w 8 0 + i)).bwRec
    [x.w0, x.w1, x.w2, x.w3])

/-- Step 2 of Table 16.2: the read copies of reads started during the row just ended. -/
def readStep (s : State) : State :=
  (s.host.prog.filter (fun r => [0x0902, 0x0905, 0x0906].contains r.cmd.opcode)).foldl (fun s r =>
    throughMatrix 1 [2] r (fun s =>
      let ws := match r.cmd.opcode with
        | 0x0902 => ctrReadWords r s
        | 0x0905 => fixedReadWords r s
        | _ => bwReadWords r s
      bufReply r (r.mem.getD 0 0 == 1) (r.cmd.p 0).toNat ws [] s) s) s

/-! ## Snapshots (R435) -/

/-- Copies of the scopes named, of the counts through the row just ended. -/
def latch (scopes : Nat) (s : State) : State :=
  let at16 := current 16 s
  let prog := if scopes.testBit 0 then (List.range 16).map (fun b => current b s)
    else s.ctr.snapProg
  { s with ctr.snapProg := prog,
           ctr.snapLane := if scopes.testBit 1 then some { at16 with tribs := [] } else s.ctr.snapLane,
           ctr.snapTrib := if scopes.testBit 2 then some { at16 with values := [] } else s.ctr.snapTrib }

/-- A snapshot falls due at the row tick. -/
def snapDue (x : SnapReq) (s : State) : Bool :=
  !x.latched && (x.at_ == 0 || (x.at_ == s.time.frame && s.time.row == 0))

/-- A command that takes effect at the tick meets a target error at the counter store (R412, R413). -/
def storeError (k : Key) (s : State) : State :=
  finishKey k stFunctionDown [] { s with mx.tgtErr := sat 0xFFFFFFFF (s.mx.tgtErr + 1) }

/-- Snapshot latches of the tick, in start order. -/
def snapStep (s : State) : State :=
  let due := s.ctr.snaps.filter (fun x => snapDue x s)
  if !s.latches 16 then
    due.foldl (fun s x => storeError x.key s) { s with ctr.snaps := s.ctr.snaps.filter (fun x => !snapDue x s) }
  else
  let s := due.foldl (fun s x => latch x.scopes s) s
  { s with ctr.snaps := s.ctr.snaps.map (fun x => if snapDue x s then { x with latched := true } else x) }

/-- R435: the copies are in place, and the request's credit is returned. -/
def execSnapshotCopiesDone (s : State) : Res :=
  .next (match s.ctr.snaps.find? (fun x => x.latched) with
    | some x => finishKey x.key stOk [] { s with ctr.snaps := dropFirst (fun y => y.latched) s.ctr.snaps }
    | none => s)

/-! ## Reconfiguration (R430 to R432, R434) -/

/-- The first multiple of p from frame f on. -/
def nextMultiple (f p : Nat) : Nat := ceilDiv f p * p

/-- Fields of CTR_CFG word 0. -/
def ccBank (w : W64) : Nat := fld w 3 0
def ccSetBank (w : W64) : Bool := bit w 4
def ccFirst (w : W64) : Nat := fld w 12 5
def ccCount (w : W64) : Nat := fld w 18 13
def ccCancel (w : W64) : Bool := bit w 19

/-- CONFIG_GEN after its next change (R430). -/
def nextGen (g : Nat) : Nat := if g = 0xFFFFFFFF then 1 else g + 1

/-- The bank word that a pending reconfiguration sets; none where it sets none. -/
def newBankWord (b : Nat) (p : CtrPend) : Option W64 :=
  if b = 16 then some (wd p.words 0) else if ccSetBank (wd p.words 0) then some (wd p.words 1) else none

/-- A pending reconfiguration takes effect at the row 0 tick of this frame. -/
def pendDue (p : CtrPend) (s : State) : Bool := p.at_ == s.time.frame && s.time.row == 0

/-- The period of a bank, or the bandwidth window, that changes at a named frame closes what is in progress (R434). -/
def changeBank (b : Nat) (s : State) : State :=
  match (s.bank b).pend with
  | some p =>
    match newBankWord b p with
    | some w =>
      if pendDue p s && s.latches b then
        let f := s.time.frame
        let s := if periodOf b w ≠ s.period b ∧ s.ctr.closed.contains b = false then closeInterval b f true false s else s
        if b = 16 ∧ bwOf w ≠ s.bwWindow ∧ s.ctr.closed.contains 17 = false then closeBw f true false s else s
      else s
    | none => s
  | none => s

/-- Every period or window that changes, with the latches of step 3. -/
def changeStep (s : State) : State := (List.range 17).foldl (fun s b => changeBank b s) s

/-- The records that a CTR_CFG names, with their counters. -/
def ccRecords (ws : List W64) : List (Nat × W64 × W64) :=
  let w := wd ws 0
  (List.range (ccCount w)).map (fun j => (256 * ccBank w + ccFirst w + j, wd ws (2 + 2 * j), wd ws (3 + 2 * j)))

/-- A counter's record replaced whole (R432). -/
def Ctr.configure (w0 w1 : W64) : Ctr := { w0 := w0, w1 := w1, value := fld w1 47 0 }

/-- Step 4 of Table 16.2 for one bank. -/
def reconfigure (b : Nat) (p : CtrPend) (s : State) : State :=
  let f := s.time.frame
  let s := if b = 16 then s
    else { s with ctr.ctrs := (ccRecords p.words).foldl (fun m x => kset {} m x.1 (Ctr.configure x.2.1 x.2.2)) s.ctr.ctrs }
  let g := nextGen (s.bank b).gen
  let s := s.modBank b (fun k =>
    let w := (newBankWord b p).getD k.w
    let first := k.fromFrame == f
    let changed := periodOf b w != periodOf b k.w
    { k with gen := g, w := w, pend := none, genStart := if first then g else k.genStart, mixed := k.mixed || !first,
             short := k.short || (changed && f % periodOf b w != 0) })
  let s := if b = 16 ∧ s.ctr.closed.contains 17 = true ∧ f % s.bwWindow ≠ 0 then { s with ctr.bwShort := true } else s
  finishKey p.key stOk (if b = 16 then [0, pack [(47, 0, f)]] else [pack [(31, 0, g)], pack [(47, 0, f)]]) s

/-- A pending reconfiguration of a bank that is due. -/
def reconfBank (b : Nat) (s : State) : State :=
  match (s.bank b).pend with
  | some p =>
    if !pendDue p s then s
    else if s.latches b then reconfigure b p s
    else storeError p.key (s.modBank b (fun k => { k with pend := none }))
  | none => s

/-- Step 4 of Table 16.2, in the order in which the commands were started (R44). -/
def reconfStep (s : State) : State :=
  let ks := (s.host.prog.filter (fun r => r.cmd.opcode == 0x0901 || r.cmd.opcode == 0x0904)).map (·.key)
  let bs := ks.flatMap (fun k => (List.range 17).filter (fun b => (s.bank b).pend.any (fun p => decide (p.key = k))))
  (bs ++ List.range 17).foldl (fun s b => reconfBank b s) s

/-- Steps 3 and 4 of Table 16.2 (Table 2.2, order 2 and 3). A snapshot at a boundary holds the counts of the record that
closes there (R435), so it is latched before the counts restart. -/
def latchStep (s : State) : State :=
  let s := snapStep s
  if s.time.row = 0 then
    let f := s.time.frame
    reconfStep (changeStep (closeWindow f ((List.range 17).foldl (fun s b => closePeriod b f s) s)))
  else s

/-- EV_PERIOD_CLOSED (R441), and the marks of the tick cleared. -/
def closedEvent (s : State) : State :=
  let bs := s.ctr.closed.filter (· < 17)
  let low := bs.foldl min 17
  let detail : Nat := match (s.bank low).ints with
    | i :: _ => b2n i.short + 2 * b2n i.mixed + 4 * b2n i.part
    | [] => 0
  { raiseSummary 0x0902 bs detail 0 s with ctr.closed := [], ctr.ends := [] }

/-- R52, R434: a re-alignment closes every interval and the window in progress at the end of frame K, and pending
reconfigurations that wait for a boundary follow the period rule in the new numbering. -/
def realignCounters (n : Nat) (s : State) : State :=
  let s := (List.range 17).foldl (fun s b =>
    if s.ctr.closed.contains b || !s.latches b then s else closeInterval b n true (n % s.period b != 0) s) s
  let s := if s.ctr.closed.contains 17 || !s.latches 16 then s else closeBw n true (n % s.bwWindow != 0) s
  let move := fun (b : Nat) (k : Bank) (p : CtrPend) =>
    if p.boundary then { p with at_ := nextMultiple n (periodOf b k.w) } else p
  { s with ctr.banks := kmap {} (fun b (k : Bank) => { k with pend := k.pend.map (move b k) }) s.ctr.banks }

/-- R433: commanded in row 249 of the frame before a boundary; the row tick that ends it closes the interval, with the counts through that
row (log entry 24). Where a re-alignment falls at the boundary, it closes the interval there (R52). -/
def execPeriodBoundary (bank : Nat) (s : State) : Res :=
  if 17 ≤ bank then .fault (.noSuchObject "counter bank")
  else .next (if s.time.row = 249 ∧ s.ticking = true ∧ s.realignAt s.time.frame = none ∧ s.nextFrame % s.period bank = 0 then
    { s with ctr.ends := s.ctr.ends ++ [bank] } else s)

/-- R439: commanded in row 249 of the window's last frame; the row tick that ends it writes every lane's record. -/
def execBwWindowEnd (s : State) : Res :=
  .next (if s.time.row = 249 ∧ s.ticking = true ∧ s.realignAt s.time.frame = none ∧ s.nextFrame % s.bwWindow = 0 then
    { s with ctr.ends := s.ctr.ends ++ [17] } else s)

/-! ## Commands (R431, R435 to R440) -/

/-- The privilege of the queue that a command came through (R438); one that a CMD packet brought has that of the gateway's queue, which
the row that brings it tells (log entry 25). -/
def privOf (k : Key) (s : State) : Nat :=
  match k.gw with
  | none => (match s.sq k.q with | some q => q.priv | none => 0)
  | some _ => k.priv

/-- R440 for CTR_CFG. -/
def ctrCfgBad (r : Run) : Bool :=
  let w := r.cmd.p 0
  let b := r.cmd.p 1
  let p := fld b 29 0
  r.cmd.length != 16 + 16 * ccCount w || fld w 63 20 != 0 || decide (32 < ccCount w) || decide (256 < ccFirst w + ccCount w) ||
  fld b 63 31 != 0 || (p != 0 && (p < 8000 || 691200000 < p)) || (!ccSetBank w && p != 0) ||
  (ccCancel w && (fld w 18 4 != 0 || b != 0)) || (!ccCancel w && ccCount w == 0 && !ccSetBank w) ||
  !((ccRecords r.cmd.params).all (fun x => ctrRecOk x.2.1 x.2.2))

/-- The frame at which a reconfiguration takes effect (R431). -/
def effectFrame (b : Nat) (r : Run) (s : State) : Nat :=
  if r.at_ ≠ 0 then r.at_ else nextMultiple (s.time.frame + 2) (s.period b)

/-- A reconfiguration begins to wait, or finds one that waits (R431). -/
def pendReconf (b : Nat) (r : Run) (s : State) : State :=
  if (s.bank b).pend.isSome then finish r stBusy [] s
  else
    let p : CtrPend := { key := r.key, at_ := effectFrame b r s, boundary := r.at_ == 0, words := r.cmd.params }
    later r (s.modBank b (fun k => { k with pend := some p }))

def execCtrCfg (s : State) : Res := onEngine 0x0901 (fun r s =>
  let w := r.cmd.p 0
  let b := ccBank w
  if ctrCfgBad r then invalid r s
  else if ccSetBank w && bit (r.cmd.p 1) 30 != bit (s.bank b).w 30 && privOf r.key s != 2 then finish r stPrivilege [] s
  else if ccCancel w then
    match (s.bank b).pend with
    | some p => finish r stOk [] (finishKey p.key stWithdrawn [] (s.modBank b (fun k => { k with pend := none })))
    | none => finish r stOk [] s
  else pendReconf b r s) s

def execCtrRead (ok : Bool) (s : State) : Res := onEngine 0x0902 (fun r s =>
  let p := privOf r.key s
  if !sizeOk r || !bufOk (r.cmd.p 0) || fld (r.cmd.p 1) 63 28 != 0 || crCount r == 0 || decide (256 < crFirst r + crCount r) ||
      crSource r == 3 then invalid r s
  else if !bit (s.bank (crBank r)).w 30 && (p == 0 || p == 3) then finish r stPrivilege [] s
  else later { r with mem := [b2n ok] } s) s

def execCtrSnapshot (s : State) : Res := onEngine 0x0903 (fun r s =>
  let w := r.cmd.p 0
  if !sizeOk r || fld w 63 3 != 0 || fld w 2 0 == 0 || (r.cmd.broadcast && r.at_ == 0) then invalid r s
  else later r { s with ctr.snaps := s.ctr.snaps ++
    [{ key := r.key, at_ := r.at_, scopes := fld w 2 0, latched := false }] }) s

def execFixedCfg (s : State) : Res := onEngine 0x0904 (fun r s =>
  let p := fld (r.cmd.p 0) 23 0
  if !sizeOk r || fld (r.cmd.p 0) 63 40 != 0 || (p != 0 && (p < 8000 || 16000000 < p)) then invalid r s
  else pendReconf 16 r s) s

def execFixedRead (ok : Bool) (s : State) : Res := onEngine 0x0905 (fun r s =>
  let top := if frKind r then 131072 else 512
  if !sizeOk r || !bufOk (r.cmd.p 0) || fld (r.cmd.p 1) 63 42 != 0 || frCount r == 0 || decide (top < frFirst r + frCount r) ||
      frSource r == 3 || (frKind r && frInterval r != 0) then invalid r s
  else later { r with mem := [b2n ok] } s) s

def execBwRead (ok : Bool) (s : State) : Res := onEngine 0x0906 (fun r s =>
  let w := r.cmd.p 1
  if !sizeOk r || !bufOk (r.cmd.p 0) || fld w 63 19 != 0 || fld w 18 9 == 0 || decide (512 < fld w 8 0 + fld w 18 9) then invalid r s
  else later { r with mem := [b2n ok] } s) s

/-- Counter status (Table 16.11). -/
def ctrStatusWords (b : Nat) (s : State) : List W64 :=
  let k := s.bank b
  let p := s.period b
  [pack [(31, 0, if b = 16 then 0 else k.gen), (32, 32, b2n k.pend.isSome), (33, 33, b2n (b == 16 || bit k.w 30)),
         (39, 34, k.ints.length)],
   pack [(47, 0, (k.pend.map (·.at_)).getD 0)],
   pack [(47, 0, nextMultiple (s.time.frame + 1) p)],
   pack [(29, 0, p)]]

def execCtrStatus (s : State) : Res := onEngine 0x0907 (fun r s =>
  let b := fld (r.cmd.p 0) 4 0
  if !sizeOk r || fld (r.cmd.p 0) 63 5 != 0 || decide (16 < b) then invalid r s else finish r stOk (ctrStatusWords b s) s) s

end Sys2Proof.Machine
end

