-- ==== Sys2Proof/Machine/Recovery.lean ====
section
/-! DEFINITION. Chapter 17: functions, their re-initialisation, the recovery ladder, readback. -/

namespace Sys2Proof.Machine

open Sys2Proof

/-! ## Functions (Table 17.1) -/

/-- Function codes of Table 17.1. -/
def isFunction (f : Nat) : Bool := decide (f ≤ 7) || decide (64 ≤ f ∧ f ≤ 127)

/-- Maximum of a re-initialisation, in rows. -/
def reinitMax (f : Nat) : Nat :=
  match f with
  | 0 => 1000 | 1 => 400 | 2 => 1000 | 3 => 400 | 4 => 200 | 5 => 1000 | 6 => 4000 | _ => 200

/-- Targets that a function owns. -/
def ownedTargets (f : Nat) : List Nat :=
  match f with
  | 0 => [5] | 3 => [6] | 4 => [0, 1] | 5 => [2] | 6 => [4] | 7 => [7, 8]
  | 1 | 2 => []
  | _ => [3]

/-- A function has work, for which it posts progress marks (R446; log entry 27). -/
def hasWork (f : Nat) (s : State) : Bool :=
  match f with
  | 0 => s.host.engine.isSome || !s.host.work.isEmpty || !s.begun.isEmpty
  | 1 => s.isGateway && queueTransfers s != 0
  | 2 => s.towUp
  | 3 => s.twinUp
  | 4 => !s.planner.sealed.isEmpty || s.twin.warmLoad.isSome
  | 5 | 6 => s.ticking
  | 7 => s.boot.flash.isSome
  | _ => (List.range 8).any (fun p => (s.lane (8 * (f - 64) + p)).bring.trying)

/-- WD_TIME in rows; 0 = 1,000 µs. -/
def wdRows (s : State) : Nat := 2 * (if fld s.rcv.w0 47 32 = 0 then 1000 else fld s.rcv.w0 47 32)

/-- ESC_COUNT; 0 = 3. -/
def escCount (s : State) : Nat := if fld s.rcv.w0 12 9 = 0 then 3 else fld s.rcv.w0 12 9

/-- ESC_WINDOW in rows; 0 = 60 s. -/
def escRows (s : State) : Nat := (if fld s.rcv.w0 31 16 = 0 then 60 else fld s.rcv.w0 31 16) * 2000000

/-- The function is re-initialised automatically (Table 17.5). -/
def isAuto (f : Nat) (s : State) : Bool := if f < 7 then bit s.rcv.w0 f else decide (64 ≤ f) && bit s.rcv.w0 7

/-- The progress marks of the row that ends: a function that had work as the row began has posted one, unless it is stuck (R446). -/
def progressTick (stuck : List Nat) (s : State) : State :=
  { s with rcv.marks := (s.rcv.busy.filter (fun f => !stuck.contains f)).foldl (fun m f => kset 0 m f s.time.rows) s.rcv.marks }

/-- Work of every function as the row begins: a mark stands for the row in which the work began. -/
def workTick (s : State) : State :=
  let fs := (List.range 8 ++ (List.range 64).map (64 + ·)).filter (fun f => hasWork f s)
  let fresh := fs.filter (fun f => !s.rcv.busy.contains f)
  { s with rcv.busy := fs, rcv.marks := fresh.foldl (fun m f => kset 0 m f s.time.rows) s.rcv.marks }

/-- R446: WD_TIME without a progress mark while the function has work; a mark of the due row keeps the function alive (R47). -/
def execWatchdogExpiry (f : Nat) (s : State) : Res :=
  if !isFunction f then .fault (.noSuchObject "function")
  else .next (if s.ready && s.rcv.busy.contains f && hasWork f s && decide (kget 0 s.rcv.marks f + wdRows s ≤ s.time.rows) then
    declareWedged f 1 15 s else s)

/-! ## Steps 3 and 4 (R448 to R451) -/

/-- R448 covers the device: ACTIVE or TAKING with its partner synchronised. -/
def coveredByPartner (s : State) : Bool := (s.twin.role == .active || s.twin.role == .taking) && s.ckpt.peer

/-- An event of R454 that waits for the row tick. -/
def recoveryEvent (code f : Nat) (ws : List W64) (s : State) : State := { s with rcv.evq := s.rcv.evq ++ [(code, f, ws)] }

/-- Those that the tick raises: at most one of each event for each function; further ones follow at the next ticks. -/
def recoveryEvents (s : State) : State :=
  let split := s.rcv.evq.foldl (fun (a : List (Nat × Nat × List W64) × List (Nat × Nat × List W64)) e =>
    if a.1.any (fun x => x.1 == e.1 && x.2.1 == e.2.1) then (a.1, a.2 ++ [e]) else (a.1 ++ [e], a.2)) ([], [])
  split.1.foldl (fun s e => raise e.1 e.2.2 s) { s with rcv.evq := split.2 }

/-- Words of EV_ESCALATION (R454). -/
def escalationWords (step outcome f : Nat) : List W64 := [pack [(2, 0, step), (9, 8, outcome), (22, 16, f)]]

/-- EV_ESCALATION (R454), counted in ESCALATIONS. -/
def escalation (step outcome f : Nat) (s : State) : State :=
  recoveryEvent 0x0A03 f (escalationWords step outcome f) { s with rcv.escal := inc16 s.rcv.escal }

/-- Escalation by function f (R451): step 3, unless it or step 4 is under way, when AUTO_RESET is 1 and R448 covers the device, else
withheld. -/
def escalate (f : Nat) (s : State) : State :=
  if bit s.rcv.w0 8 && coveredByPartner s then
    if s.rcv.step.isSome then s else
    let st : StepReq := { step := 3, row := s.time.rows, key := none, fn := f, go := true, begun := false }
    { s with rcv.step := some st }
  else escalation 3 2 f s

/-- Step 4 (R450, R464). -/
def powerCycle (s : State) : State := { s with boot.pwrCycle := true, boot.alert := true }

/-- A step that was asked for begins at a row tick: its reply has been written or acknowledged, or 1 ms has passed (R452);
a step 3 waits for a pending HANDOVER's AT_FRAME (R46). -/
def stepTick (s : State) : State :=
  match s.rcv.step with
  | some st =>
    if st.begun || !(st.go || decide (st.row + 2000 < s.time.rows)) || (st.step == 3 && s.twin.hand.isSome) then s
    else
      let s := escalation st.step 1 st.fn { s with rcv.step := some { st with go := true, begun := true }, rcv.stepFn := st.fn }
      if st.step = 4 then powerCycle s
      else if coveredByPartner s then { s with twin.silent := some s.time.rows }
      else s
  | none => s

/-- R448: 2 ms after the watch frames stopped the device has not stepped down. -/
def execStep3Cancel (s : State) : Res :=
  .next (match s.twin.silent, s.rcv.step with
    | some r, some st =>
      if r + 4000 < s.time.rows ∧ (s.twin.role = .active ∨ s.twin.role = .taking) then
        escalation 3 3 st.fn { s with twin.silent := none, rcv.step := none }
      else s
    | _, _ => s)

/-! ## What a re-initialisation discards and restores (Table 17.1) -/

/-- Started commands whose effect has been handed to another function, by opcode: they act at a row tick to come. -/
def handedOn (op : Nat) : Bool :=
  [0x0401, 0x0501, 0x0502, 0x0504, 0x0601, 0x0602, 0x0604, 0x0606, 0x0607, 0x0609, 0x060D, 0x0711, 0x0712, 0x0714, 0x0B21].contains op

/-- A started command whose reply has been given: its effect goes on under a key that no queue has. -/
def Run.answered (r : Run) : Run := { r with key := { q := r.key.q + 64, session := r.key.session, seq := r.key.seq } }

/-- CMD: started commands are completed with ST_FUNCTION_DOWN; those of the recovery sequencer go on (R452). -/
def discardCmd (s : State) : State :=
  let mine := (s.begun ++ s.host.engine.toList).filter (fun r => r.cmd.opcode / 256 != 0x0A)
  let kept := (s.host.prog.filter (fun r => handedOn r.cmd.opcode)).map Run.answered
  let s := mine.foldl (fun s r => finish r stFunctionDown [] s)
    { s with host.engine := s.host.engine.filter (fun r => r.cmd.opcode / 256 == 0x0A), 
             host.wr := s.host.wr.filter (fun j => j.run.cmd.opcode / 256 == 0x0A) }
  { s with host.prog := s.host.prog ++ kept }

/-- TOW: hop buffers emptied, with their credits returned; routes forgotten. -/
def discardTow (s : State) : State :=
  let s := (s.flight.a.queue ++ s.flight.b.queue).foldl (fun s q => creditBack q.pkt q.back s) s
  { s with flight.a.queue := [], flight.b.queue := [],
           flight.members := kmap {} (fun _ (m : Member) =>
             { m with hopsA := none, hopsB := none, lostAt := if m.routed then some s.time.rows else m.lostAt }) s.flight.members }

/-- CKPT: an active device's partner is no longer synchronised; a standby discards both slots and returns to SYNCING. What it would
send meanwhile, its FULL_REQ too, is not sent: the twin lanes carry zero words. -/
def discardCkpt (s : State) : State :=
  if s.isActive then
    let s := dropDeltas (fun d => d.done s) (peerLost 8 s)
    { s with ckpt.sending := none, ckpt.fullDue := false, ckpt.endGen := none, ckpt.freeGen := none, ckpt.bulk := [], ckpt.bulkRest := [],
             ckpt.urgent := [], ckpt.urgentRest := [], ckpt.rxBulk := [], ckpt.rxUrgent := [] }
  else
    let s := if s.ckpt.synced then { s with ckpt.ev := some (false, 8) } else s
    let s := emptySlots { s with ckpt.synced := false, ckpt.bulk := [], ckpt.bulkRest := [], ckpt.urgent := [],
                                 ckpt.urgentRest := [], ckpt.rxBulk := [], ckpt.rxUrgent := [] }
    if s.twin.role.standsBy && !s.handoverHeld then setRole .syncing 12 s
    else s

/-- PLAN: open plan, sealed plans and standby page discarded. -/
def discardPlan (s : State) : State := { withdrawAll s with fab.stby := {}, twin.warmLoad := none }

/-- TIME: frequency and drift windows, TIE starts; the monitor second that it overlaps records no sample (R443). -/
def discardTime (s : State) : State :=
  modInputs (fun _ i => { i with window := [], tieStart := none, dirtySec := i.q != .off }) s

/-- LANE k: lanes of the octet that are not in service return to OFF. -/
def discardLanes (k : Nat) (s : State) : State :=
  let ls := ((List.range 8).map (8 * k + ·)).filter (fun i => (s.lane i).bring != .inService)
  settleOctet k (ls.foldl (fun s i => dropVotes i (s.modLane i Lane.toOff)) s)

def discard (f : Nat) (s : State) : State :=
  match f with
  | 0 => discardCmd s
  | 1 => s
  | 2 => discardTow s
  | 3 => discardCkpt s
  | 4 => discardPlan s
  | 5 => s
  | 6 => discardTime s
  | 7 => s
  | _ => discardLanes (f - 64) s

/-- What the end of a re-initialisation sets up again: a standby asks for its checkpoint now that its twin lanes carry words. -/
def restore (f : Nat) (s : State) : State :=
  match f with
  | 3 => if s.twin.role = .syncing then sendFullReq s else s
  | 4 => { s with fab.image := s.fab.act }
  | 6 => modInputs (fun _ i => { i with dirtySec := i.q != .off }) s
  | _ => if 64 ≤ f then (List.range 8).foldl (fun s p => admitLane (8 * (f - 64) + p) s) s else s

/-! ## Step 2 (R444, R447, R451, R454) -/

/-- EV_REINIT. -/
def reinitEvent (r : Reinit) (outcome rows : Nat) (s : State) : State :=
  let us := if Config.roundUp rows 2 then (rows + 1) / 2 else rows / 2
  recoveryEvent 0x0A02 r.f [pack [(6, 0, r.f), (9, 8, outcome), (16, 16, b2n r.key.isSome)], pack [(31, 0, us)]] s

/-- R444: a PLAN re-initialisation waits while a plan is SWAPPING, a CKPT one on an active device while a HANDOVER is pending. -/
def heldBack (f : Nat) (s : State) : Bool :=
  (f == 4 && (s.fab.swap.isSome || s.planner.sealed.any (fun p => p.st == .swapping))) ||
  (f == 3 && s.isActive && s.twin.hand.isSome)

/-- A re-initialisation that was asked for begins: it clears the port controllers of the targets that its function owns, and resets
its masters (R442, R417). LANE k owns a bank of T3, whose one port has one controller (log entry 28). -/
def beginReinit (r : Reinit) (s : State) : State :=
  if s.fnDown r.f then { s with rcv.deferred := s.rcv.deferred.filter (fun x => x.f != r.f) }
  else
    let r' := { r with row := s.time.rows }
    let s := { s with rcv.deferred := s.rcv.deferred.filter (fun x => x.f != r.f), rcv.down := s.rcv.down ++ [r'],
                      rcv.wedged := s.rcv.wedged.filter (· ≠ r.f) }
    let ts := ownedTargets r.f
    let s := reinitEvent r' 1 0 { s with mx.deficit := s.mx.deficit.filter (fun d => !ts.contains (d.1 / 8)),
                                         mx.last := s.mx.last.filter (fun d => !ts.contains d.1) }
    discard r.f (if r.f < 7 then resetMaster r.f s else s)

/-- R442: before the next row tick; one that has not begun by then begins there (log entry 28). -/
def execReinitBegin (f : Nat) (s : State) : Res :=
  if !isFunction f then .fault (.noSuchObject "function")
  else .next (match s.rcv.deferred.find? (fun r => r.f == f) with
    | some r => if heldBack f s then s else beginReinit r s
    | none => s)

/-- The re-initialisation is complete: counted, replied to, its targets cleared (R412), and escalated when it is one too many
(R451). -/
def endReinit (r : Reinit) (s : State) : State :=
  let n := s.time.rows - r.row
  let us := if Config.roundUp n 2 then (n + 1) / 2 else n / 2
  let hist := ((r.f, s.time.rows) :: s.rcv.hist).filter (fun x => decide (s.time.rows ≤ x.2 + escRows s))
  let s := { s with rcv.down := s.rcv.down.filter (fun x => x.f != r.f), rcv.reinits := inc16 s.rcv.reinits,
                    rcv.lastFrame := s.time.frame, rcv.lastFn := r.f, rcv.hist := hist,
                    rcv.busy := s.rcv.busy.filter (· ≠ r.f),
                    mx.cleaned := s.mx.cleaned ++ (ownedTargets r.f).filter (fun t =>
                      s.mx.wedged.contains t && !s.mx.cleaned.contains t) }
  let s := restore r.f (reinitEvent r 2 n (releaseTargets s))
  let s := match r.key with
    | some k => finishKey k stOk [pack [(31, 0, us)]] s
    | none => s
  if escCount s ≤ (hist.filter (fun x => x.1 == r.f)).length then escalate r.f s else s

/-- The re-initialisation has exceeded its maximum: reported, escalated, and begun again at the row tick where it is automatic (R451,
R447). -/
def overrunReinit (r : Reinit) (s : State) : State :=
  let s := escalate r.f (reinitEvent r 3 (s.time.rows - r.row) s)
  if isAuto r.f s then
    { s with rcv.down := s.rcv.down.filter (fun x => x.f != r.f),
             rcv.deferred := s.rcv.deferred ++ [{ f := r.f, row := s.time.rows, key := r.key }] }
  else { s with rcv.down := s.rcv.down.map (fun x => if x.f = r.f then { r with late := true } else x) }

/-- The maximum of a re-initialisation has passed (R46, R451). -/
def reinitLimit (f : Nat) (s : State) : State :=
  match s.rcv.down.find? (fun r => r.f == f) with
  | some r => if r.row + reinitMax f < s.time.rows ∧ r.late = false then overrunReinit r s else s
  | none => s

def execReinitDone (f : Nat) (s : State) : Res :=
  if !isFunction f then .fault (.noSuchObject "function")
  else .next (match s.rcv.down.find? (fun r => r.f == f) with
    | some r => if r.row + reinitMax f < s.time.rows ∧ r.late = false then reinitLimit f s else endReinit r s
    | none => s)

/-- A watchdog that was registered in the row just ended finds a progress mark of the same row, which keeps the function alive (R46,
R47). -/
def keptAlive (w : Nat × Nat × Nat) (s : State) : Bool :=
  w.2.1 == 1 && decide (s.time.rows - 1 < kget 0 s.rcv.marks w.1 + wdRows s)

/-- EV_WEDGED of the functions declared wedged in the row just ended, and what follows for each (R447, R451). -/
def wedgeOne (w : Nat × Nat × Nat) (s : State) : State :=
  if keptAlive w s then s else
  let f := w.1
  let s := raise 0x0A01 [pack [(6, 0, f), (9, 8, if w.2.1 = 4 then 1 else w.2.1), (19, 16, w.2.2)]] { s with rcv.wedged := s.rcv.wedged ++ [f] }
  if f = 7 then escalate 7 s
  else if isAuto f s && !s.rcv.deferred.any (fun r => r.f == f) then
    { s with rcv.deferred := s.rcv.deferred ++ [{ f := f, row := s.time.rows, key := none }] }
  else s

/-- RECOVER_CFG takes effect (R453). -/
def applyRecoverCfg (r : Run) (s : State) : State :=
  let same := fld (r.cmd.p 0) 12 9 == fld s.rcv.w0 12 9 && fld (r.cmd.p 0) 31 16 == fld s.rcv.w0 31 16
  finish r stOk [] { s with rcv.w0 := r.cmd.p 0, rcv.w1 := r.cmd.p 1, rcv.hist := if same then s.rcv.hist else [] }

/-- The recovery ladder at a row tick. -/
def recoveryTick (s : State) : State :=
  let s := (s.progOf 0x0A02).foldl (fun s r => applyRecoverCfg r s) s
  let s := s.rcv.wedgeReg.foldl (fun s w => wedgeOne w s) { s with rcv.wedgeReg := [] }
  let s := (s.rcv.deferred.filter (fun r => !heldBack r.f s)).foldl (fun s r => beginReinit r s) s
  recoveryEvents (workTick (stepTick s))

/-! ## Commands (Table 17.4) -/

def execRecover (s : State) : Res := onEngine 0x0A01 (fun r s =>
  let w := r.cmd.p 0
  let step := fld w 2 0
  let f := fld w 9 3
  if !sizeOk r || fld w 63 11 != 0 || decide (step < 2 ∨ 4 < step) then invalid r s
  else if step = 2 then
    if !isFunction f || f == 7 then invalid r s
    else if s.fnDown f || s.rcv.deferred.any (fun x => x.f == f) then finish r stBusy [] s
    else later r { s with rcv.deferred := s.rcv.deferred ++ [{ f := f, row := s.time.rows, key := some r.key }] }
  else if step = 3 ∧ bit w 10 = false ∧ coveredByPartner s = false then invalid r s
  else if s.rcv.step.isSome || s.boot.pwrCycle then finish r stBusy [] s
  else
    let st : StepReq := { step := step, row := r.row, key := some r.key, fn := 127, go := false, begun := false }
    finish r stOk [] { s with rcv.step := some st }) s

def execRecoverCfg (s : State) : Res := onEngine 0x0A02 (fun r s =>
  let w := r.cmd.p 0
  let wd := fld w 47 32
  if !sizeOk r || fld w 15 13 != 0 || fld w 63 48 != 0 || r.cmd.p 1 != 0 || (wd != 0 && decide (wd < 200)) then invalid r s
  else later r s) s

/-- The recovery status record (Table 17.6). -/
def recoverStatusWords (s : State) : List W64 :=
  let fs := (s.rcv.down.map (·.f)).eraseDups
  [pack [(7, 0, (fs.filter (· < 8)).foldl (fun a f => a + 2 ^ f) 0), (23, 8, s.rcv.reinits), (39, 24, s.rcv.escal),
         (55, 40, s.rcv.resets), (59, 56, s.rcv.lastReset)],
   w64 ((fs.filter (64 ≤ ·)).foldl (fun a f => a + 2 ^ (f - 64)) 0),
   pack [(47, 0, s.rcv.lastFrame), (54, 48, s.rcv.lastFn)],
   0]

def execRecoverStatus (s : State) : Res := onEngine 0x0A03 (fun r s =>
  if !sizeOk r then invalid r s else finish r stOk (recoverStatusWords s) s) s

/-- The state summary (Table 17.8). -/
def stateSummaryWords (s : State) : List W64 :=
  [pack [(31, 0, s.fab.act.gen), (63, 32, s.advTerm)],
   pack [(47, 0, s.time.frame), (51, 48, s.twin.role.code)],
   pack [(31, 0, s.host.evSeq), (63, 32, s.rcv.cfgSeq)],
   pack [(15, 0, s.time.realignGen), (31, 16, s.rcv.reinits)]]

/-- The summary is sampled at the next row tick (R456). -/
def execStateSummary (s : State) : Res := onEngine 0x0A06 (fun r s =>
  if !sizeOk r then invalid r s else later r s) s

/-- Index range of each class of CONFIG_READ. -/
def classSize (c : Nat) : Nat :=
  [512, 25, 1, 22, 1, 4096, 4096, 17, 1, 1, 1, 1, 64].getD c 0

/-- Configuration record of a counter that is pending; zeros where none is. -/
def pendingRecord (c : Nat) (s : State) : W64 × W64 :=
  match (s.bank (c / 256)).pend with
  | some p => (((ccRecords p.words).find? (fun x => x.1 == c)).map (·.2)).getD (0, 0)
  | none => (0, 0)

/-- The queue record of a submission queue. -/
def queueRecord (q : Nat) (s : State) : List W64 :=
  match s.sq q with
  | some x => [x.base, pack [(5, 0, x.cq), (9, 6, x.log2), (11, 10, x.priv), (18, 12, x.credits), (28, 19, x.session), (29, 29, 1)]]
  | none => [0, 0]

/-- One configuration record of 16 bytes. -/
def configRecord (c i : Nat) (s : State) : List W64 :=
  match c with
  | 0 => [(s.lane i).degW0, (s.lane i).degW1]
  | 1 => [(s.input i).w0, (s.input i).w1]
  | 2 => [s.f.recW0, s.f.recW1]
  | 3 => [(kget (0, 0) s.outs.recs i).1, (kget (0, 0) s.outs.recs i).2]
  | 4 => [s.time.timeW0, s.time.timeW1]
  | 5 => [(s.counter i).w0, (s.counter i).w1]
  | 6 => [(pendingRecord i s).1, (pendingRecord i s).2]
  | 7 => [(s.bank i).w, 0]
  | 8 => [s.twin.revCfg, 0]
  | 9 => [w64 s.twin.holdCfg, 0]
  | 10 => [s.mx.w0, s.mx.w1]
  | 11 => [s.rcv.w0, s.rcv.w1]
  | _ => queueRecord i s

def execConfigRead (ok : Bool) (s : State) : Res := onEngine 0x0A07 (fun r s =>
  let w := r.cmd.p 1
  let c := fld w 4 0
  let first := fld w 22 5
  let n := fld w 40 23
  if !sizeOk r || !bufOk (r.cmd.p 0) || fld w 63 41 != 0 || decide (12 < c) || decide (classSize c < first + n) then
    invalid r s
  else later { r with mem := [b2n ok] } s) s

/-- The records that a CONFIG_READ samples at the row tick (R455). -/
def configWords (r : Run) (s : State) : List W64 :=
  let w := r.cmd.p 1
  (List.range (fld w 40 23)).flatMap (fun j => configRecord (fld w 4 0) (fld w 22 5 + j) s)

end Sys2Proof.Machine
end

