-- ==== Sys2Proof/Machine/BoardTable.lean ====
section
/-! DEFINITION. Chapter 8, board tables: their checks, the records of every chapter, writing, applying and reading them. -/

namespace Sys2Proof.Machine

open Sys2Proof

/-- One record of a board table: TYPE, INDEX, body words. -/
structure BtRec where
  type : Nat
  index : Nat
  body : List W64
deriving DecidableEq, Repr

/-- SIZE that a record type requires (Tables 8.3, R259, R270, Tables 11.10, 11.11, 12.7, 14.1). -/
def recSize (type : Nat) : Option Nat :=
  match type with
  | 0x01 | 0x02 => some 2
  | 0x03 | 0x10 | 0x11 | 0x12 | 0x13 => some 3
  | 0x20 | 0x21 | 0x22 | 0x23 => some 2
  | _ => none

/-- The records up to the trailer; none where a header is not one of Table 8.3 or a record runs past the trailer. -/
def parseRecords : Nat → List W64 → Option (List BtRec)
  | 0, ws => if ws.isEmpty then some [] else none
  | n + 1, ws =>
    match ws with
    | [] => some []
    | h :: rest =>
      match recSize (fld h 7 0) with
      | some k =>
        if fld h 23 8 = k ∧ fld h 63 40 = 0 ∧ k - 1 ≤ rest.length then
          (parseRecords n (rest.drop (k - 1))).map
            (fun rs => { type := fld h 7 0, index := fld h 39 24, body := rest.take (k - 1) } :: rs)
        else none
      | none => none

/-- The taps of a LANE record (Table 8.5, R214). -/
def tapsOk (w : W64) : Bool :=
  let pre2 := sgn 8 (fld w 7 0)
  let pre1 := sgn 8 (fld w 15 8)
  let main := fld w 23 16
  let post1 := sgn 8 (fld w 31 24)
  decide (-16 ≤ pre2 ∧ pre2 ≤ 0) && decide (-48 ≤ pre1 ∧ pre1 ≤ 0) && decide (64 ≤ main ∧ main ≤ 128) &&
  decide (-32 ≤ post1 ∧ post1 ≤ 0) && fld w 63 37 == 0 && decide (mag pre2 + mag pre1 + mag post1 + main ≤ 128)

/-- Every field of a record within its range, every reserved bit 0 (R214). DESIGN CHOICE (log entry 110): a condition that joins two
records, as Table 10.4 has it for the pulse that a time-of-day output is linked to, is no field's range and is not checked in a
board table. -/
def recOk (r : BtRec) : Bool :=
  let w0 := wd r.body 0
  let w1 := wd r.body 1
  match r.type with
  | 0x01 => r.index == 0 && fld w0 1 0 != 3 && fld w0 63 3 == 0
  | 0x02 => decide (r.index < 64) && fld w0 1 0 != 3 && fld w0 3 2 != 3 && fld w0 63 4 == 0
  | 0x03 => decide (r.index < 512) && fld w0 63 23 == 0 && decide (fld w0 22 15 ≤ 120) && tapsOk w1
  | 0x10 => decide (r.index < 25) && inputRecOk r.index w0 w1
  | 0x11 => r.index == 0 && chanFRecOk w0 w1
  | 0x12 => decide (r.index < 22) && outRecOk r.index w0 w1
  | 0x13 => r.index == 0 && timeRecOk w0 w1
  | 0x20 => r.index == 0 && fld w0 63 18 == 0 && decide (fld w0 17 12 ≤ 32)
  | 0x21 => r.index == 0 && fld w0 63 18 == 0
  | 0x22 => r.index == 0 && fld w0 63 22 == 0
  | 0x23 => r.index == 0 && fld w0 63 38 == 0 && decide (fld w0 21 15 ≤ 64)
  | _ => false

/-- No record of a type and index twice, and exactly one BOARD record (Table 8.3). -/
def countsOk (rs : List BtRec) : Bool :=
  noTwice (rs.map (fun r => (r.type, r.index))) && rs.any (fun r => r.type == 1)
where
  noTwice : List (Nat × Nat) → Bool
    | [] => true
    | x :: xs => !xs.contains x && noTwice xs

def btLength (ws : List W64) : Nat := fld (wd ws 1) 31 0
def btSequence (ws : List W64) : Nat := fld (wd ws 1) 63 32

/-- The words of the table in a slot or a buffer: its LENGTH says how many. -/
def btWords (ws : List W64) : List W64 := ws.take (btLength ws / 8)

/-- The records of a table that R214 accepts; none of one that it does not. -/
def btAccepted (slot : List W64) : Option (List BtRec) :=
  let ws := btWords slot
  let n := ws.length
  let trailer := wd ws (n - 1)
  if fld (wd ws 0) 31 0 = 0x42544C31 ∧ fld (wd ws 0) 47 32 = 1 ∧ fld (wd ws 0) 63 48 = 0 ∧
      72 ≤ btLength slot ∧ btLength slot ≤ 262144 ∧ btLength slot % 8 = 0 ∧ n = btLength slot / 8 ∧
      btSequence slot ≠ 0 ∧ fld (wd ws 3) 63 16 = 0 ∧ wd ws 4 = 0 ∧ wd ws 5 = 0 ∧ wd ws 6 = 0 ∧ wd ws 7 = 0 ∧
      fld trailer 63 32 = 0x42544C31 ∧
      fld trailer 31 0 = (crc32c (wordBytes (ws.take (n - 1)))).toNat then
    match parseRecords n ((ws.take (n - 1)).drop 8) with
    | some rs => if rs.length = fld (wd ws 3) 15 0 ∧ countsOk rs = true ∧ rs.all recOk = true then some rs else none
    | none => none
  else none

/-! ## Records in force (R215, R259, R270, R377) -/

/-- The record of a type and index. -/
def findRec (rs : List BtRec) (type index : Nat) : Option BtRec := rs.find? (fun r => r.type == type && r.index == index)

/-- The device's own address under a table: by its straps, or enumerated (R379), where it may not be known yet. -/
def State.addrUnder (s : State) (rs : List BtRec) : Option Nat :=
  match findRec rs 0x23 0 with
  | some f =>
    if bit (wd f.body 0) 1 then
      (if bit (wd f.body 0) 0 then some 0 else if s.flight.addressed then some s.flight.addr else none)
    else some s.boot.straps.addr
  | none => some s.boot.straps.addr

/-- PARTNER_ADDR differs from the device's own address (Table 11.10). -/
def State.partnerOk (s : State) (rs : List BtRec) : Bool :=
  (findRec rs 0x20 0).all (fun r => s.addrUnder rs != some (fld (wd r.body 0) 11 6))

/-- The records of a table that this device accepts (R214). -/
def State.btGood (s : State) (slot : List W64) : Option (List BtRec) := (btAccepted slot).filter s.partnerOk


/-- The address that a device has at reset: its straps, or with ADDR_MODE 1 address 0 on the gateway and none elsewhere. -/
def startAddress (s : State) : State :=
  if !s.flight.hasRec || !bit s.flight.cfg 1 then { s with flight.addr := s.boot.straps.addr, flight.addressed := true }
  else { s with flight.addr := 0, flight.addressed := bit s.flight.cfg 0 }

/-- One record takes its place at reset. -/
def loadRec (r : BtRec) (s : State) : State :=
  let w0 := wd r.body 0
  let w1 := wd r.body 1
  match r.type with
  | 0x01 => { s with boot.board := w0 }
  | 0x02 => s.modOctet r.index (fun o => { o with cfg := w0 })
  | 0x03 => s.modLane r.index (fun l => { l with recW1 := w0, recW2 := w1 })
  | 0x10 => s.modInput r.index (fun i => i.configure w0 w1 0)
  | 0x11 => { s with f.recW0 := w0, f.recW1 := w1 }
  | 0x12 => outBoundary { s with outs.next := (r.index, w0, w1) :: s.outs.next }
  | 0x13 => { s with time.timeW0 := w0, time.timeW1 := w1 }
  | 0x20 => { s with twin.cfg := w0, twin.hold := fld w0 17 12, twin.holdCfg := fld w0 17 12 }
  | 0x21 => { s with keeper.cfg := w0 }
  | 0x22 => { s with twin.revCfg := w0 }
  | 0x23 => { s with flight.cfg := w0, flight.hasRec := true }
  | _ => s

/-- Both slots, in order A, B. -/
def State.btSlot (s : State) (b : Bool) : List W64 := if b then s.boot.btB else s.boot.btA

/-- The slot in use; with no accepted table neither is, and slot A is the one to write (log entry 26). -/
def State.btInUse (s : State) : Bool := s.boot.btUse.getD true

/-- SEQUENCE of the table in use, 0 = none (Table 13.15). -/
def State.btSeq (s : State) : Nat :=
  match s.boot.btUse with
  | some b => btSequence (s.btSlot b)
  | none => 0

/-- The words of a slot at start-up: what was read or written before, unless the board has rewritten the flash (R469). -/
def foundTable (reflash : Bool) (found stored : List W64) : List W64 :=
  if stored.isEmpty || (reflash && !found.isEmpty) then found else stored

/-- BT_LOAD (R215): both slots checked, the accepted table with the higher SEQUENCE chosen, slot A when they are equal. A
slot that has been read or written before keeps what it holds; else the operand says what was found there. -/
def btLoad (a b : List W64) (s : State) : State :=
  let s := { s with boot.btA := foundTable s.boot.reflash a s.boot.btA, boot.btB := foundTable s.boot.reflash b s.boot.btB,
                    boot.st := .clocks }
  match s.btGood s.boot.btA, s.btGood s.boot.btB with
  | some ra, some rb =>
    let useB := decide (btSequence s.boot.btA < btSequence s.boot.btB)
    startAddress ((if useB then rb else ra).foldl (fun s r => loadRec r s) { s with boot.btUse := some useB })
  | some ra, none => startAddress (ra.foldl (fun s r => loadRec r s) { s with boot.btUse := some false })
  | none, some rb => startAddress (rb.foldl (fun s r => loadRec r s) { s with boot.btUse := some true })
  | none, none => raise 0x0B20 [3] (startAddress { s with boot.btUse := none })

def execBtLoadDone (a b : List W64) (s : State) : Res := .next (if s.boot.st = .btLoad then btLoad a b s else s)

/-! ## Applying a table (R217) -/

/-- The LANE record of one lane of the new table: in force at once for a lane out of service, whose bring-up restarts from
OFF, and for a lane in service that it no longer has present, which leaves service (R224, Table 8.7); held back for any other
lane in service (R217). The pair orders of the octet are given up only where none of its lanes is in service (R221). -/
def applyLaneRec (old new : List BtRec) (i : Nat) (s : State) : State :=
  let w : W64 × W64 := match findRec new 3 i with
    | some r => (wd r.body 0, wd r.body 1)
    | none => (0, 0)
  if (findRec new 3 i).isNone && (findRec old 3 i).isNone then s
  else if s.inService i && bit w.1 0 then s.modLane i (fun l => { l with recNext := some w })
  else
    let s := dropVotes i (s.modLane i (fun l => { l.toOff with recW1 := w.1, recW2 := w.2, recNext := none }))
    if (List.range 8).any (fun p => s.inService (8 * (i / 8) + p)) then s
    else settleOctet (i / 8) (setOctet (i / 8) Octet.undecided s)

/-- The OCTET record of one octet. -/
def applyOctetRec (old new : List BtRec) (k : Nat) (s : State) : State :=
  let w : W64 := match findRec new 2 k with
    | some r => wd r.body 0
    | none => 0
  if (findRec new 2 k).isNone && (findRec old 2 k).isNone then s
  else if (List.range 8).any (fun p => s.inService (8 * k + p)) then s.modOctet k (fun o => { o with recNext := some w })
  else
    let s := (List.range 8).foldl (fun s p => s.modLane (8 * k + p) Lane.toOff) s
    s.modOctet k (fun o => { cfg := w, signals := o.signals })

/-- BT_APPLY at the row tick after its start: the slot not in use must still hold an accepted table of higher SEQUENCE, since another
BT_APPLY may have gone before (R217). DESIGN CHOICE (log entry 119): the accepted slot becomes the slot in use at this tick, so that until
then it is the slot that a BT_WRITE erases, and a BT_APPLY whose table has been erased meanwhile ends with ST_BT_CHECK. -/
def applyTable (r : Run) (s : State) : State :=
  let b := !s.btInUse
  match (s.btGood (s.btSlot b)).filter (fun _ => decide (s.btSeq < btSequence (s.btSlot b))) with
  | some new =>
    let old := match s.boot.btUse with
      | some u => (s.btGood (s.btSlot u)).getD []
      | none => []
    let s := { s with boot.btUse := some b }
    let s := (List.range 512).foldl (fun s i => applyLaneRec old new i s) s
    let s := (List.range 64).foldl (fun s k => applyOctetRec old new k s) s
    finish r stOk [] ((List.range 512).foldl (fun s i => admitLane i s) s)
  | none => finish r stBtCheck [] s

/-- BT_APPLY commands that take effect at the row tick. -/
def btTick (s : State) : State := (s.progOf 0x0B21).foldl (fun s r => throughMatrix 7 [7, 3] r (applyTable r) s) s

/-! ## Commands (Table 8.6) -/

/-- A board table that has been read is checked, and its writing begins (R216); no table where the read has failed. DESIGN CHOICE (log
entry 116): ST_FUNCTION_DOWN where the boot engine does not reach the flash. -/
def beginTable (r : Run) (buf : Option (List W64)) (s : State) : State :=
  if s.boot.flash.isSome then finish r stBusy [] s
  else if !s.reaches 7 [7] then finish r stFunctionDown [] (notReached 7 s)
  else match buf with
    | none => finish r stDmaError [] s
    | some ws =>
      if (s.btGood ws).isNone || decide (btSequence ws ≤ s.btSeq) then finish r stBtCheck [] s
      else
        let s := if s.btInUse then { s with boot.btA := [0] } else { s with boot.btB := [0] }
        later r { s with boot.flash := some { kind := 1, key := r.key, words := btWords ws } }

/-- R216. -/
def execBtWrite (buf : Option (List W64)) (s : State) : Res := onEngine 0x0B20 (fun r s =>
  if !sizeOk r || !bufOk (r.cmd.p 0) then invalid r s
  else if s.boot.flash.isSome then finish r stBusy [] s
  else readBuffer r (r.cmd.p 0).toNat 262144 buf beginTable s) s

/-- R216: the slot not in use has been written and read back. Where the boot engine does not reach the flash then, the slot stays not
valid (log entry 116). -/
def btWritten (readback : Bool) (j : FlashJob) (s : State) : State :=
  let s := { s with boot.flash := none }
  if !s.reaches 7 [7] then finishKey j.key stFunctionDown [] (notReached 7 s)
  else if readback then
    finishKey j.key stOk [] (if s.btInUse then { s with boot.btA := j.words } else { s with boot.btB := j.words })
  else finishKey j.key stBtCheck [] s

def execBtWriteDone (readback : Bool) (s : State) : Res :=
  .next (match s.boot.flash with
    | some j => if j.kind = 1 then btWritten readback j s else s
    | none => s)

/-- R217: the slot not in use must hold an accepted table of higher SEQUENCE. -/
def execBtApply (s : State) : Res := onEngine 0x0B21 (fun r s =>
  let x := s.btSlot (!s.btInUse)
  if !sizeOk r then invalid r s
  else if (s.btGood x).isNone || decide (btSequence x ≤ s.btSeq) then finish r stBtCheck [] s
  else later r s) s

/-- The words of a slot: what was written, and beyond it what the erased flash holds (log entry 26). -/
def tableWords (ws : List W64) : List W64 :=
  (List.range 32768).map (fun i =>
    match ws[i]? with
    | some w => w
    | none => w64 ((List.range 8).foldl (fun a j => a + (Config.flashByte (8 * i + j)).toNat * 2 ^ (8 * j)) 0))

def execBtRead (ok : Bool) (s : State) : Res := onEngine 0x0B22 (fun r s =>
  if !sizeOk r || !bufOk (r.cmd.p 0) || fld (r.cmd.p 1) 63 1 != 0 then invalid r s
  else bufReply r ok (r.cmd.p 0).toNat (tableWords (s.btSlot (if bit (r.cmd.p 1) 0 then !s.btInUse else s.btInUse))) [] s) s

end Sys2Proof.Machine
end

