-- ==== Sys2Proof/Machine/Conn.lean ====
section
/-! DEFINITION. Chapters 3 and 5: the commands that edit connections and tributaries. -/

namespace Sys2Proof.Machine

open Sys2Proof

/-- Edits added to the open plan, which is opened when there is none (R87). -/
def addEdits (es : List (Nat × BitVec 32)) (ts : List (Nat × List W64)) (named : List Nat) (s : State) : State :=
  { s with planner.opened := true, planner.entries := s.planner.entries ++ es, planner.tribs := s.planner.tribs ++ ts,
           planner.named := (s.planner.named ++ named).eraseDups }

/-- Edit record (Table 3.9): entry index and entry. -/
def editOf (w : W64) : Nat × BitVec 32 := (entryIndex (fld w 24 16) (fld w 12 0), (w >>> 32).setWidth 32)

/-- A record of a CONN_EDIT that R84 rejects: its own fields and its entry. -/
def editBad (w : W64) : Bool :=
  decide (6143 < fld w 12 0) || fld w 15 13 != 0 || fld w 31 25 != 0 || entryBad (editOf w).2

/-- Some number occurs twice. -/
def hasDup : List Nat → Bool
  | [] => false
  | x :: xs => xs.contains x || hasDup xs

/-- R84 for CONN_EDIT. -/
def connEditBad (r : Run) (s : State) : Bool :=
  let n := fld (r.cmd.p 0) 8 0
  let recs := r.cmd.params.drop 1
  let es := recs.map editOf
  n == 0 || decide (256 < n) || fld (r.cmd.p 0) 63 9 != 0 || r.cmd.length != 8 * (n + 1) ||
  recs.any editBad || hasDup (es.map (·.1)) ||
  !(es.all (fun e => (projected s).entryFits (e.1 / 6144) (e.1 % 6144) e.2))

/-- R83 to R86. -/
def execConnEdit (s : State) : Res := onEngine 0x0201 (fun r s =>
  if !s.isActive then finish r stNotActive [] s
  else if connEditBad r s then invalid r s
  else
    let es := (r.cmd.params.drop 1).map editOf
    finish r stOk [] (addEdits es [] (es.map (·.1)) s)) s

/-- Entries of a CONN_LOAD buffer in entry index order (R85). -/
def loadEntries (buf : List W64) : List (BitVec 32) :=
  buf.flatMap (fun (w : W64) => [w.setWidth 32, (w >>> 32).setWidth 32])

/-- The entries of a run of lanes, as the buffer gives them, join the open plan, or none of them does (R85, R86); no buffer where the
read has failed. -/
def loadRun (r : Run) (buf : Option (List W64)) (s : State) : State :=
  let first := fld (r.cmd.p 1) 8 0
  let n := fld (r.cmd.p 1) 18 9
  match buf with
  | none => finish r stDmaError [] s
  | some ws =>
    let es := ((loadEntries (ws ++ List.replicate (3072 * n - ws.length) 0)).take (n * 6144)).mapIdx (fun i e => (first * 6144 + i, e))
    let pg := projected s
    match es.find? (fun e => entryBad e.2 || !pg.entryFits (e.1 / 6144) (e.1 % 6144) e.2) with
    | some e => finish r stInvalidParam [w64 (e.1 - first * 6144)] s
    | none => finish r stOk [] (addEdits es [] (es.map (·.1)) s)

/-- R83 to R86 for a run of whole lanes. The operand is the buffer as the gateway reads it; none where the read fails. -/
def execConnLoad (buf : Option (List W64)) (s : State) : Res := onEngine 0x0202 (fun r s =>
  let w := r.cmd.p 1
  let first := fld w 8 0
  let n := fld w 18 9
  if !s.isActive then finish r stNotActive [] s
  else if !sizeOk r || !bufOk (r.cmd.p 0) || fld w 63 19 != 0 || n == 0 || decide (512 < first + n) then
    finish r stInvalidParam [0xFFFFFFFFFFFFFFFF#64] s
  else
    readBuffer r (r.cmd.p 0).toNat (24576 * n) buf loadRun s) s

/-- Record j of a TRIB_SET: the tributary and its eight words (Table 5.5). -/
def tribEdit (ps : List W64) (j : Nat) : Nat × List W64 :=
  (fld (wd ps (9 * j + 1)) 16 0, (List.range 8).map (fun i => wd ps (9 * j + 2 + i)))

/-- The records of a TRIB_SET applied one after the other, each checked against the plan so far (R118; log entry 16). -/
def tribApply : Page → List (Nat × List W64) → Option Page
  | p, [] => some p
  | p, (t, ws) :: ts => if tribOk ws && p.tribFits t ws then tribApply (p.setTrib t ws) ts else none

/-- Egress slots whose copy B source a list of edits changes (R89). -/
def copyBChanged (old new : Page) (ts : List (Nat × List W64)) : List Nat :=
  (ts.flatMap (fun t =>
    (tMembers (old.tribRec t.1)).map (entryIndex (tLane (old.tribRec t.1))) ++
    (tMembers t.2).map (entryIndex (tLane t.2)))).eraseDups.filter
      (fun e => decide (old.copyB (e / 6144) (e % 6144) ≠ new.copyB (e / 6144) (e % 6144)))

/-- R114 to R118, R136. -/
def execTribSet (s : State) : Res := onEngine 0x0203 (fun r s =>
  let n := fld (r.cmd.p 0) 5 0
  let ts := (List.range n).map (tribEdit r.cmd.params)
  let old := projected s
  if !s.isActive then finish r stNotActive [] s
  else if n == 0 || decide (32 < n) || fld (r.cmd.p 0) 63 6 != 0 || r.cmd.length != 8 * (9 * n + 1) ||
      (List.range n).any (fun j => fld (wd r.cmd.params (9 * j + 1)) 63 17 != 0) || hasDup (ts.map (·.1)) then invalid r s
  else match tribApply old ts with
    | none => invalid r s
    | some new => finish r stOk [] (addEdits [] ts (copyBChanged old new ts) s)) s

/-- R114, R137: the copy ends at the next row tick. -/
def execTribRead (ok : Bool) (s : State) : Res := onEngine 0x0204 (fun r s =>
  let w1 := r.cmd.p 1
  let w2 := r.cmd.p 2
  if !sizeOk r || !bufOk (r.cmd.p 0) || fld w1 63 49 != 0 || fld w2 63 18 != 0 || fld w2 17 0 == 0 ||
      decide (131072 < fld w1 48 32 + fld w2 17 0) then invalid r s
  else beginRead r (fld w1 31 0) ok s) s

end Sys2Proof.Machine
end

