-- ==== Sys2Proof/Machine/Boot.lean ====
section
/-! DEFINITION. Chapter 18 (and R494, R376): supplies, reset, straps, firmware, start-up, the identity object. -/

namespace Sys2Proof.Machine

open Sys2Proof

/-! ## Firmware images (R467) -/

/-- A slot that holds no image: erased, or being written when a reset came (R475). -/
def badImage : FwImage := { header := [], body := [], sigOk := false }

def fwLength (i : FwImage) : Nat := fld (wd i.header 1) 31 0
def fwVersion (i : FwImage) : Nat := fld (wd i.header 1) 63 32
def fwLevelOf (i : FwImage) : Nat := fld (wd i.header 2) 5 0

/-- The checks of R467 against a SEC_FLOOR. -/
def fwAccepted (i : FwImage) (floor : Nat) : Bool :=
  let w2 := wd i.header 2
  fld (wd i.header 0) 31 0 == 0x4657494D && fld (wd i.header 0) 47 32 == 1 && fld (wd i.header 0) 63 48 == 0 &&
  fwLength i % 8 == 0 && decide (4096 ≤ fwLength i ∧ fwLength i ≤ 8388480) && fwLength i == 8 * i.body.length &&
  fld w2 7 6 == 0 && decide (fld w2 15 8 ≤ 0xB1) && fld w2 63 16 == 0 && (i.header.drop 3).all (· == 0) &&
  i.header.length == 8 && i.sigOk && decide (floor ≤ fwLevelOf i)

/-! ## Entering reset (R459 to R463, R494) -/

/-- What a flash write leaves when a reset interrupts it: FW_WRITE a slot B that fails (R475), BT_WRITE a slot that is
not accepted (it was cleared when the write began), ADMIT two copies of which none, one or both are good (R401). -/
def cutFlash (s : State) : State :=
  match s.boot.flash with
  | some j =>
    let s := { s with boot.flash := none }
    if j.kind = 0 then { s with boot.fwB := some badImage }
    else if j.kind = 1 then s
    else
      let a := freeRecord s
      let s := { s with free := s.free + 8, flight.adm1 := a }
      let b := freeRecord s
      { s with free := s.free + 8, flight.adm0 := b }
  | none => s

/-- Every volatile object is discarded (R461). Flash, fuses, pins, RESETS and PWR_CYCLE_REQ_N stay; so do what the host's
memory holds and the waiting commands of the model. -/
def enterReset (cause : Nat) (s : State) : State :=
  let s := cutFlash s
  let b := s.boot
  let boot : Boot := { resetN := b.resetN, railsOk := b.railsOk, hot := b.hot, powerUp := b.powerUp, order := b.order,
                       uid := b.uid, secFloor := b.secFloor, fwA := b.fwA, fwB := b.fwB, btA := b.btA, btB := b.btB,
                       pwrCycle := b.pwrCycle, alert := b.pwrCycle, reflash := b.reflash }
  { State.reset with
    boot := boot, rcv.resets := s.rcv.resets, rcv.lastReset := cause, rcv.stepFn := s.rcv.stepFn, flight.adm0 := s.flight.adm0,
    flight.adm1 := s.flight.adm1, host.mem := s.host.mem, host.perst := s.host.perst, free := s.free, pending := s.pending }

/-- A loss of supplies, or a trip of a thermal sensor: reset as a power-up (R460, R494). -/
def powerDown (s : State) : State :=
  let s := { s with boot.powerUp := true }
  { enterReset 0 s with rcv.resets := 0 }

/-- The straps are sampled and start-up begins in ROM (R465, R470). -/
def beginRom (st : Straps) (s : State) : State := { s with boot.st := .rom, boot.straps := st, boot.powerUp := false }

/-- Nothing holds the device in reset (R460, R494). -/
def Boot.free (b : Boot) : Bool := b.resetN && b.railsOk && !b.hot

/-- The device leaves its SPI pins at high impedance: in every reset until ROM (Table 18.2), and in R469's cases. -/
def spiReleased (s : State) : Bool :=
  !s.boot.resetN || s.pinStage == .reset || (s.boot.st == .failed && s.boot.failedIn == .fwLoad)

/-- R461: low pulses shorter than 100 ns are ignored. RESET_N falling during an internal reset governs (R462). While it is low the
board may rewrite the flash (R469). -/
def execResetNFall (ns : Nat) (s : State) : Res :=
  .next (if ns < 100 ∨ s.boot.resetN = false then s
    else
      let s := { s with boot.resetN := false, boot.reflash := true }
      enterReset (if s.boot.powerUp then 0 else 1) s)

def execResetNRise (straps : Straps) (s : State) : Res :=
  .next (if s.boot.resetN then s
    else
      let s := { s with boot.resetN := true }
      if s.boot.free then beginRom straps s else s)

/-- R448, R449, R462: the step-3 reset; a device that hands service over first has stepped down. -/
def execInternalReset (s : State) : Res :=
  .next (match s.rcv.step with
    | some x =>
      if x.step = 3 ∧ x.begun = true ∧ (s.twin.silent.isNone = true ∨ s.twin.role = .steppedDown) then
        let s := { s with rcv.resets := inc16 s.rcv.resets }
        let cause := if x.fn = 127 then 2 else 3
        let t := enterReset cause s
        { t with boot.internal := true, boot.step3 := cause }
      else s
    | none => s)

/-- R465: the straps are sampled at the end of an internal reset. -/
def execInternalResetEnd (straps : Straps) (s : State) : Res :=
  .next (if s.boot.internal then
      let s := { s with boot.internal := false }
      if s.boot.free then beginRom straps s else s
    else s)

/-- R460: more than 2 µs below the minimum. PWR_CYCLE_REQ_N is low until the supplies fall (R450). -/
def execRailFailure (ns : Nat) (s : State) : Res :=
  .next (if ns ≤ 2000 then s
    else
      let s := { s with boot.railsOk := false, boot.pwrCycle := false }
      powerDown s)

def execRailRecovery (straps : Straps) (s : State) : Res :=
  .next (if s.boot.railsOk then s
    else
      let s := { s with boot.railsOk := true }
      if s.boot.free then beginRom straps s else s)

/-- R494. -/
def execThermalTrip (s : State) : Res :=
  let s := { s with boot.hot := true }
  .next (powerDown s)

def execThermalRelease (straps : Straps) (s : State) : Res :=
  .next (if s.boot.hot then
      let s := { s with boot.hot := false }
      if s.boot.free then beginRom straps s else s
    else s)

/-! ## Start-up (R470 to R474) -/

/-- A failed start-up after a step-3 reset starts step 4 (R450, R473). -/
def startupStep4 (s : State) : State :=
  if s.boot.step3 = 0 then s
  else
    let f := if s.boot.step3 = 2 then 127 else s.rcv.stepFn
    let s := powerCycle (raise 0x0A03 (escalationWords 4 1 f) { s with rcv.escal := inc16 s.rcv.escal })
    { s with boot.step3 := 0 }

/-- Start-up ends in FAILED, with ALERT_N low (R464, R473). -/
def startFailed (s : State) : State :=
  startupStep4 { s with boot.failedIn := s.boot.st, boot.st := .failed, boot.alert := true }

/-- ROM: fuses read. A fuse once blown stays blown (R476), and an identity once read is the device's (log entry 31). -/
def execRomDone (fuses : Fuses) (s : State) : Res :=
  .next (if s.boot.st = .rom then
      { s with boot.st := .fwLoad, boot.uid := if s.boot.uid = 0 then fuses.uid else s.boot.uid,
               boot.order := if s.boot.uid = 0 then fuses.order else s.boot.order,
               boot.secFloor := max s.boot.secFloor (fuses.secFloor % 64) }
    else s)

/-- The image runs from firmware memory (R27): its version and level, the slot and the cause of R477. -/
def runImage (i : FwImage) (slotB : Bool) (cause : Nat) (s : State) : State :=
  { s with boot.st := .btLoad, boot.runB := slotB, boot.fwCause := cause, boot.fwVer := fwVersion i, boot.fwLevel := fwLevelOf i,
           boot.aOk := !slotB, boot.bOk := slotB, boot.fwMem := some i }

/-- The image that the ROM finds in a slot: what was read or written before, unless the board has rewritten the flash (R469). -/
def foundImage (reflash : Bool) (found stored : Option FwImage) : FwImage :=
  (if reflash then found.or stored else stored.or found).getD badImage

/-- Slot A, when the ROM considers it. -/
def loadA (a : Option FwImage) (cause : Nat) (s : State) : State :=
  let img := foundImage s.boot.reflash a s.boot.fwA
  let s := { s with boot.fwA := some img }
  if fwAccepted img s.boot.secFloor then runImage img false cause s else startFailed s

/-- R468: slot B, falling back to slot A, or slot A alone; the operands say what the flash holds where that is not known. -/
def fwLoad (a b : Option FwImage) (s : State) : State :=
  if s.boot.straps.bootSrc then loadA a 2 s
  else
    let img := foundImage s.boot.reflash b s.boot.fwB
    let s := { s with boot.fwB := some img }
    if fwAccepted img s.boot.secFloor then runImage img true 0 s else loadA a 1 s

def execFwLoadDone (a b : Option FwImage) (s : State) : Res := .next (if s.boot.st = .fwLoad then fwLoad a b s else s)

/-- CLOCKS: channel F in FREE_RUN, the matrix mode set (R409), row ticks begin (R470). -/
def execClocksDone (s : State) : Res :=
  .next (if s.boot.st = .clocks then
      let mode := fld s.boot.board 1 0
      let fast := if mode = 0 then s.boot.straps.matrixFast else mode == 2
      { s with boot.st := .memory, mx.fast := fast }
    else s)

/-- MEMORY: the stores are cleared and both pages are as R104 gives, as State.reset has them; the towpath starts. -/
def execMemoryDone (s : State) : Res :=
  .next (if s.boot.st = .memory then { s with boot.st := .phase, flight.towRow := s.time.rows } else s)

/-- The frame count is fixed: counter periods begin. -/
def fixCount (frame row : Nat) (anchored : Bool) (s : State) : State :=
  let s := { s with time.frame := frame, time.row := row, time.anchored := anchored }
  (List.range 17).foldl (fun s b => s.modBank b (fun k => { k with fromFrame := frame })) s

/-- Rows that a timing source, or another device, waits for a SYNC (R471). -/
def phaseWait (s : State) : Nat := if s.flight.addressed && s.timeSrc == s.flight.addr then 4000 else 2000000

/-- The first SYNC, when it was registered in time (R391, R471). -/
def phaseSync (s : State) : Option SyncFirst :=
  s.flight.firstSync.filter (fun f => decide (f.row ≤ s.flight.towRow + phaseWait s))

/-- R471 cases 1 and 3: the device numbers its first frame 1, unanchored. -/
def execPhaseSyncTimeout (s : State) : Res :=
  .next (if s.boot.st = .phase ∧ s.time.frame = 0 ∧ phaseSync s = none ∧
      s.flight.towRow + phaseWait s < s.time.rows then fixCount 1 0 false s else s)

/-- Frame and row that the first SYNC gives at the present row tick (R391). -/
def syncCount (f : SyncFirst) (s : State) : Nat × Nat :=
  let k := (f.ps + (s.time.rows - f.row) * 500000) / 500000
  (frameNo (f.frame + k / 250), k % 250)

/-- ADMIN_DEFAULT of the BOARD record gives every present lane its admin state (Table 8.4). -/
def adminDefault (s : State) : State :=
  if bit s.boot.board 2 then
    { s with lanes := kmap {} (fun _ (l : Lane) => { l with admin := l.present }) s.lanes }
  else s

/-- SERVICES begins: the lanes are brought up as ADMIN_DEFAULT directs (Table 18.6). DESIGN CHOICE (log entry 38): the admission check and
the role come with the admission record, at the end of the state. -/
def beginServices (s : State) : State :=
  (List.range 512).foldl (fun s i => admitLane i s) (adminDefault { s with boot.st := .services })

/-- R471, R391: frame number, phase and anchored flag from the first SYNC, unless the count is fixed already; then
SERVICES. -/
def execPhaseFixed (s : State) : Res :=
  .next (if s.boot.st = .phase then
      if s.time.frame ≠ 0 then beginServices s
      else match phaseSync s with
        | some f =>
          let c := syncCount f s
          beginServices { fixCount c.1 c.2 f.anchored s with flight.counted := true }
        | none => s
    else s)

/-- The admission record decides (R399): a copy with a good CRC that names this UID admits the device. -/
def admissionCheck (s : State) : State :=
  let j0 := admJudge s.boot.uid s.flight.adm0
  let j1 := admJudge s.boot.uid s.flight.adm1
  if j0 = some true ∨ j1 = some true then { s with flight.admitted := true }
  else
    let cause := if j0.isNone && j1.isNone then 1 else 2
    raise 0x0801 [w64 cause, w64 s.boot.uid.toNat, w64 (s.boot.uid.toNat / 2 ^ 64)]
      { s with flight.admitted := false, boot.replaced := true, boot.alert := true }

/-- READY: the role that follows reset, EV_FW_BOOT (R470, R477, Table 11.6). -/
def becomeReady (s : State) : State :=
  let s := startRole { s with boot.st := .ready, boot.step3 := 0, boot.reflash := false, flight.readyRow := s.time.rows }
  raise 0x0B10 [pack [(0, 0, b2n s.boot.runB), (9, 8, s.boot.fwCause)], w64 s.boot.fwVer] s

def execServicesDone (adm0 adm1 : BitVec 512) (s : State) : Res :=
  .next (if s.boot.st = .services then
      let s := { s with flight.adm0 := if s.flight.adm0 = 0 ∨ (s.boot.reflash = true ∧ adm0 ≠ 0) then adm0 else s.flight.adm0,
                        flight.adm1 := if s.flight.adm1 = 0 ∨ (s.boot.reflash = true ∧ adm1 ≠ 0) then adm1 else s.flight.adm1 }
      becomeReady (admissionCheck s)
    else s)

/-- R473: the state whose work a cause can stop. -/
def StartFailureIn (why : StartFailure) (st : StartSt) : Bool :=
  match why with
  | .noImage => st == .fwLoad
  | .noLocalosc => st == .clocks || st == .memory || st == .phase || st == .services
  | .store => st == .memory
  | .service => st == .services

/-- R256; without an edge of LOCALOSC start-up cannot go on from CLOCKS on (R473). -/
def execLocaloscFault (offset : Bool) (s : State) : Res :=
  .next (if !offset && StartFailureIn .noLocalosc s.boot.st then startFailed (oscFault offset s) else oscFault offset s)

def execStartupFailed (why : StartFailure) (s : State) : Res :=
  .next (if StartFailureIn why s.boot.st then startFailed s else s)

/-- R450: start-up after a step-3 reset has not reached READY within 1.5 s. -/
def execStartupTimeout (s : State) : Res := .next (if s.boot.st = .ready then s else startupStep4 s)

/-! ## Commands (Table 18.7, R376) -/

/-- An image that has been read is checked, and its writing begins (R475); no image where the read has failed. DESIGN CHOICE (log
entry 116): ST_FUNCTION_DOWN where the boot engine does not reach the flash. -/
def beginImage (r : Run) (img : Option FwImage) (s : State) : State :=
  if s.boot.flash.isSome then finish r stBusy [] s
  else if !s.reaches 7 [7] then finish r stFunctionDown [] (notReached 7 s)
  else match img with
    | none => finish r stDmaError [] s
    | some i =>
      if fwAccepted i s.boot.secFloor && fld (r.cmd.p 1) 23 0 == 128 + fwLength i then
        later r { s with boot.fwB := some badImage, boot.bOk := false,
                         boot.flash := some { kind := 0, key := r.key, img := some i } }
      else finish r stFwCheck [] s

/-- An image as its bytes spell it: a header of 64 bytes, the body, and 64 bytes of signature, of which Config says whether it
verifies (log entry 9). -/
def imageOf (ws : List W64) : FwImage :=
  { header := ws.take 8, body := (ws.drop 8).take (ws.length - 16), sigOk := Config.fwSignature ws }

/-- A read through the gateway that is complete goes to its command, a failed one as none (R389). -/
def dmaEnd (j : DmaJob) (s : State) : State :=
  match s.run j.key with
  | some r =>
    let s := { s with host.prog := dropFirst (fun x => decide (x.key = r.key)) s.host.prog }
    let ws := if j.failed then none else some j.got
    match r.cmd.opcode with
    | 0x0202 => if s.isActive then loadRun r ws s else finish r stNotActive [] s
    | 0x0B20 => beginTable r ws s
    | _ => beginImage r (ws.map imageOf) s
  | none => s

/-- The reads through the gateway that are complete at the row tick (R389). One that has failed stays until the data that are still
asked for have come back, so that they are taken for no other read (log entry 105). -/
def dmaTick (s : State) : State :=
  let done : DmaJob → Bool := fun j => !j.ended && (j.failed || j.asked.isEmpty)
  (s.host.dma.filter done).foldl (fun s j => dmaEnd j s)
    { s with host.dma := (s.host.dma.filter (fun j => !j.asked.isEmpty)).map (fun j => { j with ended := j.ended || j.failed }) }

/-- Commands of a member whose buffers have been written through the gateway complete at the row tick; one of which a write has failed, or
whose gateway has become unreachable, ends with ST_DMA_ERROR (R389). -/
def wrTick (s : State) : State :=
  let done : WrJob → Bool := fun j => j.failed || j.asked.isEmpty
  (s.host.wr.filter done).foldl (fun s j =>
      if j.failed then bufFailed j.run j.addr j.bytes s else finish j.run stOk j.reply s)
    { s with host.wr := s.host.wr.filter (fun j => !done j) }

/-- R475: checked before anything is erased. -/
def execFwWrite (img : Option FwImage) (s : State) : Res := onEngine 0x0B10 (fun r s =>
  let n := fld (r.cmd.p 1) 23 0
  if !sizeOk r || !bufOk (r.cmd.p 0) || fld (r.cmd.p 1) 63 24 != 0 then invalid r s
  else if s.boot.flash.isSome then finish r stBusy [] s
  else readBuffer r (r.cmd.p 0).toNat n img beginImage s) s

/-- R475: slot B written and read back. Where the boot engine does not reach the flash then, the slot stays not valid (log entry
116). -/
def fwWritten (readback : Bool) (j : FlashJob) (s : State) : State :=
  let s := { s with boot.flash := none }
  if !s.reaches 7 [7] then finishKey j.key stFunctionDown [] (notReached 7 s)
  else if readback then finishKey j.key stOk [] { s with boot.fwB := j.img, boot.bOk := true }
  else finishKey j.key stFwCheck [] s

def execFwWriteDone (readback : Bool) (s : State) : Res :=
  .next (match s.boot.flash with
    | some j => if j.kind = 0 then fwWritten readback j s else s
    | none => s)

/-- Version of a slot, 0 when its image is not accepted (Table 18.8). -/
def slotVersion (ok : Bool) (i : Option FwImage) : Nat := if ok then fwVersion (i.getD badImage) else 0

/-- The firmware status (Table 18.8). -/
def fwStatusWords (s : State) : List W64 :=
  [pack [(0, 0, b2n s.boot.runB), (1, 1, b2n s.boot.straps.bootSrc), (2, 2, b2n s.boot.aOk), (3, 3, b2n s.boot.bOk),
         (9, 4, s.boot.secFloor), (15, 10, s.boot.fwLevel), (63, 32, slotVersion s.boot.aOk s.boot.fwA)],
   w64 (slotVersion s.boot.bOk s.boot.fwB)]

def execFwStatus (s : State) : Res := onEngine 0x0B11 (fun r s =>
  if !sizeOk r then invalid r s else finish r stOk (fwStatusWords s) s) s

/-- R476. -/
def execFwFloor (s : State) : Res := onEngine 0x0B12 (fun r s =>
  let level := fld (r.cmd.p 0) 5 0
  if !sizeOk r || fld (r.cmd.p 0) 63 6 != 0 then invalid r s
  else if s.boot.fwLevel < level then finish r stFwCheck [] s
  else if level ≤ s.boot.secFloor then finish r stOk [] s
  else finish r stOk [] { s with boot.secFloor := level }) s

/-- The identity object (Table 13.15). -/
def identityWords (s : State) : List W64 :=
  [pack [(7, 0, 0xB1), (8, 8, b2n s.boot.order), (21, 16, s.flight.addr), (22, 22, b2n s.isGateway),
         (23, 23, b2n s.boot.straps.keeperOnly), (24, 24, b2n s.boot.straps.twinPref)],
   w64 s.boot.uid.toNat, w64 (s.boot.uid.toNat / 2 ^ 64), pack [(31, 0, s.boot.fwVer), (63, 32, s.btSeq)]]

def execIdentityRead (s : State) : Res := onEngine 0x0B01 (fun r s =>
  if !sizeOk r then invalid r s else finish r stOk (identityWords s) s) s

end Sys2Proof.Machine
end

