-- ==== Sys2Proof/Machine/Expiry.lean ====
section
/-! DEFINITION. What has fallen due and has not been commanded (R46): ROW_TICK takes it at the tick that ends the due row. -/

namespace Sys2Proof.Machine

open Sys2Proof

/-- Commands run one after the other; one that stops changes nothing. -/
def settleAll (fs : List (State → Res)) (s : State) : State := fs.foldl (fun s f => settle s (f s)) s

/-! ## Expiries that are registered in the due row and act at the tick that ends it -/

/-- Runs and timers of a lane (R189, R190, R209). -/
def laneExpiries (lane : Nat) : List (State → Res) :=
  [execLosDeclareRun lane, execLosClearRun lane, execLoraDeclareRun lane, execLoraClearRun lane, execFrmMissingTimeout lane,
   execSignalReportedRun lane]

/-- Runs and timers of a tributary (R126, R129, R135). -/
def tribExpiries (t : Nat) : List (State → Res) :=
  [execSfRowsReached t false, execSfRowsReached t true, execSfClearRun t false, execSfClearRun t true, execWtrExpiry t,
   execHoldExpiry t]

/-- Timers of a reference input (R236, R243), and the activity that the device itself knows (R240). -/
def inputExpiries (n : Nat) : List (State → Res) :=
  [execInputActivityChange n .inner, execQlMessageAbsent n, execRefWtrExpiry n, execHoldoffExpiry n]

/-- The rest: the oscillator (R256), what twins and keepers send at intervals (R294, R309), the end of HOLD (R301) and the wedge
time (R412). -/
def rowExpiries : List (State → Res) :=
  [execLocaloscFault true, execLocaloscFaultClear, execTakeoverHoldExpiry, execHeartbeatSend, execRenewSend,
   execKeeperHelloInterval] ++ (List.range 9).map execTargetWedged

/-- Everything that is due in the row that ends. Each command looks at its own timer, so what is not due, or has been commanded
already, changes nothing. -/
def dueInRow (s : State) : List (State → Res) :=
  s.lanes.flatMap (fun e => laneExpiries e.1) ++ s.sels.flatMap (fun e => tribExpiries e.1) ++
  s.refs.flatMap (fun e => inputExpiries e.1) ++ s.rcv.busy.map execWatchdogExpiry ++ rowExpiries

def registerDue (s : State) : State := settleAll (dueInRow s) s

/-! ## Expiries whose consequence is taken at the tick itself, once the due row has ended -/

/-- Commands that wait for longer than their deadline or their lead allows (R39, R41), the last first. -/
def waitExpiries (s : State) : List (State → Res) :=
  ((List.range (s.host.work.length + s.host.staging.length)).reverse).flatMap (fun i => [execDeadlineExpiry i, execLeadExpiry i])

/-- Bring-up timers of a lane (R218, R225). -/
def laneEnds (lane : Nat) : List (State → Res) := [execAttemptTimerExpiry lane, execIdFaultExpiry lane]

/-- The flight (R379, R382, R390, R394). Channel F takes its own ends after the selection (R248). -/
def timeEnds : List (State → Res) :=
  [execSyncAbsent, execBackupTimeSource,
   execEnumerationTimeout, execTowPortDown .a, execTowPortDown .b, execTowPortUp .a, execTowPortUp .b]

/-- A member record (R386, R388). -/
def memberEnds (a : Nat) : List (State → Res) := [execRouteLapse a .a, execRouteLapse a .b, execMemberUnreachable a]

/-- A twin (R296, R331, R448, R502). The revert wait-to-restore ends after the roles and the revert commands of the tick (R333). -/
def twinEnds : List (State → Res) :=
  [execPeerLost, execKeeperLost, execLeaseExpiry, execWarmLimitExpiry, execHandoverRequestLapse,
   execStep3Cancel]

/-- A keeper (R307 to R310). -/
def keeperEnds : List (State → Res) :=
  [execKeeperLearningEnd, execKeeperTwinLost false, execKeeperTwinLost true, execKeeperLeaseLapse, execKeeperQueryRepeat,
   execKeeperTakeRepeat, execKeeperGrant]

/-- Everything whose due row has ended. -/
def dueAtTick (s : State) : List (State → Res) :=
  waitExpiries s ++ s.lanes.flatMap (fun e => laneEnds e.1) ++ timeEnds ++
  s.flight.members.flatMap (fun e => memberEnds e.1) ++ (List.range s.flight.unacked.length).map execTowResend ++ twinEnds ++
  keeperEnds ++ s.rcv.down.map (fun r => fun s => Host.Outcome.next (reinitLimit r.f s))

def expireTick (s : State) : State := settleAll (dueAtTick s) s

end Sys2Proof.Machine
end

