-- ==== Sys2Proof/Machine/Transmit.lean ====
section
/-! DEFINITION. The transmit side of the lanes (chapter 6): markers, barge positions, headers, payloads, and the codewords that
carry them. -/

namespace Sys2Proof.Machine

open Sys2Proof

/-! ## Durations in units of 1/257 ps: an information bit lasts 640 of them (Table 6.1) -/

/-- A barge position: 8,256 information bits. -/
def bargeTau : Nat := 5283840
/-- A lane frame: 8,192 codewords of 5,140 information bits, 104.8576 µs. -/
def laneFrameTau : Nat := 26948403200

/-! ## Bits and codewords -/

/-- The identity field of a marker (Table 6.3, R147): the lane of its octet, and the hunter of the opposite direction. DESIGN
CHOICE (log entry 74): a receiver that is aligned and has had no marker with a good CHECK yet sends SEEN_VALID 1 with SEEN_LANE
and SEEN_OCTET 0. -/
def markerIdentity (lane : Nat) (h : Hunter) (lfCount : Nat) (s : State) : W64 :=
  let seen := h.aligned
  let g := (h.good).getD 0
  pack [(63, 63, 1), (56, 51, s.flight.addr), (50, 45, lane / 8), (44, 42, lane % 8), (41, 41, b2n seen),
        (40, 40, b2n (seen && h.inv)), (39, 37, if seen then idLane g else 0),
        (36, 31, if seen then idOctet g else 0), (15, 0, lfCount)]

/-- The 160 bits of a marker (Table 6.2). -/
def markerWord (id : W64) : BitVec 160 :=
  BitVec.ofNat 160 (pattern.toNat * 2 ^ 80 + id.toNat * 2 ^ 16 + (crc16 64 id.toNat).toNat)

/-- k information bits that are no marker bits, scrambled, behind those that wait for their codeword (R149). -/
def Lane.putBits (k v : Nat) (l : Lane) : Lane :=
  let m := scramble k l.scr.toNat 0
  { l with scr := BitVec.ofNat 58 m.2, txLen := l.txLen + k, txInfo := l.txInfo <<< k ^^^ v ^^^ m.1 }

/-- The marker that opens the next lane frame, and the scrambler loaded with its seed (R145, R148, R149). -/
def Lane.putMarker (lane : Nat) (h : Hunter) (s : State) (l : Lane) : Lane × BitVec 160 :=
  let l : Lane := { l with lfCount := (l.lfCount + 1) % 65536 }
  let id := markerIdentity lane h l.lfCount s
  let m := markerWord id
  ({ l with scr := seedOf id, txLen := l.txLen + 160, txInfo := l.txInfo <<< 160 ^^^ m.toNat }, m)

/-- The codewords that the waiting bits fill (R142, R143), in order; `n` bounds their number. -/
def Lane.takeWords : Nat → Lane → Lane × List Nat
  | 0, l => (l, [])
  | n + 1, l =>
    if l.txLen < 5140 then (l, [])
    else
      let k := l.txLen - 5140
      let r := Lane.takeWords n { l with txLen := k, txInfo := l.txInfo % 2 ^ k }
      (r.1, rsEncode (l.txInfo >>> k) :: r.2)

/-- The physical transmit pair of a lane; straight while its order is undecided (R220). -/
def txPair (lane : Nat) (s : State) : Nat :=
  if (s.octet (lane / 8)).tx = some true then 8 * (lane / 8) + (7 - lane % 8) else lane

/-- The 8,256 bits of one barge at its position, with the marker that falls before it or into it: the marker takes no position
(R145, R156). -/
def Lane.putBarge (lane : Nat) (v : Nat) (s : State) (l : Lane) : Lane × List (BitVec 160) :=
  let r := l.lfTime
  if r = 0 then
    let m := l.putMarker lane l.hunter s
    ({ m.1.putBits 8256 v with lfTime := markerTau + bargeTau, txNext := l.txNext + bargeTau }, [m.2])
  else if r + bargeTau < laneFrameTau then
    ({ l.putBits 8256 v with lfTime := r + bargeTau, txNext := l.txNext + bargeTau }, [])
  else if r + bargeTau = laneFrameTau then
    ({ l.putBits 8256 v with lfTime := 0, txNext := l.txNext + bargeTau + markerTau }, [])
  else
    let k := (laneFrameTau - r) / 640
    let m := (l.putBits k (v >>> (8256 - k))).putMarker lane l.hunter s
    ({ m.1.putBits (8256 - k) (v % 2 ^ (8256 - k)) with
        lfTime := r + bargeTau + markerTau - laneFrameTau, txNext := l.txNext + bargeTau + markerTau }, [m.2])

/-- One barge sent on a lane: the line carries its bits, and the record of the row lists it. -/
def sendBarge (lane : Nat) (hdr : W64) (ws : List W64) (s : State) : State :=
  let l := s.lane lane
  let p := l.putBarge lane (ws.foldl (fun a w => a <<< 64 ^^^ w.toNat) hdr.toNat) s
  let c := p.1.takeWords 4
  let b : TxBarge := { lane := lane, at_ := l.txNext / 257, hdr := hdr, words := ws }
  let line := c.2.map (fun w => (txPair lane s, linePams 2720 (turn (bit l.recW1 1) w)))
  { s.modLane lane (fun _ => c.1) with
    out.barges := s.out.barges ++ [b], out.markers := s.out.markers ++ p.2.map (fun m => (lane, m)),
    out.line := s.out.line ++ line }

/-! ## Headers and payloads -/

/-- A barge header with its HEC (Table 6.6, R178). -/
def bargeHeader (type row index src data : Nat) (s : State) : W64 :=
  let w := pack [(63, 60, type), (59, 48, row % 4096), (47, 43, index), (42, 42, src), (41, 40, s.twin.role.adv),
                 (39, 24, s.advTerm % 65536), (23, 16, data)]
  w ||| w64 (crc16 48 (fld w 63 16)).toNat

/-- RX_STATE (Table 6.8): marker aligned, barge SYNC, row alignment held. -/
def Lane.rxBits (l : Lane) : Nat :=
  b2n l.hunter.aligned + 2 * b2n l.delin.sync +
  4 * b2n (if l.bring == .inService then !l.lora else l.delin.sync && l.inRun != 0)

/-- The lane carries rows (R58, R178, R301). -/
def carriesRows (lane : Nat) (s : State) : Bool := s.fab.kind != .fill && s.inService lane

/-- PAIR and PREF of the words that a device sends: 0 without an enabled TWIN record (R290, Table 6.8). -/
def State.inPair (s : State) : Bool := s.twinOn && !s.boot.straps.keeperOnly
def State.pairSent (s : State) : Nat := if s.inPair then s.pair else 0
def State.prefSent (s : State) : Bool := s.inPair && s.boot.straps.twinPref

/-- The payload of a FRAME barge whose first header bit leaves `ps` after the row tick (Table 6.8, R167, R168). DESIGN CHOICE (log
entry 75): TURNAROUND is taken modulo 2^32. -/
def framePayload (lane ps : Nat) (s : State) : List W64 :=
  let l := s.lane lane
  let q := laneQl lane s
  let ws : List W64 := [
    pack [(63, 56, 1), (55, 55, b2n s.time.anchored), (54, 54, 1), (53, 53, b2n (carriesRows lane s)), (47, 0, s.time.frame)],
    pack [(55, 48, s.time.row + ps / 500000), (47, 28, ps % 500000)],
    pack [(63, 60, q.1), (59, 52, q.2), (51, 51, 1)],
    pack [(63, 62, s.twin.role.adv), (61, 56, s.flight.addr), (55, 51, s.pairSent), (50, 50, b2n s.prefSent),
          (31, 0, s.advTerm)],
    0,
    pack [(47, 0, l.echoFrame)],
    pack [(63, 32, match l.arrival with | some p => twos 32 p | none => 0x80000000),
          (31, 0, if l.echoFrame = 0 then 0xFFFFFFFF else s.psAt ps - l.echoRow)],
    pack [(63, 32, sat 0xFFFFFFFF l.fecPrev.1), (31, 16, sat 65535 l.fecPrev.2), (2, 0, l.rxBits)]] ++
    List.replicate 119 0#64
  ws ++ [pack [(31, 0, (crc32c (frameBytes ws)).toNat)]]

/-- Payload of DATA barge i: the words of slots 256 i to 256 i + 255, most significant byte first (R56); all-ones where HOLD has
run out before the first switched row (R68, R301). -/
def dataPayload (lane i : Nat) (s : State) : List W64 :=
  let w := fun (j : Nat) => if s.fab.kind = .ones then 0xFFFFFFFF#32 else kget 0 s.fab.words (entryIndex lane (256 * i + j))
  (List.range 128).map (fun j => w64 ((w (2 * j)).toNat * 2 ^ 32 + (w (2 * j + 1)).toNat))

/-- Time from the row tick of a barge whose first bit leaves `t` after the start instant of the row (R80, R163), in ps. -/
def departure (t : Nat) : Nat := Config.sendDelay.val + t / 257

/-- The network row in which a barge leaves that begins `t` after the start instant of the row in progress: up to its end, which the gap
of a re-alignment delays, the row itself, then the row that follows (R13, R279). -/
def rowLeaving (t : Nat) (s : State) : Nat :=
  let gap := if s.time.row = 249 then ((s.realignAt s.time.frame).map (·.gap)).getD 0 else 0
  if departure t < 500000 + gap then s.nrn else if s.time.row = 249 then 250 * s.nextFrame else s.nrn + 1

/-- ROW of a fill barge (R157). -/
def fillRow (lane t : Nat) (s : State) : Nat := if carriesRows lane s then s.nrn else rowLeaving t s

/-! ## The positions of a row (R159, R163 to R165) -/

/-- Barge i of the row: DATA, or HOLD in the take-over gap (R58, R159, R127, R301). -/
def sendRowBarge (lane i : Nat) (s : State) : State :=
  if s.fab.kind = .hold then countEvent 6 lane 1 (sendBarge lane (bargeHeader 4 s.nrn i 0 0 s) (List.replicate 128 0) s)
  else
    let bad := s.fab.kind == .ones || s.fab.badBarge.contains (lane, i)
    countEvent 5 lane (b2n bad) (sendBarge lane (bargeHeader 1 s.nrn i (b2n (!bad)) 0 s) (dataPayload lane i s) s)

/-- The FRAME barge of the frame in progress (R165, R168, R170). -/
def sendFrame (lane : Nat) (s : State) : State :=
  let t := (s.lane lane).txNext
  let ps := departure t
  let b := sendBarge lane (bargeHeader 3 (fillRow lane t s) 0 0 (s.time.frame % 256) s) (framePayload lane ps s) s
  countEvent 4 lane 1 (b.modLane lane (fun l =>
    { l with frameDue := false, sent := ((s.time.frame, s.psAt ps) :: l.sent).take 4 }))

/-- A TEST barge (R171). -/
def sendTest (lane : Nat) (s : State) : State :=
  let l := s.lane lane
  let b := sendBarge lane (bargeHeader 5 (fillRow lane l.txNext s) 0 0 l.testSeq s) (testPayload l.testSeq) s
  countEvent 4 lane 1 (b.modLane lane (fun l => { l with testSeq := (l.testSeq + 1) % 256 }))

/-- An IDLE barge (Table 6.7). -/
def sendIdle (lane : Nat) (s : State) : State :=
  countEvent 4 lane 1
    (sendBarge lane (bargeHeader 2 (fillRow lane (s.lane lane).txNext s) 0 0 0 s) (List.replicate 128 0) s)

/-- Position i of the row: the 24 barges of the row first, then fill barges, FRAME before TEST before IDLE (R163, R164). -/
def sendPosition (lane i : Nat) (s : State) : State :=
  if carriesRows lane s && decide (i < 24) then sendRowBarge lane i s
  else if (s.lane lane).frameDue then sendFrame lane s
  else if (s.lane lane).testOn then sendTest lane s
  else sendIdle lane s

/-- The positions of a lane that begin within `len` of the start instant of the row; `n` bounds their number. -/
def sendRun : Nat → Nat → Nat → Nat → State → State
  | 0, _, _, _, s => s
  | n + 1, lane, len, i, s =>
    if (s.lane lane).txNext < len then sendRun n lane len (i + 1) (sendPosition lane i s)
    else s.modLane lane (fun l => { l with txNext := l.txNext - len })

/-- What one lane sends from the start instant of the row in progress to that of the next row, which a gap delays (R279). The
FRAME barge of a frame is due from the start instant of its row 0 (R165). -/
def sendLane (lane gap : Nat) (s : State) : State :=
  let s := if s.time.row = 0 ∧ s.time.frame ≠ 0 then s.modLane lane (fun l => { l with frameDue := true }) else s
  let len := rowTau + 257 * gap
  sendRun (len / bargeTau + 2) lane len 0 s

/-- A reversed transmit order takes effect at a lane frame boundary of the octet (R220). -/
def renameTx (k : Nat) (s : State) : State :=
  if (s.octet k).txNew && s.out.markers.any (fun m => m.1 / 8 == k) then
    identifyAll k (fixOrder k (fun o => { o with txOrder := some true, txNew := false }) s)
  else s

/-- What the lanes whose transmitter is on send in the row in progress. -/
def laneSend (gap : Nat) (s : State) : State :=
  let on := (s.lanes.filter (fun e => e.2.bring != .off)).map (·.1)
  let s := on.foldl (fun s lane => sendLane lane gap s) s
  (s.octets.map (·.1)).foldl (fun s k => renameTx k s) s

/-! ## The twin lanes (R319, R500) -/

/-- Information bits of a lane frame. -/
def laneFrameInfo : Nat := 42106880

/-- k bits of v put on twin lane n, whose lane frame has carried r information bits, with the marker that falls before or into
them. -/
def Lane.putTwin (n r k v : Nat) (s : State) (l : Lane) : Lane × List (BitVec 160) :=
  let h := kget {} s.twin.hunters n
  if r = 0 then
    let m := l.putMarker n h s
    (m.1.putBits k v, [m.2])
  else if r + k ≤ laneFrameInfo then (l.putBits k v, [])
  else
    let a := laneFrameInfo - r
    let m := (l.putBits a (v >>> (k - a))).putMarker n h s
    (m.1.putBits (k - a) (v % 2 ^ (k - a)), [m.2])

/-- Information bits since the lane frame boundary after k more, the marker's among them. -/
def twinPlace (r k : Nat) : Nat :=
  if r = 0 then 160 + k
  else if r + k < laneFrameInfo then r + k
  else if r + k = laneFrameInfo then 0
  else 160 + (r + k - laneFrameInfo)

/-- The row's words of twin lane n on the line. -/
def twinLaneSend (n : Nat) (s : State) : State :=
  let ws := s.out.twin.getD n []
  let k := 64 * ws.length
  let p := (kget {} s.twin.tx n).putTwin n s.twin.lfBits k (ws.foldl (fun a w => a <<< 64 ^^^ w.toNat) 0) s
  let c := p.1.takeWords (k / 5140 + 2)
  { s with twin.tx := kset {} s.twin.tx n c.1,
           out.twinMarkers := s.out.twinMarkers ++ p.2.map (fun m => (n, m)),
           out.twinLine := s.out.twinLine ++ c.2.map (fun w => (n, linePams 2720 w)) }

/-- The first LF_COUNT of the twin lanes, the same on all four, is arbitrary (R148, R319; log entry 7). -/
def twinStart (s : State) : State :=
  if s.twin.tx.isEmpty then
    let c := (Config.freeWord64 s.free).toNat % 65536
    { s with twin.tx := (List.range 4).foldl (fun m n => kset {} m n { lfCount := c }) [], twin.lfBits := 0, free := s.free + 1 }
  else s

/-- The twin lanes' transmitters run: from SERVICES on, on a device whose TWIN record makes it one of a pair (Tables 11.1, 18.2). -/
def State.twinSends (s : State) : Bool :=
  if s.pinStage = .services then s.twinOn && !s.boot.straps.keeperOnly else s.ready && s.twinRole

/-- What the twin lanes of a device of a pair send in the row in progress. -/
def twinRowSend (s : State) : State :=
  if s.twinSends then
    let s := twinSend (twinStart s)
    let k := 64 * (s.out.twin.getD 0 []).length
    let s := (List.range 4).foldl (fun s n => twinLaneSend n s) s
    { s with twin.lfBits := twinPlace s.twin.lfBits k }
  else s

end Sys2Proof.Machine
end

