-- ==== Sys2Proof/Machine/RowTick.lean ====
section
/-! DEFINITION. ROW_TICK (R30): the work of the row that ends, the count of the row that begins, and every row-scheduled
action in the order of Tables 2.2 and 16.2 and of R134, R203 and R248. -/

namespace Sys2Proof.Machine

open Sys2Proof

/-! ## Lanes at a row tick -/

/-- The signal detector's report of a receive pair for a row, made in every state of its lane; a row that meets neither condition
repeats the report of the row before (R208). -/
def pairReport (n : Nat) (d : Detector) (s : State) : State :=
  s.modOctet (n / 8) (fun o =>
    let rest := o.signals.filter (fun p => p != n % 8)
    { o with signals := match d with
        | .below => rest
        | .above => (List.range 8).filter (fun p => p == n % 8 || rest.contains p) })

/-- The pair of a lane reports signal. -/
def laneSignal (lane : Nat) (s : State) : Bool :=
  let o := s.octet (lane / 8)
  o.signals.contains (if o.rx = some true then 7 - lane % 8 else lane % 8)

/-- The runs that LOS and bring-up count while the receiver is on. -/
def Lane.detect (l : Lane) (sig : Bool) : Lane :=
  if l.bring = .off then l
  else { l with noSigRun := if sig then 0 else l.noSigRun + 1, sigRun := if sig then l.sigRun + 1 else 0 }

/-- Symbols corrected and uncorrectable codewords of codewords received while the hunter was ALIGNED, up to the loss in a row in which
it left; in HUNT none is decoded (R144, R153, R154). -/
def Lane.decode (l : Lane) (ws : List (List Pam)) : Nat × Nat :=
  match if l.hunter.aligned then some l.hunter.inv else l.hunter.heard with
  | some inv =>
    let ds := ws.map (fun w => rsDecode (turn inv (lineBits w)))
    ((ds.map (·.fixed)).foldl (· + ·) 0, (ds.filter (·.bad)).length)
  | none => (0, 0)

/-- The counts of those codewords taken over (R191, R205, Table 6.8). -/
def Lane.fec (l : Lane) (sym unc : Nat) : Lane :=
  let l := (l.count 0 sym).count 1 unc
  { l with fecNow := (l.fecNow.1 + sym, l.fecNow.2 + unc), degSym := l.degSym + sym, degUnc := l.degUnc + unc }

/-- EYE_V, EYE_H and SNR, refreshed in every state from ADAPT on (R226, Table 8.10). -/
def Lane.eyes (l : Lane) (v h snr : Nat) : Lane :=
  match l.bring with
  | .off | .signalWait => l
  | _ => { l with eyeV := v % 256, eyeH := h % 256, snr := snr % 256 }

/-- The codewords that the lanes received in the row that ends (R144, Table 16.4 FEC_SYM). -/
def fecTick (inp : RowInput) (s : State) : State :=
  (inp.rx.filter (fun x => decide (x.1 < 512))).foldl
    (fun s x =>
      let c := (s.lane x.1).decode x.2
      countEvent 0x07 x.1 c.1 (s.modLane x.1 (fun l => l.fec c.1 c.2))) s

/-- What the row brings to the lanes besides. DESIGN CHOICE (log entry 110): the detector reports that ROW_TICK carries are those of the
row that the tick begins, in which LOS is registered. -/
def laneInputs (inp : RowInput) (s : State) : State :=
  let s := (inp.detector.filter (fun x => decide (x.1 < 512))).foldl (fun s x => pairReport x.1 x.2 s) s
  let s := { s with lanes := kmap {} (fun i (l : Lane) => l.detect (laneSignal i s)) s.lanes }
  (inp.eyes.filter (fun x => decide (x.1 < 512))).foldl
    (fun s x => s.modLane x.1 (fun l => l.eyes x.2.1 x.2.2.1 x.2.2.2)) s

/-- Defects of the row just ended applied, with the frame and row of a change of any bit of Table 7.5 (R189, R203). DESIGN CHOICE (log
entry 21): LAST_CHANGE and LAST_ROW are those that the tick begins. -/
def Lane.defectTick (frame row : Nat) (l : Lane) : Lane :=
  let was := l.bits
  let l := if l.bring = .inService then l.applyDefects else l
  let l := l.nextRow
  if was = l.bits ∧ l.shown = l.shows then l else { l with lastFrame := frame, lastRow := row }

/-- SF_FRAMES and DEG_SF at the end of a row in which a signal-fail trigger is declared (R191, R205). -/
def Lane.sfTick (l : Lane) : Lane :=
  if l.bring = .inService ∧ l.sfNow = true then
    let l := l.count 11 (b2n (!l.sfFrame))
    { l with sfFrame := true, degSf := true }
  else l

/-- A lane at a frame boundary (R193, R196, Table 6.8). -/
def Lane.frameTick (frame : Nat) (l : Lane) : Lane :=
  let l : Lane := { l with sfFrame := false, fecPrev := l.fecNow, fecNow := (0, 0) }
  l.degBoundary frame

/-- The row being released judged (R190): the run of rows in place is held at 0 while LOS, LOA or LOD is declared (R189). -/
def Lane.judgeTick (n : Nat) (l : Lane) : Lane :=
  if l.bring = .inService ∨ l.bring = .phase then
    let l := l.judge n
    if l.los || l.loa || l.lod then { l with inRun := 0 } else l
  else l

/-- The test word of the row (R67). -/
def Lane.sendTick (l : Lane) : Lane :=
  if l.bring = .inService then
    let g := prbsBits 32 l.prbs 0
    { l with prbs := g.2, testWord := BitVec.ofNat 32 g.1 }
  else l

/-- Lanes at a row tick, before rows are released. -/
def laneTick (newFrame : Bool) (s : State) : State :=
  let f := fun (_ : Nat) (l : Lane) =>
    let l := l.defectTick s.time.frame s.time.row
    let l := if newFrame then l.frameTick s.time.frame else l
    (l.judgeTick s.nrn).sendTick
  { s with lanes := kmap {} f s.lanes }

/-- EV_LANE_DEFECT, EV_LANE_SERVICE and EV_LANE_ID_FAULT, each once for the lanes that changed (R195, R227). -/
def laneEvents (s : State) : State :=
  let low := fun (l : List Nat) => l.foldl min 511
  let ds := (s.lanes.filter (fun e => e.2.shows != e.2.shown)).map (·.1)
  let ss := (s.lanes.filter (fun e => (e.2.bring == .inService) != e.2.svcShown)).map (·.1)
  let is := (s.lanes.filter (fun e => e.2.idChanged)).map (·.1)
  let s := raiseSummary 0x0501 ds (s.lane (low ds)).reported (s.lane (low ds)).bits s
  let s := raiseSummary 0x0502 ss (s.lane (low ss)).bring.code 0 s
  let s := raiseSummary 0x0503 is (s.lane (low is)).bring.code 0 s
  { s with lanes := kmap {} (fun _ (l : Lane) =>
      { l with shown := l.shows, svcShown := l.bring == .inService, idChanged := false }) s.lanes }

/-! ## The core (R11 to R18, R58 to R66, Table 4.2) -/

/-- The core row released from the basins of the lanes in service (R175, R18). -/
def releasedRow (s : State) : KMap (Option BargeW) :=
  s.lanes.flatMap (fun e =>
    if e.2.bring = .inService then
      (List.range 24).filterMap (fun i => (kget none e.2.basin (24 * s.nrn + i)).map (fun b => (24 * e.1 + i, some b)))
    else [])

/-- A basin after the release of row n: it and the row before stay readable for HOLD barges (R160); older rows are gone. -/
def Lane.release (n : Nat) (l : Lane) : Lane :=
  { l with prevRow := (l.basin.filter (fun e => e.1 / 24 == n)).map (fun e => (e.1 % 24, e.2)),
           olderRow := l.prevRow, basin := l.basin.filter (fun e => decide (n < e.1 / 24)),
           arrivals := l.arrivals.filter (fun e => decide (n < e.1 + 8)), skews := l.skews.filter (fun e => decide (n < e.1 + 2048)),
           discards := l.discards.filter (fun y => decide (n < y + 2048)), got := l.got.filter (fun k => decide (n < k / 24 + 2048)) }

/-- The space stage takes a core row in (R302: on a start, no row released before it completes). -/
def switchOn (s : State) : Bool :=
  match s.twin.role with
  | .taking | .warming | .warm => s.twin.started.isSome
  | _ => true

/-- Egress half, space stage and release move on by one core row; the switch die takes rows in while its clock runs (R29). -/
def coreStep (s : State) : State :=
  let s := if s.fab.running then
      { s with fab.read := s.fab.cross, fab.ingressOut := s.fab.ingress, fab.ingress := releasedRow s,
               fab.cross := if switchOn s then spaceStage (spacePage s) s.fab.ingress s.free else [],
               free := s.free + 3145728 }
    else { s with fab.read := [], fab.cross := [], fab.ingress := [], fab.ingressOut := [] }
  { s with lanes := kmap {} (fun _ (l : Lane) => l.release s.nrn) s.lanes }

/-- What lanes in service carry in the row (R178, R301, R302). -/
def kindNow (s : State) : RowKind :=
  match s.twin.role with
  | .solo | .active => .data
  | .taking =>
    if s.twin.started.any (fun d => decide (d + 2 ≤ s.time.rows)) then .data
    else if s.twin.ones then .ones else .hold
  | _ => .fill

/-- The DATA rows of all-ones (R68, R301): every slot of the lanes in service carries 0xFFFF_FFFF, every barge SRC_VALID 0
(R127). -/
def onesRow (s : State) : State :=
  let ls := s.serviceLanes
  { s with fab.words := ls.foldl (fun m l => ksetRun 0 m (entryIndex l 0) (List.replicate 6144 0xFFFFFFFF#32)) s.fab.words,
           fab.badBarge := ls.flatMap (fun l => (List.range 24).map (fun i => (l, i))),
           fab.sentLanes := ls }

/-- The row sent in the row in progress. -/
def coreTick (s : State) : State :=
  let s := coreStep s
  let s := { s with fab.kind := kindNow s }
  if s.fab.kind = .ones then onesRow s else if s.switches then readout s else s

/-! ## Lockage (R101, R104, R105, Table 4.2) -/

/-- The row 0 tick of a lockage frame. -/
def lockageStart (s : State) : State :=
  if s.fab.swap.isSome && s.time.row == 0 then { s with planner.lastLock := s.time.frame, planner.lockRow := some s.time.rows }
  else s

/-- The delta of a plan that is done: it waits while the partner is being synchronised, or has to acknowledge it, and is no longer
needed otherwise (R322 to R324). -/
def settleDelta (p : Plan) (s : State) : State :=
  if s.ckpt.sending.isSome || s.ckpt.endGen.isSome || s.ckpt.peer then
    let f := fun (d : Delta) => if d.gen = p.gen then { d with frame := p.lock } else d
    { s with ckpt.queue := s.ckpt.queue.map f, planner.deltas := s.planner.deltas.map f }
  else dropDeltas (fun d => d.gen == p.gen) s

/-- The row 3 tick: the pages have changed their places, the generation is reported, the credit comes back and the reply is
written. A device that has given up its pages at the same boundary (R29) only completes the seal. -/
def lockageDone (s : State) : State :=
  if s.fab.swap.isSome && s.time.row == 3 then
    let s := if s.fab.stby.gen = 0 then { s with fab.swap := none }
      else { s with fab.swap := none, fab.act := s.fab.stby, fab.stby := s.fab.act, fab.half := !s.fab.half }
    let s := countEvent 0x47 0 1 s
    match s.planner.sealed.find? (fun p => p.st == .swapping) with
    | some p =>
      let s := settleDelta p { s with planner.sealed := s.planner.sealed.filter (fun x => x.st != .swapping),
                                      planner.credit := true, planner.lastDone := p.gen }
      finishKey p.cmd stOk (p.words p.lock) s
    | none => { s with fab.image := s.fab.act }
  else s

/-! ## The tick -/

/-- The DEG intervals that end with row 249 are classed (R191; log entry 24). -/
def endIntervals (s : State) : State :=
  { s with lanes := kmap {} (fun _ (l : Lane) =>
    if l.bring = .inService ∧ l.degOpen = true ∧ (l.degEnd = true ∨ s.nextFrame % degInt l = 0) then l.classDeg else l) s.lanes }

/-- The end of row 249 (R36, R99, R191, R336, R398): not made by a device that steps down at the tick (R305). -/
def endFrame (s : State) : State :=
  let s := commitRealigns (realignChecks (endIntervals s))
  if stepDownCase s ≠ 0 then s
  else
    let s := settle s (execDeferralLimit s)
    handoverCheck ((armingFrames s.time.frame s.nextFrame s).foldl (fun s a => armingCheck a s) s)

/-- The number of the row that begins, after a re-alignment or without one (R30, R279). Before the count is fixed the frame
reads 0 (R32, R470). -/
def advance (x : Option Realign) (s : State) : State :=
  let s := { s with time.rows := s.time.rows + 1 }
  if s.time.frame = 0 then s
  else if s.time.row < 249 then { s with time.row := s.time.row + 1 }
  else match x with
    | some r => { s with time.frame := r.n, time.row := 0 }
    | none => { s with time.frame := frameNo (s.time.frame + 1), time.row := 0 }

/-- The work of the row that ends: its phase sample (R258), what its lanes send (R163), its SYNC (R390), its time-of-day messages, what its twin lanes
received (R319), the codewords that its lanes received (R144), its signal-fail triggers,
the commands that it started, its counts (R423 step 1, R427), the events of its role transitions (R315), and the expiries that
it registers (R46). -/
def closeRow (x : Option Realign) (inp : RowInput) (s : State) : State :=
  let s := { roleEvent s with out := {} }
  let s := todRow (syncSend (rowSample inp.phase s))
  let s := progressTick inp.stuck (twinReceive inp.twin inp.twinPhase s)
  let s := registerDue (fecTick inp (twinRowSend (laneSend ((x.map (·.gap)).getD 0) s)))
  let s := startTick { s with lanes := kmap {} (fun _ (l : Lane) => l.sfTick) s.lanes }
  let s := if s.time.row = 249 then endFrame s else s
  countStep (weirStep inp.weirs s)

/-- Interrupts that waited for the tick (R352). -/
def irqTick (s : State) : State :=
  s.host.irqWant.reverse.foldl (fun s v => msixSend v s) { s with host.irqSent := [], host.irqWant := [] }

/-- Re-alignment, counters (Tables 2.2 and 16.2). The row tick itself is an event of the row that begins, under the configuration of that
row (R423). -/
def countTick (x : Option Realign) (s : State) : State :=
  let rs : List Realign := match x with
    | some r => s.realignsAt r.k
    | none => []
  let s := rs.foldl (fun s r => applyRealign r s) s
  let s := readStep s
  let s : State := match x with
    | some r => rs.foldl (fun s r => realignReply r s) (realignCounters r.n (snapStep s))
    | none => s
  let s := countEvent 0x48 0 1 (if s.time.frame = 0 then s else latchStep s)
  rs.foldl (fun s r => realignDone r s) s

/-- Roles, the checkpoint, the recovery ladder and the matrix. -/
def controlTick (s : State) : State :=
  let s := roleTick (twinLaneTick (promoteTick (mirrorTick s)))
  let s := revertCmdTick s
  let s := rwtrTick (settle s (execRevertWtrExpiry s))
  fullTick (keeperTick (recoveryTick (matrixTick s)))

/-- Protection conditions, selectors, hold timers, and the row itself (R134, R203). -/
def switchTick (s : State) : State :=
  let s := if s.fab.swap.isSome && s.time.row == 2 && s.fab.running then lockageTribs s else s
  let s := match s.twin.role with
    | .solo | .active | .taking => selectorTick s
    | .warming | .warm => if s.twin.started.isSome then followTick s else s
    | _ => s
  let s := holdEvents (holdTick (streamSels s))
  skewTick (coreTick s)

/-- Channel P and the outputs (R262 to R272): p of the row just ended moves Φ before anything changes it; a duration ends (R46, R271)
before a new P_STEER begins. -/
def outputTick (x : Option Realign) (newFrame : Bool) (s : State) : State :=
  let a := phiTick s
  let b := if newFrame then outRealignTick x a.1 else (a.1, false)
  let s := limitEvent (a.2 || b.2) b.1
  let s := settle s (execSteerDurationEnd s)
  let s := (s.progOf 0x0609).foldl (fun s r => applySteer r s) s
  edgeTick (if newFrame then outBoundary s else s)

/-- Channel F and the references (R248, R252, R273 to R275). -/
def channelTick (inp : RowInput) (s : State) : State :=
  let was := s.f.state
  let s := refTick s
  let s := (s.host.prog.filter (fun r => r.cmd.opcode == 0x0606 || r.cmd.opcode == 0x0607)).foldl (fun s r => applySoft r s) s
  let s := settle s (execSoftLoopTimeout s)
  let s := if s.time.rows % 2000000 = 0 then s else channelEnds was (closeF s)
  sampleF inp.freq (softSample inp.softPhase (rampF s))

/-- The towpath and the flight. -/
def towTick (s : State) : State :=
  remoteFaults (delaySend (fixDir (backupTick (memberTick (countMembers (memberSend (heldTick s)))))))

/-- A status command whose records are sampled at this tick (R204, R226, R284, R403, R455, R456, R497). -/
def sampleStatus (tie : List (Nat × Int)) (r : Run) (s : State) : State :=
  let put := fun (ws reply : List W64) (s : State) => bufReply r (r.mem.getD 0 0 == 1) (r.cmd.p 0).toNat ws reply s
  let w := r.cmd.p 1
  match r.cmd.opcode with
  | 0x0304 => put (planStatusWords s) ((planStatusWords s).take 4) s
  | 0x0402 =>
    throughMatrix 1 [1] r (put ((List.range (fld (r.cmd.p 2) 17 0)).flatMap (fun i => protStatus (fld w 48 32 + i) s))
      [w64 s.time.frame, w64 s.time.frame]) s
  | 0x0503 => throughMatrix 1 [3] r (put ((laneRun w).flatMap (fun i => laneStatus i s)) []) s
  | 0x060E => throughMatrix 1 [if fld w 1 0 = 0 then 4 else 3] r (measRecords tie r (r.mem.getD 0 0 == 1)) s
  | 0x0801 =>
    put ((List.range 64).flatMap (fun a => memberWords a s)) [pack [(6, 0, reachCount s), (7, 7, b2n (bothWays s))]] s
  | 0x0521 => throughMatrix 1 [3] r (put ((laneRun w).flatMap (fun i => laneDefStatus i s)) []) s
  | 0x0A07 => put (configWords r s) [] s
  | _ => finish r stOk (stateSummaryWords s) s

/-- Status commands started in the row just ended. -/
def sampleTick (tie : List (Nat × Int)) (s : State) : State :=
  (s.host.prog.filter (fun r => [0x0304, 0x0402, 0x0503, 0x0521, 0x060E, 0x0801, 0x0A06, 0x0A07].contains r.cmd.opcode)).foldl
    (fun s r => sampleStatus tie r s) s

/-- The wait for a SYNC is over at the tick, unless it was commanded: the first frame is numbered 1 (R46, R471). -/
def firstFrame (s : State) : State := settle s (execPhaseSyncTimeout s)

/-- ROW_TICK. -/
def rowTick (inp : RowInput) (s : State) : State :=
  let x := if s.time.row = 249 then s.realignAt s.time.frame else none
  let s := firstFrame (advance x (closeRow x inp s))
  let newFrame := s.time.row == 0 && s.time.frame != 0
  let s := lockageDone (lockageStart (expireTick (countTick x (irqTick (pcieTick inp.pcie s)))))
  let s := towReports inp.tow s
  let s := laneInputs inp (laneTick newFrame (btTick (laneCmdTick s)))
  let s := controlTick s
  let s := switchTick s
  let s := laneEvents s
  let s := outputTick x newFrame (channelTick inp s)
  let s := twinEvents (watchReplies (towTick (wrTick (dmaTick (endReads (sampleTick inp.tie (frameStatusTick s)))))))
  closedEvent s

/-- In FAILED the pins go on as in the state that failed (R473): the transmitters and outputs of a device that failed in SERVICES. -/
def pinTick (s : State) : State := edgeTick (advance none (twinRowSend (laneSend 0 { s with out := {} })))

def execRowTick (inp : RowInput) (s : State) : Res :=
  .next (if s.ticking then rowTick inp s else if s.boot.st = .failed ∧ s.boot.failedIn = .services then pinTick s else s)

end Sys2Proof.Machine
end

