-- ==== Sys2Proof/Machine/Dispatch.lean ====
section
/-! DEFINITION. The command dispatch: one arm per command, each a direct call of its meaning. -/

namespace Sys2Proof.Machine

open Sys2Proof

def exec (i : Instr) (s : State) : Host.Outcome State Fault Refusal :=
  match i with
  | .rowTick inp => Sys2Proof.Machine.execRowTick inp s
  | .monitorSecond inp => Sys2Proof.Machine.execMonitorSecond inp s
  | .degIntervalEnd lane => Sys2Proof.Machine.execDegIntervalEnd lane s
  | .periodBoundary bank => Sys2Proof.Machine.execPeriodBoundary bank s
  | .bwWindowEnd => Sys2Proof.Machine.execBwWindowEnd s
  | .counterOverflow c => Sys2Proof.Machine.execCounterOverflow c s
  | .sfRowsReached t copyB => Sys2Proof.Machine.execSfRowsReached t copyB s
  | .sfClearRun t copyB => Sys2Proof.Machine.execSfClearRun t copyB s
  | .holdExpiry t => Sys2Proof.Machine.execHoldExpiry t s
  | .wtrExpiry t => Sys2Proof.Machine.execWtrExpiry t s
  | .losDeclareRun lane => Sys2Proof.Machine.execLosDeclareRun lane s
  | .losClearRun lane => Sys2Proof.Machine.execLosClearRun lane s
  | .loraDeclareRun lane => Sys2Proof.Machine.execLoraDeclareRun lane s
  | .loraClearRun lane => Sys2Proof.Machine.execLoraClearRun lane s
  | .frmMissingTimeout lane => Sys2Proof.Machine.execFrmMissingTimeout lane s
  | .alignmentMarker port m => Sys2Proof.Machine.execAlignmentMarker port m s
  | .dataBarge lane b => Sys2Proof.Machine.execDataBarge lane b s
  | .holdBarge lane b => Sys2Proof.Machine.execHoldBarge lane b s
  | .frameBarge lane b => Sys2Proof.Machine.execFrameBarge lane b s
  | .testBarge lane b => Sys2Proof.Machine.execTestBarge lane b s
  | .idleBarge lane b => Sys2Proof.Machine.execIdleBarge lane b s
  | .invalidHeader lane pos h => Sys2Proof.Machine.execInvalidHeader lane pos h s
  | .adaptationConverged lane eyeV eyeH snr => Sys2Proof.Machine.execAdaptationConverged lane eyeV eyeH snr s
  | .attemptTimerExpiry lane => Sys2Proof.Machine.execAttemptTimerExpiry lane s
  | .idFaultExpiry lane => Sys2Proof.Machine.execIdFaultExpiry lane s
  | .phaseRowsInPlace lane => Sys2Proof.Machine.execPhaseRowsInPlace lane s
  | .refmsgQl n m => Sys2Proof.Machine.execRefmsgQl n m s
  | .refmsgTod n m => Sys2Proof.Machine.execRefmsgTod n m s
  | .refmsgBad n m => Sys2Proof.Machine.execRefmsgBad n m s
  | .qlMessageAbsent n => Sys2Proof.Machine.execQlMessageAbsent n s
  | .inputActivityChange n obs => Sys2Proof.Machine.execInputActivityChange n obs s
  | .refWtrExpiry n => Sys2Proof.Machine.execRefWtrExpiry n s
  | .holdoffExpiry n => Sys2Proof.Machine.execHoldoffExpiry n s
  | .staircaseDwellDone => Sys2Proof.Machine.execStaircaseDwellDone s
  | .holdLimitReached => Sys2Proof.Machine.execHoldLimitReached s
  | .localoscFault offset => Sys2Proof.Machine.execLocaloscFault offset s
  | .localoscFaultClear => Sys2Proof.Machine.execLocaloscFaultClear s
  | .softLoopTimeout => Sys2Proof.Machine.execSoftLoopTimeout s
  | .steerDurationEnd => Sys2Proof.Machine.execSteerDurationEnd s
  | .todMessageSend out ql => Sys2Proof.Machine.execTodMessageSend out ql s
  | .timeRefEdgeMeasure n ns ps => Sys2Proof.Machine.execTimeRefEdgeMeasure n ns ps s
  | .commandFetch q units => Sys2Proof.Machine.execCommandFetch q units s
  | .commandStart n => Sys2Proof.Machine.execCommandStart n s
  | .deadlineExpiry n => Sys2Proof.Machine.execDeadlineExpiry n s
  | .leadExpiry n => Sys2Proof.Machine.execLeadExpiry n s
  | .replyWrite cq => Sys2Proof.Machine.execReplyWrite cq s
  | .eventWrite eq => Sys2Proof.Machine.execEventWrite eq s
  | .adminCtrlWrite v => Sys2Proof.Machine.execAdminCtrlWrite v s
  | .sqTailDoorbell q v => Sys2Proof.Machine.execSqTailDoorbell q v s
  | .cqHeadDoorbell q v => Sys2Proof.Machine.execCqHeadDoorbell q v s
  | .eqHeadDoorbell e v => Sys2Proof.Machine.execEqHeadDoorbell e v s
  | .windowLowRead off => Sys2Proof.Machine.execWindowLowRead off s
  | .windowRegisterWrite off v wide => Sys2Proof.Machine.execWindowRegisterWrite off v wide s
  | .pcieFunctionReset kind => Sys2Proof.Machine.execPcieFunctionReset kind s
  | .pciePerst => Sys2Proof.Machine.execPciePerst s
  | .queueDmaFault kind q => Sys2Proof.Machine.execQueueDmaFault kind q s
  | .cqCreate => Sys2Proof.Machine.execCqCreate s
  | .sqCreate => Sys2Proof.Machine.execSqCreate s
  | .sqDelete => Sys2Proof.Machine.execSqDelete s
  | .cqDelete => Sys2Proof.Machine.execCqDelete s
  | .eqCreate => Sys2Proof.Machine.execEqCreate s
  | .eqDelete => Sys2Proof.Machine.execEqDelete s
  | .nop => Sys2Proof.Machine.execNop s
  | .connEdit => Sys2Proof.Machine.execConnEdit s
  | .connLoad buf => Sys2Proof.Machine.execConnLoad buf s
  | .tribSet => Sys2Proof.Machine.execTribSet s
  | .tribRead ok => Sys2Proof.Machine.execTribRead ok s
  | .planSeal => Sys2Proof.Machine.execPlanSeal s
  | .planDiscard => Sys2Proof.Machine.execPlanDiscard s
  | .planWithdraw => Sys2Proof.Machine.execPlanWithdraw s
  | .planStatus ok => Sys2Proof.Machine.execPlanStatus ok s
  | .pageRead ok => Sys2Proof.Machine.execPageRead ok s
  | .lockageAt => Sys2Proof.Machine.execLockageAt s
  | .planningStart => Sys2Proof.Machine.execPlanningStart s
  | .planningDone route => Sys2Proof.Machine.execPlanningDone route s
  | .loadingStart => Sys2Proof.Machine.execLoadingStart s
  | .loadingDone faults => Sys2Proof.Machine.execLoadingDone faults s
  | .deferralLimit => Sys2Proof.Machine.execDeferralLimit s
  | .protCmd => Sys2Proof.Machine.execProtCmd s
  | .protStatus ok => Sys2Proof.Machine.execProtStatus ok s
  | .laneAdmin => Sys2Proof.Machine.execLaneAdmin s
  | .laneRestart => Sys2Proof.Machine.execLaneRestart s
  | .laneStatus ok => Sys2Proof.Machine.execLaneStatus ok s
  | .laneTest => Sys2Proof.Machine.execLaneTest s
  | .laneDefCfg => Sys2Proof.Machine.execLaneDefCfg s
  | .laneDefStatus ok => Sys2Proof.Machine.execLaneDefStatus ok s
  | .refCfg => Sys2Proof.Machine.execRefCfg s
  | .refSelect => Sys2Proof.Machine.execRefSelect s
  | .refStatus ok => Sys2Proof.Machine.execRefStatus ok s
  | .dpllCfg => Sys2Proof.Machine.execDpllCfg s
  | .dpllStatus => Sys2Proof.Machine.execDpllStatus s
  | .fSoft => Sys2Proof.Machine.execFSoft s
  | .fFreq => Sys2Proof.Machine.execFFreq s
  | .fSamples ok => Sys2Proof.Machine.execFSamples ok s
  | .pSteer => Sys2Proof.Machine.execPSteer s
  | .pStatus => Sys2Proof.Machine.execPStatus s
  | .outCfg => Sys2Proof.Machine.execOutCfg s
  | .realign => Sys2Proof.Machine.execRealign s
  | .outRealign => Sys2Proof.Machine.execOutRealign s
  | .measRead ok => Sys2Proof.Machine.execMeasRead ok s
  | .timeCfg => Sys2Proof.Machine.execTimeCfg s
  | .frameStatus => Sys2Proof.Machine.execFrameStatus s
  | .twinStatus => Sys2Proof.Machine.execTwinStatus s
  | .twinCfg => Sys2Proof.Machine.execTwinCfg s
  | .keeperStatus => Sys2Proof.Machine.execKeeperStatus s
  | .ckptStatus => Sys2Proof.Machine.execCkptStatus s
  | .revertCfg => Sys2Proof.Machine.execRevertCfg s
  | .revertLock => Sys2Proof.Machine.execRevertLock s
  | .handoverAt => Sys2Proof.Machine.execHandoverAt s
  | .standbyWarm => Sys2Proof.Machine.execStandbyWarm s
  | .flightStatus ok => Sys2Proof.Machine.execFlightStatus ok s
  | .admitMember => Sys2Proof.Machine.execAdmit s
  | .admitDone readback => Sys2Proof.Machine.execAdmitDone readback s
  | .ctrCfg => Sys2Proof.Machine.execCtrCfg s
  | .ctrRead ok => Sys2Proof.Machine.execCtrRead ok s
  | .ctrSnapshot => Sys2Proof.Machine.execCtrSnapshot s
  | .fixedCfg => Sys2Proof.Machine.execFixedCfg s
  | .fixedRead ok => Sys2Proof.Machine.execFixedRead ok s
  | .bwRead ok => Sys2Proof.Machine.execBwRead ok s
  | .ctrStatus => Sys2Proof.Machine.execCtrStatus s
  | .recover => Sys2Proof.Machine.execRecover s
  | .recoverCfg => Sys2Proof.Machine.execRecoverCfg s
  | .recoverStatus => Sys2Proof.Machine.execRecoverStatus s
  | .matrixCfg => Sys2Proof.Machine.execMatrixCfg s
  | .matrixStatus ok => Sys2Proof.Machine.execMatrixStatus ok s
  | .stateSummary => Sys2Proof.Machine.execStateSummary s
  | .configRead ok => Sys2Proof.Machine.execConfigRead ok s
  | .identityRead => Sys2Proof.Machine.execIdentityRead s
  | .certRead ok => Sys2Proof.Machine.execCertRead ok s
  | .identChallenge ok => Sys2Proof.Machine.execIdentChallenge ok s
  | .fwWrite img => Sys2Proof.Machine.execFwWrite img s
  | .fwWriteDone readback => Sys2Proof.Machine.execFwWriteDone readback s
  | .fwStatus => Sys2Proof.Machine.execFwStatus s
  | .fwFloor => Sys2Proof.Machine.execFwFloor s
  | .btWrite buf => Sys2Proof.Machine.execBtWrite buf s
  | .btWriteDone readback => Sys2Proof.Machine.execBtWriteDone readback s
  | .btApply => Sys2Proof.Machine.execBtApply s
  | .btRead ok => Sys2Proof.Machine.execBtRead ok s
  | .heartbeat f => Sys2Proof.Machine.execHeartbeat f s
  | .lease f => Sys2Proof.Machine.execLease f s
  | .query f => Sys2Proof.Machine.execQuery f s
  | .take f => Sys2Proof.Machine.execTake f s
  | .notice f => Sys2Proof.Machine.execNotice f s
  | .hello f => Sys2Proof.Machine.execHello f s
  | .handover f => Sys2Proof.Machine.execHandover f s
  | .watchFrameBad port => Sys2Proof.Machine.execWatchFrameBad port s
  | .heartbeatSend => Sys2Proof.Machine.execHeartbeatSend s
  | .renewSend => Sys2Proof.Machine.execRenewSend s
  | .peerLost => Sys2Proof.Machine.execPeerLost s
  | .keeperLost => Sys2Proof.Machine.execKeeperLost s
  | .leaseExpiry => Sys2Proof.Machine.execLeaseExpiry s
  | .coldStartDone matches_ => Sys2Proof.Machine.execColdStartDone matches_ s
  | .firstSwitchedRow => Sys2Proof.Machine.execFirstSwitchedRow s
  | .takeoverHoldExpiry => Sys2Proof.Machine.execTakeoverHoldExpiry s
  | .warmingLoadDone matches_ => Sys2Proof.Machine.execWarmingLoadDone matches_ s
  | .revertWtrExpiry => Sys2Proof.Machine.execRevertWtrExpiry s
  | .warmLimitExpiry => Sys2Proof.Machine.execWarmLimitExpiry s
  | .handoverRequestLapse => Sys2Proof.Machine.execHandoverRequestLapse s
  | .keeperReset => Sys2Proof.Machine.execKeeperReset s
  | .keeperLearningEnd => Sys2Proof.Machine.execKeeperLearningEnd s
  | .keeperHelloInterval => Sys2Proof.Machine.execKeeperHelloInterval s
  | .status port f => Sys2Proof.Machine.execStatus port f s
  | .answer port f => Sys2Proof.Machine.execAnswer port f s
  | .taken port f => Sys2Proof.Machine.execTaken port f s
  | .handoverReq port f => Sys2Proof.Machine.execHandoverReq port f s
  | .keeperLeaseLapse => Sys2Proof.Machine.execKeeperLeaseLapse s
  | .keeperTwinLost port => Sys2Proof.Machine.execKeeperTwinLost port s
  | .keeperQueryRepeat => Sys2Proof.Machine.execKeeperQueryRepeat s
  | .keeperTakeRepeat => Sys2Proof.Machine.execKeeperTakeRepeat s
  | .keeperGrant => Sys2Proof.Machine.execKeeperGrant s
  | .fullReq blocks => Sys2Proof.Machine.execFullReq blocks s
  | .full blocks => Sys2Proof.Machine.execFull blocks s
  | .delta blocks => Sys2Proof.Machine.execDelta blocks s
  | .fix blocks => Sys2Proof.Machine.execFix blocks s
  | .drop blocks => Sys2Proof.Machine.execDrop blocks s
  | .sel blocks => Sys2Proof.Machine.execSel blocks s
  | .ckptAck blocks => Sys2Proof.Machine.execCkptAck blocks s
  | .slotFree blocks => Sys2Proof.Machine.execSlotFree blocks s
  | .syncEnd blocks => Sys2Proof.Machine.execSyncEnd blocks s
  | .twinMessageBad blocks => Sys2Proof.Machine.execTwinMessageBad blocks s
  | .deltaShip => Sys2Proof.Machine.execDeltaShip s
  | .slotRefreshDone => Sys2Proof.Machine.execSlotRefreshDone s
  | .mirrorCopyDone => Sys2Proof.Machine.execMirrorCopyDone s
  | .towSync side p arrival residence => Sys2Proof.Machine.execTowSync side p arrival residence s
  | .credit side p => Sys2Proof.Machine.execCredit side p s
  | .delayReq side p turnaround => Sys2Proof.Machine.execDelayReq side p turnaround s
  | .delayResp side p roundTrip => Sys2Proof.Machine.execDelayResp side p roundTrip s
  | .commit side p => Sys2Proof.Machine.execCommit side p s
  | .member side p => Sys2Proof.Machine.execMember side p s
  | .cmd side p => Sys2Proof.Machine.execCmd side p s
  | .reply side p => Sys2Proof.Machine.execReply side p s
  | .event side p => Sys2Proof.Machine.execEvent side p s
  | .towAck side p => Sys2Proof.Machine.execTowAck side p s
  | .dmaRd side p data => Sys2Proof.Machine.execDmaRd side p data s
  | .dmaData side p => Sys2Proof.Machine.execDmaData side p s
  | .dmaWr side p => Sys2Proof.Machine.execDmaWr side p s
  | .towPacketBad bytes => Sys2Proof.Machine.execTowPacketBad bytes s
  | .towResend n => Sys2Proof.Machine.execTowResend n s
  | .towPortDown side => Sys2Proof.Machine.execTowPortDown side s
  | .towPortUp side => Sys2Proof.Machine.execTowPortUp side s
  | .routeLapse addr side => Sys2Proof.Machine.execRouteLapse addr side s
  | .memberUnreachable addr => Sys2Proof.Machine.execMemberUnreachable addr s
  | .backupTimeSource => Sys2Proof.Machine.execBackupTimeSource s
  | .syncAbsent => Sys2Proof.Machine.execSyncAbsent s
  | .enumerationTimeout => Sys2Proof.Machine.execEnumerationTimeout s
  | .identityCheck addr result => Sys2Proof.Machine.execIdentityCheck addr result s
  | .watchdogExpiry f => Sys2Proof.Machine.execWatchdogExpiry f s
  | .targetWedged t => Sys2Proof.Machine.execTargetWedged t s
  | .matrixRequest r slotFree => Sys2Proof.Machine.execMatrixRequest r slotFree s
  | .reinitBegin f => Sys2Proof.Machine.execReinitBegin f s
  | .masterReadmit m => Sys2Proof.Machine.execMasterReadmit m s
  | .reinitDone f => Sys2Proof.Machine.execReinitDone f s
  | .step3Cancel => Sys2Proof.Machine.execStep3Cancel s
  | .resetNFall ns => Sys2Proof.Machine.execResetNFall ns s
  | .resetNRise straps => Sys2Proof.Machine.execResetNRise straps s
  | .internalReset => Sys2Proof.Machine.execInternalReset s
  | .railFailure ns => Sys2Proof.Machine.execRailFailure ns s
  | .railRecovery straps => Sys2Proof.Machine.execRailRecovery straps s
  | .thermalTrip => Sys2Proof.Machine.execThermalTrip s
  | .thermalRelease straps => Sys2Proof.Machine.execThermalRelease straps s
  | .romDone fuses => Sys2Proof.Machine.execRomDone fuses s
  | .fwLoadDone a b => Sys2Proof.Machine.execFwLoadDone a b s
  | .btLoadDone a b => Sys2Proof.Machine.execBtLoadDone a b s
  | .clocksDone => Sys2Proof.Machine.execClocksDone s
  | .memoryDone => Sys2Proof.Machine.execMemoryDone s
  | .phaseFixed => Sys2Proof.Machine.execPhaseFixed s
  | .phaseSyncTimeout => Sys2Proof.Machine.execPhaseSyncTimeout s
  | .servicesDone adm0 adm1 => Sys2Proof.Machine.execServicesDone adm0 adm1 s
  | .startupFailed why => Sys2Proof.Machine.execStartupFailed why s
  | .startupTimeout => Sys2Proof.Machine.execStartupTimeout s
  | .signalReportedRun lane => Sys2Proof.Machine.execSignalReportedRun lane s
  | .fullCopyEnd => Sys2Proof.Machine.execFullCopyEnd s
  | .snapshotCopiesDone => Sys2Proof.Machine.execSnapshotCopiesDone s
  | .matrixResponse r targetError => Sys2Proof.Machine.execMatrixResponse r targetError s
  | .pciePerstRelease => Sys2Proof.Machine.execPciePerstRelease s
  | .internalResetEnd straps => Sys2Proof.Machine.execInternalResetEnd straps s

end Sys2Proof.Machine
end

