-- ==== Sys2Proof/Machine/Step.lean ====
section
/-! DEFINITION. One step: the command at the front of the queue is executed with the queue's rest. -/

namespace Sys2Proof.Machine

open Sys2Proof

/-- Takes the command at the front of the queue and executes it with the queue's rest; an empty queue idles (log entry
1). -/
def step (s : State) : Host.Outcome State Fault Refusal :=
  match s.pending with
  | [] => .next s
  | c :: cs => exec c { s with pending := cs }

/-- s with the command that the word spells at the front of its queue. No word spells one (log entry 2). -/
def State.withFetchWord (s : State) (nbits w : Nat) : State :=
  match decodeTableWord nbits w with
  | some c => { s with pending := c :: s.pending }
  | none => s

end Sys2Proof.Machine
end

