-- ==== Sys2Proof/WellFormed.lean ====
section
/-! DEFINITION. Which commands the surroundings of the device can send: every object that a command names exists, and every
word list has the size of what carries it. -/

namespace Sys2Proof

open Sys2Proof.Machine

/-- Blocks of 256 words (R500). -/
def blocksWf (bs : List (List W64)) : Bool := bs.all (fun b => b.length == 256)

/-- The fields of Table 14.2, and a payload of at most 4,096 bytes (R383). -/
def TowPkt.wf (p : TowPkt) : Bool :=
  decide (p.type < 16 ∧ p.dst < 64 ∧ p.src < 64 ∧ p.hops < 64 ∧ p.tseq < 2 ^ 32 ∧ p.flight < 2 ^ 16) &&
  decide (p.payload.length ≤ 512)

/-- A barge: a bit position of R156, a codeword of a lane frame, a header behind the marker bits of codeword 0, and the two or
three codewords of 2,720 symbols that hold its 8,256 bits. -/
def BargeRx.wf (b : BargeRx) : Bool :=
  decide (b.pos < 8256 ∧ b.first < 8192 ∧ b.off < 5140 ∧ (b.first = 0 → 160 ≤ b.off) ∧
    b.off + 8256 + (if 8192 < b.first + b.words.length then 160 else 0) ≤ 5140 * b.words.length ∧ b.words.length ≤ 3) &&
  b.words.all (fun w => w.length == 2720)

/-- A marker position within a lane frame of 22,282,240 PAM4 symbols (R152). -/
def MarkerRx.wf (m : MarkerRx) : Bool := decide (m.pos < 22282240 ∧ m.word.length = 2720)

/-- A row's input names lanes that exist, occupancy events, and codewords of 2,720 symbols in their place. -/
def RowInput.wf (r : RowInput) : Bool :=
  r.detector.all (fun e => decide (e.1 < 512)) &&
  r.rx.all (fun e => decide (e.1 < 512) && e.2.all (fun w => w.length == 2720)) &&
  r.eyes.all (fun e => decide (e.1 < 512)) && r.weirs.all (fun e => [0x08, 0x41, 0x42, 0x43, 0x44, 0x45, 0x46].contains e.1) &&
  decide (r.tow.map (·.side)).Nodup &&
  r.twin.all (fun x => decide (x.lane < 4 ∧ x.first < 8192) && x.word.length == 2720) && decide (r.twinPhase < 4096)

/-- A request to the matrix: one of 8 masters, one of 64 IDs, and no more bytes than it is long, none in a read (R404, R410). -/
def MReq.wf (r : MReq) : Bool :=
  decide (r.master < 8 ∧ r.id < 64 ∧ r.data.length ≤ r.len) && (r.write || r.data.isEmpty)

/-- The objects that a command names exist and its word lists have their sizes. -/
def Instr.wf : Instr → Bool
  | .rowTick inp => inp.wf
  | .monitorSecond inp => inp.samples.all (fun x => decide (x.input < 25))
  | .degIntervalEnd lane | .losDeclareRun lane | .losClearRun lane | .loraDeclareRun lane | .loraClearRun lane
  | .frmMissingTimeout lane | .adaptationConverged lane _ _ _ | .attemptTimerExpiry lane
  | .idFaultExpiry lane | .phaseRowsInPlace lane | .signalReportedRun lane => decide (lane < 512)
  | .dataBarge lane b | .holdBarge lane b | .frameBarge lane b | .testBarge lane b | .idleBarge lane b =>
    decide (lane < 512) && b.wf
  | .invalidHeader lane pos h => decide (lane < 512) && (headerAt pos h).wf
  | .alignmentMarker (.pair n) m => decide (n < 512) && m.wf
  | .alignmentMarker (.twin n) m => decide (n < 4) && m.wf
  | .periodBoundary bank => decide (bank < 17)
  | .counterOverflow c => decide (c < 4096)
  | .sfRowsReached t _ | .sfClearRun t _ | .holdExpiry t | .wtrExpiry t => decide (t < 131072)
  | .refmsgQl n _ | .refmsgTod n _ | .refmsgBad n _ => decide (n < 8)
  | .qlMessageAbsent n | .inputActivityChange n _ | .refWtrExpiry n | .holdoffExpiry n => decide (n < 25)
  | .timeRefEdgeMeasure n ns ps => decide (n < 25 ∧ ns < 125500 ∧ ps < 1000)
  | .todMessageSend out _ => decide (out < 2)
  | .sqTailDoorbell q _ | .cqHeadDoorbell q _ | .commandFetch q _ | .replyWrite q => decide (q < 64)
  | .eqHeadDoorbell e _ | .eventWrite e => decide (e < 8)
  | .queueDmaFault .eq q => decide (q < 8)
  | .queueDmaFault _ q => decide (q < 64)
  | .windowLowRead r => decide (r.off < 65536)
  | .windowRegisterWrite off _ _ => decide (off < 65536)
  | .fullReq bs | .full bs | .delta bs | .fix bs | .drop bs | .sel bs | .ckptAck bs | .slotFree bs | .syncEnd bs
  | .twinMessageBad bs => blocksWf bs
  | .towSync _ p _ _ | .credit _ p | .delayReq _ p _ | .delayResp _ p _ | .commit _ p | .member _ p
  | .reply _ p | .event _ p | .towAck _ p | .dmaRd _ p _ | .dmaData _ p => p.wf
  | .dmaWr _ p => p.pkt.wf
  | .cmd _ p => p.pkt.wf && decide (p.priv < 4)
  | .towPacketBad b => decide (16 ≤ b.bytes.length ∧ b.bytes.length ≤ 4120)
  | .routeLapse a _ | .memberUnreachable a | .identityCheck a _ => decide (a < 64)
  | .watchdogExpiry f | .reinitBegin f | .reinitDone f => isFunction f
  | .targetWedged t => decide (t < 9)
  | .masterReadmit m => decide (m < 8)
  | .matrixRequest r _ | .matrixResponse r _ => r.wf
  | .loadingDone faults => faults.all (fun f => decide (f.1 < 6291456))
  | .romDone fuses => decide (fuses.secFloor < 64)
  | .bwWindowEnd | .staircaseDwellDone | .holdLimitReached | .localoscFault _ | .localoscFaultClear | .softLoopTimeout
  | .steerDurationEnd | .commandStart _ | .deadlineExpiry _ | .leadExpiry _ | .adminCtrlWrite _ | .pcieFunctionReset _
  | .pciePerst | .cqCreate | .sqCreate | .sqDelete | .cqDelete | .eqCreate | .eqDelete | .nop | .connEdit | .connLoad _
  | .tribSet | .tribRead _ | .planSeal | .planDiscard | .planWithdraw | .planStatus _ | .pageRead _ | .lockageAt
  | .planningStart | .planningDone _ | .loadingStart | .deferralLimit | .protCmd | .protStatus _ | .laneAdmin
  | .laneRestart | .laneStatus _ | .laneTest | .laneDefCfg | .laneDefStatus _ | .refCfg | .refSelect | .refStatus _
  | .dpllCfg | .dpllStatus | .fSoft | .fFreq | .fSamples _ | .pSteer | .pStatus | .outCfg | .realign | .outRealign
  | .measRead _ | .timeCfg | .frameStatus | .twinStatus | .twinCfg | .keeperStatus | .ckptStatus | .revertCfg
  | .revertLock | .handoverAt | .standbyWarm | .flightStatus _ | .admitMember | .admitDone _ | .ctrCfg | .ctrRead _
  | .ctrSnapshot | .fixedCfg | .fixedRead _ | .bwRead _ | .ctrStatus | .recover | .recoverCfg | .recoverStatus
  | .matrixCfg | .matrixStatus _ | .stateSummary | .configRead _ | .identityRead | .certRead _ | .identChallenge _
  | .fwWrite _ | .fwWriteDone _ | .fwStatus | .fwFloor | .btWrite _ | .btWriteDone _ | .btApply | .btRead _
  | .heartbeat _ | .lease _ | .query _ | .take _ | .notice _ | .hello _ | .handover _ | .watchFrameBad _
  | .heartbeatSend | .renewSend | .peerLost | .keeperLost | .leaseExpiry | .coldStartDone _ | .firstSwitchedRow
  | .takeoverHoldExpiry | .warmingLoadDone _ | .revertWtrExpiry | .warmLimitExpiry | .handoverRequestLapse
  | .keeperReset | .keeperLearningEnd | .keeperHelloInterval | .status _ _ | .answer _ _ | .taken _ _ | .handoverReq _ _
  | .keeperLeaseLapse | .keeperTwinLost _ | .keeperQueryRepeat | .keeperTakeRepeat | .keeperGrant
  | .deltaShip | .slotRefreshDone | .mirrorCopyDone | .towResend _ | .towPortDown _ | .towPortUp _ | .backupTimeSource
  | .syncAbsent | .enumerationTimeout | .step3Cancel | .resetNFall _ | .resetNRise _ | .internalReset | .railFailure _
  | .railRecovery _ | .thermalTrip | .thermalRelease _ | .fwLoadDone _ _ | .btLoadDone _ _ | .clocksDone | .memoryDone
  | .phaseFixed | .phaseSyncTimeout | .servicesDone _ _ | .startupFailed _ | .startupTimeout | .fullCopyEnd
  | .snapshotCopiesDone | .pciePerstRelease | .internalResetEnd _ => true

end Sys2Proof
end

