-- ==== Sys2Proof/Safety.lean ====
section
/-! DEFINITION. What a safe step is, in the terms that the statements use: the machine answers a next state, its counters keep
their ranges and its stores their form. -/

namespace Sys2Proof

open Sys2Proof.Machine

/-- The command answers a next state: no fault and no refusal. -/
def Completes (c : Instr) (s : State) : Prop := ∃ t, exec c s = .next t

/-- The row within the frame is one of the 250 rows of a frame (R30). -/
def RowInFrame (s : State) : Prop := s.time.row < 250

/-- The bytes that the device has written into host memory are listed in canonical form. -/
def HostMemoryCanonical (s : State) : Prop := Memory.wf s.host.mem = true

/-- What every step keeps of a state. -/
structure Safe (s : State) : Prop where
  row : RowInFrame s
  mem : HostMemoryCanonical s

end Sys2Proof
end

