-- ==== Sys2Proof/Certificates/Slice0/Obligations.lean ====
section
/-! DEFINITION. The statements for the provers, family by family, and the few predicates that they share. -/

namespace Sys2Proof

open Sys2Proof.Machine

/-- Nothing keeps the command engine from the objects that opcode op reads or writes through the control matrix: its master M0, and
for flash, fuses and identity M7, is not in reset and none of their targets is wedged (R19, R412). What happens otherwise is said by
MatrixErrorsAndResponses. -/
def EngineReaches (op : Nat) (s : State) : Prop := op / 256 = 0x0A ∨ s.engineReaches op = true

/-- The command engine holds the started command r, whose opcode is op and whose LENGTH is the size of its layout. -/
def Held (op : Nat) (r : Run) (s : State) : Prop :=
  s.host.engine = some r ∧ r.cmd.opcode = op ∧ sizeOk r = true ∧ EngineReaches op s

/-- The command engine holds the started command r, whose opcode is op. -/
def Has (op : Nat) (r : Run) (s : State) : Prop := s.host.engine = some r ∧ r.cmd.opcode = op ∧ EngineReaches op s

/-- The state once the engine has given up the command that it held. -/
def idle (s : State) : State := { s with host.engine := none }

/-- The command that the engine gave up is in progress until the row tick; the buffer takes writes or does not (R345). -/
def waiting (ok : Bool) (r : Run) (s : State) : State :=
  { idle s with host.prog := s.host.prog ++ [{ r with mem := [b2n ok] }] }

/-- The records in the buffer of the command, and its reply. -/
def copied (ok : Bool) (r : Run) (ws reply : List W64) (s : State) : State :=
  bufReply r ok (r.cmd.p 0).toNat ws reply s

/-- Opcodes whose record is sampled at the row tick. -/
def tickReads : List Nat := [0x0304, 0x0402, 0x0503, 0x0521, 0x060E, 0x0801, 0x0A06, 0x0A07]

/-- The commands, with their opcodes, whose objects the control cores reach through the control matrix as master M0 (R19). -/
def coreCommands (ok : Bool) : List (Instr × Nat) :=
  [(.protCmd, 0x0401), (.protStatus ok, 0x0402), (.laneAdmin, 0x0501), (.laneRestart, 0x0502), (.laneStatus ok, 0x0503),
   (.laneTest, 0x0504), (.laneDefCfg, 0x0520), (.laneDefStatus ok, 0x0521)] ++
  [(.refCfg, 0x0601), (.refSelect, 0x0602), (.refStatus ok, 0x0603), (.dpllCfg, 0x0604), (.dpllStatus, 0x0605),
   (.fSoft, 0x0606), (.fFreq, 0x0607), (.fSamples ok, 0x0608), (.pSteer, 0x0609), (.pStatus, 0x060A), (.outCfg, 0x060B),
   (.realign, 0x060C), (.outRealign, 0x060D), (.measRead ok, 0x060E), (.timeCfg, 0x060F), (.frameStatus, 0x0610)] ++
  [(.ctrCfg, 0x0901), (.ctrRead ok, 0x0902), (.ctrSnapshot, 0x0903), (.fixedCfg, 0x0904), (.fixedRead ok, 0x0905),
   (.bwRead ok, 0x0906), (.ctrStatus, 0x0907)]

/-- The commands, with their opcodes, whose objects in flash, fuses and identity the boot engine reaches as master M7 (R19). -/
def bootCommands (ok : Bool) (img : Option FwImage) (buf : Option (List W64)) : List (Instr × Nat) :=
  [(.identityRead, 0x0B01), (.certRead ok, 0x0B02), (.identChallenge ok, 0x0B03), (.fwWrite img, 0x0B10), (.fwStatus, 0x0B11),
   (.fwFloor, 0x0B12), (.btWrite buf, 0x0B20), (.btApply, 0x0B21), (.btRead ok, 0x0B22), (.admitMember, 0x0802)]

/-- What a record read does at its row tick, which takes s to t, where u is what the copy gives: DMA copies the records as master
M1; the command waits while M1 is in reset, and a wedged target answers it with an error (R19, R412, R413). -/
def Copies (ts : List Nat) (r : Run) (s t u : State) : Prop :=
  (s.reaches 1 ts = true → t = u) ∧ (s.masterHeld 1 = true → t = s) ∧
  (s.masterHeld 1 = false → s.reaches 1 ts = false →
    t = finish r stFunctionDown [] { s with mx.tgtErr := sat 0xFFFFFFFF (s.mx.tgtErr + 1) })

/-- Nothing outside the host interface differs. -/
def OnlyHost (s t : State) : Prop := t = { s with host := t.host }

/-- Nothing differs outside the host interface but what waits in the ports of the towpath or leaves through them: the commands of
deleted queues are taken back, and the other members are told of the deletion (R355; log entry 104). -/
def HostAndPorts (s t : State) : Prop :=
  t = { s with host := t.host, out := t.out, flight.a := t.flight.a, flight.b := t.flight.b, flight.unacked := t.flight.unacked,
               flight.txSeq := t.flight.txSeq } ∧
  t.out = { s.out with tow := t.out.tow }

/-- Submission queue q is deleted (R355): it is gone, and every other queue stays; its commands that have not been started, in the work
queue, staged for it or waiting for an earlier number, are withdrawn without a reply; its commands sent on to other members are
forgotten; what has been started goes on; and its sequence states and cached results, of every session, are those of a queue that no command has reached, while every
other queue keeps its own. -/
def QueueDeleted (q : Nat) (s t : State) : Prop :=
  let mine : Key → Bool := fun k => decide (k.q = q ∧ k.gw = none)
  t.sq q = none ∧ (∀ k, k ≠ q → t.sq k = s.sq k) ∧
  t.host.work ++ t.host.staging = (s.host.work ++ s.host.staging).filter (fun w => !mine w.key) ∧
  t.host.dups = s.host.dups.filter (fun w => !mine w.key) ∧
  t.host.fwd = s.host.fwd.filter (fun f => f.key.q != q) ∧ t.host.bcast = s.host.bcast.filter (fun b => b.key.q != q) ∧
  t.host.engine = s.host.engine ∧ t.host.prog = s.host.prog ∧ t.host.wr = s.host.wr ∧ t.host.mem = s.host.mem ∧
  (∀ k : Key, k.session < 1024 → t.seqSt k = if k.q = q then {} else s.seqSt k)

/-- What the deletion of submission queue q makes of completion queue c (R355): bound to q, it loses the replies of q that have not been
written; else nothing changes. -/
def RepliesDropped (q c : Nat) (s t : State) : Prop :=
  ∀ x, s.sq q = some x →
    (x.cq = c → ∀ y, s.cq c = some y → t.cq c = some { y with pend := y.pend.filter (fun r => r.q != q) }) ∧
    (x.cq ≠ c → t.cq c = s.cq c)

/-- What vector v being signalled does from s to t (R352): with MSI-X off nothing; a masked vector becomes pending; one already sent in
this row is sent again after the next row tick; else its message goes out. -/
def Signalled (v : Nat) (s t : State) : Prop :=
  let masked := bit (kget 0 s.host.msix (4 * v + 3)) 0
  (s.host.pcie.msixOn = false → t.out = s.out ∧ t.host.pba = s.host.pba) ∧
  (s.host.pcie.msixOn = true → masked = true →
    t.out = s.out ∧ v ∈ t.host.pba ∧ ∀ x, x ≠ v → (x ∈ t.host.pba ↔ x ∈ s.host.pba)) ∧
  (s.host.pcie.msixOn = true → masked = false → v ∈ s.host.irqSent →
    t.out = s.out ∧ t.host.pba = s.host.pba ∧ v ∈ t.host.irqWant) ∧
  (s.host.pcie.msixOn = true → masked = false → v ∉ s.host.irqSent →
    t.out = { s.out with msix := s.out.msix ++ [v] } ∧ t.host.pba = s.host.pba ∧ v ∈ t.host.irqSent)

/-- No queue exists, ADMIN_CTRL is clear and the MSI-X configuration is forgotten (R344). -/
def QueuesGone (t : State) : Prop :=
  (∀ q, t.sq q = none) ∧ (∀ q, t.cq q = none) ∧ (∀ e, t.evq e = none) ∧ t.host.ctrl = 0 ∧ t.host.msix = [] ∧ t.host.pba = []

/-- The five refusals of R347. -/
def RefusedAdminCtrl (v : BitVec 32) (s : State) : Prop :=
  s.ready = false ∨
  (bit v 31 = true ∧ s.sq 0 = none ∧
    (fld v 3 0 < 4 ∨ 12 < fld v 3 0 ∨ fld v 7 4 < 4 ∨ 12 < fld v 7 4 ∨ 71 < fld v 14 8)) ∨
  fld v 30 16 ≠ 0 ∨
  (s.sq 0 ≠ none ∧ fld v 15 0 ≠ fld s.host.ctrl 15 0) ∨
  (bit v 31 = false ∧ s.sq 0 ≠ none ∧ ∃ e ∈ s.host.sqs, e.1 ≠ 0 ∧ ∃ x, e.2 = some x ∧ x.cq = 0)

/-- A barge position as the receiver of a lane reads it: decoded, turned and descrambled (R144, R149, R150, R154). -/
def received (lane : Nat) (b : BargeRx) (s : State) : BargeBits := readBarge b (s.lane lane).hunter

/-- While row ticks run, an existing lane whose hunter is ALIGNED and whose delineation is in SYNC meets a header that fits at
its barge position. -/
def Receives (lane : Nat) (b : BargeRx) (s : State) : Prop :=
  lane < 512 ∧ s.ticking = true ∧ (s.lane lane).hunter.aligned = true ∧ (s.lane lane).bring.hunts = true ∧
  (s.lane lane).delin.sync = true ∧ b.pos = (s.lane lane).delin.pos ∧ headerFits (received lane b s).hdr = true

/-- The rows whose commands bring blocks of the twin lanes. -/
def BringsBlocks (bs : List (List W64)) (c : Instr) : Prop :=
  c = .fullReq bs ∨ c = .full bs ∨ c = .delta bs ∨ c = .fix bs ∨ c = .drop bs ∨ c = .sel bs ∨ c = .ckptAck bs ∨
  c = .slotFree bs ∨ c = .syncEnd bs ∨ c = .twinMessageBad bs

/-- The blocks end one message and leave none in progress on the bulk stream. -/
def Brings (bs : List (List W64)) (ws : List W64) (s : State) : Prop :=
  takeBlocks bs s = ([ws], s) ∧ s.ckpt.rxBulk = []

/-- Reset has discarded every volatile object of s (R461): the fuses, the slots already read, the host's memory, the waiting
commands and the pins stay, and start-up is in RESET. -/
def Discarded (s t : State) : Prop :=
  t = { State.reset with
    boot := t.boot, rcv.resets := t.rcv.resets, rcv.lastReset := t.rcv.lastReset, rcv.stepFn := t.rcv.stepFn,
    flight.adm0 := t.flight.adm0, flight.adm1 := t.flight.adm1, host.mem := s.host.mem, host.perst := s.host.perst,
    free := t.free, pending := s.pending } ∧
  t.boot.st = .reset ∧ t.boot.uid = s.boot.uid ∧ t.boot.order = s.boot.order ∧ t.boot.secFloor = s.boot.secFloor ∧
  t.boot.fwA = s.boot.fwA ∧ t.boot.btA = s.boot.btA ∧ t.boot.btB = s.boot.btB ∧ t.boot.flash = none ∧
  t.boot.btUse = none ∧ t.boot.fwMem = none ∧ t.boot.board = 0 ∧ t.boot.replaced = false ∧
  (s.boot.flash = none → t.boot.fwB = s.boot.fwB ∧ t.flight.adm0 = s.flight.adm0 ∧ t.flight.adm1 = s.flight.adm1)

/-- SERVICES has begun from s: every present lane whose admin state is UP, by its record or by ADMIN_DEFAULT, has left OFF for
SIGNAL_WAIT, unless the device is strapped KEEPER_ONLY, and every other lane is OFF (Tables 8.4, 8.7, 18.6). -/
def LanesAdmitted (s t : State) : Prop :=
  ∀ i, i < 512 →
    ((s.lane i).present = true → bit s.boot.board 2 = true ∨ (s.lane i).admin = true → s.boot.straps.keeperOnly = false →
      (t.lane i).bring = if (s.lane i).bring = .off then .signalWait else (s.lane i).bring) ∧
    (s.boot.straps.keeperOnly = true ∨ (bit s.boot.board 2 = false ∧ ((s.lane i).present = false ∨ (s.lane i).admin = false)) ∨
        (∀ e ∈ s.lanes, e.1 = i → e.2.present = false) → (t.lane i).bring = .off)

end Sys2Proof

open Sys2Proof Sys2Proof.Machine

/-- One step takes the command at the front of the queue and executes it with the queue's rest. That an empty queue idles is
the model's choice (log entry 1). -/
def Obligations.StepRunsFrontCommand : Prop :=
  (∀ (c : Instr) (cs : List Instr) (s : State), s.pending = c :: cs → step s = exec c { s with pending := cs }) ∧
  (∀ s : State, s.pending = [] → step s = .next s)

/-- R347, R354, R355: the five refusals, the creation of queue pair 0 from the window registers, and its deletion; how commands already
sent to other members are taken back is the model's choice (log entry 104). -/
def Obligations.AdminCtrlWriteActs : Prop :=
  ∀ (v : BitVec 32) (s : State), s.hostUp = true →
    (RefusedAdminCtrl v s → exec (.adminCtrlWrite v) s = .next { s with host.fault := true }) ∧
    (¬ RefusedAdminCtrl v s → bit v 31 = true → s.sq 0 = none →
      ∃ t, exec (.adminCtrlWrite v) s = .next t ∧
        t.sq 0 = some { base := s.host.sqBase, cq := 0, log2 := fld v 3 0, priv := 2, credits := 16,
                        session := if s.host.sessions = 1023 then 1 else s.host.sessions + 1 } ∧
        t.cq 0 = some { base := s.host.cqBase, log2 := fld v 7 4, vector := fld v 14 8, irq := bit v 15 } ∧
        t.host.ctrl = v ∧ t.host.fault = false ∧
        (∀ q, q ≠ 0 → t.sq q = s.sq q ∧ t.cq q = s.cq q) ∧ OnlyHost s t) ∧
    (¬ RefusedAdminCtrl v s → bit v 31 = false → s.sq 0 ≠ none →
      ∃ t, exec (.adminCtrlWrite v) s = .next t ∧ QueueDeleted 0 s t ∧ t.cq 0 = none ∧ (∀ c, c ≠ 0 → RepliesDropped 0 c s t) ∧
        t.host.ctrl = v ∧ t.host.fault = false ∧ t = { withdrawSent 0 s with host := t.host } ∧ HostAndPorts s t) ∧
    (¬ RefusedAdminCtrl v s → (bit v 31 = true ↔ s.sq 0 ≠ none) →
      exec (.adminCtrlWrite v) s = .next { s with host.fault := false, host.ctrl := v })

/-- R348, R349, R351: what the three doorbells do, and a doorbell that is ignored. That a tail at the fetch position announces the whole
queue is the model's choice (log entry 102); that a head write beyond the last entry written consumes what there is, is its reading of
R351 (log entry 12). -/
def Obligations.DoorbellsAct : Prop :=
  ∀ (q : Nat) (v : BitVec 32) (s : State), s.hostUp = true →
    (∀ x, q < 64 → s.sq q = some x → fld v 11 0 < 2 ^ x.log2 →
      let n := x.announced (fld v 11 0)
      exec (.sqTailDoorbell q v) s = .next (s.setSq q (some { x with tail := fld v 11 0, avail := n })) ∧
      (x.fetch < 2 ^ x.log2 → 1 ≤ n ∧ n ≤ 2 ^ x.log2 ∧ (x.fetch + n) % 2 ^ x.log2 = fld v 11 0)) ∧
    (∀ x, q < 64 → s.cq q = some x → fld v 11 0 < 2 ^ x.log2 →
      exec (.cqHeadDoorbell q v) s =
        .next (s.setCq q (some { x with unread := x.unread - consumed x.wr x.unread x.log2 (fld v 11 0) }))) ∧
    (∀ x, q < 8 → s.evq q = some x → fld v 11 0 < 2 ^ x.log2 →
      exec (.eqHeadDoorbell q v) s =
        .next (s.setEvq q (some { x with unread := x.unread - consumed x.wr x.unread x.log2 (fld v 11 0) }))) ∧
    (q < 64 → (∀ x, s.sq q = some x → 2 ^ x.log2 ≤ fld v 11 0) →
      exec (.sqTailDoorbell q v) s = .next (raise 0x0101 [pack [(5, 0, q), (7, 6, 0), (15, 8, 1)]] s)) ∧
    (q < 64 → (∀ x, s.cq q = some x → 2 ^ x.log2 ≤ fld v 11 0) →
      exec (.cqHeadDoorbell q v) s = .next (raise 0x0101 [pack [(5, 0, q), (7, 6, 1), (15, 8, 1)]] s)) ∧
    (q < 8 → (∀ x, s.evq q = some x → 2 ^ x.log2 ≤ fld v 11 0) →
      exec (.eqHeadDoorbell q v) s = .next (raise 0x0101 [pack [(5, 0, q), (7, 6, 2), (15, 8, 1)]] s))

/-- R351: of a queue whose head stands `unread` entries before the entry written next, the index k entries on consumes k. -/
def Obligations.HeadWriteConsumesEntries : Prop :=
  ∀ wr unread log2 k : Nat, unread ≤ wr → unread ≤ 2 ^ log2 → k < 2 ^ log2 → k ≤ unread →
    consumed wr unread log2 ((wr - unread + k) % 2 ^ log2) = k

/-- R344 to R346, R489. How commands are taken back from the ports is the model's choice (log entry 104); the power state behind a reset
and the configuration space behind PCIE_PERST_N are its presumption of PCI Express (log entry 103). -/
def Obligations.WindowAccessesAct : Prop :=
  ∀ s : State,
    (∀ off, s.hostUp = true → off = 8 ∨ off = 0x10 ∨ off = 0x18 →
      exec (.windowLowRead ⟨off, true⟩) s = .next { s with
        host.readData := some (w64 (windowWord off s)), host.highHalf := none }) ∧
    (∀ off, s.hostUp = true → off = 8 ∨ off = 0x10 ∨ off = 0x18 →
      exec (.windowLowRead ⟨off, false⟩) s = .next { s with
        host.readData := some (w64 (windowWord off s % 2 ^ 32)),
        host.highHalf := some (off, BitVec.ofNat 32 (windowWord off s / 2 ^ 32)) }) ∧
    (∀ off v, s.hostUp = true → off = 8 ∨ off = 0x10 ∨ off = 0x18 → s.host.highHalf = some (off, v) →
      exec (.windowLowRead ⟨off + 4, false⟩) s = .next { s with host.readData := some (v.setWidth 64), host.highHalf := none }) ∧
    (∀ v : W64, s.hostUp = true → exec (.windowRegisterWrite 0x10 v true) s = .next { s with host.sqBase := v }) ∧
    (∀ v : W64, s.hostUp = true → exec (.windowRegisterWrite 0x18 v true) s = .next { s with host.cqBase := v }) ∧
    (∀ off v wide, s.hostUp = true → 0x9010 ≤ off → off % 4 = 0 →
      exec (.windowRegisterWrite off v wide) s = .next s) ∧
    (∀ kind, s.isGateway = true → ∃ t, exec (.pcieFunctionReset kind) s = .next t ∧ QueuesGone t ∧
      t.host.pcie = { s.host.pcie with d3hot := kind == .d3hot } ∧ HostAndPorts s t) ∧
    (s.isGateway = true →
      ∃ t, exec .pciePerst s = .next t ∧ QueuesGone t ∧ t.host.perst = true ∧ t.host.pcie = {} ∧ t.hostUp = false ∧
        HostAndPorts s t) ∧
    (s.isGateway = false → exec .pciePerst s = .next { s with host.perst := true }) ∧
    (exec .pciePerstRelease s = .next { s with host.perst := false }) ∧
    (∀ q x, s.sq q = some x → exec (.queueDmaFault .sq q) s =
      .next (raise 0x0101 [pack [(5, 0, q), (7, 6, 0), (15, 8, 2)]] (s.setSq q (some { x with disabled := true })))) ∧
    (∀ q x, s.cq q = some x → exec (.queueDmaFault .cq q) s =
      .next (raise 0x0101 [pack [(5, 0, q), (7, 6, 1), (15, 8, 2)]] (s.setCq q (some { x with disabled := true })))) ∧
    (∀ q x, s.evq q = some x → exec (.queueDmaFault .eq q) s =
      .next (raise 0x0101 [pack [(5, 0, q), (7, 6, 2), (15, 8, 2)]] (s.setEvq q (some { x with disabled := true }))))

/-- R350 and checks 1 to 7 of Table 13.9. -/
def Obligations.CommandFetchChecks : Prop :=
  ∀ (q : Nat) (units : List W64) (x : Sq) (s : State), s.sq q = some x → s.hostUp = true → x.disabled = false →
    s.fnDown 1 = false → x.used < x.credits →
    unitsOf (cmdOfUnits units).length ≤ x.avail →
    let c := cmdOfUnits units
    let k : Key := { q := q, session := c.session, seq := c.seq }
    let y : Sq := { x with
      fetch := (x.fetch + unitsOf c.length) % 2 ^ x.log2, avail := x.avail - unitsOf c.length, used := x.used + 1 }
    (∀ st cq, fetchCheck q y c (s.setSq q (some y)) = some st → s.cq x.cq = some cq →
      ∃ t r, exec (.commandFetch q units) s = .next t ∧ t.sq q = some y ∧
        t.cq x.cq = some { cq with pend := cq.pend ++ [r] } ∧ r.status = st ∧ r.seq = c.seq ∧ r.q = q ∧
        r.device = (if st = stUnreachable then c.target else s.flight.addr) ∧
        t.host.work = s.host.work ∧ t.host.engine = s.host.engine ∧ OnlyHost s t) ∧
    (fetchCheck q y c (s.setSq q (some y)) = none → c.broadcast = false → c.target = s.flight.addr →
      overdue { key := k, cmd := c } (s.setSq q (some y)) = none → s.host.work.length < 256 → s.host.staging = [] →
      exec (.commandFetch q units) s = .next { s.setSq q (some y) with
        host.work := s.host.work ++ [{ key := k, cmd := c }] })

/-- R38, R359, R362: what a command engine does with the work queue entry that it takes. The order within check 12 is the model's choice
(log entry 62); one command on the engine at a time, a duplicate that never expires and the later end of a frame whose number recurs
are its readings and choices (log entries 10, 11, 101), and so is what an edit of the open plan waits for (log entry 121). -/
def Obligations.CommandStartChecks : Prop :=
  (∀ (i : Nat) (w : Work) (s : State), s.host.work[i]? = some w → canStart i w s = true →
    let u := refill { s with host.work := removeAt i s.host.work }
    (overdue w u = none → judgeSeq w.key u = .new → startCheck w.cmd (raiseHigh w.key u) = none →
      ∃ t, exec (.commandStart i) s = .next t ∧
        t.host.engine = some { key := w.key, cmd := w.cmd, row := s.time.rows, frame := s.time.frame,
                               rowIn := s.time.row, at_ := w.cmd.atFrame, mem := [] } ∧
        (t.seqSt w.key).high = some w.key.seq ∧ (∀ k : Key, k.seqAt ≠ w.key.seqAt → t.seqSt k = s.seqSt k) ∧
        t.host.work = u.host.work ∧ t.lanes = s.lanes ∧ t.twin = s.twin ∧ t.planner = s.planner) ∧
    (∀ st, overdue w u = none → judgeSeq w.key u = .new → startCheck w.cmd (raiseHigh w.key u) = some st →
      st ≠ stTooLate →
      exec (.commandStart i) s = .next (completeAt w.key w.cmd st s.time.frame s.time.row [] (raiseHigh w.key u))) ∧
    (overdue w u = none → judgeSeq w.key u = .stale →
      exec (.commandStart i) s =
        .next (sendReply w.key (mkReply w.key w.cmd s.flight.addr stSeqStale s.time.frame s.time.row []) u)) ∧
    (∀ st f, overdue w u = some (st, f) →
      exec (.commandStart i) s = .next (sendReply w.key (mkReply w.key w.cmd s.flight.addr st f 249 []) u))) ∧
  (∀ (i : Nat) (w : Work) (s : State), s.host.work[i]? = some w → canStart i w s = false →
    exec (.commandStart i) s = .next s) ∧
  (∀ (i : Nat) (w : Work) (s : State), waiting i s = some w →
    let v := dropWaiting i s
    (v.host.work ++ v.host.staging = removeAt i (s.host.work ++ s.host.staging) ∧ OnlyHost s v ∧ v.seqSt = s.seqSt) ∧
    (∀ st f, overdue w s = some (st, f) →
      (st = stExpired → exec (.deadlineExpiry i) s =
        .next (sendReply w.key (mkReply w.key w.cmd s.flight.addr st f 249 []) v)) ∧
      (st = stTooLate → exec (.leadExpiry i) s =
        .next (sendReply w.key (mkReply w.key w.cmd s.flight.addr st f 249 []) v))) ∧
    (overdue w s = none → exec (.deadlineExpiry i) s = .next s ∧ exec (.leadExpiry i) s = .next s) ∧
    (∀ d, isDup w.key s = false → w.cmd.deadline = d → d ≠ 0 → d < s.time.frame → w.cmd.atFrame = 0 →
      overdue w s = some (stExpired, d)) ∧
    (∀ a, isDup w.key s = false → w.cmd.atFrame = a → a ≠ 0 → scheduledOp w.cmd.opcode = true → w.cmd.deadline = 0 →
      a - leadOf w.cmd.opcode < s.time.frame → overdue w s = some (stTooLate, a - leadOf w.cmd.opcode)))

/-- R39, R359, R363: what a command engine executes has passed everything before it; the order within check 12 and the one command on the
engine are the model's (log entries 10, 62). -/
def Obligations.OnlyCheckedCommandsStart : Prop :=
  ∀ (i : Nat) (s t : State) (r : Run), s.host.engine = none → exec (.commandStart i) s = .next t →
    t.host.engine = some r →
    ∃ w, s.host.work[i]? = some w ∧ canStart i w s = true ∧ r.key = w.key ∧ r.cmd = w.cmd ∧
      overdue w (refill { s with host.work := removeAt i s.host.work }) = none ∧
      judgeSeq w.key (refill { s with host.work := removeAt i s.host.work }) = .new ∧
      startCheck w.cmd (raiseHigh w.key (refill { s with host.work := removeAt i s.host.work })) = none

/-- R350 to R352, R371: the entry written, the credit returned, and the frame of host memory. What becomes of the message with MSI-X off
or a masked vector is PRESUMED, the model's choice (log entry 103). -/
def Obligations.ReplyAndEventWrites : Prop :=
  (∀ (c : Nat) (s : State) (x : Cq) (r : Reply) (rs : List Reply), s.cq c = some x → x.pend = r :: rs →
    s.hostUp = true → x.disabled = false → s.fnDown 1 = false → x.unread < 2 ^ x.log2 →
    let head := match s.sq r.q with | some q => q.fetch | none => 0
    let entry := wordBytes (r.wordsOf head s.holder (phaseOf x.wr x.log2))
    let a := x.base.toNat + 64 * (x.wr % 2 ^ x.log2)
    ∃ t, exec (.replyWrite c) s = .next t ∧
      t.cq c = some { x with pend := rs, wr := x.wr + 1, unread := x.unread + 1 } ∧
      (∀ k, k ≠ c → t.cq k = s.cq k) ∧
      (∀ y, s.sq r.q = some y → t.sq r.q = some { y with used := y.used - 1 }) ∧
      (∀ q, q ≠ r.q → t.sq q = s.sq q) ∧
      entry.length = 64 ∧
      (∀ i, i < 64 → Memory.read t.host.mem ((a + i) % 2 ^ 64) = some (entry.getD i 0)) ∧
      (∀ b, (∀ i, i < 64 → b ≠ (a + i) % 2 ^ 64) → Memory.read t.host.mem b = Memory.read s.host.mem b) ∧
      (x.irq = false → t.out = s.out ∧ t.host.pba = s.host.pba) ∧ (x.irq = true → Signalled x.vector s t) ∧
      t = { s with host := t.host, out := t.out, rcv.step := t.rcv.step } ∧
      (s.rcv.step = none → t.rcv.step = none)) ∧
  (∀ (e : Nat) (s : State) (x : EvQ) (r : EvRec) (rs : List EvRec), s.evq e = some x → x.pend = r :: rs →
    s.hostUp = true → x.disabled = false → s.fnDown 1 = false → x.unread < 2 ^ x.log2 →
    let entry := wordBytes (r.words.take 3 ++
      [wd r.words 3 ||| (if phaseOf x.wr x.log2 then 0x8000000000000000#64 else 0#64)] ++ r.words.drop 4)
    let a := x.base.toNat + 64 * (x.wr % 2 ^ x.log2)
    ∃ t, exec (.eventWrite e) s = .next t ∧
      t.evq e = some { x with pend := rs, wr := x.wr + 1, unread := x.unread + 1 } ∧
      (∀ k, k ≠ e → t.evq k = s.evq k) ∧
      entry.length = 64 ∧
      (∀ i, i < 64 → Memory.read t.host.mem ((a + i) % 2 ^ 64) = some (entry.getD i 0)) ∧
      (∀ b, (∀ i, i < 64 → b ≠ (a + i) % 2 ^ 64) → Memory.read t.host.mem b = Memory.read s.host.mem b) ∧
      t.host.sqs = s.host.sqs ∧ t.host.cqs = s.host.cqs ∧
      (x.irq = false → t.out = s.out ∧ t.host.pba = s.host.pba) ∧ (x.irq = true → Signalled x.vector s t) ∧
      t = { s with host := t.host, out := t.out }) ∧
  (∀ (c : Nat) (s : State), (∀ x, s.cq c = some x → x.pend = [] ∨ x.disabled = true ∨ 2 ^ x.log2 ≤ x.unread ∨
    s.hostUp = false ∨ s.fnDown 1 = true) → exec (.replyWrite c) s = .next s) ∧
  (∀ (e : Nat) (s : State), (∀ x, s.evq e = some x → x.pend = [] ∨ x.disabled = true ∨ 2 ^ x.log2 ≤ x.unread ∨
    s.hostUp = false ∨ s.fnDown 1 = true) → exec (.eventWrite e) s = .next s)

/-- R369: what the shared operation `finish` does for a command that this gateway fetched. -/
def Obligations.CompletionPostsOneReply : Prop :=
  ∀ (r : Run) (st : Nat) (ws : List W64) (s : State) (q : Sq) (c : Cq), r.key.gw = none →
    s.host.bcast = [] → s.host.dups = [] → s.sq r.key.q = some q → q.session = r.key.session → s.cq q.cq = some c →
    (finish r st ws s).cq q.cq = some { c with pend := c.pend ++
      [{ opcode := r.cmd.opcode, seq := r.key.seq, q := r.key.q, status := st, frame := s.time.frame, row := s.time.row,
         device := s.flight.addr, cached := false, session := r.key.session, words := ws, holder := none }] } ∧
    (∀ k, k ≠ q.cq → (finish r st ws s).cq k = s.cq k) ∧
    (finish r st ws s).host.prog = dropFirst (fun x => decide (x.key = r.key)) s.host.prog ∧
    OnlyHost s (finish r st ws s)

/-- R353 to R355: the queue opcodes on a command with good parameters. The end of a creation behind an endpoint that does not answer is the
model's choice (log entry 103), and so is how sent commands are taken back (log entry 104). -/
def Obligations.QueueOpcodesAct : Prop :=
  ∀ (r : Run) (s : State),
    (Held 0x0101 r s → cqCreateBad r (idle s) = false → endpointOff s = false →
      exec .cqCreate s = .next (finish r stOk [] ((idle s).setCq (fld (r.cmd.p 1) 5 0) (some
        { base := r.cmd.p 0, log2 := fld (r.cmd.p 1) 9 6, vector := fld (r.cmd.p 1) 16 10, irq := bit (r.cmd.p 1) 17 })))) ∧
    (Held 0x0102 r s → sqCreateBad r (idle s) = false → endpointOff s = false →
      let n := if s.host.sessions = 1023 then 1 else s.host.sessions + 1
      exec .sqCreate s = .next (finish r stOk [w64 n] (State.setSq { idle s with host.sessions := n } (fld (r.cmd.p 1) 5 0)
        (some { base := r.cmd.p 0, cq := fld (r.cmd.p 1) 11 6, log2 := fld (r.cmd.p 1) 15 12,
                priv := fld (r.cmd.p 1) 17 16, credits := fld (r.cmd.p 1) 24 18, session := n })))) ∧
    (Held 0x0103 r s → fld (r.cmd.p 0) 63 6 = 0 → fld (r.cmd.p 0) 5 0 ≠ 0 → s.sq (fld (r.cmd.p 0) 5 0) ≠ none →
      exec .sqDelete s = .next (finish r stOk [] (deleteSq (fld (r.cmd.p 0) 5 0) (idle s))) ∧
      QueueDeleted (fld (r.cmd.p 0) 5 0) (idle s) (deleteSq (fld (r.cmd.p 0) 5 0) (idle s)) ∧
      (∀ c, RepliesDropped (fld (r.cmd.p 0) 5 0) c (idle s) (deleteSq (fld (r.cmd.p 0) 5 0) (idle s))) ∧
      HostAndPorts (idle s) (deleteSq (fld (r.cmd.p 0) 5 0) (idle s))) ∧
    (Held 0x0104 r s → fld (r.cmd.p 0) 63 6 = 0 → fld (r.cmd.p 0) 5 0 ≠ 0 → s.cq (fld (r.cmd.p 0) 5 0) ≠ none →
      (∀ e ∈ s.host.sqs, ∀ x, e.2 = some x → x.cq ≠ fld (r.cmd.p 0) 5 0) →
      exec .cqDelete s = .next (finish r stOk [] ((idle s).setCq (fld (r.cmd.p 0) 5 0) none))) ∧
    (Held 0x0105 r s → eqCreateBad r (idle s) = false → endpointOff s = false →
      exec .eqCreate s = .next (finish r stOk [] (createEq (fld (r.cmd.p 1) 2 0)
        { base := r.cmd.p 0, log2 := fld (r.cmd.p 1) 6 3, vector := fld (r.cmd.p 1) 13 7, irq := bit (r.cmd.p 1) 14,
          groups := fld (r.cmd.p 1) 26 16 } (idle s)))) ∧
    (Held 0x0106 r s → fld (r.cmd.p 0) 63 6 = 0 → fld (r.cmd.p 0) 5 0 ≤ 7 → s.evq (fld (r.cmd.p 0) 5 0) ≠ none →
      exec .eqDelete s = .next (finish r stOk [] (deleteEq (fld (r.cmd.p 0) 5 0) (idle s))) ∧
      (deleteEq (fld (r.cmd.p 0) 5 0) (idle s)).evq (fld (r.cmd.p 0) 5 0) = none) ∧
    (∀ c op, endpointOff s = true → Held op r s →
      ((c = .cqCreate ∧ op = 0x0101 ∧ cqCreateBad r (idle s) = false) ∨ (c = .sqCreate ∧ op = 0x0102 ∧ sqCreateBad r (idle s) = false) ∨
       (c = .eqCreate ∧ op = 0x0105 ∧ eqCreateBad r (idle s) = false)) →
      exec c s = .next (finish r stFunctionDown [] (idle s))) ∧
    (Held 0x0107 r s → exec .nop s = .next (finish r stOk [] (idle s)))

/-- R84 to R94, R118, R389: what the planner's commands do on a serving device. That a seal checks R116 and R117 again is the model's
choice (log entry 82), and so are zero words beyond the operand of CONN_LOAD (log entry 97). -/
def Obligations.PlanEditsAndSealsAct : Prop :=
  ∀ (r : Run) (s : State), s.isActive = true →
    (Held 0x0201 r s → connEditBad r (idle s) = false →
      exec .connEdit s = .next (finish r stOk [] (addEdits ((r.cmd.params.drop 1).map editOf) []
        (((r.cmd.params.drop 1).map editOf).map (·.1)) (idle s)))) ∧
    (∀ buf, Held 0x0202 r s → (r.cmd.p 0).toNat % 4096 = 0 → fld (r.cmd.p 1) 63 19 = 0 → fld (r.cmd.p 1) 18 9 ≠ 0 →
      fld (r.cmd.p 1) 8 0 + fld (r.cmd.p 1) 18 9 ≤ 512 →
      let n := fld (r.cmd.p 1) 18 9
      let es := fun (ws : List W64) => ((loadEntries (ws ++ List.replicate (3072 * n - ws.length) 0)).take (n * 6144)).mapIdx
        (fun i e => (fld (r.cmd.p 1) 8 0 * 6144 + i, e))
      (∀ ws, s.isGateway = true → s.hostUp = true → buf = some ws →
        (∀ e ∈ es ws, entryBad e.2 = false ∧ (projected (idle s)).entryFits (e.1 / 6144) (e.1 % 6144) e.2 = true) →
        exec (.connLoad buf) s = .next (finish r stOk [] (addEdits (es ws) [] ((es ws).map (·.1)) (idle s)))) ∧
      (s.isGateway = true → buf = none → exec (.connLoad buf) s = .next (finish r stDmaError [] (idle s))) ∧
      (s.isGateway = false → s.hostReach = true → exec (.connLoad buf) s =
        .next (later r (dmaAsk r.key (r.cmd.p 0).toNat (24576 * n) (idle s)))) ∧
      (s.isGateway = false → s.hostReach = false → exec (.connLoad buf) s =
        .next (finish r stDmaError [] (idle s)))) ∧
    (∀ new, Held 0x0203 r s →
      let n := fld (r.cmd.p 0) 5 0
      let ts := (List.range n).map (tribEdit r.cmd.params)
      1 ≤ n → n ≤ 32 → fld (r.cmd.p 0) 63 6 = 0 → r.cmd.length = 8 * (9 * n + 1) →
      (∀ j < n, fld (wd r.cmd.params (9 * j + 1)) 63 17 = 0) → hasDup (ts.map (·.1)) = false →
      tribApply (projected (idle s)) ts = some new →
      exec .tribSet s =
        .next (finish r stOk [] (addEdits [] ts (copyBChanged (projected (idle s)) new ts) (idle s)))) ∧
    (Held 0x0301 r s →
      let w := r.cmd.p 0
      let large := bit w 0 || decide (256 < s.planner.named.length)
      fld w 15 2 = 0 → fld w 63 32 = 0 → (bit w 1 = true → r.cmd.atFrame = 0) → (large = true → r.cmd.atFrame = 0) →
      (r.cmd.atFrame ≠ 0 → ∀ p ∈ s.planner.sealed, p.lock = 0 ∨ p.lock + 2 ≤ r.cmd.atFrame) →
      (projected (idle s)).tribsFit = true →
      exec .planSeal s = .next { idle s with
        host.prog := s.host.prog ++ [r],
        planner.sealed := s.planner.sealed ++ [{
          gen := genAdd (idle s).basePage.gen (s.planner.sealed.length + 1), large := large, replan := bit w 0, hold := bit w 1,
          limit := if fld w 31 16 = 0 then 8000 else fld w 31 16, atFrame := r.cmd.atFrame, lock := r.cmd.atFrame,
          first := r.cmd.atFrame, entries := s.planner.entries, tribs := s.planner.tribs,
          slots := s.planner.named.length, sealFrame := s.time.frame, cmd := r.key }],
        planner.opened := false, planner.entries := [], planner.tribs := [], planner.named := [] }) ∧
    (Held 0x0302 r s → exec .planDiscard s = .next (finish r stOk [] { idle s with
        planner.opened := false, planner.entries := [], planner.tribs := [], planner.named := [] })) ∧
    (∀ n, Held 0x0303 r s → fld (r.cmd.p 0) 63 32 = 0 →
      findPlan (fun p => p.gen == fld (r.cmd.p 0) 31 0) s = some n →
      (∀ p ∈ s.planner.sealed, p.gen = fld (r.cmd.p 0) 31 0 → p.st ≠ .swapping) →
      exec .planWithdraw s = .next (finish r stOk [] (withdrawFrom n stWithdrawn (idle s))))

/-- R83, R110, R136, R366: ST_NOT_ACTIVE, and nothing else changes; that it comes before ST_INVALID_PARAM is the model's choice (log
entry 62). -/
def Obligations.ActiveOnlyCommandsRefused : Prop :=
  (∀ (c : Instr) (op : Nat) (r : Run) (s : State), s.isActive = false → Has op r s →
    ((c = .connEdit ∧ op = 0x0201) ∨ ((∃ b, c = .connLoad b) ∧ op = 0x0202) ∨ (c = .tribSet ∧ op = 0x0203) ∨
     (c = .planDiscard ∧ op = 0x0302) ∨ (c = .planWithdraw ∧ op = 0x0303) ∨ (c = .lockageAt ∧ op = 0x0306) ∨
     (c = .protCmd ∧ op = 0x0401)) →
    exec c s = .next (finish r stNotActive [] (idle s))) ∧
  (∀ (r : Run) (s : State), s.isActive = false → Has 0x0301 r s →
    exec .planSeal s = .next (finish r stNotActive (sealWords 0 s.planner.named.length 0 0 s.time.frame 0 0) (idle s)))

/-- R93 to R100, R111: the events of a plan's life. What a plan waits for before PLANNING is the model's reading (log entry 83), the routes
are operands (log entry 14), and DEFERRAL_LIMIT beside the row tick is its reading of R100 (log entry 15). -/
def Obligations.PlansMoveThroughTheirStates : Prop :=
  ∀ (n : Nat) (s : State),
    (findPlan (fun p => p.st == .queued) s = some n →
      n = 0 ∨ (∃ p, s.planner.sealed[n - 1]? = some p ∧ p.copied = true) →
      s.starting = false → s.followsLockage = false →
      exec .planningStart s =
        .next (modPlan n (fun p => { p with st := .planning, startRow := s.time.rows }) s)) ∧
    (∀ p stage, findPlan (fun p => p.st == .planning) s = some n → s.planner.sealed[n]? = some p →
      let pg := routedPage p stage s
      pg.check = true → (p.replan = true ∨ movedLegs s.fab.image pg = 0 ∨ r74Covers s.fab.image pg = false) →
      ∃ t us ws, exec (.planningDone (.found stage)) s = .next t ∧ t.fab.image = pg ∧
        t.planner.sealed = (modPlan n (fun p =>
          { p with st := .planned, moved := movedLegs s.fab.image pg, planUs := us, writes := ws }) s).planner.sealed ∧
        t.lanes = s.lanes ∧ t.twin = s.twin ∧ t.host = s.host ∧ t.fab.act = s.fab.act ∧ t.fab.stby = s.fab.stby) ∧
    (∀ p, findPlan (fun p => p.st == .planning) s = some n → s.planner.sealed[n]? = some p →
      (routedPage p [] s).budgetOk = false → r74Covers s.fab.image (routedPage p [] s) = false →
      exec (.planningDone .none) s = .next (withdrawFrom n stNoRoute s)) ∧
    (findPlan (fun p => p.st == .planned) s = some n → s.planner.credit = true → pageHeld s = false →
      s.fnDown 4 = false → s.reaches 4 [0, 1] = true →
      exec .loadingStart s = .next (interruptReads
        { modPlan n (fun p => { p with st := .loading }) s with planner.credit := false, fab.stby := {} })) ∧
    (∀ faults, s.reaches 4 [0, 1] = true → findPlan (fun p => p.st == .loading) s = some n →
      let pg : Page := { s.fab.image with stage := putStage faults s.fab.image.stage }
      (pg.check = true → exec (.loadingDone faults) s =
        .next (armReady { modPlan n (fun p => { p with st := .loaded }) s with fab.stby := pg })) ∧
      (pg.check = false → exec (.loadingDone faults) s = .next (withdrawFrom n stPageCheck s))) ∧
    (∀ r p, Held 0x0306 r s → s.isActive = true → fld (r.cmd.p 0) 63 32 = 0 →
      findPlan (fun p => p.gen == fld (r.cmd.p 0) 31 0 && p.st == .held) s = some n → s.planner.sealed[n]? = some p →
      (∀ q ∈ s.planner.sealed.take n, q.lock = 0 ∨ q.lock + 2 ≤ r.cmd.atFrame) →
      let armed : Plan → Plan := fun p => { p with st := .armed, hold := false, atFrame := r.cmd.atFrame,
                                                   lock := r.cmd.atFrame, first := r.cmd.atFrame }
      exec .lockageAt s = .next (finish r stOk [pack [(47, 0, r.cmd.atFrame)]]
        (sendFix (armed p) (modPlan n armed (idle s))))) ∧
    (findPlan (fun p => p.lock == s.time.frame + 1 && p.st != .swapping &&
        decide (p.first + p.limit ≤ s.time.frame + 1) && armFails p (s.time.frame + 1) s != 0) s = some n →
      s.time.row = 249 → exec .deferralLimit s = .next (withdrawFrom n stLockageTimeout s)) ∧
    (∀ (k : Nat), s.fab.swap = some k →
      (s.time.row = 0 → spacePage s = s.fab.act) ∧ (s.time.row < 2 → readoutPage s = s.fab.act) ∧
      (1 ≤ s.time.row → s.time.row < 249 → spacePage s = s.fab.stby) ∧
      (2 ≤ s.time.row → s.time.row < 249 → readoutPage s = s.fab.stby) ∧
      (s.time.row ≠ 3 → lockageDone s = s) ∧
      (∀ p, s.time.row = 3 → s.fab.stby.gen ≠ 0 → s.planner.sealed.find? (fun p => p.st == .swapping) = some p →
        ∃ u, lockageDone s = finishKey p.cmd stOk (p.words p.lock) u ∧ u.fab.act = s.fab.stby ∧ u.fab.stby = s.fab.act ∧
          u.fab.half = !s.fab.half ∧ u.fab.swap = none ∧ u.planner.credit = true ∧ u.planner.lastDone = p.gen ∧
          u.planner.sealed = s.planner.sealed.filter (fun x => x.st != .swapping) ∧ u.lanes = s.lanes))

/-- R104: the numbering of the generations that sealed plans are given. -/
def Obligations.GenerationsWrapToOne : Prop :=
  ∀ g n m : Nat, 1 ≤ g → g < 2 ^ 32 →
    1 ≤ genAdd g n ∧ genAdd g n < 2 ^ 32 ∧ genAdd g 0 = g ∧
    genAdd g 1 = (if g = 2 ^ 32 - 1 then 1 else g + 1) ∧ genAdd (genAdd g n) m = genAdd g (n + m)

/-- R5, R345, R389: host memory after the shared operation `bufReply`. -/
def Obligations.BufferReplyWritesTheBuffer : Prop :=
  ∀ (r : Run) (a : Nat) (ws reply : List W64) (s : State),
    (∀ ok c, (∀ i, i < 8 * ws.length → c ≠ (a + i) % 2 ^ 64) →
      Memory.read (bufReply r ok a ws reply s).host.mem c = Memory.read s.host.mem c) ∧
    (s.hostUp = true → a + 8 * ws.length ≤ 2 ^ 64 → ∀ i, i < 8 * ws.length →
      Memory.read (bufReply r true a ws reply s).host.mem (a + i) =
        some (BitVec.ofNat 8 ((wd ws (i / 8)).toNat >>> (8 * (i % 8))))) ∧
    (bufReply r false a ws reply s) = finish r stDmaError [] (bufUndefined a (8 * ws.length) s) ∧
    (s.hostReach = false → bufReply r true a ws reply s = bufReply r false a ws reply s) ∧
    (s.isGateway = false → s.hostReach = true → (bufReply r true a ws reply s).host.mem = s.host.mem ∧
      (bufReply r true a ws reply s).host.wr.map (·.run) = s.host.wr.map (·.run) ++ [r])

/-- The status opcodes whose record fits a reply. That those without a row tick in their text answer at once is the model's reading
(log entry 32), and a bandwidth of 0 where no loop runs its choice (log entry 91). -/
def Obligations.StatusReadsAnswer : Prop :=
  ∀ (r : Run) (s : State),
    (Held 0x0701 r s → exec .twinStatus s = .next (finish r stOk (twinStatusWords (idle s)) (idle s))) ∧
    (Held 0x0703 r s → s.boot.straps.keeperOnly = true →
      exec .keeperStatus s = .next (finish r stOk (keeperStatusWords (idle s)) (idle s))) ∧
    (Held 0x0710 r s → s.twin.role ≠ .solo →
      exec .ckptStatus s = .next (finish r stOk (ckptStatusWords (idle s)) (idle s))) ∧
    (Held 0x060A r s → exec .pStatus s = .next (finish r stOk (pStatusWords (idle s)) (idle s))) ∧
    (Held 0x0907 r s → fld (r.cmd.p 0) 63 5 = 0 → fld (r.cmd.p 0) 4 0 ≤ 16 →
      exec .ctrStatus s = .next (finish r stOk (ctrStatusWords (fld (r.cmd.p 0) 4 0) (idle s)) (idle s))) ∧
    (Held 0x0A03 r s → exec .recoverStatus s = .next (finish r stOk (recoverStatusWords (idle s)) (idle s))) ∧
    (Held 0x0B01 r s → exec .identityRead s = .next (finish r stOk (identityWords (idle s)) (idle s))) ∧
    (Held 0x0B11 r s → exec .fwStatus s = .next (finish r stOk (fwStatusWords (idle s)) (idle s))) ∧
    (Held 0x0605 r s → exec .dpllStatus s = .next (finish r stOk (chanFStatus (idle s)) (idle s))) ∧
    (Held 0x0610 r s → exec .frameStatus s = .next { idle s with host.prog := s.host.prog ++ [r] }) ∧
    (Held 0x0A06 r s → exec .stateSummary s = .next { idle s with host.prog := s.host.prog ++ [r] }) ∧
    (∀ tie, r.cmd.opcode = 0x0A06 → s.host.prog.filter (fun x => tickReads.contains x.cmd.opcode) = [r] →
      sampleTick tie s = finish r stOk
      [pack [(31, 0, s.fab.act.gen), (63, 32, s.advTerm)], pack [(47, 0, s.time.frame), (51, 48, s.twin.role.code)],
       pack [(31, 0, s.host.evSeq), (63, 32, s.rcv.cfgSeq)], pack [(15, 0, s.time.realignGen), (31, 16, s.rcv.reinits)]] s) ∧
    (s.progOf 0x0610 = [r] → frameStatusTick s = finish r stOk
      [pack [(47, 0, s.time.frame), (55, 48, s.time.row), (56, 56, b2n s.time.anchored), (59, 57, s.f.state.code)],
       pack [(47, 0, s.time.realignFrame), (63, 48, s.time.realignGen)],
       pack [(47, 0, twos 48 s.time.offFrames)],
       pack [(31, 0, twos 32 s.time.offPhase), (32, 32, b2n s.time.offValid)]] s)

/-- The opcodes that copy records to a host buffer; what `bufReply` does is said by BufferReplyWritesTheBuffer. Which of
them answer at once is the model's reading (log entry 32), and so is what BT_READ copies (log entry 26). -/
def Obligations.RecordReadsFillTheBuffer : Prop :=
  ∀ (ok : Bool) (r : Run) (s : State),
    let w := r.cmd.p 1
    let good := sizeOk r = true ∧ (r.cmd.p 0).toNat % 4096 = 0
    let lanes := fld w 18 9 ≠ 0 ∧ fld w 8 0 + fld w 18 9 ≤ 512 ∧ fld w 63 19 = 0
    let tribs := fld w 31 0 = 0 ∧ fld w 63 49 = 0 ∧ fld (r.cmd.p 2) 63 18 = 0 ∧ fld (r.cmd.p 2) 17 0 ≠ 0 ∧
      fld w 48 32 + fld (r.cmd.p 2) 17 0 ≤ 131072
    let inputs := fld w 63 10 = 0 ∧ fld w 9 5 ≠ 0 ∧ fld w 4 0 + fld w 9 5 ≤ 25
    let samples := fld w 63 9 = 0 ∧ fld w 8 0 ≠ 0 ∧ fld w 8 0 ≤ 256
    let meas := fld w 63 33 = 0 ∧ fld w 20 11 ≠ 0 ∧
      ((fld w 1 0 = 0 ∧ fld w 10 2 + fld w 20 11 ≤ 25 ∧ fld w 32 22 ≠ 0 ∧ fld w 32 22 ≤ 1024) ∨
       (fld w 1 0 = 1 ∧ fld w 10 2 + fld w 20 11 ≤ 512 ∧ fld w 32 22 = 0))
    let objects := fld w 63 41 = 0 ∧ fld w 4 0 ≤ 12 ∧ fld w 22 5 + fld w 40 23 ≤ classSize (fld w 4 0)
    (Has 0x0304 r s → good → exec (.planStatus ok) s = .next (waiting ok r s)) ∧
    (Has 0x0402 r s → good → tribs → exec (.protStatus ok) s = .next (waiting ok r s)) ∧
    (Has 0x0503 r s → good → lanes → exec (.laneStatus ok) s = .next (waiting ok r s)) ∧
    (Has 0x0521 r s → good → lanes → exec (.laneDefStatus ok) s = .next (waiting ok r s)) ∧
    (Has 0x060E r s → good → meas → exec (.measRead ok) s = .next (waiting ok r s)) ∧
    (Has 0x0603 r s → good → inputs → exec (.refStatus ok) s = .next (copied ok r
      ((List.range (fld w 9 5)).flatMap (fun j => inputStatus (fld w 4 0 + j) (idle s))) [] (idle s))) ∧
    (Has 0x0608 r s → good → samples → exec (.fSamples ok) s = .next (copied ok r
      ((s.f.soft.take (fld w 8 0)).reverse.flatMap (fun x => [x.w0, x.w1])) [] (idle s))) ∧
    (Has 0x0801 r s → good → exec (.flightStatus ok) s = .next (waiting ok r s)) ∧
    (Has 0x0906 r s → good → lanes → exec (.bwRead ok) s = .next (waiting ok r s)) ∧
    (Has 0x0A07 r s → good → objects → exec (.configRead ok) s = .next (waiting ok r s)) ∧
    (Has 0x0A05 r s → good → exec (.matrixStatus ok) s = .next (copied ok r (matrixStatusWords (idle s)) [] (idle s))) ∧
    (Has 0x0B22 r s → good → fld w 63 1 = 0 → exec (.btRead ok) s = .next (copied ok r
      (tableWords ((idle s).btSlot (if bit w 0 then !s.btInUse else s.btInUse))) [] (idle s))) ∧
    (Has 0x0304 r s → ¬ good → exec (.planStatus ok) s = .next (invalid r (idle s))) ∧
    (Has 0x0402 r s → ¬ (good ∧ tribs) → exec (.protStatus ok) s = .next (invalid r (idle s))) ∧
    (Has 0x0503 r s → ¬ (good ∧ lanes) → exec (.laneStatus ok) s = .next (invalid r (idle s))) ∧
    (Has 0x0521 r s → ¬ (good ∧ lanes) → exec (.laneDefStatus ok) s = .next (invalid r (idle s))) ∧
    (Has 0x060E r s → ¬ (good ∧ meas) → exec (.measRead ok) s = .next (invalid r (idle s))) ∧
    (Has 0x0603 r s → ¬ (good ∧ inputs) → exec (.refStatus ok) s = .next (invalid r (idle s))) ∧
    (Has 0x0608 r s → ¬ (good ∧ samples) → exec (.fSamples ok) s = .next (invalid r (idle s))) ∧
    (Has 0x0801 r s → ¬ good → exec (.flightStatus ok) s = .next (invalid r (idle s))) ∧
    (Has 0x0906 r s → ¬ (good ∧ lanes) → exec (.bwRead ok) s = .next (invalid r (idle s))) ∧
    (Has 0x0A05 r s → ¬ good → exec (.matrixStatus ok) s = .next (invalid r (idle s))) ∧
    (Has 0x0A07 r s → ¬ (good ∧ objects) → exec (.configRead ok) s = .next (invalid r (idle s))) ∧
    (Has 0x0B22 r s → ¬ (good ∧ fld w 63 1 = 0) → exec (.btRead ok) s = .next (invalid r (idle s))) ∧
    (∀ tie, s.host.prog.filter (fun x => tickReads.contains x.cmd.opcode) = [r] → r.mem = [b2n ok] →
      (r.cmd.opcode = 0x0304 → sampleTick tie s = copied ok r (planStatusWords s) ((planStatusWords s).take 4) s) ∧
      (r.cmd.opcode = 0x0801 → sampleTick tie s = copied ok r ((List.range 64).flatMap (fun a => memberWords a s))
        [pack [(6, 0, reachCount s), (7, 7, b2n (bothWays s))]] s) ∧
      (r.cmd.opcode = 0x0A07 → sampleTick tie s = copied ok r
        ((List.range (fld w 40 23)).flatMap (fun j => configRecord (fld w 4 0) (fld w 22 5 + j) s)) [] s) ∧
      (r.cmd.opcode = 0x0402 → Copies [1] r s (sampleTick tie s) (copied ok r
        ((List.range (fld (r.cmd.p 2) 17 0)).flatMap (fun i => protStatus (fld w 48 32 + i) s))
        [w64 s.time.frame, w64 s.time.frame] s)) ∧
      (r.cmd.opcode = 0x0503 → Copies [3] r s (sampleTick tie s)
        (copied ok r ((List.range (fld w 18 9)).flatMap (fun i => laneStatus (fld w 8 0 + i) s)) [] s)) ∧
      (r.cmd.opcode = 0x0521 → Copies [3] r s (sampleTick tie s)
        (copied ok r ((List.range (fld w 18 9)).flatMap (fun i => laneDefStatus (fld w 8 0 + i) s)) [] s)) ∧
      (r.cmd.opcode = 0x060E → fld w 1 0 = 1 → Copies [3] r s (sampleTick tie s)
        ((List.range (fld w 20 11)).foldl (fun t j => if bit w 21 then restartDelay (fld w 10 2 + j) t else t)
          (copied ok r ((List.range (fld w 20 11)).flatMap (fun j => delayWords (s.lane (fld w 10 2 + j)))) [] s))) ∧
      (r.cmd.opcode = 0x060E → fld w 1 0 = 0 → Copies [4] r s (sampleTick tie s)
        ((List.range (fld w 20 11)).foldl (fun t j => if bit w 21 then restartTie tie (fld w 10 2 + j) t else t)
          (copied ok r ((List.range (fld w 20 11)).flatMap (fun j => tieWords (fld w 10 2 + j) (fld w 32 22) s)) [] s)))) ∧
    (s.host.prog.filter (fun x => [0x0902, 0x0905, 0x0906].contains x.cmd.opcode) = [r] → r.mem = [b2n ok] →
      r.cmd.opcode = 0x0906 → Copies [2] r s (readStep s) (copied ok r
        ((List.range (fld w 18 9)).flatMap (fun i =>
          [(s.lane (fld w 8 0 + i)).bwRec.w0, (s.lane (fld w 8 0 + i)).bwRec.w1,
           (s.lane (fld w 8 0 + i)).bwRec.w2, (s.lane (fld w 8 0 + i)).bwRec.w3])) [] s))

/-- R113, R402, R430: reads whose copy takes time, and the identity's copies. The model's own choices: the copy ends at the row tick (log
entry 13), certificate and signature are free values (log entry 9), and so are the contents of a changed page's buffer (log entry 6). -/
def Obligations.DelayedReadsEndAtTheTick : Prop :=
  ∀ (ok : Bool) (r : Run) (s : State), (r.cmd.p 0).toNat % 4096 = 0 →
    let w1 := r.cmd.p 1
    let w2 := r.cmd.p 2
    (Held 0x0305 r s → fld w1 63 33 = 0 → fld w2 63 48 = 0 → fld w2 23 0 % 4096 = 0 → fld w2 47 24 % 4096 = 0 →
      fld w2 47 24 ≠ 0 → fld w2 23 0 + fld w2 47 24 ≤ 12582912 →
      (∀ p, pageNamed (fld w1 31 0) s = some p → exec (.pageRead ok) s =
        .next { idle s with host.prog := s.host.prog ++ [{ r with mem := [p.gen, b2n ok] }] }) ∧
      (pageNamed (fld w1 31 0) s = none → exec (.pageRead ok) s = .next (finish r stNoPage [] (idle s)))) ∧
    (Held 0x0204 r s → fld w1 63 49 = 0 → fld w2 63 18 = 0 → fld w2 17 0 ≠ 0 → fld w1 48 32 + fld w2 17 0 ≤ 131072 →
      (∀ p, pageNamed (fld w1 31 0) s = some p → exec (.tribRead ok) s =
        .next { idle s with host.prog := s.host.prog ++ [{ r with mem := [p.gen, b2n ok] }] }) ∧
      (pageNamed (fld w1 31 0) s = none → exec (.tribRead ok) s = .next (finish r stNoPage [] (idle s)))) ∧
    (∀ g, s.host.prog.filter (fun x => x.cmd.opcode == 0x0305 || x.cmd.opcode == 0x0204) = [r] → r.mem = [g, 1] →
      s.reaches 1 [if r.cmd.opcode = 0x0305 then 0 else 1] = true →
      (∀ p, pageNamed g s = some p →
        endReads s = bufReply r true (r.cmd.p 0).toNat (readWords r p) [w64 g] s) ∧
      (pageNamed g s = none → endReads s =
        finish r stPageChanged [w64 g] (bufUndefined (r.cmd.p 0).toNat (8 * (readWords r {}).length) s))) ∧
    (Held 0x0902 r s → fld w1 63 28 = 0 → crCount r ≠ 0 → crFirst r + crCount r ≤ 256 → crSource r ≠ 3 →
      (bit (s.bank (crBank r)).w 30 = true ∨ (privOf r.key (idle s) ≠ 0 ∧ privOf r.key (idle s) ≠ 3)) →
      exec (.ctrRead ok) s = .next (waiting ok r s)) ∧
    (Held 0x0905 r s → fld w1 63 42 = 0 → frCount r ≠ 0 →
      frFirst r + frCount r ≤ (if frKind r then 131072 else 512) → frSource r ≠ 3 →
      (frKind r = true → frInterval r = 0) →
      exec (.fixedRead ok) s = .next (waiting ok r s)) ∧
    (Held 0x0B02 r s → ∃ ws : List W64, ws.length = 128 ∧
      exec (.certRead ok) s =
        .next (bufReply r ok (r.cmd.p 0).toNat ws [w64 Config.certLength.val] (idle s))) ∧
    (Held 0x0B03 r s → ∃ ws : List W64, ws.length = 8 ∧
      exec (.identChallenge ok) s = .next (bufReply r ok (r.cmd.p 0).toNat ws [w64 s.time.frame] (idle s)))

/-- R126 to R138: the events of a selector and its decision at a row tick. -/
def Obligations.SelectorEventsAct : Prop :=
  (∀ (n : Nat) (s : State), n < 131072 →
    (∀ d, (s.sel n).holdDue = some d → d ≤ s.time.rows → (s.sel n).expired = false → (s.sel n).idle = false →
      exec (.holdExpiry n) s =
        .next (s.modSel n (fun x => { x with expired := true, expChanged := some true }))) ∧
    (s.switches = true → isProtected n s = true → tSfRows ((readoutPage s).tribRec n) ≤ (s.sel n).invA →
      exec (.sfRowsReached n false) s = .next (s.modSel n (fun x => { x with sfA := true }))) ∧
    (s.switches = true → isProtected n s = true → tSfRows ((readoutPage s).tribRec n) ≤ (s.sel n).invB →
      exec (.sfRowsReached n true) s = .next (s.modSel n (fun x => { x with sfB := true }))) ∧
    (s.switches = true → isProtected n s = true → (s.lane (tALane ((readoutPage s).tribRec n))).sfTrigger = false →
      250 ≤ (s.sel n).valA → exec (.sfClearRun n false) s = .next (s.modSel n (fun x => { x with sfA := false }))) ∧
    (s.switches = true → isProtected n s = true → (s.lane (tBLane ((readoutPage s).tribRec n))).sfTrigger = false →
      250 ≤ (s.sel n).valB → exec (.sfClearRun n true) s = .next (s.modSel n (fun x => { x with sfB := false }))) ∧
    (∀ d, s.twin.role ≠ .warming → s.twin.role ≠ .warm → (s.sel n).st = .wtr → (s.sel n).wtrDue = some d → d ≤ s.time.rows →
      exec (.wtrExpiry n) s = .next (s.modSel n (fun x => { x with wtrHit := true })))) ∧
  (∀ (r : Run) (s : State), Held 0x0401 r s → s.isActive = true → fld (r.cmd.p 0) 63 20 = 0 → fld (r.cmd.p 0) 19 17 ≤ 4 →
    isProtected (fld (r.cmd.p 0) 16 0) s = true →
    exec .protCmd s = .next { idle s with host.prog := s.host.prog ++ [r] }) ∧
  (∀ (x : Sel) (ws : List W64) (now : Nat),
    let y := x.decideSel ws now
    let sd := tSdSw ws
    (x.lo = true → y.st = .lo ∧ y.sel = false) ∧
    (x.lo = false → x.sfB = true → y.st = .sfB ∧ y.sel = false) ∧
    (x.lo = false → x.sfB = false → x.fs = true → y.st = .fs ∧ y.sel = true) ∧
    (x.lo = false → x.sfB = false → x.fs = false → x.sfA = true → y.st = .sfA ∧ y.sel = true) ∧
    (x.lo = false → x.sfB = false → x.fs = false → x.sfA = false → sd = true → x.sdB = true →
      y.st = .sdB ∧ y.sel = false) ∧
    (x.lo = false → x.sfB = false → x.fs = false → x.sfA = false → sd = true → x.sdB = false → x.sdA = true →
      y.st = .sdA ∧ y.sel = true) ∧
    (x.strong sd = none → x.ms = some true → y.st = .msB ∧ y.sel = true) ∧
    (x.strong sd = none → x.ms = some false → y.st = .msA ∧ y.sel = false) ∧
    (x.strong sd = none → x.ms = none → x.st = .sfA → tRev ws = true →
      y.st = .wtr ∧ y.sel = true ∧ y.wtrDue = some (now + tWtrRows ws)) ∧
    (x.strong sd = none → x.ms = none → x.st = .wtr → x.wtrHit = true → y.st = .nrA ∧ y.sel = false) ∧
    (x.strong sd = none → x.ms = none → x.st = .nrA → y = x)) ∧
  (∀ (s : State) (lane slot : Nat), slot < 6144 → (∃ w, (6144 * lane + slot, w) ∈ (readoutPage s).entries) →
    ∃ w, (6144 * lane + slot, w) ∈ (readoutPage s).entries ∧
    let a := half s.fab.read lane slot
    let b := half s.fab.read lane (6144 + slot)
    let trib := (laneTribs (readoutPage s) lane).find? (fun t => (memberOf (tRanges t.2) slot).isSome)
    let word := kget 0 (readoutLane lane s).fab.words (6144 * lane + slot)
    (trib = none → eLeg w = true → word = a.1) ∧
    (∀ x, trib = some x → tProt x.2 = true →
      let y := s.sel x.1
      let mine := if y.sel then b else a
      let other := if y.sel then a else b
      let spare := other.2 = true ∧ tNoSubst x.2 = false ∧ y.st ≠ .lo
      (mine.2 = true → word = mine.1) ∧ (mine.2 = false → spare → word = other.1) ∧
      (mine.2 = false → ¬ spare → word = (if y.expired then 0xFFFFFFFF#32 else heldWord lane slot s))) ∧
    (∀ x, trib = some x → tProt x.2 = false → eLeg w = true →
      (a.2 = true → word = a.1) ∧
      (a.2 = false → word = (if (s.sel x.1).expired then 0xFFFFFFFF#32 else heldWord lane slot s))) ∧
    ((trib = none ∨ ∃ x, trib = some x ∧ tProt x.2 = false) → eLeg w = false →
      word = constWord w (s.lane lane).testWord))

/-- R189 to R191: what a lane's conditions register, and their application at the tick. That DEG_INTERVAL_END marks what the tick closes is
the model's reading (log entry 24); so is the row in which a run registers (log entry 63). -/
def Obligations.LaneDefectsRegister : Prop :=
  (∀ (lane : Nat) (s : State), lane < 512 → s.ticking = true → (s.lane lane).bring = .inService →
    (2 ≤ (s.lane lane).noSigRun → exec (.losDeclareRun lane) s = .next (s.modLane lane (fun l =>
      { l with losReg := some true, hunter := l.hunter.lose, delin := l.delin.lose }))) ∧
    ((s.lane lane).los = true → 250 ≤ (s.lane lane).sigRun →
      exec (.losClearRun lane) s = .next (s.modLane lane (fun l => { l with losReg := some false }))) ∧
    (4 ≤ (s.lane lane).outRun →
      exec (.loraDeclareRun lane) s = .next (s.modLane lane (fun l => { l with loraReg := some true }))) ∧
    ((s.lane lane).lora = true → 250 ≤ (s.lane lane).inRun → (s.lane lane).los = false → (s.lane lane).loa = false →
      (s.lane lane).lod = false →
      exec (.loraClearRun lane) s = .next (s.modLane lane (fun l => { l with loraReg := some false }))) ∧
    ((s.lane lane).frm = false → (s.lane lane).frmRow + 500 ≤ s.time.rows →
      exec (.frmMissingTimeout lane) s = .next (s.modLane lane (fun l => { l with frmReg := some true }))) ∧
    ((s.lane lane).degOpen = true → s.time.row = 249 → s.nextFrame % degInt (s.lane lane) = 0 →
      exec (.degIntervalEnd lane) s = .next (s.modLane lane (fun l => { l with degEnd := true }))) ∧
    ((s.lane lane).degOpen = true → ((s.lane lane).degEnd = true ∨ s.nextFrame % degInt (s.lane lane) = 0) →
      (endIntervals s).lane lane = (s.lane lane).classDeg)) ∧
  (∀ l : Lane, l.degSf = false → l.sfNow = false → degBad l = true → degM l ≤ l.badRun + 1 → l.badRun < 10 → l.deg = false →
    l.classDeg.degReg = some true ∧ l.classDeg.badRun = l.badRun + 1 ∧ l.classDeg.goodRun = 0) ∧
  (∀ l : Lane, l.degSf = false → l.sfNow = false → degBad l = false → degM l ≤ l.goodRun + 1 → l.goodRun < 10 → l.deg = true →
    l.classDeg.degReg = some false ∧ l.classDeg.goodRun = l.goodRun + 1 ∧ l.classDeg.badRun = 0) ∧
  (∀ (l : Lane) (b : Bool), (l.losReg = some b → l.applyDefects.los = b) ∧
    (l.degReg = some b → l.applyDefects.deg = b) ∧ (l.frmReg = some b → l.applyDefects.frm = b) ∧
    (l.losReg = some true → l.applyDefects.loa = true ∧ l.applyDefects.lod = true ∧ l.applyDefects.lora = true ∧
      l.applyDefects.inRun = 0) ∧
    (l.loraReg = some true → l.applyDefects.lora = true))

/-- R193, R226: the commands on lanes. When each of them acts is the model's reading (log entry 50). -/
def Obligations.LaneCommandsAct : Prop :=
  (∀ (c : Instr) (op top : Nat) (r : Run) (s : State), Held op r s →
    (c = .laneAdmin ∧ op = 0x0501 ∧ top = 20) ∨ (c = .laneRestart ∧ op = 0x0502 ∧ top = 19) ∨
      (c = .laneTest ∧ op = 0x0504 ∧ top = 20) →
    (fld (r.cmd.p 0) 18 9 ≠ 0 → fld (r.cmd.p 0) 8 0 + fld (r.cmd.p 0) 18 9 ≤ 512 → fld (r.cmd.p 0) 63 top = 0 →
      exec c s = .next { idle s with host.prog := s.host.prog ++ [r] }) ∧
    (fld (r.cmd.p 0) 18 9 = 0 ∨ 512 < fld (r.cmd.p 0) 8 0 + fld (r.cmd.p 0) 18 9 ∨ fld (r.cmd.p 0) 63 top ≠ 0 →
      exec c s = .next (finish r stInvalidParam [] (idle s)))) ∧
  (∀ (r : Run) (s : State), Held 0x0520 r s → fld (r.cmd.p 0) 18 9 ≠ 0 →
    fld (r.cmd.p 0) 8 0 + fld (r.cmd.p 0) 18 9 ≤ 512 → fld (r.cmd.p 0) 63 19 = 0 →
    degRecOk (r.cmd.p 1) (r.cmd.p 2) = true →
    ∃ u, exec .laneDefCfg s = .next (finish r stOk [] u) ∧ u = { idle s with lanes := u.lanes } ∧
      ∀ i, u.lane i = if fld (r.cmd.p 0) 8 0 ≤ i ∧ i < fld (r.cmd.p 0) 8 0 + fld (r.cmd.p 0) 18 9 then
        { s.lane i with degNext := some (r.cmd.p 1, r.cmd.p 2) } else s.lane i) ∧
  (∀ (r : Run) (s : State), s.host.prog.filter (fun x => [0x0501, 0x0502, 0x0504].contains x.cmd.opcode) = [r] →
    laneCmdTick s = applyLaneCmd r s ∧
    ∃ u, applyLaneCmd r s = finish r stOk [] u ∧ u.host = s.host ∧ u.time = s.time ∧ u.flight = s.flight) ∧
  (∀ (r : Run) (s : State) (i : Nat), fld (r.cmd.p 0) 8 0 ≤ i → i < fld (r.cmd.p 0) 8 0 + fld (r.cmd.p 0) 18 9 →
    (r.cmd.opcode = 0x0504 → ((applyLaneCmd r s).lane i).testOn = bit (r.cmd.p 0) 19) ∧
    (r.cmd.opcode = 0x0501 → ((applyLaneCmd r s).lane i).admin = bit (r.cmd.p 0) 19) ∧
    (r.cmd.opcode = 0x0502 → ((applyLaneCmd r s).lane i).bring = .off ∨ ((applyLaneCmd r s).lane i).bring = .signalWait))

/-- Table 8.7: the bring-up events of a lane. The release offset that a lane gets is the model's choice (log entry 79), the attempt timer
after ID_FAULT its reading (log entry 100). -/
def Obligations.BringUpFollowsItsTable : Prop :=
  ∀ (lane : Nat) (s : State), lane < 512 → s.ticking = true →
    ((s.lane lane).bring = .signalWait → 2 ≤ (s.lane lane).sigRun →
      exec (.signalReportedRun lane) s = .next (s.modLane lane (fun l =>
        { l with bring := .adapt, attemptDue := some (s.time.rows + 200000) }))) ∧
    (∀ v h n, (s.lane lane).bring = .adapt → 10 ≤ v → v < 256 → h < 256 → n < 256 →
      exec (.adaptationConverged lane v h n) s = .next (s.modLane lane (fun l =>
        { l with bring := .align, hunter := l.hunter.fresh, delin := {}, eyeV := v, eyeH := h, snr := n }))) ∧
    (∀ d, (s.lane lane).attemptDue = some d → d < s.time.rows → (s.lane lane).bring.trying = true →
      ∃ t, exec (.attemptTimerExpiry lane) s = .next t ∧ (t.lane lane).bring = .signalWait ∧
        (t.lane lane).fails = min 65535 ((s.lane lane).fails + 1) ∧ (t.lane lane).attemptDue = none ∧
        (t.lane lane).hunter.aligned = false ∧ (∀ j, j ≠ lane → t.lane j = s.lane j) ∧
        t = { s with lanes := t.lanes, octets := t.octets }) ∧
    ((s.lane lane).bring = .idFault → (s.lane lane).idFaultFrame + 2000000 < s.time.rows →
      exec (.idFaultExpiry lane) s = .next (s.modLane lane (fun l => { l with bring := .align }))) ∧
    ((s.lane lane).bring = .phase → (s.lane lane).goodFrame0 = true → 250 ≤ (s.lane lane).inRun →
      ∃ t, exec (.phaseRowsInPlace lane) s = .next t ∧ (t.lane lane).bring = .inService ∧ (t.lane lane).bits = 0 ∧
        (t.lane lane).attemptDue = none ∧ (t.lane lane).serviceFrame = s.time.frame ∧
        (t.lane lane).offset = (s.lane lane).arrival.map mag ∧ (∀ j, j ≠ lane → t.lane j = s.lane j) ∧
        t.octets = s.octets ∧ t.host = s.host ∧ t.refs = s.refs ∧ t.planner = s.planner ∧ t.fab.act = s.fab.act)

/-- R149 to R153: the hunter's table, and the command that examines a marker position; R142 to R146: what a transmitter sends as a
marker is what a hunter reads. The identity before the first good CHECK is the model's choice (log entry 69). -/
def Obligations.MarkersMoveTheHunter : Prop :=
  (∀ (n : Nat) (m : MarkerRx) (s : State), n < 512 → s.ticking = true →
    let lane := logicalLane n s
    let h := (s.lane lane).hunter
    let k := h.step m
    (s.lane lane).bring.hunts = true →
    ((k.aligned && m.pos == k.pos && checkGood m k.inv) = false →
      exec (.alignmentMarker (.pair n) m) s = .next (s.modLane lane (fun l =>
        let l := { l.count 2 (b2n (h.missed m)) with hunter := k }
        if h.aligned = true ∧ k.aligned = false then
          { l with delin := l.delin.lose, bring := if l.bring.trying = true then .align else l.bring, goodFrame0 := false }
        else l))) ∧
    (∃ t, exec (.alignmentMarker (.pair n) m) s = .next t)) ∧
  (∀ (n : Nat) (m : MarkerRx) (s : State), n < 4 → s.ticking = true →
    let h := kget {} s.twin.hunters n
    let u := { s with twin.hunters := kset {} s.twin.hunters n (h.step m) }
    exec (.alignmentMarker (.twin n) m) s = .next (if h.aligned = true ∧ (h.step m).aligned = false then
      { u with twin.laneDown := true, ckpt.rxBulk := [], ckpt.rxUrgent := [] } else u)) ∧
  (∀ (h : Hunter) (m : MarkerRx) (i : Bool), h.aligned = false → matchForm (markerBits m) = some i →
    (h.cands.find? (fun c => c.1 == m.pos) = none → h.cands.length < 8 →
      (h.step m).cands = h.cands ++ [(m.pos, i)] ∧ (h.step m).aligned = false) ∧
    (h.cands.find? (fun c => c.1 == m.pos) = some (m.pos, i) →
      (h.step m).aligned = true ∧ (h.step m).pos = m.pos ∧ (h.step m).inv = i ∧ (h.step m).miss = 0)) ∧
  (∀ (h : Hunter) (m : MarkerRx), h.aligned = true →
    (m.pos ≠ h.pos → h.step m = h) ∧
    (m.pos = h.pos → matchForm (markerBits m) = some h.inv → (h.step m).aligned = true ∧ (h.step m).miss = 0) ∧
    (m.pos = h.pos → matchForm (markerBits m) ≠ some h.inv → h.miss < 3 →
      (h.step m).aligned = true ∧ (h.step m).miss = h.miss + 1) ∧
    (m.pos = h.pos → matchForm (markerBits m) ≠ some h.inv → 3 ≤ h.miss →
      (h.step m).aligned = false ∧ (h.step m).cands = [] ∧ (h.step m).left = true) ∧
    (m.pos = h.pos → matchForm (markerBits m) = some h.inv → checkGood m h.inv = true →
      (h.step m).cur = markerId m h.inv ∧ (h.step m).good = some (markerId m h.inv) ∧
      (h.step m).seed = seedOf (markerId m h.inv)) ∧
    (m.pos = h.pos → matchForm (markerBits m) = some h.inv → checkGood m h.inv = false →
      (h.step m).cur = nextIdentity h.cur ∧ (h.step m).good = h.good ∧ (h.step m).seed = seedOf (nextIdentity h.cur))) ∧
  (∀ (lane : Nat) (i : W64) (s : State), (s.lane lane).bring = .align →
    ((goodMarker lane i s).lane lane).bring = .identify) ∧
  (∀ (id : W64) (rest pos : Nat) (inv : Bool), rest < 2 ^ 4980 →
    let m : MarkerRx := { pos := pos, word := linePams 2720 (turn inv (rsEncode ((markerWord id).toNat * 2 ^ 4980 + rest))) }
    matchForm (markerBits m) = some inv ∧ markerId m inv = id ∧ checkGood m inv = true)

/-- R24, R144, R154 to R161, R175, R178, R187: what DATA_BARGE and HOLD_BARGE put into the basin, and the header that a sender forms. The
phase of a row without its barge 0 and the instant at which the basin counts as empty are the model's readings (log entries 72, 44), the
order of the symbols of a codeword too (log entry 95). -/
def Obligations.DataRowsArePlaced : Prop :=
  (∀ (lane : Nat) (b : BargeRx) (s : State), Receives lane b s →
    let x := received lane b s
    let y := resolveRow s.nrn (hRow x.hdr)
    let i := hIndex x.hdr
    let l := s.lane lane
    let phase := l.rowPhase s.nrn y i b.arrival
    (-1500000 ≤ phase → (s.nrn : Int) < y → y ≤ (s.nrn : Int) + 3 → l.discards.contains y.toNat = false →
      l.got.contains (24 * y.toNat + i) = false →
      (hType x.hdr = 1 → ∃ t, exec (.dataBarge lane b) s = .next t ∧
        kget none (t.lane lane).basin (24 * y.toNat + i) = some (BargeW.mk x.slots
          (decide (l.bring = .inService) && !x.uncorr && hSrcValid x.hdr && decide (phase ≤ -450000))) ∧
        (∀ k, k ≠ 24 * y.toNat + i → kget none (t.lane lane).basin k = kget none l.basin k) ∧
        (∀ j, j ≠ lane → t.lane j = s.lane j) ∧ t = { s with lanes := t.lanes, ctr := t.ctr }) ∧
      (∀ z, hType x.hdr = 4 → l.held (y.toNat - 1) i s.nrn = some z → ∃ t, exec (.holdBarge lane b) s = .next t ∧
        kget none (t.lane lane).basin (24 * y.toNat + i) = some { words := z.words, tag := false } ∧
        (∀ k, k ≠ 24 * y.toNat + i → kget none (t.lane lane).basin k = kget none l.basin k) ∧
        (∀ j, j ≠ lane → t.lane j = s.lane j) ∧ t = { s with lanes := t.lanes, free := t.free })) ∧
    (phase < -1500000 ∨ (s.nrn : Int) + 3 < y → l.discards.contains y.toNat = false →
      l.got.contains (24 * y.toNat + i) = false → hType x.hdr = 1 →
      ∃ t, exec (.dataBarge lane b) s = .next t ∧ (t.lane lane).discarded = true ∧
        (t.lane lane).discards = y.toNat :: l.discards ∧
        (∀ j < 24, kget none (t.lane lane).basin (24 * y.toNat + j) = none) ∧ (∀ j, j ≠ lane → t.lane j = s.lane j)) ∧
    (tooLate s.nrn y i b.arrival = true → l.discards.contains y.toNat = false →
      l.got.contains (24 * y.toNat + i) = false → hType x.hdr = 1 →
      ∃ t, exec (.dataBarge lane b) s = .next t ∧ (t.lane lane).discarded = true ∧
        (t.lane lane).discards = y.toNat :: l.discards ∧ (∀ j, j ≠ lane → t.lane j = s.lane j) ∧
        (y = (s.nrn : Int) → l.bring = .inService → (t.lane lane).prevRow = [] ∧
          (∀ k, k / 24 = lane → kget none t.fab.ingress k = none) ∧
          (∀ k, k / 24 ≠ lane → kget none t.fab.ingress k = kget none s.fab.ingress k))) ∧
    (-1500000 ≤ phase → y = (s.nrn : Int) → tooLate s.nrn y i b.arrival = false → l.discards.contains y.toNat = false →
      l.got.contains (24 * y.toNat + i) = false → hType x.hdr = 1 →
      let w := BargeW.mk x.slots (decide (l.bring = .inService) && !x.uncorr && hSrcValid x.hdr && decide (phase ≤ -450000))
      ∃ t, exec (.dataBarge lane b) s = .next t ∧ (t.lane lane).basin = l.basin ∧ (t.lane lane).discards = l.discards ∧
        kget none (t.lane lane).prevRow i = some w ∧
        (l.bring = .inService → kget none t.fab.ingress (24 * lane + i) = some w) ∧
        (∀ k, k ≠ 24 * lane + i → kget none t.fab.ingress k = kget none s.fab.ingress k) ∧
        (∀ j, j ≠ lane → t.lane j = s.lane j) ∧
        t = { s with lanes := t.lanes, ctr := t.ctr, fab.ingress := t.fab.ingress }) ∧
    (l.got.contains (24 * y.toNat + i) = true → hType x.hdr = 1 →
      ∃ t, exec (.dataBarge lane b) s = .next t ∧ (t.lane lane).basin = l.basin ∧ (t.lane lane).discards = l.discards ∧
        (∀ j, j ≠ lane → t.lane j = s.lane j) ∧
        t = { s with lanes := t.lanes, ctr := t.ctr, fab.ingress := t.fab.ingress } ∧
        (l.discards.contains y.toNat = false → t.fab.ingress = s.fab.ingress))) ∧
  (∀ (type row index src data : Nat) (s : State), 1 ≤ type → type ≤ 5 → index < 24 → src < 2 → data < 256 →
    let w := bargeHeader type row index src data s
    headerFits w = true ∧ hType w = type ∧ hRow w = row % 4096 ∧ hIndex w = index ∧ hSrcValid w = decide (src = 1) ∧
    hSel w = s.twin.role.adv % 4 ∧ hTerm w = s.advTerm % 65536 ∧ hTypeData w = data) ∧
  (∀ (s : State) (i : Nat), s.fab.running = true → i < 24 →
    let t := coreStep s
    (∀ lane l b, (lane, l) ∈ s.lanes → l.bring = .inService → kget none l.basin (24 * s.nrn + i) = some b →
      (24 * lane + i, some b) ∈ t.fab.ingress) ∧
    (∀ lane b, (24 * lane + i, b) ∈ t.fab.ingress →
      ∃ l, (lane, l) ∈ s.lanes ∧ l.bring = .inService ∧ kget none l.basin (24 * s.nrn + i) = b ∧ b ≠ none) ∧
    (∀ lane l, (lane, l) ∈ s.lanes → l.bring = .inService → ∃ l', (lane, l') ∈ t.lanes) ∧
    (∀ lane l', (lane, l') ∈ t.lanes → ∃ l, (lane, l) ∈ s.lanes ∧ l'.bring = l.bring ∧
      kget none l'.prevRow i = kget none l.basin (24 * s.nrn + i) ∧ l'.olderRow = l.prevRow ∧
      (∀ y, s.nrn < y → kget none l'.basin (24 * y + i) = kget none l.basin (24 * y + i)) ∧
      (∀ y, y ≤ s.nrn → kget none l'.basin (24 * y + i) = none))) ∧
  (∀ (info : Nat) (inv : Bool), rsDecode (turn inv (turn inv (rsEncode info))) = { info := info, fixed := 0, bad := false })

/-- R156, R164 to R172: the fill barges received and sent, and INVALID_HEADER. -/
def Obligations.FillBargesAct : Prop :=
  (∀ (lane i : Nat) (s : State), (carriesRows lane s = false ∨ 24 ≤ i) →
    let l := s.lane lane
    ∃ b, (sendPosition lane i s).out.barges = s.out.barges ++ [b] ∧ b.lane = lane ∧ b.at_ = l.txNext / 257 ∧
      (l.frameDue = true → b.hdr = bargeHeader 3 (fillRow lane l.txNext s) 0 0 (s.time.frame % 256) s ∧
        b.words = framePayload lane (departure l.txNext) s ∧ ((sendPosition lane i s).lane lane).frameDue = false) ∧
      (l.frameDue = false → l.testOn = true → b.hdr = bargeHeader 5 (fillRow lane l.txNext s) 0 0 l.testSeq s ∧
        b.words = testPayload l.testSeq ∧ ((sendPosition lane i s).lane lane).testSeq = (l.testSeq + 1) % 256) ∧
      (l.frameDue = false → l.testOn = false → b.hdr = bargeHeader 2 (fillRow lane l.txNext s) 0 0 0 s ∧
        b.words = List.replicate 128 0)) ∧
  (∀ (lane i : Nat) (s : State), carriesRows lane s = true → i < 24 →
    let bad := s.fab.kind == .ones || s.fab.badBarge.contains (lane, i)
    ∃ b, (sendPosition lane i s).out.barges = s.out.barges ++ [b] ∧ b.lane = lane ∧ b.at_ = (s.lane lane).txNext / 257 ∧
      (s.fab.kind = .hold → b.hdr = bargeHeader 4 s.nrn i 0 0 s ∧ b.words = List.replicate 128 0) ∧
      (s.fab.kind ≠ .hold → b.hdr = bargeHeader 1 s.nrn i (b2n (!bad)) 0 s ∧ b.words.length = 128) ∧
      (∀ j, s.fab.kind = .data → j < 128 → wd b.words j =
        w64 ((kget 0 s.fab.words (6144 * lane + 256 * i + 2 * j)).toNat * 2 ^ 32 +
          (kget 0 s.fab.words (6144 * lane + 256 * i + 2 * j + 1)).toNat))) ∧
  ∀ (lane : Nat) (b : BargeRx) (s : State),
    let x := received lane b s
    (Receives lane b s → hType x.hdr = 3 → frameGood x.words = true →
      ∃ t, exec (.frameBarge lane b) s = .next t ∧ (t.lane lane).echoFrame = fld (wd x.words 0) 47 0 ∧
        (t.lane lane).fSel = fld (wd x.words 4) 63 62 ∧ (t.lane lane).fSelTerm = fld (wd x.words 4) 31 0 ∧
        (t.lane lane).rxState = fld (wd x.words 7) 2 0 ∧ (t.lane lane).frmRow = s.time.rows ∧
        (t.lane lane).basin = (s.lane lane).basin ∧ (∀ j, j ≠ lane → t.lane j = s.lane j) ∧
        t.fab = s.fab ∧ t.sels = s.sels ∧ t.host = s.host ∧ t.planner = s.planner) ∧
    (Receives lane b s → hType x.hdr = 3 → frameGood x.words = false →
      ∃ t, exec (.frameBarge lane b) s = .next t ∧ (t.lane lane).echoFrame = (s.lane lane).echoFrame ∧
        (t.lane lane).frmRow = (s.lane lane).frmRow ∧ (∀ j, j ≠ lane → t.lane j = s.lane j) ∧
        t = { s with lanes := t.lanes }) ∧
    (Receives lane b s → hType x.hdr = 5 →
      ∃ t, exec (.testBarge lane b) s = .next t ∧
        (t.lane lane).testChecked = min (2 ^ 48 - 1) ((s.lane lane).testChecked + 1) ∧
        (x.words = testPayload (hTypeData x.hdr) → (s.lane lane).testBits < 2 ^ 48 →
          (t.lane lane).testBits = (s.lane lane).testBits) ∧
        (∀ j, j ≠ lane → t.lane j = s.lane j) ∧ t = { s with lanes := t.lanes }) ∧
    (Receives lane b s → hType x.hdr = 2 →
      ∃ t, exec (.idleBarge lane b) s = .next t ∧ (t.lane lane).delin.sync = true ∧
        (t.lane lane).basin = (s.lane lane).basin ∧ (∀ j, j ≠ lane → t.lane j = s.lane j) ∧
        t = { s with lanes := t.lanes, ctr := t.ctr }) ∧
    (lane < 512 → s.ticking = true → (s.lane lane).hunter.aligned = true → (s.lane lane).bring.hunts = true →
      (s.lane lane).delin.sync = true → b.pos = (s.lane lane).delin.pos → headerFits x.hdr = false → headerFix x.hdr = none →
      ∃ t, exec (.invalidHeader lane b.pos { first := b.first, off := b.off, words := b.words }) s = .next t ∧
        ((s.lane lane).delin.bad < 6 → (t.lane lane).delin.sync = true ∧
          (t.lane lane).delin.bad = (s.lane lane).delin.bad + 1) ∧
        (6 ≤ (s.lane lane).delin.bad → (t.lane lane).delin.sync = false ∧ (t.lane lane).delin.left = true) ∧
        (∀ j, j ≠ lane → t.lane j = s.lane j) ∧ t = { s with lanes := t.lanes })

/-- R235 to R243: what the events of an input register, and their application at the tick. -/
def Obligations.InputEventsAct : Prop :=
  (∀ (c : Instr) (n : Nat) (m : RefMsg) (s : State), n < 8 → s.ticking = true →
    (c = .refmsgQl n m ∨ c = .refmsgTod n m ∨ c = .refmsgBad n m) →
    (∀ p, refMsg m = some (1, p) → (s.input n).q ≠ .off → (s.input n).msgMode ≠ 0 →
      exec c s = .next (s.modInput n (fun i =>
        { i with qlNew := some (fld (p.getD 0 0) 3 0, (p.getD 1 0).toNat), qlSeen := true, qlRow := s.time.rows,
                 absentHit := false }))) ∧
    (∀ p, refMsg m = some (2, p) → (s.input n).q ≠ .off → (s.input n).msgMode = 2 →
      exec c s = .next (s.modInput n (fun i =>
        i.addTod { sec := ofBeBytes (p.take 6), valid := bit (p.getD 6 0) 0, row := s.time.rows }))) ∧
    (refMsg m = none → exec c s = .next (s.modInput n (fun i => { i with msgBad := min 65535 (i.msgBad + 1) })))) ∧
  (∀ (n : Nat) (s : State), n < 25 →
    ((s.input n).q ≠ .off → (s.input n).msgMode ≠ 0 → (s.input n).qlFailed = false → (s.input n).qlNew = none →
      (s.input n).qlRow + 10000000 ≤ s.time.rows →
      exec (.qlMessageAbsent n) s = .next (s.modInput n (fun i => { i with absentHit := true }))) ∧
    (∀ obs a, observed n obs s = some a → (s.input n).q ≠ .off → (s.input n).actNew = none → (s.input n).active = !a →
      exec (.inputActivityChange n obs) s =
        .next (s.modInput n (fun i => { i with actNew := some a, dirtySec := i.dirtySec || !a }))) ∧
    (∀ d, (s.input n).wtrDue = some d → d ≤ s.time.rows → (s.input n).q = .restoring →
      exec (.refWtrExpiry n) s = .next (s.modInput n (fun i => { i with wtrHit := true }))) ∧
    (∀ d, (s.input n).holdoffDue = some d → d ≤ s.time.rows → (s.input n).q = .holdoff →
      exec (.holdoffExpiry n) s = .next (s.modInput n (fun i => { i with holdHit := true })))) ∧
  (∀ (i : Input) (n now : Nat) (fault sel : Bool), i.actNew = none →
    (∀ q, i.qlNew = some q → (i.tick n fault sel now).ssm = q.1 ∧ (i.tick n fault sel now).essm = q.2 ∧
      (i.tick n fault sel now).qlFailed = false) ∧
    (i.qlNew = none → i.absentHit = true → (i.tick n fault sel now).qlFailed = true) ∧
    (fault = true → (i.tick n fault sel now).q = i.q) ∧
    (fault = false → i.active = false → i.q = .holdoff → i.holdHit = true →
      (i.tick n fault sel now).q = .failed ∧ (i.tick n fault sel now).holdoffDue = none) ∧
    (fault = false → i.active = true → i.q = .restoring → i.wtrHit = true →
      (i.tick n fault sel now).q = .qualified ∧ (i.tick n fault sel now).wtrDue = none))

/-- R254 to R258, R276, R473: the events of channel F. That a dwell counts on in HOLDOFF is the model's choice (log entry 91), and so is the
order of timers that end in one row (log entry 17). -/
def Obligations.ChannelFMoves : Prop :=
  ∀ s : State,
    (∀ n d, s.f.state = .acquiring → s.f.selected = some n → s.f.dwellStart = some d → s.f.software = false →
      let r := sampleRate n (s.input n)
      d + dwellRows s.f.bw r s.f.step < s.time.rows →
      (lastStep s.f.bw r s.f.step = false → exec .staircaseDwellDone s =
        .next { s with f.step := s.f.step + 1, f.dwellStart := some s.time.rows }) ∧
      (lastStep s.f.bw r s.f.step = true → ∃ t, exec .staircaseDwellDone s = .next t ∧ t.f.state = .locked ∧
        t.f.stateFrame = s.time.frame ∧ t.f.selected = some n ∧ t.f.dwellStart = none ∧ t.refs = s.refs ∧
        t.lanes = s.lanes ∧ t.fab = s.fab ∧ t.twin = s.twin)) ∧
    (∀ d, s.f.state = .holdover → s.f.holdSince = some d → s.f.software = false → d + holdLimitRows s < s.time.rows →
      ∃ t, exec .holdLimitReached s = .next t ∧ t.f.state = .lost ∧ t.f.freq = s.f.freq ∧ t.refs = s.refs ∧
        t.lanes = s.lanes ∧ t.fab = s.fab ∧ t.twin = s.twin) ∧
    (∀ offset, (offset = true → s.f.secRow = s.time.rows ∧ s.f.secFar = true) →
      (offset = true ∨ StartFailureIn .noLocalosc s.boot.st = false) →
      (s.f.oscFault = false → ∃ t, exec (.localoscFault offset) s = .next t ∧ t.f.oscFault = true ∧
        t.f.oscCause = (if offset then 2 else 1) ∧ t.f.oscFrame = s.time.frame ∧ t.f.oscRow = s.time.row ∧ t.f.oscClean = 0 ∧
        t.f.oscAct = true ∧ t.f.state = s.f.state ∧ t.f.software = s.f.software ∧
        t.refs = s.refs ∧ t.lanes = s.lanes ∧ t.fab = s.fab ∧ t.twin = s.twin) ∧
      (s.f.oscFault = true → exec (.localoscFault offset) s = .next { s with f.oscClean := 0 })) ∧
    (StartFailureIn .noLocalosc s.boot.st = true → ∃ t, exec (.localoscFault false) s = .next t ∧ t.boot.st = .failed ∧
      t.boot.failedIn = s.boot.st ∧ t.boot.alert = true) ∧
    (s.f.oscAct = true → (channelF s).f.oscAct = false ∧
      ((∀ n < 25, eligible n s = false) → (channelF s).f.state = .lost ∧ (channelF s).f.software = false) ∧
      (s.f.software = true → (channelF s).f.software = false)) ∧
    (s.f.oscFault = true → 16 ≤ s.f.oscClean → ∃ t, exec .localoscFaultClear s = .next t ∧ t.f.oscFault = false ∧
      t.f.state = s.f.state ∧ t.refs = s.refs ∧ t.lanes = s.lanes ∧ t.fab = s.fab ∧ t.twin = s.twin) ∧
    (s.f.software = true → s.f.ffreqRow + swTimeoutRows s < s.time.rows →
      ∃ t, exec .softLoopTimeout s = .next t ∧ t.f.software = false ∧ t.f.selected = s.f.selected ∧
        (s.f.selected ≠ none → t.f.state = .acquiring) ∧ t.refs = s.refs ∧
        t.lanes = s.lanes ∧ t.fab = s.fab ∧ t.twin = s.twin)

/-- R241, R282: what a monitor second does to the inputs. -/
def Obligations.MonitorSecondQualifies : Prop :=
  (∀ (inp : SecondInput) (s : State), s.ticking = true → s.time.rows % 2000000 = 0 → s.time.rows ≠ 0 →
    s.f.secRow ≠ s.time.rows →
    let far := s.f.state = .locked ∧ 100000000 < inp.chanF.natAbs
    ∃ t, exec (.monitorSecond inp) s = .next t ∧ t.f.secRow = s.time.rows ∧ (t.f.secFar = true ↔ far) ∧
      (∀ n < 25, (s.input n).q ≠ .off →
        (t.input n).tie.length = min 1024 ((s.input n).tie.length + 1) ∧
        (t.input n).active = (s.input n).active ∧ (t.input n).dirtySec = (!(s.input n).active || s.fnDown 6) ∧
        (s.f.oscFault = true ∨ far → (t.input n).freq = (s.input n).freq ∧ (t.input n).window = (s.input n).window ∧
          (t.input n).freqFault = (s.input n).freqFault) ∧
        (s.f.oscFault = false → ¬ far → (s.input n).dirtySec = true ∨ (s.input n).active = false → (t.input n).freq = none) ∧
        (s.f.oscFault = false → ¬ far → (s.input n).dirtySec = false → (s.input n).active = true →
          (t.input n).freq = (inp.samples.find? (fun x => x.input == n)).map (fun x => resolved n (s.input n) x.freq))) ∧
      (∀ n < 25, (s.input n).q = .off → t.input n = s.input n) ∧
      t.lanes = s.lanes ∧ t.fab = s.fab ∧ t.sels = s.sels ∧ t.twin = s.twin ∧ t.planner = s.planner ∧ t.outs = s.outs ∧
      t.time.frame = s.time.frame ∧ t.time.row = s.time.row ∧ t.host.sqs = s.host.sqs ∧ t.host.mem = s.host.mem) ∧
  (∀ (inp : SecondInput) (s : State), s.ticking = false ∨ s.time.rows % 2000000 ≠ 0 ∨ s.time.rows = 0 ∨
    s.f.secRow = s.time.rows → exec (.monitorSecond inp) s = .next s) ∧
  (∀ (i : Input) (n k : Nat) (x : SecondSample), i.dirtySec = false → i.active = true →
    let v := resolved n i x.freq
    (i.measure n k (some x)).freq = some v ∧ (i.measure n k (some x)).window.head? = some (k, v) ∧
    (i.freqLim < v.natAbs → (i.measure n k (some x)).freqFault = true) ∧
    (10 * v.natAbs ≤ 8 * i.freqLim → (i.measure n k (some x)).freqFault = false)) ∧
  (∀ (i : Input) (n k : Nat) (x : Option SecondSample), i.dirtySec = true ∨ i.active = false →
    (i.measure n k x).freq = none ∧ (i.measure n k x).window = i.window ∧ (i.measure n k x).freqFault = i.freqFault) ∧
  (∀ (i : Input) (now : Nat),
    (i.q = .failed → i.active = true → i.freqFault = false →
      (i.freqStep now).q = .restoring ∧ (i.freqStep now).wtrDue = some (now + i.wtrRows)) ∧
    (i.q = .restoring → i.freqFault = true → (i.freqStep now).q = .failed ∧ (i.freqStep now).wtrDue = none) ∧
    (i.q = .qualified ∨ i.q = .suspect ∨ i.q = .drifting → i.freqFault = true →
      (i.freqStep now).q = .failed ∧ (i.freqStep now).cause = 2) ∧
    (i.q = .holdoff → i.freqStep now = i)) ∧
  (∀ (n : Nat) (x : Option SecondSample) (s : State),
    ((tieRecord n x s).input n).tie.length = min 1024 ((s.input n).tie.length + 1))

/-- R248, R271, R275, R281: commands of the timing functions, and their effect at the tick. -/
def Obligations.TimingCommandsWaitForTheTick : Prop :=
  ∀ (r : Run) (s : State),
    let w := r.cmd.p 0
    let wait := { idle s with host.prog := s.host.prog ++ [r] }
    (Held 0x0601 r s → fld w 63 10 = 0 → fld w 9 5 ≠ 0 → fld w 4 0 + fld w 9 5 ≤ 25 → r.cmd.length = 8 * (1 + 2 * fld w 9 5) →
      (∀ x ∈ refRecords r, inputRecOk x.1 x.2.1 x.2.2 = true) →
      lanesClash ((projectedRefs s).map (fun x => match (refRecords r).find? (fun y => y.1 == x.1) with
        | some y => (y.1, y.2.1) | none => x)) = false → exec .refCfg s = .next wait) ∧
    (Held 0x0602 r s → fld w 63 8 = 0 → fld w 2 0 ≤ 4 → fld w 7 3 ≤ 24 → (fld w 2 0 = 0 → fld w 7 3 = 0) →
      ((fld w 2 0 = 1 → eligible (fld w 7 3) s = true) → (fld w 2 0 = 2 → forcible (fld w 7 3) s = true) →
        exec .refSelect s = .next wait) ∧
      (fld w 2 0 = 1 → eligible (fld w 7 3) s = false →
        exec .refSelect s = .next (finish r stRefRefused [] (idle s)))) ∧
    (Held 0x0604 r s → chanFRecOk w (r.cmd.p 1) = true → localoscKhz (r.cmd.p 1) = localoscKhz s.f.recW1 →
      exec .dpllCfg s = .next wait) ∧
    (Held 0x0606 r s → fld w 63 1 = 0 → exec .fSoft s = .next wait) ∧
    (Held 0x0607 r s → fld w 63 32 = 0 → -10000000 ≤ sgn 32 (fld w 31 0) → sgn 32 (fld w 31 0) ≤ 10000000 →
      s.f.software = true → exec .fFreq s = .next { wait with f.ffreqRow := s.time.rows }) ∧
    (Held 0x0609 r s → fld w 63 32 = 0 → pOk (fld w 31 0) = true → pOk (fld (r.cmd.p 1) 31 0) = true →
      exec .pSteer s = .next wait) ∧
    (Held 0x060D r s → fld w 63 6 = 0 → (bit w 0 = true → r.cmd.p 1 = 0 ∧ (fld w 5 1 < 25 ∨ fld w 5 1 = 31)) →
      (bit w 0 = false → fld w 5 1 = 0) → exec .outRealign s = .next wait) ∧
    (r.cmd.opcode = 0x0602 → fld w 2 0 = 1 → applyRef r s =
      finish r stOk [] { s with f.mode := .manual, f.named := fld w 7 3 }) ∧
    (r.cmd.opcode = 0x0604 → applyRef r s = finish r stOk [] { s with f.recW0 := w, f.recW1 := r.cmd.p 1 }) ∧
    (fld (r.cmd.p 1) 63 32 ≠ 0 → applySteer r s = finish r stOk [] { s with
      p.freq := sgn 32 (fld w 31 0), p.after := sgn 32 (fld (r.cmd.p 1) 31 0),
      p.steerDue := some (s.time.rows + 250 * fld (r.cmd.p 1) 63 32) }) ∧
    (r.cmd.opcode = 0x0607 → s.f.software = true → applySoft r s =
      finish r stOk [] { s with f.target := 10 * sgn 32 (fld w 31 0), f.ffreqRow := r.row })

/-- R268 to R285: outputs, time and re-alignment. The device boundary that an edge is set against (log entry 93), when OUT_CFG answers (log
entry 48) and the packet that reports a REALIGN's start (log entry 23) are the model's readings and choices. -/
def Obligations.OutputsAndTimeAct : Prop :=
  ∀ (r : Run) (s : State),
    let w := r.cmd.p 0
    (Held 0x060B r s → fld w 63 5 = 0 → fld w 4 0 ≤ 21 → outRecOk (fld w 4 0) (r.cmd.p 1) (r.cmd.p 2) = true →
      outLinksOk (fld w 4 0) (r.cmd.p 1) (r.cmd.p 2) s = true →
      exec .outCfg s = .next (finish r stOk [] { idle s with
        outs.next := (fld w 4 0, r.cmd.p 1, r.cmd.p 2) :: s.outs.next.filter (fun x => x.1 != fld w 4 0) })) ∧
    (Held 0x060F r s → timeRecOk w (r.cmd.p 1) = true → exec .timeCfg s =
      .next (finish r stOk [] { idle s with time.timeW0 := w, time.timeW1 := r.cmd.p 1 })) ∧
    (∀ d, s.p.steerDue = some d → d ≤ s.time.rows →
      exec .steerDurationEnd s = .next { s with p.freq := s.p.after, p.steerDue := none }) ∧
    (∀ out, out < 2 → s.ticking = true →
      let rec0 := (kget (0, 0) s.outs.recs (20 + out)).1
      let pulse := (kget (0, 0) s.outs.recs (16 + fld rec0 2 1)).1
      let due := fun (ql : Bool) => s.outs.edges.any (fun e => e.out == fld rec0 2 1 && e.due out ql s)
      let sends := fun (c : Instr) (m : List (BitVec 8)) => ∃ t, exec c s = .next t ∧ t.out.tod = s.out.tod ++ [{ out := out, bytes := m, levels := serialLevels m }] ∧
        t = { s with out.tod := t.out.tod, outs.edges := t.outs.edges } ∧
        t.outs.edges.map (fun e => (e.out, e.ps)) = s.outs.edges.map (fun e => (e.out, e.ps)) ∧
        (t.outs.edges.map (fun e => e.sent.length)).sum = (s.outs.edges.map (fun e => e.sent.length)).sum + 1
      (bit rec0 0 = true → bit rec0 4 = true → due false = true →
        sends (.todMessageSend out false) (refMessageBytes 2 (beBytes 6 (twos 48 ((sourceTime (bit pulse 1) s).1 / oneSecond + 1)) ++
          [BitVec.ofNat 8 (b2n (timeValid s))]))) ∧
      (bit rec0 0 = true → bit rec0 3 = true → due true = true →
        sends (.todMessageSend out true) (refMessageBytes 1 [BitVec.ofNat 8 (advQl s).1, BitVec.ofNat 8 (advQl s).2])) ∧
      (∀ ql, bit rec0 0 = false ∨ (if ql then bit rec0 3 else bit rec0 4) = false ∨ due ql = false →
        exec (.todMessageSend out ql) s = .next s)) ∧
    (∀ m : List (BitVec 8), (serialLevels m).length = 10 * m.length ∧
      ∀ i < m.length, ∀ b, m[i]? = some b → (serialLevels m)[10 * i]? = some false ∧ (serialLevels m)[10 * i + 9]? = some true ∧
        ∀ k < 8, (serialLevels m)[10 * i + 1 + k]? = some (b.getLsbD k)) ∧
    (∀ n ns ps, n < 8 → s.ticking = true → (s.input n).q ≠ .off → (s.input n).freqHz = 1 → (s.input n).msgMode = 2 →
      timeRef (refreshTimeOk (s.modInput n (fun i => i.edge s.time.rows))) = some n →
      let x : Int := ((s.time.row * 500000 + (1000 * ns + ps) : Nat) : Int)
      let k := (x + 62499999) / 125000000
      ∃ t, exec (.timeRefEdgeMeasure n ns ps) s = .next t ∧
        t.time.offFrames = (((s.input n).edge s.time.rows).todSec * 8000 : Nat) - (s.time.frame : Int) - k ∧
        t.time.offPhase = k * 125000000 - x ∧ t.time.offValid = true ∧ t.p.errRef = n ∧ t.p.errFrame = s.time.frame ∧
        t.p.phi = s.p.phi ∧ t.time.frame = s.time.frame ∧ t.lanes = s.lanes ∧ t.fab = s.fab) ∧
    (∀ ns ps y, s.ticking = true → (s.input 24).q ≠ .off → timeRef (refreshTimeOk s) = some 24 →
      s.flight.syncSeen.find? (fun z => s.flight.syncDir == some z.dirB) = some y →
      let k := (62499999 - y.sample) / 125000000
      ∃ t, exec (.timeRefEdgeMeasure 24 ns ps) s = .next t ∧
        t.time.offFrames = (y.frame : Int) - (s.time.frame : Int) - k ∧
        t.time.offPhase = k * 125000000 + y.sample ∧ t.time.offValid = true ∧ t.p.errRef = 24 ∧
        t.p.errFrame = s.time.frame ∧ t.p.phi = s.p.phi ∧ t.time.frame = s.time.frame ∧ t.lanes = s.lanes ∧
        t.fab = s.fab) ∧
    (Held 0x060C r s → fld w 63 6 = 0 → bit w 0 = false → fld w 5 1 = 0 → fld (r.cmd.p 1) 63 48 = 0 →
      fld (r.cmd.p 1) 47 0 ≠ 0 → fld (r.cmd.p 2) 63 27 = 0 → fld (r.cmd.p 2) 26 0 ≤ 124999999 →
      (realignConflict (some r.key) (r.at_ - 1) (fld (r.cmd.p 1) 47 0) (idle s) = false →
        exec .realign s = .next (reportStart (r.at_ - 1) { idle s with
          host.prog := s.host.prog ++ [r],
          time.realigns := s.time.realigns ++ [{ k := r.at_ - 1, n := fld (r.cmd.p 1) 47 0,
                                                 gap := fld (r.cmd.p 2) 26 0, mode1 := false, key := some r.key }] })) ∧
      (realignConflict (some r.key) (r.at_ - 1) (fld (r.cmd.p 1) 47 0) (idle s) = true →
        exec .realign s = .next (finish r stScheduleConflict [] (idle s))))

/-- R263: the limit of the channel P offset, for every command and for every change. How a row's step is rounded to 1/1,024 ps is left
free (log entry 8). -/
def Obligations.ChannelPStaysWithinItsLimit : Prop :=
  ∀ (d : Int) (s : State), -phiLimit ≤ s.p.phi → s.p.phi ≤ phiLimit →
    (∀ (c : Instr) (t : State), exec c s = .next t → -phiLimit ≤ t.p.phi ∧ t.p.phi ≤ phiLimit) ∧
    (-phiLimit ≤ (movePhi d s).1.p.phi ∧ (movePhi d s).1.p.phi ≤ phiLimit) ∧
    (-phiLimit ≤ (phiTick s).1.p.phi ∧ (phiTick s).1.p.phi ≤ phiLimit) ∧
    ((movePhi d s).2 = true → (movePhi d s).1.p.freq = 0 ∧ (movePhi d s).1.p.steerDue = none ∧
      ((movePhi d s).1.p.phi = phiLimit ∨ (movePhi d s).1.p.phi = -phiLimit)) ∧
    ((movePhi d s).2 = false → (movePhi d s).1.p.phi = s.p.phi + d) ∧
    ((phiTick s).2 = false → (phiTick s).1.p.phi = s.p.phi + phiRow s.p.freq) ∧
    (movePhi d s).1 = { s with p := (movePhi d s).1.p }

/-- R292 to R298, R336: what the frames of the two watch ports do at a twin. The model's own: the order of losses that end in one row (log
entry 17), the rows that the intervals count from (log entry 55) and the held handover (log entry 57). -/
def Obligations.WatchFramesRegister : Prop :=
  ∀ (f : WatchFrame) (s : State), s.twinUp = true →
    let same := fun (t : State) => t.lanes = s.lanes ∧ t.fab = s.fab ∧ t.planner = s.planner ∧ t.host = s.host ∧
      t.sels = s.sels ∧ t.twin.role = s.twin.role ∧ t.twin.term = s.twin.term ∧ t.twin.hterm = s.twin.hterm
    let b : Beat := { role := fld f.w1 5 4, roleSt := fld f.w1 3 0, term := f.term, addr := f.src }
    let peerDue := s.twin.partnerLost = false ∧ s.twin.hbRow + 160 < s.time.rows
    let keeperDue := s.twin.keeperLost = false ∧ s.twin.keeperRow + 160 < s.time.rows
    let leaseDue := s.twin.leased = true ∧ s.twin.leaseRow + 400 < s.time.rows
    (watchValid false f s = true → peerDue →
      exec (.heartbeat f) s = exec (.heartbeat f) (settlePeer s) ∧ (settlePeer s).twin.partnerLost = true) ∧
    (watchValid false f s = true → ¬peerDue → f.term < s.twin.hterm → exec (.heartbeat f) s = .next { s with
      twin.hb := some b, twin.hbRow := s.time.rows, twin.partnerLost := false,
      twin.wf0 := s.twin.wf0 || s.twin.partnerLost }) ∧
    (watchValid false f s = true → ¬peerDue → s.twin.hterm ≤ f.term → ∃ t, exec (.heartbeat f) s = .next t ∧
      t.twin.hb = some b ∧ t.twin.known = some b ∧
      t.twin.hbRow = s.time.rows ∧ t.twin.partnerLost = false ∧ t.lanes = s.lanes ∧ t.fab = s.fab ∧
      t.planner = s.planner ∧ t.host = s.host ∧ t.twin.role = s.twin.role ∧ t.twin.term = s.twin.term) ∧
    (watchValid true f s = true → keeperDue ∨ leaseDue → exec (.lease f) s =
      .next (keeperIn f (settleLease (settleKeeper s)))) ∧
    (watchValid true f s = true → ¬keeperDue → ¬leaseDue → f.term < s.twin.hterm →
      exec (.lease f) s = .next { s with twin.stale := min 65535 (s.twin.stale + 1) }) ∧
    (watchValid true f s = true → ¬keeperDue → ¬leaseDue → s.twin.hterm ≤ f.term →
      (f.type = 3 → s.twin.role = .active → f.term = s.twin.term → ∃ t, exec (.lease f) s = .next t ∧
        t.twin.leased = true ∧ t.twin.leaseRow = s.time.rows ∧ t.twin.keeperLost = false ∧ same t) ∧
      (f.type = 4 → ∃ t, exec (.query f) s = .next t ∧
        t.twin.answer = s.twin.answer ++ [{ ask := fld f.w1 31 0, taken := false }] ∧ t.twin.keeperRow = s.time.rows ∧ same t) ∧
      (f.type = 6 → s.twin.hterm < f.term → fld f.w1 37 32 = s.flight.addr → s.twin.takeReg = none →
        ∃ t, exec (.take f) s = .next t ∧ t.twin.takeReg = some { term := f.term, prev := fld f.w1 31 0 } ∧ same t) ∧
      (f.type = 6 → s.twin.role = .taking → f.term = s.twin.hterm → f.term = s.twin.term →
        fld f.w1 37 32 = s.flight.addr → ∃ t, exec (.take f) s = .next t ∧ t.twin.takenDue = true ∧
          t.twin.pend = s.twin.pend ++ [(.taking, 1)] ∧ t.twin.takeReg = s.twin.takeReg ∧ same t) ∧
      (f.type = 8 → bit f.w1 6 = true → ∃ t, exec (.notice f) s = .next t ∧
        t.twin.notices = s.twin.notices ++ [(fld f.w1 5 0, f.term)] ∧ same t) ∧
      (f.type = 9 → ∃ t, exec (.hello f) s = .next t ∧ t.twin.helloDue = true ∧ same t) ∧
      (f.type = 0xB → s.twin.role = .active → fld f.w2 5 0 = s.partner → s.partner ≠ s.flight.addr →
        s.time.frame < fld f.w1 47 0 → ∃ t, exec (.handover f) s = .next t ∧
        t.twin.hand = some { at_ := fld f.w1 47 0, term := f.term, here := false } ∧ t.ckpt.mirror = true ∧ same t) ∧
      (f.type = 0xB → fld f.w2 5 0 = s.flight.addr → s.time.frame < fld f.w1 47 0 → ∃ t, exec (.handover f) s = .next t ∧
        t.twin.hand = some { at_ := fld f.w1 47 0, term := f.term, here := true } ∧
        t.twin.revEv = s.twin.revEv ++ [(3, fld f.w1 47 0, f.term)] ∧ same t)) ∧
    (watchValid false f s = false →
      exec (.heartbeat f) s = .next { s with twin.bad := min 65535 (s.twin.bad + 1) }) ∧
    (∀ c, watchValid true f s = false →
      (c = .lease f ∨ c = .query f ∨ c = .take f ∨ c = .notice f ∨ c = .hello f ∨ c = .handover f) →
      exec c s = .next { s with twin.bad := min 65535 (s.twin.bad + 1) }) ∧
    (∀ port, exec (.watchFrameBad port) s = .next { s with twin.bad := min 65535 (s.twin.bad + 1) })

/-- R294, R296: the sends and the losses of a twin. The table of code groups is presumed (log entry 111), the rows from which losses count
are the model's reading (log entry 55). -/
def Obligations.TwinSendsAndLosses : Prop :=
  ∀ s : State, s.twinUp = true →
    let line := fun (f : WatchFrame) (rd : Bool) => codeGroups (idleSet ++ watchChars f ++ idleSet) rd
    (s.twin.silent = none → s.twin.beatDue ≤ s.time.rows →
      let f0 := mkWatch 1 0 s.flight.addr s.pair s.twin.seq0 s.advTerm (statusWord false s) (genWord s) (peerTerm s)
      let f1 := mkWatch 2 0 s.flight.addr s.pair s.twin.seq1 s.advTerm (statusWord false s) (genWord s) (peerTerm s)
      ∃ t rd0 rd1, exec .heartbeatSend s = .next t ∧ t.out.watch = s.out.watch ++ [(false, f0), (true, f1)] ∧
        t.out.watchLine = s.out.watchLine ++ [(false, line f0 rd0), (true, line f1 rd1)] ∧
        t = { s with twin.beatDue := s.time.rows + 40, twin.seq0 := (s.twin.seq0 + 1) % 256,
                     twin.seq1 := (s.twin.seq1 + 1) % 256, out.watch := t.out.watch, out.watchLine := t.out.watchLine,
                     free := t.free }) ∧
    (s.twin.silent = none → s.twin.role = .active → s.twin.renewDue ≤ s.time.rows →
      let f1 := mkWatch 2 0 s.flight.addr s.pair s.twin.seq1 s.advTerm (statusWord true s) (genWord s) (peerTerm s)
      ∃ t rd1, exec .renewSend s = .next t ∧ t.out.watch = s.out.watch ++ [(true, f1)] ∧
        t.out.watchLine = s.out.watchLine ++ [(true, line f1 rd1)] ∧
        t = { s with twin.renewDue := s.time.rows + 100, twin.seq1 := (s.twin.seq1 + 1) % 256, out.watch := t.out.watch,
                     out.watchLine := t.out.watchLine, free := t.free }) ∧
    (s.twin.partnerLost = false → s.twin.hbRow + 160 < s.time.rows → s.twin.role = .active →
      ∃ t, exec .peerLost s = .next t ∧ t.twin.partnerLost = true ∧ t.twin.role = .active ∧ t.ckpt.peer = false ∧
        t.lanes = s.lanes ∧ t.fab = s.fab ∧ t.sels = s.sels) ∧
    (s.twin.keeperLost = false → s.twin.keeperRow + 160 < s.time.rows → s.twin.role = .active →
      ∃ t, exec .keeperLost s = .next t ∧ t.twin.keeperLost = true ∧ t.twin.role = .active ∧
        t.lanes = s.lanes ∧ t.fab = s.fab ∧ t.sels = s.sels) ∧
    (s.twin.leased = true → s.twin.role = .active → s.twin.leaseRow + 400 < s.time.rows →
      ∃ t, exec .leaseExpiry s = .next t ∧ t.twin.leased = false ∧ t.twin.role = .active ∧
        t.lanes = s.lanes ∧ t.fab = s.fab ∧ t.sels = s.sels)

/-- R301, R302, R330 to R333: the stages and timers of taking over and warming. Log entries 40, 41, 57 and 85 are the model's readings and
choices among them. -/
def Obligations.TakeOverStages : Prop :=
  ∀ s : State,
    (∀ sl ok, s.twin.role = .taking → s.twin.started = none → s.reaches 3 [0, 1, 6] = true → s.serviceSlot = some sl → s.twin.startWarm = false →
      ((ok && sl.page.check) = true → ∃ t, exec (.coldStartDone ok) s = .next t ∧ t.fab.act = sl.page ∧
        t.twin.started = some s.time.rows ∧ t.twin.role = .taking ∧ t.ckpt.x = {} ∧ t.ckpt.y = {} ∧ t.lanes = s.lanes ∧
        t.host = s.host) ∧
      ((ok && sl.page.check) = false → ∃ t, exec (.coldStartDone ok) s = .next t ∧ t.twin.role = .steppedDown ∧
        t.fab.running = false ∧ t.lanes = s.lanes)) ∧
    (∀ d, s.twin.role = .taking → s.twin.started = some d → d + 2 ≤ s.time.rows →
      ∃ t, exec .firstSwitchedRow s = .next t ∧ t.twin.role = .active ∧ t.fab.kind = .data ∧ t.twin.takeRow = none ∧
        t.twin.term = s.twin.term ∧ t.fab.act = s.fab.act ∧ t.lanes = s.lanes) ∧
    (∀ d, s.twin.role = .taking → s.twin.takeRow = some d → d + holdRows s ≤ s.time.rows → s.fab.kind = .hold →
      exec .takeoverHoldExpiry s = .next { s with twin.ones := true } ∧
      (s.twin.started = none → kindNow { s with twin.ones := true } = .ones)) ∧
    (∀ sl ok, s.twin.role = .warming → s.twin.started = none → s.reaches 3 [0, 1, 6] = true → s.serviceSlot = some sl →
      ((ok && sl.page.check) = true → ∃ t, exec (.warmingLoadDone ok) s = .next t ∧ t.fab.act = sl.page ∧
        t.twin.started = some s.time.rows ∧ t.twin.role = .warming ∧ t.lanes = s.lanes ∧ t.host = s.host) ∧
      ((ok && sl.page.check) = false → ∃ t, exec (.warmingLoadDone ok) s = .next t ∧ t.twin.role = .syncing ∧
        t.ckpt.synced = false ∧ t.lanes = s.lanes)) ∧
    (rwtrRuns s = false → exec .revertWtrExpiry s = .next s) ∧
    (∀ d, s.twin.rwtrDue = some d → d < s.time.rows → rwtrRuns s = true →
      ∃ t, exec .revertWtrExpiry s = .next t ∧ t.twin.role = .warming ∧ t.fab.running = true ∧ t.twin.rwtrDue = none ∧
        t.lanes = s.lanes) ∧
    (∀ d, s.twin.warmDue = some d → d < s.time.rows → s.twin.role = .warm → s.twin.hand.any (·.here) = true →
      exec .warmLimitExpiry s = .next s) ∧
    (∀ d, s.twin.warmDue = some d → d < s.time.rows → s.twin.role = .warm → s.twin.hand.any (·.here) = false →
      ∃ t, exec .warmLimitExpiry s = .next t ∧ t.twin.role = .cold ∧ t.fab.running = false ∧ t.twin.warmDue = none ∧
        t.fab.act = {} ∧ t.lanes = s.lanes)

/-- R314, R334, R340: the commands of the twin. -/
def Obligations.TwinCommandsAct : Prop :=
  ∀ (r : Run) (s : State),
    (Held 0x0702 r s → fld (r.cmd.p 0) 63 6 = 0 → fld (r.cmd.p 0) 5 0 ≤ 32 → s.twinRole = true → exec .twinCfg s =
      .next (finish r stOk [] { idle s with twin.holdCfg := fld (r.cmd.p 0) 5 0 })) ∧
    (Held 0x0711 r s → fld (r.cmd.p 0) 63 22 = 0 → s.twin.role ≠ .solo →
      exec .revertCfg s = .next { idle s with host.prog := s.host.prog ++ [r] }) ∧
    (Held 0x0712 r s → fld (r.cmd.p 0) 63 1 = 0 → s.twin.role ≠ .solo →
      exec .revertLock s = .next { idle s with host.prog := s.host.prog ++ [r] }) ∧
    (Held 0x0714 r s → fld (r.cmd.p 0) 63 1 = 0 → s.twin.role.standsBy = true →
      exec .standbyWarm s = .next { idle s with host.prog := s.host.prog ++ [r] }) ∧
    (r.cmd.opcode = 0x0711 → applyRevert r s = finish r stOk [] { s with twin.revCfg := r.cmd.p 0 }) ∧
    (r.cmd.opcode = 0x0712 → ∃ v, applyRevert r s = finish r stOk [] { s with twin.revCfg := v } ∧
      (applyRevert r s).lockout = bit (r.cmd.p 0) 0 ∧
      ∀ i, i < 64 → i ≠ 21 → bit v i = bit s.twin.revCfg i) ∧
    (s.host.prog.filter (fun x => [0x0711, 0x0712, 0x0714].contains x.cmd.opcode) = [r] → revertCmdTick s = applyRevert r s) ∧
    (r.cmd.opcode = 0x0714 → bit (r.cmd.p 0) 0 = true → s.twin.role = .cold → (applyRevert r s).twin.role = .warming) ∧
    (∀ b, Held 0x0713 r s → s.twin.role = .active → s.lockout = false → s.twin.req = none → s.twin.hand = none →
      s.twin.partnerLost = false → s.twin.known = some b → b.roleSt = 6 →
      ∃ t, exec .handoverAt s = .next t ∧ t.twin.req = some { at_ := r.at_, key := some r.key } ∧
        t.host.prog = s.host.prog ++ [r] ∧ t.twin.role = .active ∧ t.lanes = s.lanes ∧ t.fab = s.fab) ∧
    (∀ b, Held 0x0713 r s → s.twin.role = .active → s.twin.known = some b → b.roleSt ≠ 6 →
      exec .handoverAt s = .next (finish r stHandoverRefused [] (idle s))) ∧
    (∀ q, s.twin.req = some q → q.at_ ≤ s.time.frame + 1 →
      (q.key = none → exec .handoverRequestLapse s = .next { s with twin.req := none }) ∧
      (q.key = some r.key → s.run r.key = some r →
        exec .handoverRequestLapse s = .next (finish r stHandoverRefused [] { s with twin.req := none })))

/-- R304: what shows a term above the own one, what is spared, and the step-down of the row tick, whatever plans and commands are in
progress. What else a step-down does is said by R305. -/
def Obligations.StepDownEndsService : Prop :=
  (∀ s : State, s.twin.role = .active ∨ s.twin.role = .taking → s.twin.takeReg = none →
    let spared := fun (x : Nat) => ∃ h, s.twin.hand = some h ∧ h.term = x ∧
      (s.time.frame < h.at_ ∨ (s.time.frame = h.at_ ∧ s.time.row = 0))
    let above := fun (e : Nat × Lane) => (e.2.hdrOther.map (formTerm s.twin.term)).filter (fun x => decide (s.twin.term < x))
    let forms := s.lanes.flatMap above
    let shown := fun (x : Nat) => ∃ k, k ≠ 0 ∧ (x, k) ∈ s.twin.seen
    let formed := fun (x : Nat) => 2 ≤ (s.lanes.filter (fun e => decide (above e ≠ []))).length ∧ x ∈ forms ∧ ∀ y ∈ forms, x ≤ y
    (stepDownCase s ≠ 0 ↔ ∃ x, s.twin.term < x ∧ ¬ spared x ∧ (shown x ∨ formed x)) ∧
    (∀ x k, (x, k) ∈ s.twin.seen → x ≤ (raiseHterm s).twin.hterm) ∧
    (stepDownCase s ≠ 0 → s.twin.term < (raiseHterm s).twin.hterm)) ∧
  (∀ s : State,
    (∀ f, s.twinUp = true → watchValid true f s = true → s.twin.hterm ≤ f.term → settleLease (settleKeeper s) = s →
      ∃ t, exec (.lease f) s = .next t ∧ exec (.query f) s = .next t ∧ exec (.take f) s = .next t ∧
        exec (.notice f) s = .next t ∧ exec (.hello f) s = .next t ∧ exec (.handover f) s = .next t ∧
        t.twin.seen = (f.term, 1) :: s.twin.seen) ∧
    (∀ f, s.twinUp = true → watchValid false f s = true → s.twin.hterm ≤ f.term → settlePeer s = s → fld f.w1 5 4 = 1 →
      ∃ t, exec (.heartbeat f) s = .next t ∧ t.twin.seen = (f.term, 2) :: s.twin.seen) ∧
    (∀ lane b, Receives lane b s → s.twinRole = true →
      let x := received lane b s
      (hType x.hdr = 3 → frameGood x.words = true → fld (wd x.words 4) 63 62 = 2 →
        ∃ t, exec (.frameBarge lane b) s = .next t ∧ t.twin.seen = (fld (wd x.words 4) 31 0, 3) :: s.twin.seen) ∧
      (∀ c, (c = .dataBarge lane b ∨ c = .holdBarge lane b ∨ c = .frameBarge lane b ∨ c = .testBarge lane b ∨
          c = .idleBarge lane b) → hSel x.hdr = 2 → ∃ t, exec c s = .next t ∧
        hTerm x.hdr ∈ (t.lane lane).hdrOther ∧ ∀ y ∈ (s.lane lane).hdrOther, y ∈ (t.lane lane).hdrOther))) ∧
  (∀ s : State, s.twinUp = true → s.twin.role = .active ∨ s.twin.role = .taking → s.twin.takeReg = none →
    stepDownCase s ≠ 0 →
    (roleTick s).isActive = false ∧ (roleTick s).fab.running = false ∧ (roleTick s).sendsRows = false ∧
    (roleTick s).twin.term = s.twin.term ∧
    (s.twin.notices = [] → (roleTick s).twin.role = .steppedDown ∧ (roleTick s).twin.role.adv = 3)) ∧
  (∀ (why : Nat) (s : State),
    (why ≠ 0 → s.twin.role = .active ∨ s.twin.role = .taking → s.twin.term < s.twin.hterm →
      (stepDownTick why s).twin.role = .steppedDown ∧ (stepDownTick why s).isActive = false ∧
      (stepDownTick why s).fab.running = false ∧ (stepDownTick why s).sendsRows = false ∧
      (stepDownTick why s).twin.term = s.twin.term ∧ (stepDownTick why s).twin.role.adv = 3 ∧
      (stepDownTick why s).planner.opened = false ∧ (stepDownTick why s).ckpt.peer = false) ∧
    (why = 0 → stepDownTick why s = handoverTick s) ∧
    (why = 0 → (∀ h, s.twin.hand = some h → s.time.row ≠ 0 ∨ h.at_ ≠ s.time.frame) → stepDownTick why s = s))

/-- R321 to R327, R335, R500: what the messages and events of the active's checkpoint do. A FULL that waits for its pages, the ten rows as
one, and the readings of R322 and R328 are the model's (log entries 116, 87, 56, 98). -/
def Obligations.CheckpointActiveSide : Prop :=
  ∀ (bs : List (List W64)) (c : Instr) (s : State),
    (BringsBlocks bs c → exec c s = .next (twinBlocks bs s)) ∧
    (∀ ws, BringsBlocks bs c → Brings bs ws s → s.activeTwin = true →
      let m := readMsg ws
      (msgGood ws = true →
        (m.type = 1 → s.twin.certOk = true → s.reaches 3 [0, 1] = false → ∃ t, exec c s = .next t ∧
          t.ckpt.fullDue = true ∧ t.ckpt.sending = none ∧ t.ckpt.peer = false ∧ t.lanes = s.lanes ∧ t.fab = s.fab ∧
          t.sels = s.sels) ∧
        (s.ckpt.fullDue = true → s.reaches 3 [0, 1] = true →
          (fullTick s).ckpt.sending = some { gen := s.fab.act.gen, row := s.time.rows } ∧ (fullTick s).ckpt.fullDue = false) ∧
        (m.type = 1 → s.twin.certOk = true → s.reaches 3 [0, 1] = true → ∃ t, exec c s = .next t ∧
          t.ckpt.sending = some { gen := s.fab.act.gen, row := s.time.rows } ∧ t.ckpt.endGen = none ∧
          t.ckpt.peer = false ∧ t.lanes = s.lanes ∧ t.fab = s.fab ∧ t.sels = s.sels) ∧
        (m.type = 7 → m.acked = 2 → m.gen = s.fab.act.gen → s.ckpt.endGen ≠ none → exec c s = .next { s with
          ckpt.peer := true, ckpt.endGen := none, ckpt.ev := some (true, 1), ckpt.syncFrame := s.time.frame,
          planner.sealed := s.planner.sealed.map (fun p =>
            if p.st = .armed ∧ p.acked = false then { p with st := .loaded } else p) }) ∧
        (∀ n, m.type = 7 → m.acked = 3 → findPlan (fun p => p.gen == m.gen && p.shipped) s = some n →
          exec c s = .next (dropDeltas (fun d => d.gen == m.gen)
            (armReady (modPlan n (fun p => { p with acked := true, ackFrame := m.frame }) s)))) ∧
        (m.type = 8 → exec c s = .next { s with ckpt.freeGen := some m.gen })) ∧
      (msgGood ws = false → exec c s = .next { s with ckpt.bad := min 0xFFFFFFFF (s.ckpt.bad + 1) })) ∧
    (s.activeTwin = true →
      (∀ f, s.ckpt.sending = some f → s.reaches 3 [0, 1] = true → ∃ t, exec .fullCopyEnd s = .next t ∧
        t.ckpt.sending = none ∧ t.lanes = s.lanes ∧ t.fab = s.fab ∧ t.sels = s.sels ∧
        t.ckpt.endGen = some ((((s.ckpt.queue ++ s.planner.deltas).filter (fun d => d.done s)).getLast?.map (·.gen)).getD f.gen)) ∧
      (∀ d n p, nextDelta s = some d → s.ckpt.freeGen ≠ none → (∀ g, s.ckpt.freeGen = some g → genAdd g 1 = d.gen) →
        s.ckpt.peer = true → s.ckpt.sending = none → findPlan (fun p => p.gen == d.gen) s = some n →
        s.planner.sealed[n]? = some p →
        exec .deltaShip s = .next (sendTwin 0x3 d.gen p.lock 0 d.writes (modPlan n (fun p => { p with shipped := true })
          { s with ckpt.freeGen := none,
                   ckpt.queue := s.ckpt.queue.map (fun x => if x.gen = d.gen then { x with sent := true } else x) }))) ∧
      (s.ckpt.mirror = true → s.twin.hand ≠ none → s.serviceSlot = none → s.reaches 3 [0, 1, 6] = true → ∃ t, exec .mirrorCopyDone s = .next t ∧
        t.ckpt.x.st = .inService ∧ t.ckpt.x.page = s.fab.act ∧ t.ckpt.promo = none ∧ t = { s with ckpt := t.ckpt })) ∧
    (∀ p, s.ckpt.promo = some p → s.reaches 3 [6] = false → exec .slotRefreshDone s = .next s) ∧
    (∀ p, s.ckpt.promo = some p → p + 3 ≤ s.time.rows → s.ckpt.x.st = .inService → s.reaches 3 [6] = true →
      ∃ t, exec .slotRefreshDone s = .next t ∧ t.ckpt.promo = none ∧ t.ckpt.x = s.ckpt.x ∧
        t.ckpt.y = { s.ckpt.x with st := .free, frame := 0 } ∧ t.lanes = s.lanes ∧ t.fab = s.fab)

/-- R317, R321, R323 to R328, R500: what the messages of the active do at a standby. The model's own: the ten rows as one (log entry 87), the
order of the synchronisation (log entry 56), and a store that is not reached (log entry 116). -/
def Obligations.CheckpointStandbySide : Prop :=
  ∀ (bs : List (List W64)) (ws : List W64) (c : Instr) (s : State),
    BringsBlocks bs c → Brings bs ws s → s.standbyTwin = true →
    let m := readMsg ws
    (msgGood ws = true → s.reaches 3 [6] = false →
      (m.type = 4 ∨ m.type = 5 → exec c s = .next (notReached 3 s)) ∧
      (s.twin.role = .cold → m.type = 2 ∨ m.type = 3 ∨ m.type = 6 → ∃ t, exec c s = .next t ∧ t.ckpt.x = s.ckpt.x ∧
        t.ckpt.y = s.ckpt.y ∧ t.ckpt.synced = false ∧ t.twin.pend = s.twin.pend ++ [(.syncing, 12)] ∧ t.fab = s.fab)) ∧
    (msgGood ws = true → s.reaches 3 [6] = true →
      (m.type = 2 → s.twin.role = .syncing → ∃ t, exec c s = .next t ∧ t.ckpt.x.st = .filling ∧
        t.ckpt.x.page.gen = m.gen ∧ t.ckpt.y = {} ∧ t.ckpt.fullGot = true ∧ t = { s with ckpt := t.ckpt }) ∧
      (m.type = 9 → s.twin.role = .syncing → s.ckpt.fullGot = true → s.ckpt.acked2 = false → ∃ t, exec c s = .next t ∧
        t.ckpt.x = { s.ckpt.x with st := .inService } ∧ t.ckpt.synced = true ∧ t.ckpt.acked2 = true ∧
        t.ckpt.y.st = .free ∧ t.twin.pend = s.twin.pend ++ [(.cold, 7)] ∧ t.lanes = s.lanes ∧ t.fab = s.fab) ∧
      (m.type = 3 → s.twin.role = .cold → s.ckpt.filling = none → s.ckpt.x.st = .inService → s.ckpt.y.st = .free →
        ∃ t, exec c s = .next t ∧ t.ckpt.x = s.ckpt.x ∧ t.ckpt.y.st = .committed ∧ t.ckpt.y.page.gen = m.gen ∧
          t.ckpt.y.frame = m.frame ∧ t.lanes = s.lanes ∧ t.fab = s.fab ∧ t.twin.role = .cold) ∧
      (m.type = 3 → s.twin.role = .cold → s.ckpt.filling = none → s.ckpt.x.st ≠ .free → s.ckpt.y.st ≠ .free →
        ∃ t, exec c s = .next t ∧ t.ckpt.synced = false ∧ t.ckpt.bad = min 0xFFFFFFFF (s.ckpt.bad + 1) ∧
          t.twin.pend = s.twin.pend ++ [(.syncing, 12)]) ∧
      (s.twin.role = .cold → s.ckpt.before = none → s.ckpt.x.st = .inService → s.ckpt.y.st = .committed →
        s.ckpt.y.page.gen = m.gen →
        (m.type = 4 → ∃ t, exec c s = .next t ∧ t.ckpt.y = { s.ckpt.y with frame := m.frame } ∧ t.ckpt.x = s.ckpt.x ∧
          t.lanes = s.lanes ∧ t.fab = s.fab) ∧
        (m.type = 5 → ∃ t, exec c s = .next t ∧ t.ckpt.x = s.ckpt.x ∧
          t.ckpt.y = { s.ckpt.x with st := .free, frame := 0 } ∧ t.lanes = s.lanes ∧ t.fab = s.fab)) ∧
      (∀ n v, m.type = 6 → s.twin.role = .cold → n < 131072 →
        m.writes = [{ off := selOff n, word := v }] →
        let takes := fun (a b : Slot) => if a.st = .empty then b = a else kget 15 b.sels n = v ∧ b.page = a.page ∧
          b.st = a.st ∧ (∀ k, k ≠ n → kget 15 b.sels k = kget 15 a.sels k)
        ∃ t, exec c s = .next t ∧ takes s.ckpt.x t.ckpt.x ∧ takes s.ckpt.y t.ckpt.y ∧ t = { s with ckpt := t.ckpt })) ∧
    (msgGood ws = false → ∃ t, exec c s = .next t ∧ t.ckpt.bad = min 0xFFFFFFFF (s.ckpt.bad + 1) ∧ t.lanes = s.lanes ∧
      t.fab = s.fab ∧ (s.twin.role = .cold → fld (wd ws 0) 63 56 ∈ [2, 3, 6] →
        t.ckpt.synced = false ∧ t.twin.pend = s.twin.pend ++ [(.syncing, 12)]))

/-- R307, Table 11.9: the frames at a keeper port, those of twins that advertise ACTIVE and those of others. -/
def Obligations.KeeperAnswersFrames : Prop :=
  ∀ (port : Bool) (f : WatchFrame) (s : State), s.keeps = true →
    let k := (s.kport port).hear f s.time.rows
    let u := s.modKport port (fun x => x.hear f s.time.rows)
    let o := s.kport (!port)
    let carries := fun (c : Instr) => (f.type = 2 ∧ c = .status port f) ∨ (f.type = 5 ∧ c = .answer port f) ∨
      (f.type = 7 ∧ c = .taken port f) ∨ (f.type = 10 ∧ c = .handoverReq port f)
    let frame := fun (p : Bool) (type term : Nat) (w1 w2 : W64) =>
      (p, mkWatch type 1 0 (kPair s) (if p then s.keeper.seq1 else s.keeper.seq0) term w1 w2 0)
    let renews := bit f.w1 10 = true ∧ (s.keeper.st = .held ∨ s.keeper.st = .lapsed) ∧ s.keeper.holder = some port ∧
      f.term = s.keeper.cur
    let grants := s.keeper.st = .lapsed ∧ bit f.w1 0 = true ∧ bit f.w1 1 = true ∧ fld f.w1 63 32 = s.keeper.cur ∧
      k.certOk = true ∧ s.keeper.cur < 0xFFFFFFFF
    let takes := s.keeper.st = .granting ∧ s.keeper.grantee = some port ∧ f.term = s.keeper.cur
    let hands := s.keeper.st = .held ∧ s.keeper.holder = some port ∧ f.term = s.keeper.cur ∧ o.statusRow ≠ none ∧
      fld f.w2 5 0 = o.addr ∧ o.lost = false ∧ o.roleSt = 6 ∧ o.certOk = true ∧ s.keeper.cur < 0xFFFFFFFF
    let holds := fun (t : State) (h : Bool) (term : Nat) => t.keeper.st = .held ∧ t.keeper.holder = some h ∧ t.keeper.cur = term ∧
      t.keeper.leaseRow = some s.time.rows ∧ t.keeper.lapsed = false ∧ t.lanes = s.lanes ∧ t.twin = s.twin
    (∀ c, kValid f s = true → carries c → k.role = 1 → f.term < s.keeper.cur →
      exec c s = .next (sendNotice port { u with keeper.stale := min 65535 (s.keeper.stale + 1) })) ∧
    (∀ c, kValid f s = true → carries c → k.role = 1 → s.keeper.cur < f.term → s.keeper.st ≠ .learning →
      ∃ t, exec c s = .next t ∧ holds t port f.term ∧
        t.out.watch = s.out.watch ++ (if f.type = 2 then [frame port 8 f.term (pack [(5, 0, k.addr), (6, 6, 1)]) 0] else [])) ∧
    (kValid f s = true → k.role ≠ 1 ∨ f.term = s.keeper.cur ∨ (s.keeper.cur < f.term ∧ s.keeper.st = .learning) →
      (f.type = 2 → renews → ∃ t, exec (.status port f) s = .next t ∧ holds t port s.keeper.cur ∧
        t.out.watch = s.out.watch ++ [frame port 3 s.keeper.cur (pack [(7, 0, f.seq)]) 0]) ∧
      (f.type = 2 → ¬ renews → exec (.status port f) s = .next (sendNotice port u)) ∧
      (f.type = 5 → grants → ∃ t, exec (.answer port f) s = .next t ∧ t.keeper.st = .granting ∧
        t.keeper.cur = s.keeper.cur + 1 ∧ t.keeper.prev = s.keeper.cur ∧ t.keeper.grantee = some port ∧
        t.keeper.takeSent = s.time.rows ∧ t.keeper.repeats = 0 ∧ t.lanes = s.lanes ∧
        t.out.watch = s.out.watch ++ [frame port 6 (s.keeper.cur + 1) (pack [(31, 0, s.keeper.cur), (37, 32, k.addr)]) 0]) ∧
      (f.type = 5 → ¬ grants → exec (.answer port f) s = .next u) ∧
      (f.type = 7 → takes → ∃ t, exec (.taken port f) s = .next t ∧ holds t port s.keeper.cur ∧ t.out = s.out) ∧
      (f.type = 7 → ¬ takes → exec (.taken port f) s = .next u) ∧
      (f.type = 10 → hands → ∃ t, exec (.handoverReq port f) s = .next t ∧ holds t (!port) (s.keeper.cur + 1) ∧
        t.out.watch = s.out.watch ++
          [frame false 11 (s.keeper.cur + 1) (pack [(47, 0, fld f.w1 47 0)]) (pack [(5, 0, o.addr)]),
           frame true 11 (s.keeper.cur + 1) (pack [(47, 0, fld f.w1 47 0)]) (pack [(5, 0, o.addr)])]) ∧
      (f.type = 10 → ¬ hands → exec (.handoverReq port f) s = .next u)) ∧
    (∀ c, kValid f s = false → (c = .status port f ∨ c = .answer port f ∨ c = .taken port f ∨ c = .handoverReq port f) →
      exec c s = .next { s with keeper.bad := min 65535 (s.keeper.bad + 1) })

/-- R307 to R310: the keeper's timers. -/
def Obligations.KeeperTimersAct : Prop :=
  ∀ s : State, s.keeps = true →
    (∃ t, exec .keeperReset s = .next t ∧ t.keeper.st = .learning ∧ t.keeper.cur = 0 ∧ t.keeper.cfg = s.keeper.cfg ∧
      t.keeper.learnRow = s.time.rows ∧ t.keeper.helloRow = s.time.rows ∧ t.out.watch.length = s.out.watch.length + 2 ∧
      t.lanes = s.lanes ∧ t.twin = s.twin) ∧
    (s.keeper.st = .learning → s.keeper.helloRow + 40 ≤ s.time.rows →
      ∃ t, exec .keeperHelloInterval s = .next t ∧ t.keeper.helloRow = s.time.rows ∧ t.keeper.st = .learning ∧
        t.out.watch.length = s.out.watch.length + 2 ∧ t.lanes = s.lanes) ∧
    (s.keeper.st = .learning → s.keeper.learnRow + 2000 < s.time.rows → s.keeper.p0.statusRow ≠ none →
      s.keeper.p0.role = 1 → s.keeper.p0.term = kTop s →
      ∃ t, exec .keeperLearningEnd s = .next t ∧ t.keeper.st = .held ∧ t.keeper.cur = kTop s ∧
        t.keeper.holder = some false ∧ t.keeper.leaseRow = some s.time.rows ∧ t.lanes = s.lanes) ∧
    (s.keeper.st = .learning → s.keeper.learnRow + 2000 < s.time.rows → s.keeper.p0.role ≠ 1 → s.keeper.p1.role ≠ 1 →
      exec .keeperLearningEnd s = .next { s with keeper.st := .vacant, keeper.cur := kTop s }) ∧
    (∀ d h, s.keeper.leaseRow = some d → s.keeper.st = .held → s.keeper.lapsed = false → d + 400 < s.time.rows →
      s.keeper.holder = some h →
      ∃ t, exec .keeperLeaseLapse s = .next t ∧ t.keeper.lapsed = true ∧ t.keeper.cur = s.keeper.cur ∧
        t.keeper.st = (if (s.kport h).lost then .lapsed else .held) ∧ t.lanes = s.lanes) ∧
    (∀ port, (s.kport port).lost = false → (s.kport port).row + 160 < s.time.rows →
      ∃ t, exec (.keeperTwinLost port) s = .next t ∧ (t.kport port).lost = true ∧ t.kport (!port) = s.kport (!port) ∧
        t.keeper.cur = s.keeper.cur ∧ t.lanes = s.lanes) ∧
    (∀ h, s.keeper.st = .lapsed → s.keeper.queryRow + 40 < s.time.rows → s.keeper.holder = some h →
      ∃ t, exec .keeperQueryRepeat s = .next t ∧ t.keeper.queryRow = s.time.rows ∧ t.keeper.st = .lapsed ∧
        t.out.watch.length = s.out.watch.length + 1 ∧ t.lanes = s.lanes) ∧
    (∀ g, s.keeper.st = .granting → s.keeper.grantee = some g → s.keeper.takeSent + 200 < s.time.rows →
      (s.keeper.repeats < 3 → ∃ t, exec .keeperTakeRepeat s = .next t ∧ t.keeper.repeats = s.keeper.repeats + 1 ∧
        t.keeper.takeSent = s.time.rows ∧ t.keeper.st = .granting ∧ t.keeper.cur = s.keeper.cur) ∧
      (3 ≤ s.keeper.repeats → ∃ t, exec .keeperTakeRepeat s = .next t ∧ t.keeper.st = .held ∧
        t.keeper.holder = some g ∧ t.keeper.cur = s.keeper.cur)) ∧
    (s.keeper.st = .vacant → kQualifies false s = true → s.keeper.cur < 0xFFFFFFFF → ∃ t, exec .keeperGrant s = .next t ∧ t.keeper.st = .granting ∧
      t.keeper.cur = s.keeper.cur + 1 ∧ t.keeper.grantee = some false ∧ t.lanes = s.lanes)

/-- R291, R309: terms only rise at a keeper that has learnt, and 0xFFFF_FFFF is the last one. -/
def Obligations.KeeperTermsNeverFall : Prop :=
  (∀ (port : Bool) (f : WatchFrame) (s : State), s.keeper.st ≠ .learning →
    s.keeper.cur ≤ (keeperFrame port f s).keeper.cur ∧
    (s.keeper.cur ≤ 0xFFFFFFFF → (keeperFrame port f s).keeper.cur ≤ 0xFFFFFFFF)) ∧
  (∀ (c : Instr) (s t : State), s.keeper.st ≠ .learning →
    (c = .keeperLeaseLapse ∨ (∃ p, c = .keeperTwinLost p) ∨ c = .keeperQueryRepeat ∨ c = .keeperTakeRepeat ∨
      c = .keeperGrant) → exec c s = .next t → s.keeper.cur ≤ t.keeper.cur ∧
    (s.keeper.cur ≤ 0xFFFFFFFF → t.keeper.cur ≤ 0xFFFFFFFF)) ∧
  (∀ (port : Bool) (base : Nat) (s : State), (s.kport port).certOk = true →
    (base < 0xFFFFFFFF → (kGrant port base s).keeper.cur = base + 1 ∧ (kGrant port base s).keeper.st = .granting) ∧
    (0xFFFFFFFF ≤ base → kGrant port base s = s))

/-- R385 to R393, R398: the packets of the SYNC class. How long an alien SYNC counts and how a start is reported are the model's choices (log
entries 106, 23). -/
def Obligations.HopPacketsAct : Prop :=
  ∀ (side : Side) (p : TowPkt) (s : State), s.towUp = true → (s.port side).up = true → p.flight = s.flightId →
    (p.type = 2 → exec (.credit side p) s = .next (portDrain side (s.setPort side { s.port side with
      ctl := min 256 ((s.port side).ctl + p.tseq % 1024), bulk := min 512 ((s.port side).bulk + p.tseq / 65536 % 1024) }))) ∧
    (∀ n, p.type = 3 → s.flight.addressed = false → exec (.delayReq side p n) s = .next s) ∧
    (∀ n, p.type = 3 → s.flight.addressed = true → exec (.delayReq side p n) s = .next { s with out.tow := s.out.tow ++
      [(side, towBlocks { type := 4, dst := 0, src := s.flight.addr, all := false, dir := side == .b, hops := 0, tseq := 0,
                          flight := s.flightId, payload := [w64 n] })] }) ∧
    (∀ n, p.type = 4 → exec (.delayResp side p n) s = .next (s.setPort side
      { s.port side with delay := (quot ((n : Int) - (wd p.payload 0).toNat) 2).toNat })) ∧
    (∀ n m, p.type = 1 → p.all = true → p.hops < 63 → (s.flight.addressed = true → p.src ≠ s.flight.addr) →
      p.src = s.timeSrc → ∃ t, exec (.towSync side p n m) s = .next t ∧ t.flight.srcRow = some s.time.rows ∧
        t.flight.srcAnchored = bit (wd p.payload 0) 48 ∧ t.flight.backup = s.flight.backup ∧ t.flight.backEnd = s.flight.backup ∧
        t.flight.alien = s.flight.alien ∧
        t.flight.syncOk = (s.flight.counted && s.flight.addr != s.timeSrc && !s.flight.backup &&
          !s.flight.alien.any (fun r => decide (s.time.rows ≤ r + 2000))) ∧ t.flight.members = s.flight.members ∧
        t.lanes = s.lanes ∧ t.fab = s.fab ∧ t.twin = s.twin ∧ t.time = s.time) ∧
    (p.type = 5 → p.all = true → p.hops < 63 → p.src ≠ s.flight.addr → s.flight.commits.contains (fld (wd p.payload 0) 47 0) = false →
      ∃ t, exec (.commit side p) s = .next t ∧ t.flight.commits = s.flight.commits ++ [fld (wd p.payload 0) 47 0] ∧
        t.flight.members = s.flight.members ∧ t = { s with flight := t.flight, out := t.out }) ∧
    (p.type = 5 → p.all = false → s.flight.addressed = true → p.dst = s.flight.addr → s.isGateway = true →
      ∃ t, exec (.commit side p) s = .next t ∧ (p.src, fld (wd p.payload 0) 47 0) ∈ t.flight.starts ∧
        t.flight.commits = s.flight.commits ∧ t = { s with flight := t.flight })

/-- R355, R361, R384 to R389: what the member that consumes a packet does with it. That packets out of turn are held and how a failed read
or write is told are the model's choices (log entry 105), and so are the packet that tells of a deleted queue (log entry 104), the privilege
operand of CMD (log entry 25) and which packets are numbered (log entry 20). -/
def Obligations.AddressedPacketsAct : Prop :=
  ∀ (side : Side) (p : TowPkt) (s : State), s.towUp = true → (s.port side).up = true → p.flight = s.flightId →
    s.flight.addressed = true →
    (p.type = 6 → p.all = true → p.hops < 63 → p.src ≠ s.flight.addr →
      ∃ t, exec (.member side p) s = .next t ∧ (t.member p.src).present = true ∧
        (t.member p.src).uid = BitVec.ofNat 128 ((wd p.payload 1).toNat + 2 ^ 64 * (wd p.payload 2).toNat) ∧
        (t.member p.src).gateway = bit (wd p.payload 0) 4 ∧ (t.member p.src).admitted = bit (wd p.payload 0) 2 ∧
        (side = .a → (t.member p.src).hopsA = some (p.hops + 1) ∧ (t.member p.src).rowA = s.time.rows) ∧
        (side = .b → (t.member p.src).hopsB = some (p.hops + 1) ∧ (t.member p.src).rowB = s.time.rows) ∧
        (∀ a, a ≠ p.src → t.member a = s.member a) ∧ t.lanes = s.lanes ∧ t.fab = s.fab) ∧
    (p.dst = s.flight.addr → p.all = false → s.flight.rxSeq.contains (p.src, towClass p.type, p.tseq) = false →
      s.flight.rxHold = [] →
      let turn := inTurn p { s with flight.rxSeq := (p.src, towClass p.type, p.tseq) :: s.flight.rxSeq }
      (∀ priv, p.type = 7 → turn = false → ∃ t, exec (.cmd side ⟨p, priv⟩) s = .next t ∧ t.host = s.host ∧
        t.flight.rxHold = [{ pkt := p, priv := priv, data := none, row := s.time.rows }] ∧ t = { s with flight := t.flight, out := t.out }) ∧
      (∀ priv x, p.type = 7 → turn = true → p.payload = [x] →
        let mine : Work → Bool := fun w => decide (w.key.q = fld x 61 56 ∧ w.key.gw = some p.src)
        ∃ t, exec (.cmd side ⟨p, priv⟩) s = .next t ∧
          t.host.work ++ t.host.staging = (s.host.work ++ s.host.staging).filter (fun w => !mine w) ∧
          t.host.dups = s.host.dups.filter (fun w => !mine w) ∧ t.host.engine = s.host.engine ∧ t.host.prog = s.host.prog ∧
          (∀ k : Key, k.session < 1024 → t.seqSt k = if k.q = fld x 61 56 then {} else s.seqSt k)) ∧
      (∀ priv, p.type = 7 → turn = true → 1 < p.payload.length → s.host.work.length < 256 → s.host.staging = [] →
        let c := Cmd.mk (wd p.payload 0) (wd p.payload 1) (wd p.payload 2) (wd p.payload 3) (p.payload.drop 4)
        let w : Work := { key := { q := c.queue, session := c.session, seq := c.seq, gw := some p.src, priv := priv }, cmd := c }
        overdue w s = none → ∃ t, exec (.cmd side ⟨p, priv⟩) s = .next t ∧ t.host.work = s.host.work ++ [w] ∧
          t.host.engine = s.host.engine ∧ t.lanes = s.lanes ∧ t.fab = s.fab) ∧
      (∀ f, p.type = 8 → s.isGateway = true →
        s.host.fwd = [f] → f.dst = p.src → f.key = { q := (replyOfWords p.payload).q,
                                                     session := (replyOfWords p.payload).session,
                                                     seq := (replyOfWords p.payload).seq } →
        ∃ t, exec (.reply side p) s = .next t ∧ t.host.fwd = [] ∧ t.lanes = s.lanes ∧ t.fab = s.fab) ∧
      (p.type = 9 → s.isGateway = true → s.host.eqs = [] → ∃ t, exec (.event side p) s = .next t ∧
        t.host.held = mergeEvent (eventOf p.payload) s.host.held ∧ t.lanes = s.lanes ∧ t.fab = s.fab) ∧
      (∀ data : Option (List W64), p.type = 0xB → turn = true → s.isGateway = true →
        ∃ t, exec (.dmaRd side p data) s = .next t ∧
        (∃ u ∈ t.flight.unacked, u.pkt.type = 0xC ∧ u.pkt.dst = p.src ∧
          u.pkt.payload = (if s.hostUp then data.getD [] else []).take (ceilDiv (wd p.payload 1).toNat 8)) ∧ t.host = s.host ∧ t.lanes = s.lanes) ∧
      (p.type = 0xC → turn = true → ∃ t, exec (.dmaData side p) s = .next t ∧
        t = { s with flight := t.flight, out := t.out, host.dma := t.host.dma } ∧
        t.flight.rxSeq = (p.src, 2, p.tseq) :: s.flight.rxSeq ∧
        (∀ j js, s.host.dma = j :: js → j.asked ≠ [] → t.host.dma = { j with
          asked := j.asked.drop 1, got := j.got ++ p.payload,
          failed := j.failed || j.asked.head? != some p.payload.length } :: js)) ∧
      (p.type = 0xD → s.hostUp = true → s.flight.wrBad.contains (p.src, p.tseq) = false →
        ∃ t, exec (.dmaWr side ⟨p, true⟩) s = .next t ∧
        t.host.mem = Memory.write s.host.mem (wd p.payload 0).toNat (wordBytes (p.payload.drop 1)) ∧
        t.flight.wrBad = s.flight.wrBad ∧ t.host.cqs = s.host.cqs ∧ t.lanes = s.lanes) ∧
      (∀ ok, p.type = 0xD → ok = false ∨ s.hostUp = false → ∃ t, exec (.dmaWr side ⟨p, ok⟩) s = .next t ∧
        t.flight.wrBad = (p.src, p.tseq) :: s.flight.wrBad ∧ (s.hostUp = false → t.host.mem = s.host.mem) ∧
        (∀ c, (∀ i, i < 8 * (p.payload.length - 1) → c ≠ ((wd p.payload 0).toNat + i) % 2 ^ 64) →
          Memory.read t.host.mem c = Memory.read s.host.mem c) ∧ t.host.cqs = s.host.cqs ∧ t.lanes = s.lanes)) ∧
    (p.type = 0xD → s.flight.wrBad.contains (p.src, p.tseq) = true →
      ackPacket p s = towSend 0xA p.src [pack [(31, 0, p.tseq), (32, 32, 1), (33, 33, 1)]] s) ∧
    (∀ j, s.host.wr = [j] →
      (j.failed = false → j.asked = [] → wrTick s = finish j.run stOk j.reply { s with host.wr := [] }) ∧
      (j.failed = true → wrTick s = finish j.run stDmaError [] (bufUndefined j.addr j.bytes { s with host.wr := [] })) ∧
      (j.failed = false → j.asked ≠ [] → wrTick s = s)) ∧
    (p.type = 0xA → p.dst = s.flight.addr → p.all = false → s.rcv.step = none →
      (∃ u ∈ s.flight.unacked, u.named p = true) →
      exec (.towAck side p) s = .next (creditBack p (some side)
        { s with flight.unacked := dropFirst (fun u => u.named p) s.flight.unacked,
                 host.wr := s.host.wr.map (WrJob.acked p) })) ∧
    (∀ j : WrJob, p.src = j.gw → bit (wd p.payload 0) 32 = true → fld (wd p.payload 0) 31 0 ∈ j.asked →
      (j.acked p).asked = j.asked.filter (fun n => n != fld (wd p.payload 0) 31 0) ∧
      (j.acked p).failed = (j.failed || bit (wd p.payload 0) 33) ∧ (j.acked p).run = j.run)

/-- R383, R385, R387: when a received packet has its effect, whatever the effect is; what was held for it is taken then (model's choice, log
entry 105). -/
def Obligations.PacketsActOnce : Prop :=
  ∀ (f : State → State) (p : TowPkt) (s : State),
    (towClass p.type ≠ 0 → p.all = false → p.type ≠ 0xA →
      (s.flight.rxSeq.contains (p.src, towClass p.type, p.tseq) = true → consume p f s = ackPacket p s) ∧
      (s.flight.rxSeq.contains (p.src, towClass p.type, p.tseq) = false →
        ∃ u, consume p f s = releaseHeld (f u) ∧ u.flight.rxSeq = (p.src, towClass p.type, p.tseq) :: s.flight.rxSeq ∧
          u = { s with flight := u.flight, out := u.out } ∧ consume p f u = ackPacket p u)) ∧
    (∀ type side fwd, p.type = type → s.towUp = true → (s.port side).up = true → p.flight ≠ s.flightId →
      receive type side p fwd f s = freeBuffer p side (towBad p.src s)) ∧
    (∀ type side fwd g, hopLocal type = false → p.all = false → p.dst ≠ s.flight.addr →
      receive type side p fwd f s = receive type side p fwd g s)

/-- R379 to R402: the ring's and the members' events. The times of identity checks (log entry 60), credits of a packet with a right header
(log entry 107) and the rows that a line report stands for (log entry 108) are the model's readings and choices. -/
def Obligations.RingAndMembersChange : Prop :=
  ∀ (side : Side) (s : State), s.towUp = true →
    ((s.port side).up = true → (s.port side).remote = false → (s.port side).noLock < 2 →
      exec (.towPortDown side) s = .next s) ∧
    ((s.port side).up = false → (s.port side).good < 250 → exec (.towPortUp side) s = .next s) ∧
    ((s.port side).up = true → (s.port side).remote = true ∨ 2 ≤ (s.port side).noLock →
      ∃ t, exec (.towPortDown side) s = .next t ∧ (t.port side).up = false ∧
      t.flight.members = s.flight.members ∧ t.lanes = s.lanes ∧ t.fab = s.fab) ∧
    ((s.port side).up = false → 250 ≤ (s.port side).good → (s.port side).queue = [] → s.isGateway = true →
      ∃ t, exec (.towPortUp side) s = .next t ∧ (t.port side).up = true ∧ (t.port side).ctl = 256 ∧ (t.port side).bulk = 512 ∧
      t.flight.members = s.flight.members ∧ t.lanes = s.lanes ∧ t.fab = s.fab) ∧
    (∀ bytes : List (BitVec 8), (s.port side).up = true → (∀ p, towOf bytes = some p → p.flight ≠ s.flightId) →
      let u := { s with flight.towBad := min 65535 (s.flight.towBad + 1) }.modMember
        (fld (w64 (ofBeBytes (bytes.take 8))) 49 44) (fun m => { m with towBad := min 65535 (m.towBad + 1) })
      (discarded bytes = none → exec (.towPacketBad ⟨side, bytes⟩) s = .next u) ∧
      (∀ p, discarded bytes = some p → exec (.towPacketBad ⟨side, bytes⟩) s = .next (freeBuffer p side u))) ∧
    (∀ (bytes : List (BitVec 8)) p, towOf bytes = some p → p.flight = s.flightId →
      exec (.towPacketBad ⟨side, bytes⟩) s = .next s) ∧
    (∀ i u sd, s.flight.unacked[i]? = some u → (∃ d, u.row = some d ∧ d + 40 < s.time.rows) ∨ u.lapsed s = true ∨ (u.row = none ∧ u.queued s = false) →
      (s.member u.pkt.dst).side = some sd →
      exec (.towResend i) s = .next (portSend sd { u.pkt with dir := sd == .b } { unqueue u s with
        flight.unacked := s.flight.unacked.mapIdx (fun j v =>
          if j = i then { pkt := { u.pkt with dir := sd == .b }, row := none } else v) })) ∧
    (∀ i u, s.flight.unacked[i]? = some u → u.row = none → u.queued s = true → u.lapsed s = false → exec (.towResend i) s = .next s) ∧
    (∀ a, a < 64 → (s.member a).rowA + 1000 < s.time.rows → ∃ t, exec (.routeLapse a .a) s = .next t ∧
      (t.member a).hopsA = none ∧ (t.member a).hopsB = (s.member a).hopsB ∧ (∀ b, b ≠ a → t.member b = s.member b) ∧
      t.lanes = s.lanes ∧ t.fab = s.fab) ∧
    (∀ a d, a < 64 → s.isGateway = true → (s.member a).lostAt = some d → (s.member a).down = false → d + 4000 < s.time.rows →
      ∃ t, exec (.memberUnreachable a) s = .next t ∧ (t.member a).down = true ∧
        t.host.fwd = s.host.fwd.filter (fun f => f.dst != a) ∧ (∀ b, b ≠ a → t.member b = s.member b) ∧
        t.lanes = s.lanes ∧ t.fab = s.fab) ∧
    (backupValid s = true → s.flight.addressed = true → s.flight.addr = backupAddr s → s.flight.addr ≠ s.timeSrc →
      s.flight.backup = false → (s.flight.srcRow.getD s.flight.towRow) + 16000 < s.time.rows →
      ∃ t, exec .backupTimeSource s = .next t ∧ t.flight.backup = true ∧ t.flight.syncOk = false ∧
        t.lanes = s.lanes ∧ t.fab = s.fab) ∧
    (s.flight.syncOk = true → (s.flight.syncRow.getD 0) + 2000 < s.time.rows → (s.input 24).q ≠ .off →
      (s.input 24).actNew = none → (s.input 24).active = true → exec .syncAbsent s =
      .next (State.modInput { s with flight.syncOk := false } 24 (fun i => { i with actNew := some false, dirtySec := true }))) ∧
    (s.enumerated = true → s.flight.addressed = false → s.flight.towRow + 2000000 < s.time.rows →
      exec .enumerationTimeout s = .next { s with flight.noAddr := true }) ∧
    (∀ a res, a < 64 → s.ready = true → verifies a s = true → (s.member a).present = true → (s.member a).checkedRow = none →
      ∃ t, exec (.identityCheck a res) s = .next t ∧ (t.member a).certOk = decide (res = .ok) ∧
        (t.member a).checkedRow = some s.time.rows ∧ (∀ b, b ≠ a → t.member b = s.member b) ∧
        (res ≠ .ok → a ≠ s.flight.addr → s.isGateway = true → t.reachable a = false) ∧
        (s.twinOn = true → a = s.partner → t.twin.certOk = decide (res = .ok)) ∧ t.lanes = s.lanes ∧ t.fab = s.fab)

/-- R410 to R415: arbitration, whatever the weights, deficits and modes, moves requests from the port to outstanding, in order for a
master in ordered mode; a tagged one may pass a request that cannot be issued yet. -/
def Obligations.MatrixKeepsEveryRequest : Prop :=
  ∀ (r : MReq) (slot : Bool) (s : State), r.master < 8 → r.id < 64 → s.matrixOn = true →
    s.masterHeld r.master = false → decodeCause { r with orphan := false } = 0 →
    s.mx.wedged.any (fun t => targetOf r.addr == some t) = false →
    ∃ t, exec (.matrixRequest r slot) s = .next t ∧
      (∀ m,
        let now := (t.outOf m).map (·.req) ++ t.mx.wait.filter (fun w => w.master == m)
        let due := (s.outOf m).map (·.req) ++ s.mx.wait.filter (fun w => w.master == m) ++
          (if m = r.master then [{ r with orphan := false }] else [])
        (s.mx.tagged.contains m = false → now = due) ∧ now.Perm due) ∧
      (∃ new, t.mx.out = s.mx.out ++ new) ∧ t = { s with mx := t.mx }

/-- R407 to R420: the other steps of the matrix, and R19 for the commands whose objects lie behind it. The model's own choices: the error
response that stores nothing (log entry 115), and commands that do not reach their objects (log entries 52 and 116). -/
def Obligations.MatrixErrorsAndResponses : Prop :=
  ∀ (r : MReq) (slot : Bool) (s : State), r.master < 8 → r.id < 64 → s.matrixOn = true →
    (s.masterHeld r.master = false →
      (decodeCause { r with orphan := false } ≠ 0 → r.cmd = none → ∃ t, exec (.matrixRequest r slot) s = .next t ∧
        t.mx.errCount = min 0xFFFFFFFF (s.mx.errCount + 1) ∧ t.mx.errAddr = r.addr % 2 ^ 32 ∧ t.mx.errMaster = r.master ∧
        t.mx.errWrite = r.write ∧ t.mx.errCause = decodeCause { r with orphan := false } ∧
        t.mx.errFrame = s.time.frame ∧ t.mx.errRow = s.time.row ∧ t.mx.wait = s.mx.wait ∧ t.mx.out = s.mx.out ∧
        t = { s with mx := t.mx, rcv := t.rcv }) ∧
      (decodeCause { r with orphan := false } = 0 → s.mx.wedged.any (fun t => targetOf r.addr == some t) = true →
        let u := { s with mx.tgtErr := min 0xFFFFFFFF (s.mx.tgtErr + 1) }
        (r.cmd = none → exec (.matrixRequest r slot) s = .next u) ∧
        (∀ x xs, s.host.engine = none → s.host.prog = x :: xs → r.cmd = some (x.key.q, x.key.session, x.key.seq) →
          x.cmd.opcode / 256 ≠ 0x0A → exec (.matrixRequest r slot) s = .next (endRun stFunctionDown x u)))) ∧
    (∀ x err, s.mx.out = [x] → s.mx.wait = [] → answers r x = true → x.req.orphan = false → x.req.cmd = none → x.cut = none →
      s.masterHeld r.master = false → s.mx.wedged.any (fun u => targetOf r.addr == some u) = false →
      ∃ t, exec (.matrixResponse r err) s = .next t ∧ t.mx.out = [] ∧ t.mx.wait = [] ∧
        t.mx.tgtErr = (if err then min 0xFFFFFFFF (s.mx.tgtErr + 1) else s.mx.tgtErr) ∧
        (err = true → t.mx.store = s.mx.store ∧ t.mx.got = s.mx.got ∧ t = { s with mx := t.mx }) ∧
        (err = false → r.write = false →
          t.mx.got = some (r.master, (List.range r.len).map (fun i => loadByte (r.addr + i) s)) ∧ t = { s with mx := t.mx }) ∧
        (err = false → r.write = true →
          let u := storeBytes none r.addr (x.req.data.take r.len) s
          t.fab = u.fab ∧ t.ckpt = u.ckpt ∧ t.mx.store = u.mx.store ∧ t.mx.got = s.mx.got ∧
          t = { s with mx := t.mx, fab := t.fab, ckpt := t.ckpt })) ∧
    (∀ u x, u < 9 → s.mx.out.find? (fun x => targetOf x.req.addr == some u) = some x →
      x.row + 2 * wedgeTime s ≤ s.time.rows → s.mx.wedged.contains u = false → s.mx.wedgedReg.contains u = false →
      ∃ t, exec (.targetWedged u) s = .next t ∧ t.mx = { s.mx with wedgedReg := s.mx.wedgedReg ++ [u] } ∧
        t = { s with mx := t.mx, rcv := t.rcv }) ∧
    (∀ m x, m < 8 → s.mx.reset.find? (fun x => x.1 == m) = some x → s.outOf m = [] ∨ x.2 + 4 ≤ s.time.rows →
      ∃ t, exec (.masterReadmit m) s = .next t ∧ t.mx.reset = s.mx.reset.filter (fun x => x.1 != m) ∧
        t.mx.wait = s.mx.wait ∧ t.mx.out.length = s.mx.out.length ∧ (∀ y ∈ t.outOf m, y.req.orphan = true) ∧
        (∀ k, k ≠ m → t.outOf k = s.outOf k) ∧ t = { s with mx := t.mx }) ∧
    (∀ (c : Run) (u : State), Held 0x0A04 c u → fld (c.cmd.p 1) 63 18 = 0 →
      fld (c.cmd.p 1) 17 8 = 0 ∨ 16 ≤ fld (c.cmd.p 1) 17 8 →
      exec .matrixCfg u = .next { idle u with host.prog := u.host.prog ++ [c] } ∧
      applyMatrixCfg c u = finish c stOk [] { u with mx.w0 := c.cmd.p 0, mx.w1 := c.cmd.p 1 }) ∧
    (∀ ok img buf c op x (u : State), (c, op) ∈ coreCommands ok ++ bootCommands ok img buf → u.host.engine = some x → x.cmd.opcode = op →
      u.engineReaches op = false →
      exec c u = .next (if u.engineHeld op then u
        else finish x stFunctionDown [] (idle { u with mx.tgtErr := min 0xFFFFFFFF (u.mx.tgtErr + 1) })))

/-- R428, R433, R435, R439: the counters' own steps. That a commanded boundary waits for the tick is log entry 24. -/
def Obligations.CountersAndPeriods : Prop :=
  ∀ s : State,
    (∀ c, c < 4096 → 2 ^ 48 ≤ (s.counter c).value + (s.counter c).ev → s.fnDown 5 = false →
      ∃ t, exec (.counterOverflow c) s = .next t ∧ t = { s with ctr := t.ctr } ∧
        (∀ d, d ≠ c → t.counter d = s.counter d) ∧ (t.counter c).ev = 0 ∧
        ((s.counter c).full = false → (s.counter c).action = 0 →
          (t.counter c).value = ((s.counter c).value + (s.counter c).ev) % 2 ^ 48) ∧
        ((s.counter c).full = false → (s.counter c).action = 2 → (t.counter c).value = 2 ^ 48 - 1 ∧
          (t.counter c).full = true ∧ (t.counter c).ovf = min 65535 ((s.counter c).ovf + 1)) ∧
        ((s.counter c).full = false → (s.counter c).action = 1 →
          (s.counter c).value + (s.counter c).ev = 2 ^ 48 → (t.counter c).value = (s.counter c).preset)) ∧
    (s.time.row = 249 → s.ticking = true → s.realignAt s.time.frame = none →
      (∀ b, b < 17 → s.nextFrame % s.period b = 0 →
        exec (.periodBoundary b) s = .next { s with ctr.ends := s.ctr.ends ++ [b] }) ∧
      (s.nextFrame % s.bwWindow = 0 → exec .bwWindowEnd s = .next { s with ctr.ends := s.ctr.ends ++ [17] })) ∧
    (∀ b, b < 17 → s.realignAt s.time.frame ≠ none → exec (.periodBoundary b) s = .next s ∧ exec .bwWindowEnd s = .next s) ∧
    (∀ b frame, b < 17 → frame % s.period b ≠ 0 → s.ctr.ends.contains b = false → closePeriod b frame s = s) ∧
    (∀ b frame, b < 17 → frame % s.period b = 0 ∨ s.ctr.ends.contains b = true → s.ctr.closed.contains b = false →
      let t := closePeriod b frame s
      (∃ i is, (t.bank b).ints = i :: is ∧ is.length = min (if b = 16 then 7 else 31) (s.bank b).ints.length ∧
        i.start = (s.bank b).fromFrame ∧ i.frame = frame ∧ i.row = 0 ∧ i.short = (s.bank b).short ∧
        i.mixed = (s.bank b).mixed ∧ i.genEnd = (if b = 16 then 0 else (s.bank b).gen) ∧
        i.values = (if b = 16 then laneValues s else bankValues b s)) ∧
      (t.bank b).fromFrame = frame ∧ (t.bank b).short = false ∧ t.ctr.closed = s.ctr.closed ++ [b] ∧
      (∀ k, k ≠ b → t.bank k = s.bank k) ∧ (b = 16 → t.ctr.ctrs = s.ctr.ctrs) ∧
      (∀ e ∈ t.ctr.ctrs, e.1 / 256 ≠ b → e ∈ s.ctr.ctrs) ∧
      (∀ e ∈ s.ctr.ctrs, e.1 / 256 ≠ b → e.2 ≠ {} → e ∈ t.ctr.ctrs) ∧
      (∀ e ∈ t.ctr.ctrs, b < 16 → e.1 / 256 = b → e.2.ovf = 0 ∧ ∃ c, (e.1, c) ∈ s.ctr.ctrs ∧ e.2.w0 = c.w0 ∧ e.2.w1 = c.w1 ∧
        (fld c.w0 4 3 = 0 → e.2.value = 0) ∧ (fld c.w0 4 3 = 1 → e.2.value = c.preset) ∧
        (2 ≤ fld c.w0 4 3 → e.2.value = c.value))) ∧
    (∀ frame, frame % s.bwWindow = 0 ∨ s.ctr.ends.contains 17 = true → s.ctr.closed.contains 17 = false →
      let t := closeWindow frame s
      t = { s with lanes := t.lanes, ctr := t.ctr } ∧
        (∀ i, i < 512 → (t.lane i).bwRx = 0 ∧ (t.lane i).bwTx = 0 ∧
          (t.lane i).bwRec.w0 = pack [(47, 0, (s.lane i).bwRx)] ∧ (t.lane i).bwRec.w1 = pack [(47, 0, (s.lane i).bwTx)] ∧
          (t.lane i).bring = (s.lane i).bring)) ∧
    (∀ x xs r, s.ctr.snaps = x :: xs → x.latched = true → s.run x.key = some r →
      exec .snapshotCopiesDone s = .next (finish r stOk [] { s with ctr.snaps := xs }))

/-- R431, R435, R438, R440: the counters' commands that take effect later. The privilege of a command that a CMD packet brought is an
operand of the packet (log entry 25). -/
def Obligations.CounterCommandsWait : Prop :=
  ∀ (r : Run) (s : State),
    (Held 0x0901 r s → ctrCfgBad r = false →
      (ccSetBank (r.cmd.p 0) = true → bit (r.cmd.p 1) 30 ≠ bit (s.bank (ccBank (r.cmd.p 0))).w 30 → privOf r.key s ≠ 2 →
        exec .ctrCfg s = .next (finish r stPrivilege [] (idle s))) ∧
      ((ccSetBank (r.cmd.p 0) = true → bit (r.cmd.p 1) 30 = bit (s.bank (ccBank (r.cmd.p 0))).w 30 ∨ privOf r.key s = 2) →
      (∀ p, ccCancel (r.cmd.p 0) = false → (s.bank (ccBank (r.cmd.p 0))).pend = some p →
        exec .ctrCfg s = .next (finish r stBusy [] (idle s))) ∧
      (ccCancel (r.cmd.p 0) = false → (s.bank (ccBank (r.cmd.p 0))).pend = none →
        ∃ t, exec .ctrCfg s = .next t ∧ t.host.prog = s.host.prog ++ [r] ∧
          (t.bank (ccBank (r.cmd.p 0))).pend = some { key := r.key, at_ := effectFrame (ccBank (r.cmd.p 0)) r s,
                                                       boundary := r.at_ == 0, words := r.cmd.params } ∧
          (∀ k, k ≠ ccBank (r.cmd.p 0) → t.bank k = s.bank k) ∧ t.ctr.ctrs = s.ctr.ctrs ∧ t.lanes = s.lanes) ∧
      (∀ p x, ccCancel (r.cmd.p 0) = true → (s.bank (ccBank (r.cmd.p 0))).pend = some p → s.run p.key = some x →
        ∃ u, exec .ctrCfg s = .next (finish r stOk [] (finish x stWithdrawn [] u)) ∧
          (u.bank (ccBank (r.cmd.p 0))).pend = none ∧ u.ctr.ctrs = s.ctr.ctrs))) ∧
    (Held 0x0904 r s → fld (r.cmd.p 0) 63 40 = 0 →
      fld (r.cmd.p 0) 23 0 = 0 ∨ (8000 ≤ fld (r.cmd.p 0) 23 0 ∧ fld (r.cmd.p 0) 23 0 ≤ 16000000) →
      ((s.bank 16).pend = none → ∃ t, exec .fixedCfg s = .next t ∧ t.host.prog = s.host.prog ++ [r] ∧
        (t.bank 16).pend = some { key := r.key, at_ := effectFrame 16 r s, boundary := r.at_ == 0, words := r.cmd.params } ∧
        (∀ k, k ≠ 16 → t.bank k = s.bank k) ∧ t.lanes = s.lanes) ∧
      (∀ p, (s.bank 16).pend = some p → exec .fixedCfg s = .next (finish r stBusy [] (idle s)))) ∧
    (Held 0x0903 r s → fld (r.cmd.p 0) 63 3 = 0 → fld (r.cmd.p 0) 2 0 ≠ 0 → (r.cmd.broadcast = true → r.at_ ≠ 0) →
      exec .ctrSnapshot s = .next { idle s with
        host.prog := s.host.prog ++ [r],
        ctr.snaps := s.ctr.snaps ++ [{ key := r.key, at_ := r.at_, scopes := fld (r.cmd.p 0) 2 0, latched := false }] })

/-- R442 to R454: the recovery ladder's steps and commands. What counts as a function's work is log entry 27, that a re-initialisation
begins at the next tick at the latest log entry 28, and that one past its maximum begins again at the tick where it is automatic is the
model's choice (log entry 54). -/
def Obligations.RecoveryActs : Prop :=
  ∀ s : State,
    (∀ f, isFunction f = true → s.ready = true → s.rcv.busy.contains f = true → hasWork f s = true →
      kget 0 s.rcv.marks f + wdRows s ≤ s.time.rows → s.fnDown f = false → s.rcv.wedged.contains f = false →
      s.rcv.wedgeReg.any (fun w => w.1 == f) = false →
      exec (.watchdogExpiry f) s = .next { s with rcv.wedgeReg := s.rcv.wedgeReg ++ [(f, 1, 15)] }) ∧
    (∀ f r, isFunction f = true → s.rcv.deferred = [r] → r.f = f → heldBack f s = false → s.fnDown f = false →
      ∃ t, exec (.reinitBegin f) s = .next t ∧ t.rcv.deferred = [] ∧
        t.rcv.down = s.rcv.down ++ [{ r with row := s.time.rows }] ∧ t.fnDown f = true ∧ t.time.rows = s.time.rows ∧
        t.rcv.evq = s.rcv.evq ++ [(0x0A02, f, [pack [(6, 0, f), (9, 8, 1), (16, 16, b2n r.key.isSome)], 0])] ∧
        (∀ d ∈ t.mx.deficit, d.1 / 8 ∉ ownedTargets f)) ∧
    (∀ f r, isFunction f = true → s.rcv.down = [r] → r.f = f → s.time.rows ≤ r.row + reinitMax f →
      s.rcv.hist = [] → 2 ≤ escCount s →
      ∃ t ws, exec (.reinitDone f) s = .next t ∧ t.rcv.down = [] ∧ t.rcv.reinits = min 65535 (s.rcv.reinits + 1) ∧
        t.rcv.lastFn = f ∧ t.rcv.lastFrame = s.time.frame ∧ t.fnDown f = false ∧ t.time = s.time ∧
        t.rcv.evq = s.rcv.evq ++ [(0x0A02, f, ws)]) ∧
    (∀ f r, isFunction f = true → s.rcv.down = [r] → r.f = f → r.row + reinitMax f < s.time.rows → r.late = false →
      ∃ t, exec (.reinitDone f) s = .next t ∧ t = reinitLimit f s ∧ t.rcv.reinits = s.rcv.reinits ∧
        (isAuto f s = true → t.rcv.down = [] ∧
          t.rcv.deferred = s.rcv.deferred ++ [{ f := f, row := s.time.rows, key := r.key }]) ∧
        (isAuto f s = false → t.rcv.down = [{ r with late := true }] ∧ t.rcv.deferred = s.rcv.deferred)) ∧
    (∀ d st, s.twin.silent = some d → s.rcv.step = some st → d + 4000 < s.time.rows →
      s.twin.role = .active ∨ s.twin.role = .taking →
      ∃ t, exec .step3Cancel s = .next t ∧ t.twin.silent = none ∧ t.rcv.step = none ∧ t.twin.role = s.twin.role ∧
        t.rcv.escal = min 65535 (s.rcv.escal + 1) ∧
        t.rcv.evq = s.rcv.evq ++ [(0x0A03, st.fn, escalationWords 3 3 st.fn)] ∧ t.lanes = s.lanes ∧ t.fab = s.fab) ∧
    (∀ r, Held 0x0A01 r s → fld (r.cmd.p 0) 63 11 = 0 →
      (fld (r.cmd.p 0) 2 0 = 2 → isFunction (fld (r.cmd.p 0) 9 3) = true → fld (r.cmd.p 0) 9 3 ≠ 7 →
        (s.fnDown (fld (r.cmd.p 0) 9 3) = false → s.rcv.deferred.any (fun x => x.f == fld (r.cmd.p 0) 9 3) = false →
          exec .recover s = .next { idle s with
            host.prog := s.host.prog ++ [r],
            rcv.deferred := s.rcv.deferred ++ [{ f := fld (r.cmd.p 0) 9 3, row := s.time.rows, key := some r.key }] }) ∧
        (s.fnDown (fld (r.cmd.p 0) 9 3) = true → exec .recover s = .next (finish r stBusy [] (idle s)))) ∧
      (fld (r.cmd.p 0) 2 0 = 4 →
        (s.rcv.step = none → s.boot.pwrCycle = false → exec .recover s = .next (finish r stOk [] { idle s with
          rcv.step := some { step := 4, row := r.row, key := some r.key, fn := 127, go := false, begun := false } })) ∧
        (s.rcv.step ≠ none ∨ s.boot.pwrCycle = true → exec .recover s = .next (finish r stBusy [] (idle s)))) ∧
      (fld (r.cmd.p 0) 2 0 = 3 → bit (r.cmd.p 0) 10 = false → coveredByPartner s = false →
        exec .recover s = .next (finish r stInvalidParam [] (idle s)))) ∧
    (∀ r, Held 0x0A02 r s → fld (r.cmd.p 0) 15 13 = 0 → fld (r.cmd.p 0) 63 48 = 0 → r.cmd.p 1 = 0 →
      fld (r.cmd.p 0) 47 32 = 0 ∨ 200 ≤ fld (r.cmd.p 0) 47 32 →
      exec .recoverCfg s = .next { idle s with host.prog := s.host.prog ++ [r] }) ∧
    (∀ r, ∃ h, applyRecoverCfg r s =
      finish r stOk [] { s with rcv.w0 := r.cmd.p 0, rcv.w1 := r.cmd.p 1, rcv.hist := h } ∧ (h = s.rcv.hist ∨ h = []))

/-- R216, R217, R401, R475, R476: the commands that write the flash or the fuses. The end of one whose engine does not reach the flash, and
the tick at which BT_APPLY takes effect, are the model's choices (log entries 116, 119). -/
def Obligations.FlashCommandsAct : Prop :=
  ∀ (r : Run) (s : State),
    (Held 0x0B12 r s → fld (r.cmd.p 0) 63 6 = 0 →
      exec .fwFloor s = .next (finish r (if s.boot.fwLevel < fld (r.cmd.p 0) 5 0 then stFwCheck else stOk) []
        (if s.boot.fwLevel < fld (r.cmd.p 0) 5 0 ∨ fld (r.cmd.p 0) 5 0 ≤ s.boot.secFloor then idle s
         else { idle s with boot.secFloor := fld (r.cmd.p 0) 5 0 }))) ∧
    (∀ img, Held 0x0B10 r s → bufOk (r.cmd.p 0) = true → fld (r.cmd.p 1) 63 24 = 0 →
      (s.boot.flash.isSome = true → exec (.fwWrite img) s = .next (finish r stBusy [] (idle s))) ∧
      (∀ i, img = some i → s.boot.flash = none → s.isGateway = true → s.hostUp = true →
        (fwAccepted i s.boot.secFloor = false → exec (.fwWrite img) s = .next (finish r stFwCheck [] (idle s))) ∧
        (fwAccepted i s.boot.secFloor = true → fld (r.cmd.p 1) 23 0 = 128 + fwLength i →
          ∃ t, exec (.fwWrite img) s = .next t ∧ t.boot.flash = some { kind := 0, key := r.key, img := some i } ∧
            t.boot.fwA = s.boot.fwA ∧ t.boot.bOk = false ∧ t.host.prog = s.host.prog ++ [r] ∧
            t = { s with boot := t.boot, host := t.host }))) ∧
    (∀ ok j, s.boot.flash = some j → j.kind = 0 → s.reaches 7 [7] = true →
      exec (.fwWriteDone ok) s = .next (finishKey j.key (if ok then stOk else stFwCheck) []
        (if ok then { s with boot.flash := none, boot.fwB := j.img, boot.bOk := true } else { s with boot.flash := none }))) ∧
    (∀ buf, Held 0x0B20 r s → bufOk (r.cmd.p 0) = true →
      (s.boot.flash.isSome = true → exec (.btWrite buf) s = .next (finish r stBusy [] (idle s))) ∧
      (∀ ws, buf = some ws → s.boot.flash = none → s.isGateway = true → s.hostUp = true →
        (s.btGood ws = none ∨ btSequence ws ≤ s.btSeq → exec (.btWrite buf) s = .next (finish r stBtCheck [] (idle s))) ∧
        ((s.btGood ws).isSome = true → s.btSeq < btSequence ws →
          ∃ t, exec (.btWrite buf) s = .next t ∧ t.boot.flash = some { kind := 1, key := r.key, words := btWords ws } ∧
            t.btSlot s.btInUse = s.btSlot s.btInUse ∧ t.boot.btUse = s.boot.btUse ∧ t.host.prog = s.host.prog ++ [r] ∧
            t = { s with boot := t.boot, host := t.host }))) ∧
    (∀ ok j, s.boot.flash = some j → j.kind = 1 → s.reaches 7 [7] = true →
      ∃ u, exec (.btWriteDone ok) s = .next (finishKey j.key (if ok then stOk else stBtCheck) [] u) ∧
        u.boot.flash = none ∧ u.btSlot s.btInUse = s.btSlot s.btInUse ∧
        u.btSlot (!s.btInUse) = (if ok then j.words else s.btSlot (!s.btInUse)) ∧ u = { s with boot := u.boot }) ∧
    (Held 0x0B21 r s →
      ((s.btGood (s.btSlot (!s.btInUse))).isSome = true → s.btSeq < btSequence (s.btSlot (!s.btInUse)) →
        exec .btApply s = .next { idle s with host.prog := s.host.prog ++ [r] }) ∧
      (s.btGood (s.btSlot (!s.btInUse)) = none ∨ btSequence (s.btSlot (!s.btInUse)) ≤ s.btSeq →
        exec .btApply s = .next (finish r stBtCheck [] (idle s)))) ∧
    (∀ x u, (u : State).btGood (u.btSlot (!u.btInUse)) = none ∨ btSequence (u.btSlot (!u.btInUse)) ≤ u.btSeq →
      applyTable x u = finish x stBtCheck [] u) ∧
    (Held 0x0802 r s → (r.cmd.p 0).toNat + 2 ^ 64 * (r.cmd.p 1).toNat = s.boot.uid.toNat →
      (s.flight.admitted = true → exec .admitMember s = .next (finish r stOk [] (idle s))) ∧
      (s.flight.admitted = false → s.boot.flash.isSome = true → exec .admitMember s = .next (finish r stBusy [] (idle s))) ∧
      (s.flight.admitted = false → s.boot.flash = none →
        exec .admitMember s = .next { idle s with
          host.prog := s.host.prog ++ [r], boot.flash := some { kind := 2, key := r.key } })) ∧
    (∀ j, s.boot.flash = some j → j.kind = 2 → s.reaches 7 [7] = true →
      (∃ u, exec (.admitDone ⟨true, true⟩) s = .next u ∧ u.flight.adm0 = admRecord s.boot.uid s.time.frame ∧
        u.flight.adm1 = admRecord s.boot.uid s.time.frame ∧ u.flight.admitted = true ∧ u.boot.flash = none ∧
        u.boot.replaced = false ∧ u.boot.alert = (s.boot.st == .failed || s.boot.pwrCycle) ∧ u.lanes = s.lanes) ∧
      (∃ u, exec (.admitDone ⟨true, false⟩) s = .next (finishKey j.key stBtCheck [] u) ∧ u.boot.flash = none ∧
        u.flight.admitted = s.flight.admitted ∧ u.flight.adm1 = admRecord s.boot.uid s.time.frame ∧ u.lanes = s.lanes) ∧
      (∀ first, ∃ u, exec (.admitDone ⟨false, first⟩) s = .next (finishKey j.key stBtCheck [] u) ∧ u.boot.flash = none ∧
        u.flight.admitted = s.flight.admitted ∧ u.flight.adm0 = s.flight.adm0 ∧ u.lanes = s.lanes)) ∧
    (∀ ok b j, s.boot.flash = some j → s.reaches 7 [7] = false →
      (j.kind = 0 → ∃ u, exec (.fwWriteDone ok) s = .next (finishKey j.key stFunctionDown [] u) ∧ u.boot = { s.boot with flash := none } ∧
        u.flight = s.flight ∧ u.host = s.host) ∧
      (j.kind = 1 → ∃ u, exec (.btWriteDone ok) s = .next (finishKey j.key stFunctionDown [] u) ∧ u.boot = { s.boot with flash := none } ∧
        u.flight = s.flight ∧ u.host = s.host) ∧
      (j.kind = 2 → ∃ u, exec (.admitDone b) s = .next (finishKey j.key stFunctionDown [] u) ∧ u.boot = { s.boot with flash := none } ∧
        u.flight = { s.flight with adm1 := u.flight.adm1 } ∧ u.host = s.host))

/-- R460 to R462, R465, R494: entering and leaving reset. What each cause leaves in RESETS and LAST_RESET is log entry 36, the values of
all that is discarded 33, what stays of the fuses 31, a reset while ADMIT writes 37, and what the board may rewrite 99. -/
def Obligations.ResetsDiscardVolatileState : Prop :=
  ∀ s : State,
    (∀ ns, ns < 100 → exec (.resetNFall ns) s = .next s) ∧
    (∀ ns, 100 ≤ ns → s.boot.resetN = true → ∃ t, exec (.resetNFall ns) s = .next t ∧ Discarded s t ∧
      t.boot.resetN = false ∧ t.boot.reflash = true ∧ t.rcv.resets = s.rcv.resets ∧ t.rcv.lastReset = (if s.boot.powerUp then 0 else 1)) ∧
    (∀ x, s.rcv.step = some x → x.step = 3 → x.begun = true → s.twin.silent = none ∨ s.twin.role = .steppedDown →
      ∃ t, exec .internalReset s = .next t ∧ Discarded s t ∧ t.boot.internal = true ∧
        t.rcv.resets = min 65535 (s.rcv.resets + 1) ∧ t.rcv.lastReset = (if x.fn = 127 then 2 else 3)) ∧
    (∀ ns, ns ≤ 2000 → exec (.railFailure ns) s = .next s) ∧
    (∀ ns, 2000 < ns → ∃ t, exec (.railFailure ns) s = .next t ∧ Discarded s t ∧ t.boot.railsOk = false ∧
      t.boot.powerUp = true ∧ t.rcv.resets = 0 ∧ t.rcv.lastReset = 0 ∧ t.boot.pwrCycle = false ∧ t.boot.alert = false) ∧
    (∃ t, exec .thermalTrip s = .next t ∧ Discarded s t ∧ t.boot.hot = true ∧ t.boot.powerUp = true ∧
      t.rcv.resets = 0 ∧ t.rcv.lastReset = 0) ∧
    (∀ st, s.boot.resetN = false → s.boot.railsOk = true → s.boot.hot = false → exec (.resetNRise st) s = .next
      { s with boot.resetN := true, boot.st := .rom, boot.straps := st, boot.powerUp := false }) ∧
    (∀ st, s.boot.internal = true → s.boot.resetN = true → s.boot.railsOk = true → s.boot.hot = false →
      exec (.internalResetEnd st) s = .next
        { s with boot.internal := false, boot.st := .rom, boot.straps := st, boot.powerUp := false }) ∧
    (∀ st, s.boot.railsOk = false → s.boot.resetN = true → s.boot.hot = false → exec (.railRecovery st) s = .next
      { s with boot.railsOk := true, boot.st := .rom, boot.straps := st, boot.powerUp := false }) ∧
    (∀ st, s.boot.hot = true → s.boot.resetN = true → s.boot.railsOk = true → exec (.thermalRelease st) s = .next
      { s with boot.hot := false, boot.st := .rom, boot.straps := st, boot.powerUp := false }) ∧
    (∀ st, s.boot.resetN = false → s.boot.railsOk = false ∨ s.boot.hot = true →
      exec (.resetNRise st) s = .next { s with boot.resetN := true })

/-- R470 to R473: the start-up states of Table 18.6 in their order. What each of the states does when is log entry 38, a start-up that
fails 39, the slots that the board rewrites 99 and a keeper that is not admitted 113. -/
def Obligations.StartUpRunsThroughItsStates : Prop :=
  ∀ s : State,
    (∀ f, s.boot.st = .rom → f.secFloor < 64 → s.boot.uid = 0 → exec (.romDone f) s = .next { s with
      boot.st := .fwLoad, boot.uid := f.uid, boot.order := f.order, boot.secFloor := max s.boot.secFloor f.secFloor }) ∧
    (∀ a b, s.boot.st = .fwLoad →
      let x := foundImage s.boot.reflash a s.boot.fwA
      let y := foundImage s.boot.reflash b s.boot.fwB
      ∃ t, exec (.fwLoadDone a b) s = .next t ∧ (s.boot.step3 = 0 → t = { s with boot := t.boot }) ∧
        (s.boot.straps.bootSrc = false → fwAccepted y s.boot.secFloor = true → t.boot.st = .btLoad ∧ t.boot.runB = true ∧
          t.boot.fwCause = 0 ∧ t.boot.fwMem = some y ∧ t.boot.fwVer = fwVersion y ∧ t.boot.fwLevel = fwLevelOf y) ∧
        (s.boot.straps.bootSrc = true ∨ fwAccepted y s.boot.secFloor = false → fwAccepted x s.boot.secFloor = true →
          t.boot.st = .btLoad ∧ t.boot.runB = false ∧ t.boot.fwCause = (if s.boot.straps.bootSrc then 2 else 1) ∧
          t.boot.fwMem = some x ∧ t.boot.fwVer = fwVersion x ∧ t.boot.fwLevel = fwLevelOf x) ∧
        (s.boot.straps.bootSrc = true ∨ fwAccepted y s.boot.secFloor = false → fwAccepted x s.boot.secFloor = false →
          t.boot.st = .failed ∧ t.boot.alert = true)) ∧
    (∀ a b, s.boot.st = .btLoad →
      let x := foundTable s.boot.reflash a s.boot.btA
      let y := foundTable s.boot.reflash b s.boot.btB
      ∃ t, exec (.btLoadDone a b) s = .next t ∧ t.boot.st = .clocks ∧ t.boot.btA = x ∧ t.boot.btB = y ∧
        t.boot.btUse = (if (s.btGood x).isSome then
            some ((s.btGood y).isSome && decide (btSequence x < btSequence y))
          else if (s.btGood y).isSome then some true else none) ∧
        t.fab = s.fab ∧ t.time.frame = s.time.frame ∧ t.planner = s.planner) ∧
    (s.boot.st = .clocks → exec .clocksDone s = .next { s with
      boot.st := .memory,
      mx.fast := if fld s.boot.board 1 0 = 0 then s.boot.straps.matrixFast else decide (fld s.boot.board 1 0 = 2) }) ∧
    (s.boot.st = .memory → exec .memoryDone s = .next { s with boot.st := .phase, flight.towRow := s.time.rows }) ∧
    (s.boot.st = .phase → s.time.frame = 0 → s.flight.firstSync = none → s.flight.towRow + phaseWait s < s.time.rows →
      ∃ t, exec .phaseSyncTimeout s = .next t ∧ t.time = { s.time with frame := 1, row := 0, anchored := false } ∧
        t.lanes = s.lanes ∧ t.fab = s.fab ∧ t.boot = s.boot ∧ ∀ b, b < 17 → (t.bank b).fromFrame = 1) ∧
    (s.boot.st = .phase → s.time.frame ≠ 0 → ∃ t, exec .phaseFixed s = .next t ∧ LanesAdmitted s t ∧
      t.boot = { s.boot with st := .services } ∧ t.time = s.time ∧ t.planner = s.planner ∧ t.host = s.host ∧ t.twin = s.twin ∧
      t.flight = s.flight) ∧
    (∀ f, s.boot.st = .phase → s.time.frame = 0 → s.flight.firstSync = some f →
      f.row ≤ s.flight.towRow + phaseWait s →
      ∃ t, exec .phaseFixed s = .next t ∧ t.boot = { s.boot with st := .services } ∧ t.time.anchored = f.anchored ∧
        t.time.frame = (syncCount f s).1 ∧ t.time.row = (syncCount f s).2 ∧ t.time.rows = s.time.rows ∧
        t.flight = { s.flight with counted := true } ∧ t.twin = s.twin ∧ LanesAdmitted s t) ∧
    (∀ a b, s.boot.st = .services → s.flight.adm0 = 0 → s.flight.adm1 = 0 →
      ∃ t, exec (.servicesDone a b) s = .next t ∧ t.boot.st = .ready ∧ t.flight.adm0 = a ∧ t.flight.adm1 = b ∧
        t.time = s.time ∧ t.planner = s.planner ∧
        (admJudge s.boot.uid a = some true ∨ admJudge s.boot.uid b = some true → t.flight.admitted = true ∧
          t.twin.role = (if s.boot.straps.keeperOnly then .keeper else if s.twinOn then .init else .solo)) ∧
        (admJudge s.boot.uid a ≠ some true → admJudge s.boot.uid b ≠ some true → t.flight.admitted = false ∧
          t.boot.alert = true ∧ t.twin.role = (if s.boot.straps.keeperOnly then .keeper else .init))) ∧
    (∀ why, (why = .noImage ∧ s.boot.st = .fwLoad) ∨
        (why = .noLocalosc ∧ (s.boot.st = .clocks ∨ s.boot.st = .memory ∨ s.boot.st = .phase ∨ s.boot.st = .services)) ∨
        (why = .store ∧ s.boot.st = .memory) ∨ (why = .service ∧ s.boot.st = .services) →
      ∃ t, exec (.startupFailed why) s = .next t ∧ t.boot.st = .failed ∧ t.boot.failedIn = s.boot.st ∧ t.boot.alert = true ∧
        t.boot.pwrCycle = (s.boot.pwrCycle || s.boot.step3 != 0) ∧ t.lanes = s.lanes ∧ t.time = s.time) ∧
    (s.boot.st = .ready ∨ s.boot.step3 = 0 → exec .startupTimeout s = .next s) ∧
    (s.boot.st ≠ .ready → s.boot.step3 ≠ 0 → ∃ t, exec .startupTimeout s = .next t ∧ t.boot.pwrCycle = true ∧
      t.boot.alert = true ∧ t.rcv.escal = min 65535 (s.rcv.escal + 1) ∧ t.lanes = s.lanes ∧ t.time = s.time)

/-- R30, R279: the frame and row count at a row tick; R59 to R62, R71: the space stage, whose word for a missing row is arbitrary and
marked invalid (log entry 5). The model's choices: the number after the highest frame (log entry
30), the count before PHASE has fixed it and the pins in FAILED (38), the tick that ends the wait for a SYNC (17) and which of two
re-alignments of one boundary acts (84). -/
def Obligations.RowTicksCountRowsAndFrames : Prop :=
  ∀ (inp : RowInput) (s : State),
    (s.ticking = false → ¬(s.boot.st = .failed ∧ s.boot.failedIn = .services) → exec (.rowTick inp) s = .next s) ∧
    (s.boot.st = .failed → s.boot.failedIn = .services → ∃ t, exec (.rowTick inp) s = .next t ∧ t.time.rows = s.time.rows + 1 ∧
      t.boot = s.boot ∧ t.planner = s.planner ∧ t.host = s.host ∧ t.pending = s.pending) ∧
    (s.ticking = true → ∃ t, exec (.rowTick inp) s = .next t ∧ t.time.rows = s.time.rows + 1 ∧
      t.pending = s.pending ∧
      (s.time.frame = 0 → (t.time.frame = 0 ∧ t.time.row = s.time.row) ∨ (t.time.frame = 1 ∧ t.time.row = 0)) ∧
      (s.time.frame = 0 → s.boot.st ≠ .phase → t.time.frame = 0 ∧ t.time.row = s.time.row) ∧
      (s.time.frame ≠ 0 → s.time.row < 249 → t.time.frame = s.time.frame ∧ t.time.row = s.time.row + 1) ∧
      (s.time.frame ≠ 0 → s.time.row = 249 → t.time.row = 0 ∧
        (s.realignAt s.time.frame = none → t.time.frame = frameNo (s.time.frame + 1)) ∧
        (∀ r, s.realignAt s.time.frame = some r → t.time.frame = r.n))) ∧
    (s.fab.running = false → (coreStep s).fab.cross = [] ∧ (coreStep s).fab.read = [] ∧ (coreStep s).fab.ingress = []) ∧
    (s.fab.running = true →
      let t := coreStep s
      let pg := spacePage s
      let place : Nat × Nat × BitVec 16 → Nat := fun u =>
        12288 * u.1 + (if bit u.2.2 14 then 6144 else 0) + fld u.2.2 12 0
      t.fab.read = s.fab.cross ∧ t.fab.ingressOut = s.fab.ingress ∧
      (switchOn s = true →
        (∀ u ∈ pg.used, pg.source u.1 u.2.2 ≠ none → kget none t.fab.cross (place u) ≠ none) ∧
        (∀ k w, kget none t.fab.cross k = some w → ∃ u ∈ pg.used, ∃ src, pg.source u.1 u.2.2 = some src ∧ k = place u ∧
          (∀ x, rowWord s.fab.ingress src.1 src.2 = some x → w = x) ∧
          (rowWord s.fab.ingress src.1 src.2 = none → w.2 = false))))

/-- R104, R344, R442, R461: what reset leaves, of the values that the spec gives. -/
def Obligations.ResetLeavesTheStatedValues : Prop :=
  State.reset.boot.st = .reset ∧ State.reset.boot.resetN = false ∧ State.reset.time.frame = 0 ∧
  State.reset.time.anchored = false ∧ State.reset.fab.act.gen = 1 ∧ State.reset.fab.stby.gen = 0 ∧
  State.reset.fab.act = { gen := 1 } ∧ QueuesGone State.reset ∧ State.reset.f.state = .freeRun ∧
  State.reset.f.selected = none ∧ (∀ i, (State.reset.lane i).bring = .off) ∧ State.reset.twin.role = .init ∧
  State.reset.rcv.w0 = 0xFF ∧ State.reset.rcv.resets = 0 ∧ State.reset.rcv.lastReset = 0 ∧
  State.reset.pending = [] ∧ Safe State.reset

/-- No command of the table stops the block: each one, with operands of the sizes that the spec gives, answers a next state in
every state. That an operand beyond the objects of the device stops is the model's choice (log entry 64). -/
def Obligations.WellFormedCommandsComplete : Prop :=
  ∀ (c : Instr) (s : State), c.wf = true → Completes c s

/-- The queue of waiting commands is the model's own and outside the device: no command writes it (DESIGN CHOICE, log entry 1). -/
def Obligations.QueueUntouched : Prop :=
  ∀ (c : Instr) (s t : State), exec c s = .next t → t.pending = s.pending

/-- R30: the row within the frame stays below 250, and every write to host memory keeps its canonical form. -/
def Obligations.StepKeepsSafe : Prop :=
  ∀ s t : State, Safe s → step s = .next t → Safe t

/-- R475, R476: what no command can change. -/
def Obligations.FusesAndSlotAStand : Prop :=
  ∀ s t : State, step s = .next t →
    s.boot.secFloor ≤ t.boot.secFloor ∧
    (s.boot.uid ≠ 0 → t.boot.uid = s.boot.uid ∧ t.boot.order = s.boot.order) ∧
    (∀ i, s.boot.reflash = false → s.boot.fwA = some i → t.boot.fwA = some i)
end

