-- ==== Sys2Proof/Laws/Stores.lean ====
section
/-! SUPPORT. Keyed stores and host memory: what a read answers after a write, and that every operation keeps the canonical
form. -/

namespace Sys2Proof.Machine

open Sys2Proof

variable {α : Type}

/-! ## Reads after writes -/

@[simp] theorem kget_nil (d : α) (i : Nat) : kget d [] i = d := rfl

theorem kget_kerase_same (d : α) (m : KMap α) (i : Nat) : kget d (kerase i m) i = d := by
  induction m with
  | nil => rfl
  | cons e m ih =>
    obtain ⟨k, v⟩ := e
    by_cases h : k = i
    · simp [kerase, h]; exact ih
    · simp [kerase, kget, h]; exact ih

theorem kget_kerase_other (d : α) (m : KMap α) {i j : Nat} (h : j ≠ i) : kget d (kerase i m) j = kget d m j := by
  induction m with
  | nil => rfl
  | cons e m ih =>
    obtain ⟨k, v⟩ := e
    by_cases hk : k = i
    · subst hk
      simp only [kerase, List.filter_cons, bne_self_eq_false, Bool.false_eq_true, if_false, kget, Ne.symm h]
      exact ih
    · have hk' : (k != i) = true := by simpa using hk
      simp only [kerase, List.filter_cons, hk', if_true, kget]
      split
      · rfl
      · exact ih

theorem kget_kput_same (d : α) (m : KMap α) (i : Nat) (x : α) : kget d (kput i x m) i = x := by
  induction m with
  | nil => simp [kput, kget]
  | cons e m ih =>
    obtain ⟨k, v⟩ := e
    simp only [kput]
    split
    · rename_i h
      simp [kget, Nat.ne_of_lt h, ih]
    · split <;> simp [kget]

theorem kget_kput_other (d : α) (m : KMap α) {i j : Nat} (x : α) (h : j ≠ i) :
    kget d (kput i x m) j = kget d m j := by
  induction m with
  | nil => simp [kput, kget, Ne.symm h]
  | cons e m ih =>
    obtain ⟨k, v⟩ := e
    simp only [kput]
    split
    · simp [kget, ih]
    · split
      · rename_i hk
        subst hk
        simp [kget, Ne.symm h]
      · simp [kget, Ne.symm h]

/-- A read of the key written answers the value written. -/
@[simp] theorem kget_kset_same [DecidableEq α] (d : α) (m : KMap α) (i : Nat) (x : α) : kget d (kset d m i x) i = x := by
  unfold kset
  split
  · rename_i h
    rw [kget_kerase_same, h]
  · exact kget_kput_same d m i x

/-- A write of one key leaves what every other key reads. -/
theorem kget_kset_other [DecidableEq α] (d : α) (m : KMap α) {i j : Nat} (x : α) (h : j ≠ i) :
    kget d (kset d m i x) j = kget d m j := by
  unfold kset
  split
  · exact kget_kerase_other d m h
  · exact kget_kput_other d m x h

/-- Both cases of a read after a write. -/
theorem kget_kset [DecidableEq α] (d : α) (m : KMap α) (i j : Nat) (x : α) :
    kget d (kset d m i x) j = if j = i then x else kget d m j := by
  split
  · rename_i h
    rw [h, kget_kset_same]
  · rename_i h
    exact kget_kset_other d m x h

/-! ## Canonical form -/

theorem risingFrom_le {m : List (Nat × α)} {n k : Nat} (h : risingFrom n m = true) (hk : k ≤ n) : risingFrom k m = true := by
  cases m with
  | nil => rfl
  | cons e m =>
    obtain ⟨a, v⟩ := e
    simp only [risingFrom, Bool.and_eq_true, decide_eq_true_eq] at h ⊢
    exact ⟨Nat.le_trans hk h.1, h.2⟩

theorem risingFrom_filter (p : Nat × α → Bool) {m : List (Nat × α)} {n : Nat} (h : risingFrom n m = true) :
    risingFrom n (m.filter p) = true := by
  induction m generalizing n with
  | nil => rfl
  | cons e m ih =>
    obtain ⟨a, v⟩ := e
    simp only [risingFrom, Bool.and_eq_true, decide_eq_true_eq] at h
    simp only [List.filter_cons]
    split
    · simp only [risingFrom, Bool.and_eq_true, decide_eq_true_eq]
      exact ⟨h.1, ih h.2⟩
    · exact risingFrom_le (ih h.2) (Nat.le_succ_of_le h.1)

theorem risingFrom_kput {m : KMap α} {n : Nat} (i : Nat) (x : α) (h : risingFrom n m = true) (hi : n ≤ i) :
    risingFrom n (kput i x m) = true := by
  induction m generalizing n with
  | nil => simp [kput, risingFrom, hi]
  | cons e m ih =>
    obtain ⟨a, v⟩ := e
    simp only [risingFrom, Bool.and_eq_true, decide_eq_true_eq] at h
    simp only [kput]
    split
    · rename_i hlt
      simp only [risingFrom, Bool.and_eq_true, decide_eq_true_eq]
      exact ⟨h.1, ih h.2 hlt⟩
    · split
      · rename_i heq
        subst heq
        simp only [risingFrom, Bool.and_eq_true, decide_eq_true_eq]
        exact ⟨h.1, h.2⟩
      · simp only [risingFrom, Bool.and_eq_true, decide_eq_true_eq]
        exact ⟨hi, by omega, h.2⟩

theorem mem_kput {m : KMap α} {i : Nat} {x : α} {e : Nat × α} (h : e ∈ kput i x m) : e = (i, x) ∨ e ∈ m := by
  induction m with
  | nil => simpa [kput] using h
  | cons a m ih =>
    obtain ⟨k, v⟩ := a
    simp only [kput] at h
    split at h
    · rcases List.mem_cons.mp h with h | h
      · simp [h]
      · rcases ih h with h | h <;> simp [h]
    · split at h
      · rcases List.mem_cons.mp h with h | h <;> simp [h]
      · rcases List.mem_cons.mp h with h | h
        · simp [h]
        · exact .inr h

/-- A write keeps the canonical form. -/
theorem kset_wf [DecidableEq α] {d : α} {m : KMap α} (i : Nat) (x : α) (h : KMap.wf d m = true) :
    KMap.wf d (kset d m i x) = true := by
  simp only [KMap.wf, Bool.and_eq_true, List.all_eq_true, decide_eq_true_eq] at h ⊢
  unfold kset
  split
  · exact ⟨risingFrom_filter _ h.1, fun e he => h.2 e (List.mem_filter.mp he).1⟩
  · rename_i hx
    refine ⟨risingFrom_kput i x h.1 (Nat.zero_le _), fun e he => ?_⟩
    rcases mem_kput he with he | he
    · rw [he]; exact hx
    · exact h.2 e he

theorem risingFrom_kmapped [DecidableEq α] (d : α) (f : Nat → α → α) {m : KMap α} {n : Nat} (h : risingFrom n m = true) :
    risingFrom n (kmap d f m) = true := by
  induction m generalizing n with
  | nil => rfl
  | cons e m ih =>
    obtain ⟨a, v⟩ := e
    simp only [risingFrom, Bool.and_eq_true, decide_eq_true_eq] at h
    unfold kmap
    simp only [List.filterMap_cons]
    split
    · exact risingFrom_le (ih h.2) (Nat.le_succ_of_le h.1)
    · rename_i b hb
      have hb' : b.1 = a := by
        by_cases hd : f a v = d
        · simp [hd] at hb
        · simp only [hd, if_false, Option.some.injEq] at hb
          rw [← hb]
      obtain ⟨b1, b2⟩ := b
      simp only at hb'
      subst hb'
      simp only [risingFrom, Bool.and_eq_true, decide_eq_true_eq]
      exact ⟨h.1, ih h.2⟩

/-- A change of every listed value keeps the canonical form. -/
theorem kmap_wf [DecidableEq α] {d : α} {m : KMap α} (f : Nat → α → α) (h : KMap.wf d m = true) :
    KMap.wf d (kmap d f m) = true := by
  simp only [KMap.wf, Bool.and_eq_true, List.all_eq_true, decide_eq_true_eq] at h ⊢
  refine ⟨risingFrom_kmapped d f h.1, fun e he => ?_⟩
  obtain ⟨a, _, ha⟩ := List.mem_filterMap.mp he
  by_cases hd : f a.1 a.2 = d
  · simp [hd] at ha
  · simp only [hd, if_false, Option.some.injEq] at ha
    rw [← ha]
    exact hd

theorem ksetRun_wf [DecidableEq α] {d : α} (xs : List α) {m : KMap α} (i : Nat) (h : KMap.wf d m = true) :
    KMap.wf d (ksetRun d m i xs) = true := by
  induction xs generalizing m i with
  | nil => exact h
  | cons x xs ih => exact ih (i + 1) (kset_wf i x h)

/-! ## Host memory -/

theorem read_set_same (m : List Host.Cell) (a : Nat) (b : BitVec 8) : Memory.read (Memory.set m a b) a = some b := by
  induction m with
  | nil => simp [Memory.set, Memory.read]
  | cons e m ih =>
    obtain ⟨k, v⟩ := e
    simp only [Memory.set]
    split
    · rename_i h
      simp [Memory.read, Nat.ne_of_lt h, ih]
    · split <;> simp [Memory.read]

theorem read_set_other (m : List Host.Cell) {a c : Nat} (b : BitVec 8) (h : c ≠ a) :
    Memory.read (Memory.set m a b) c = Memory.read m c := by
  induction m with
  | nil => simp [Memory.set, Memory.read, Ne.symm h]
  | cons e m ih =>
    obtain ⟨k, v⟩ := e
    simp only [Memory.set]
    split
    · simp [Memory.read, ih]
    · split
      · rename_i hk
        subst hk
        simp [Memory.read, Ne.symm h]
      · simp [Memory.read, Ne.symm h]

/-- A byte outside the bytes written reads as before. -/
theorem read_write_other (bs : List (BitVec 8)) (m : List Host.Cell) (a c : Nat)
    (h : ∀ i, i < bs.length → c ≠ (a + i) % 2 ^ 64) : Memory.read (Memory.write m a bs) c = Memory.read m c := by
  induction bs generalizing m a with
  | nil => rfl
  | cons b bs ih =>
    have h0 : c ≠ a % 2 ^ 64 := by simpa using h 0 (by simp)
    rw [Memory.write, ih, read_set_other _ _ h0]
    intro i hi
    have := h (i + 1) (by simpa using hi)
    rwa [Nat.add_assoc, Nat.add_comm 1 i]

theorem risingFrom_set {m : List Host.Cell} {n a : Nat} (b : BitVec 8) (h : risingFrom n m = true) (ha : n ≤ a) :
    risingFrom n (Memory.set m a b) = true := by
  induction m generalizing n with
  | nil => simp [Memory.set, risingFrom, ha]
  | cons e m ih =>
    obtain ⟨k, v⟩ := e
    simp only [risingFrom, Bool.and_eq_true, decide_eq_true_eq] at h
    simp only [Memory.set]
    split
    · rename_i hlt
      simp only [risingFrom, Bool.and_eq_true, decide_eq_true_eq]
      exact ⟨h.1, ih h.2 hlt⟩
    · split
      · rename_i heq
        subst heq
        simp only [risingFrom, Bool.and_eq_true, decide_eq_true_eq]
        exact ⟨h.1, h.2⟩
      · simp only [risingFrom, Bool.and_eq_true, decide_eq_true_eq]
        exact ⟨ha, by omega, h.2⟩

/-- Every write of host memory keeps its canonical form. -/
theorem write_wf (bs : List (BitVec 8)) {m : List Host.Cell} (a : Nat) (h : Memory.wf m = true) :
    Memory.wf (Memory.write m a bs) = true := by
  induction bs generalizing m a with
  | nil => exact h
  | cons b bs ih => exact ih (a + 1) (risingFrom_set b h (Nat.zero_le _))

/-! ## Folds -/

/-- What every element's effect keeps, a fold over the elements keeps. -/
theorem foldl_keeps {σ β : Type} (P : σ → Prop) (f : σ → β → σ) (hf : ∀ s b, P s → P (f s b)) (l : List β) (s : σ) (h : P s) :
    P (l.foldl f s) := by
  induction l generalizing s with
  | nil => exact h
  | cons b l ih => exact ih (f s b) (hf s b h)

/-- A part of the state that no element's effect changes, a fold over the elements does not change. -/
theorem foldl_same {σ β τ : Type} (p : σ → τ) (f : σ → β → σ) (hf : ∀ s b, p (f s b) = p s) (l : List β) (s : σ) :
    p (l.foldl f s) = p s := by
  induction l generalizing s with
  | nil => rfl
  | cons b l ih => exact (ih (f s b)).trans (hf s b)

end Sys2Proof.Machine
end

