-- ==== Sys2Proof/Laws/State.lean ====
section
/-! SUPPORT. The fields of a state after a choice between two states and after a fold of updates that leave them. -/

namespace Sys2Proof.Machine

open Sys2Proof

@[simp] theorem ite_time (c : Prop) [Decidable c] (a b : State) :
    (if c then a else b).time = if c then a.time else b.time := by split <;> rfl

@[simp] theorem foldl_time {β : Type} (g : State → β → State) (hg : ∀ s b, (g s b).time = s.time) (l : List β) (s : State) :
    (l.foldl g s).time = s.time := foldl_same (fun s => s.time) g hg l s

@[simp] theorem ite_p (c : Prop) [Decidable c] (a b : State) :
    (if c then a else b).p = if c then a.p else b.p := by split <;> rfl

@[simp] theorem foldl_p {β : Type} (g : State → β → State) (hg : ∀ s b, (g s b).p = s.p) (l : List β) (s : State) :
    (l.foldl g s).p = s.p := foldl_same (fun s => s.p) g hg l s

@[simp] theorem ite_outs (c : Prop) [Decidable c] (a b : State) :
    (if c then a else b).outs = if c then a.outs else b.outs := by split <;> rfl

@[simp] theorem foldl_outs {β : Type} (g : State → β → State) (hg : ∀ s b, (g s b).outs = s.outs) (l : List β) (s : State) :
    (l.foldl g s).outs = s.outs := foldl_same (fun s => s.outs) g hg l s

@[simp] theorem ite_f (c : Prop) [Decidable c] (a b : State) :
    (if c then a else b).f = if c then a.f else b.f := by split <;> rfl

@[simp] theorem foldl_f {β : Type} (g : State → β → State) (hg : ∀ s b, (g s b).f = s.f) (l : List β) (s : State) :
    (l.foldl g s).f = s.f := foldl_same (fun s => s.f) g hg l s

@[simp] theorem ite_refs (c : Prop) [Decidable c] (a b : State) :
    (if c then a else b).refs = if c then a.refs else b.refs := by split <;> rfl

@[simp] theorem foldl_refs {β : Type} (g : State → β → State) (hg : ∀ s b, (g s b).refs = s.refs) (l : List β) (s : State) :
    (l.foldl g s).refs = s.refs := foldl_same (fun s => s.refs) g hg l s

@[simp] theorem ite_lanes (c : Prop) [Decidable c] (a b : State) :
    (if c then a else b).lanes = if c then a.lanes else b.lanes := by split <;> rfl

@[simp] theorem foldl_lanes {β : Type} (g : State → β → State) (hg : ∀ s b, (g s b).lanes = s.lanes) (l : List β) (s : State) :
    (l.foldl g s).lanes = s.lanes := foldl_same (fun s => s.lanes) g hg l s

@[simp] theorem ite_octets (c : Prop) [Decidable c] (a b : State) :
    (if c then a else b).octets = if c then a.octets else b.octets := by split <;> rfl

@[simp] theorem foldl_octets {β : Type} (g : State → β → State) (hg : ∀ s b, (g s b).octets = s.octets) (l : List β) (s : State) :
    (l.foldl g s).octets = s.octets := foldl_same (fun s => s.octets) g hg l s

@[simp] theorem ite_sels (c : Prop) [Decidable c] (a b : State) :
    (if c then a else b).sels = if c then a.sels else b.sels := by split <;> rfl

@[simp] theorem foldl_sels {β : Type} (g : State → β → State) (hg : ∀ s b, (g s b).sels = s.sels) (l : List β) (s : State) :
    (l.foldl g s).sels = s.sels := foldl_same (fun s => s.sels) g hg l s

@[simp] theorem ite_fab (c : Prop) [Decidable c] (a b : State) :
    (if c then a else b).fab = if c then a.fab else b.fab := by split <;> rfl

@[simp] theorem foldl_fab {β : Type} (g : State → β → State) (hg : ∀ s b, (g s b).fab = s.fab) (l : List β) (s : State) :
    (l.foldl g s).fab = s.fab := foldl_same (fun s => s.fab) g hg l s

@[simp] theorem ite_planner (c : Prop) [Decidable c] (a b : State) :
    (if c then a else b).planner = if c then a.planner else b.planner := by split <;> rfl

@[simp] theorem foldl_planner {β : Type} (g : State → β → State) (hg : ∀ s b, (g s b).planner = s.planner) (l : List β) (s : State) :
    (l.foldl g s).planner = s.planner := foldl_same (fun s => s.planner) g hg l s

@[simp] theorem ite_host (c : Prop) [Decidable c] (a b : State) :
    (if c then a else b).host = if c then a.host else b.host := by split <;> rfl

@[simp] theorem foldl_host {β : Type} (g : State → β → State) (hg : ∀ s b, (g s b).host = s.host) (l : List β) (s : State) :
    (l.foldl g s).host = s.host := foldl_same (fun s => s.host) g hg l s

@[simp] theorem ite_twin (c : Prop) [Decidable c] (a b : State) :
    (if c then a else b).twin = if c then a.twin else b.twin := by split <;> rfl

@[simp] theorem foldl_twin {β : Type} (g : State → β → State) (hg : ∀ s b, (g s b).twin = s.twin) (l : List β) (s : State) :
    (l.foldl g s).twin = s.twin := foldl_same (fun s => s.twin) g hg l s

@[simp] theorem ite_ckpt (c : Prop) [Decidable c] (a b : State) :
    (if c then a else b).ckpt = if c then a.ckpt else b.ckpt := by split <;> rfl

@[simp] theorem foldl_ckpt {β : Type} (g : State → β → State) (hg : ∀ s b, (g s b).ckpt = s.ckpt) (l : List β) (s : State) :
    (l.foldl g s).ckpt = s.ckpt := foldl_same (fun s => s.ckpt) g hg l s

@[simp] theorem ite_keeper (c : Prop) [Decidable c] (a b : State) :
    (if c then a else b).keeper = if c then a.keeper else b.keeper := by split <;> rfl

@[simp] theorem foldl_keeper {β : Type} (g : State → β → State) (hg : ∀ s b, (g s b).keeper = s.keeper) (l : List β) (s : State) :
    (l.foldl g s).keeper = s.keeper := foldl_same (fun s => s.keeper) g hg l s

@[simp] theorem ite_flight (c : Prop) [Decidable c] (a b : State) :
    (if c then a else b).flight = if c then a.flight else b.flight := by split <;> rfl

@[simp] theorem foldl_flight {β : Type} (g : State → β → State) (hg : ∀ s b, (g s b).flight = s.flight) (l : List β) (s : State) :
    (l.foldl g s).flight = s.flight := foldl_same (fun s => s.flight) g hg l s

@[simp] theorem ite_mx (c : Prop) [Decidable c] (a b : State) :
    (if c then a else b).mx = if c then a.mx else b.mx := by split <;> rfl

@[simp] theorem foldl_mx {β : Type} (g : State → β → State) (hg : ∀ s b, (g s b).mx = s.mx) (l : List β) (s : State) :
    (l.foldl g s).mx = s.mx := foldl_same (fun s => s.mx) g hg l s

@[simp] theorem ite_ctr (c : Prop) [Decidable c] (a b : State) :
    (if c then a else b).ctr = if c then a.ctr else b.ctr := by split <;> rfl

@[simp] theorem foldl_ctr {β : Type} (g : State → β → State) (hg : ∀ s b, (g s b).ctr = s.ctr) (l : List β) (s : State) :
    (l.foldl g s).ctr = s.ctr := foldl_same (fun s => s.ctr) g hg l s

@[simp] theorem ite_rcv (c : Prop) [Decidable c] (a b : State) :
    (if c then a else b).rcv = if c then a.rcv else b.rcv := by split <;> rfl

@[simp] theorem foldl_rcv {β : Type} (g : State → β → State) (hg : ∀ s b, (g s b).rcv = s.rcv) (l : List β) (s : State) :
    (l.foldl g s).rcv = s.rcv := foldl_same (fun s => s.rcv) g hg l s

@[simp] theorem ite_boot (c : Prop) [Decidable c] (a b : State) :
    (if c then a else b).boot = if c then a.boot else b.boot := by split <;> rfl

@[simp] theorem foldl_boot {β : Type} (g : State → β → State) (hg : ∀ s b, (g s b).boot = s.boot) (l : List β) (s : State) :
    (l.foldl g s).boot = s.boot := foldl_same (fun s => s.boot) g hg l s

@[simp] theorem ite_out (c : Prop) [Decidable c] (a b : State) :
    (if c then a else b).out = if c then a.out else b.out := by split <;> rfl

@[simp] theorem foldl_out {β : Type} (g : State → β → State) (hg : ∀ s b, (g s b).out = s.out) (l : List β) (s : State) :
    (l.foldl g s).out = s.out := foldl_same (fun s => s.out) g hg l s

@[simp] theorem ite_free (c : Prop) [Decidable c] (a b : State) :
    (if c then a else b).free = if c then a.free else b.free := by split <;> rfl

@[simp] theorem foldl_free {β : Type} (g : State → β → State) (hg : ∀ s b, (g s b).free = s.free) (l : List β) (s : State) :
    (l.foldl g s).free = s.free := foldl_same (fun s => s.free) g hg l s

@[simp] theorem ite_pending (c : Prop) [Decidable c] (a b : State) :
    (if c then a else b).pending = if c then a.pending else b.pending := by split <;> rfl

@[simp] theorem foldl_pending {β : Type} (g : State → β → State) (hg : ∀ s b, (g s b).pending = s.pending) (l : List β) (s : State) :
    (l.foldl g s).pending = s.pending := foldl_same (fun s => s.pending) g hg l s

@[simp] theorem ite_mem (c : Prop) [Decidable c] (a b : HostIf) :
    (if c then a else b).mem = if c then a.mem else b.mem := by split <;> rfl

@[simp] theorem foldl_host_mem {β : Type} (g : State → β → State) (hg : ∀ s b, (g s b).host.mem = s.host.mem) (l : List β) (s : State) :
    (l.foldl g s).host.mem = s.host.mem := foldl_same (fun s => s.host.mem) g hg l s

@[simp] theorem ite_engine (c : Prop) [Decidable c] (a b : HostIf) :
    (if c then a else b).engine = if c then a.engine else b.engine := by split <;> rfl

@[simp] theorem foldl_host_engine {β : Type} (g : State → β → State) (hg : ∀ s b, (g s b).host.engine = s.host.engine) (l : List β) (s : State) :
    (l.foldl g s).host.engine = s.host.engine := foldl_same (fun s => s.host.engine) g hg l s

@[simp] theorem ite_work (c : Prop) [Decidable c] (a b : HostIf) :
    (if c then a else b).work = if c then a.work else b.work := by split <;> rfl

@[simp] theorem foldl_host_work {β : Type} (g : State → β → State) (hg : ∀ s b, (g s b).host.work = s.host.work) (l : List β) (s : State) :
    (l.foldl g s).host.work = s.host.work := foldl_same (fun s => s.host.work) g hg l s

end Sys2Proof.Machine
end

