-- ==== Sys2Proof/Laws/FramesOps.lean ====
section
/-! SUPPORT. What the operations of Machine/Ops.lean leave as it was: one lemma per operation. -/

namespace Sys2Proof.Machine

open Sys2Proof

@[simp] theorem State.modLane_frame (s : State) (i : Nat) (f : Lane → Lane) :
    (State.modLane s i f).time = s.time ∧ (State.modLane s i f).p = s.p ∧ (State.modLane s i f).outs = s.outs ∧
    (State.modLane s i f).f = s.f ∧ (State.modLane s i f).refs = s.refs ∧ (State.modLane s i f).octets = s.octets ∧
    (State.modLane s i f).sels = s.sels ∧ (State.modLane s i f).fab = s.fab ∧
    (State.modLane s i f).planner = s.planner ∧ (State.modLane s i f).host = s.host ∧
    (State.modLane s i f).twin = s.twin ∧ (State.modLane s i f).ckpt = s.ckpt ∧
    (State.modLane s i f).keeper = s.keeper ∧ (State.modLane s i f).flight = s.flight ∧
    (State.modLane s i f).mx = s.mx ∧ (State.modLane s i f).ctr = s.ctr ∧ (State.modLane s i f).rcv = s.rcv ∧
    (State.modLane s i f).boot = s.boot ∧ (State.modLane s i f).out = s.out ∧ (State.modLane s i f).free = s.free ∧
    (State.modLane s i f).pending = s.pending := by
  simp [State.modLane]

@[simp] theorem State.modInput_frame (s : State) (n : Nat) (f : Input → Input) :
    (State.modInput s n f).time = s.time ∧ (State.modInput s n f).p = s.p ∧ (State.modInput s n f).outs = s.outs ∧
    (State.modInput s n f).f = s.f ∧ (State.modInput s n f).lanes = s.lanes ∧
    (State.modInput s n f).octets = s.octets ∧ (State.modInput s n f).sels = s.sels ∧
    (State.modInput s n f).fab = s.fab ∧ (State.modInput s n f).planner = s.planner ∧
    (State.modInput s n f).host = s.host ∧ (State.modInput s n f).twin = s.twin ∧
    (State.modInput s n f).ckpt = s.ckpt ∧ (State.modInput s n f).keeper = s.keeper ∧
    (State.modInput s n f).flight = s.flight ∧ (State.modInput s n f).mx = s.mx ∧ (State.modInput s n f).ctr = s.ctr ∧
    (State.modInput s n f).rcv = s.rcv ∧ (State.modInput s n f).boot = s.boot ∧ (State.modInput s n f).out = s.out ∧
    (State.modInput s n f).free = s.free ∧ (State.modInput s n f).pending = s.pending := by
  simp [State.modInput]

@[simp] theorem State.modSel_frame (s : State) (t : Nat) (f : Sel → Sel) :
    (State.modSel s t f).time = s.time ∧ (State.modSel s t f).p = s.p ∧ (State.modSel s t f).outs = s.outs ∧
    (State.modSel s t f).f = s.f ∧ (State.modSel s t f).refs = s.refs ∧ (State.modSel s t f).lanes = s.lanes ∧
    (State.modSel s t f).octets = s.octets ∧ (State.modSel s t f).fab = s.fab ∧
    (State.modSel s t f).planner = s.planner ∧ (State.modSel s t f).host = s.host ∧
    (State.modSel s t f).twin = s.twin ∧ (State.modSel s t f).ckpt = s.ckpt ∧ (State.modSel s t f).keeper = s.keeper ∧
    (State.modSel s t f).flight = s.flight ∧ (State.modSel s t f).mx = s.mx ∧ (State.modSel s t f).ctr = s.ctr ∧
    (State.modSel s t f).rcv = s.rcv ∧ (State.modSel s t f).boot = s.boot ∧ (State.modSel s t f).out = s.out ∧
    (State.modSel s t f).free = s.free ∧ (State.modSel s t f).pending = s.pending := by
  simp [State.modSel]

@[simp] theorem State.modOctet_frame (s : State) (k : Nat) (f : Octet → Octet) :
    (State.modOctet s k f).time = s.time ∧ (State.modOctet s k f).p = s.p ∧ (State.modOctet s k f).outs = s.outs ∧
    (State.modOctet s k f).f = s.f ∧ (State.modOctet s k f).refs = s.refs ∧ (State.modOctet s k f).lanes = s.lanes ∧
    (State.modOctet s k f).sels = s.sels ∧ (State.modOctet s k f).fab = s.fab ∧
    (State.modOctet s k f).planner = s.planner ∧ (State.modOctet s k f).host = s.host ∧
    (State.modOctet s k f).twin = s.twin ∧ (State.modOctet s k f).ckpt = s.ckpt ∧
    (State.modOctet s k f).keeper = s.keeper ∧ (State.modOctet s k f).flight = s.flight ∧
    (State.modOctet s k f).mx = s.mx ∧ (State.modOctet s k f).ctr = s.ctr ∧ (State.modOctet s k f).rcv = s.rcv ∧
    (State.modOctet s k f).boot = s.boot ∧ (State.modOctet s k f).out = s.out ∧ (State.modOctet s k f).free = s.free ∧
    (State.modOctet s k f).pending = s.pending := by
  simp [State.modOctet]

@[simp] theorem State.modMember_frame (s : State) (a : Nat) (f : Member → Member) :
    (State.modMember s a f).time = s.time ∧ (State.modMember s a f).p = s.p ∧ (State.modMember s a f).outs = s.outs ∧
    (State.modMember s a f).f = s.f ∧ (State.modMember s a f).refs = s.refs ∧
    (State.modMember s a f).lanes = s.lanes ∧ (State.modMember s a f).octets = s.octets ∧
    (State.modMember s a f).sels = s.sels ∧ (State.modMember s a f).fab = s.fab ∧
    (State.modMember s a f).planner = s.planner ∧ (State.modMember s a f).host = s.host ∧
    (State.modMember s a f).twin = s.twin ∧ (State.modMember s a f).ckpt = s.ckpt ∧
    (State.modMember s a f).keeper = s.keeper ∧ (State.modMember s a f).mx = s.mx ∧
    (State.modMember s a f).ctr = s.ctr ∧ (State.modMember s a f).rcv = s.rcv ∧
    (State.modMember s a f).boot = s.boot ∧ (State.modMember s a f).out = s.out ∧
    (State.modMember s a f).free = s.free ∧ (State.modMember s a f).pending = s.pending := by
  simp [State.modMember]

@[simp] theorem State.setSq_frame (s : State) (q : Nat) (x : Option Sq) :
    (State.setSq s q x).time = s.time ∧ (State.setSq s q x).p = s.p ∧ (State.setSq s q x).outs = s.outs ∧
    (State.setSq s q x).f = s.f ∧ (State.setSq s q x).refs = s.refs ∧ (State.setSq s q x).lanes = s.lanes ∧
    (State.setSq s q x).octets = s.octets ∧ (State.setSq s q x).sels = s.sels ∧ (State.setSq s q x).fab = s.fab ∧
    (State.setSq s q x).planner = s.planner ∧ (State.setSq s q x).host.mem = s.host.mem ∧
    (State.setSq s q x).host.engine = s.host.engine ∧ (State.setSq s q x).host.work = s.host.work ∧
    (State.setSq s q x).twin = s.twin ∧ (State.setSq s q x).ckpt = s.ckpt ∧ (State.setSq s q x).keeper = s.keeper ∧
    (State.setSq s q x).flight = s.flight ∧ (State.setSq s q x).mx = s.mx ∧ (State.setSq s q x).ctr = s.ctr ∧
    (State.setSq s q x).rcv = s.rcv ∧ (State.setSq s q x).boot = s.boot ∧ (State.setSq s q x).out = s.out ∧
    (State.setSq s q x).free = s.free ∧ (State.setSq s q x).pending = s.pending := by
  simp [State.setSq]

@[simp] theorem State.setCq_frame (s : State) (q : Nat) (x : Option Cq) :
    (State.setCq s q x).time = s.time ∧ (State.setCq s q x).p = s.p ∧ (State.setCq s q x).outs = s.outs ∧
    (State.setCq s q x).f = s.f ∧ (State.setCq s q x).refs = s.refs ∧ (State.setCq s q x).lanes = s.lanes ∧
    (State.setCq s q x).octets = s.octets ∧ (State.setCq s q x).sels = s.sels ∧ (State.setCq s q x).fab = s.fab ∧
    (State.setCq s q x).planner = s.planner ∧ (State.setCq s q x).host.mem = s.host.mem ∧
    (State.setCq s q x).host.engine = s.host.engine ∧ (State.setCq s q x).host.work = s.host.work ∧
    (State.setCq s q x).twin = s.twin ∧ (State.setCq s q x).ckpt = s.ckpt ∧ (State.setCq s q x).keeper = s.keeper ∧
    (State.setCq s q x).flight = s.flight ∧ (State.setCq s q x).mx = s.mx ∧ (State.setCq s q x).ctr = s.ctr ∧
    (State.setCq s q x).rcv = s.rcv ∧ (State.setCq s q x).boot = s.boot ∧ (State.setCq s q x).out = s.out ∧
    (State.setCq s q x).free = s.free ∧ (State.setCq s q x).pending = s.pending := by
  simp [State.setCq]

@[simp] theorem State.setEvq_frame (s : State) (e : Nat) (x : Option EvQ) :
    (State.setEvq s e x).time = s.time ∧ (State.setEvq s e x).p = s.p ∧ (State.setEvq s e x).outs = s.outs ∧
    (State.setEvq s e x).f = s.f ∧ (State.setEvq s e x).refs = s.refs ∧ (State.setEvq s e x).lanes = s.lanes ∧
    (State.setEvq s e x).octets = s.octets ∧ (State.setEvq s e x).sels = s.sels ∧ (State.setEvq s e x).fab = s.fab ∧
    (State.setEvq s e x).planner = s.planner ∧ (State.setEvq s e x).host.mem = s.host.mem ∧
    (State.setEvq s e x).host.engine = s.host.engine ∧ (State.setEvq s e x).host.work = s.host.work ∧
    (State.setEvq s e x).twin = s.twin ∧ (State.setEvq s e x).ckpt = s.ckpt ∧ (State.setEvq s e x).keeper = s.keeper ∧
    (State.setEvq s e x).flight = s.flight ∧ (State.setEvq s e x).mx = s.mx ∧ (State.setEvq s e x).ctr = s.ctr ∧
    (State.setEvq s e x).rcv = s.rcv ∧ (State.setEvq s e x).boot = s.boot ∧ (State.setEvq s e x).out = s.out ∧
    (State.setEvq s e x).free = s.free ∧ (State.setEvq s e x).pending = s.pending := by
  simp [State.setEvq]

@[simp] theorem State.setPort_frame (s : State) (sd : Side) (p : TowPort) :
    (State.setPort s sd p).time = s.time ∧ (State.setPort s sd p).p = s.p ∧ (State.setPort s sd p).outs = s.outs ∧
    (State.setPort s sd p).f = s.f ∧ (State.setPort s sd p).refs = s.refs ∧ (State.setPort s sd p).lanes = s.lanes ∧
    (State.setPort s sd p).octets = s.octets ∧ (State.setPort s sd p).sels = s.sels ∧
    (State.setPort s sd p).fab = s.fab ∧ (State.setPort s sd p).planner = s.planner ∧
    (State.setPort s sd p).host = s.host ∧ (State.setPort s sd p).twin = s.twin ∧
    (State.setPort s sd p).ckpt = s.ckpt ∧ (State.setPort s sd p).keeper = s.keeper ∧
    (State.setPort s sd p).mx = s.mx ∧ (State.setPort s sd p).ctr = s.ctr ∧ (State.setPort s sd p).rcv = s.rcv ∧
    (State.setPort s sd p).boot = s.boot ∧ (State.setPort s sd p).out = s.out ∧ (State.setPort s sd p).free = s.free ∧
    (State.setPort s sd p).pending = s.pending := by
  unfold State.setPort
  (repeat' split) <;> simp

@[simp] theorem payCredits_frame (sd : Side) (s : State) :
    (payCredits sd s).time = s.time ∧ (payCredits sd s).p = s.p ∧ (payCredits sd s).outs = s.outs ∧
    (payCredits sd s).f = s.f ∧ (payCredits sd s).refs = s.refs ∧ (payCredits sd s).lanes = s.lanes ∧
    (payCredits sd s).octets = s.octets ∧ (payCredits sd s).sels = s.sels ∧ (payCredits sd s).fab = s.fab ∧
    (payCredits sd s).planner = s.planner ∧ (payCredits sd s).host = s.host ∧ (payCredits sd s).twin = s.twin ∧
    (payCredits sd s).ckpt = s.ckpt ∧ (payCredits sd s).keeper = s.keeper ∧ (payCredits sd s).mx = s.mx ∧
    (payCredits sd s).ctr = s.ctr ∧ (payCredits sd s).rcv = s.rcv ∧ (payCredits sd s).boot = s.boot ∧
    (payCredits sd s).free = s.free ∧ (payCredits sd s).pending = s.pending := by
  simp [payCredits]

@[simp] theorem creditBack_frame (p : TowPkt) (back : Option Side) (s : State) :
    (creditBack p back s).time = s.time ∧ (creditBack p back s).p = s.p ∧ (creditBack p back s).outs = s.outs ∧
    (creditBack p back s).f = s.f ∧ (creditBack p back s).refs = s.refs ∧ (creditBack p back s).lanes = s.lanes ∧
    (creditBack p back s).octets = s.octets ∧ (creditBack p back s).sels = s.sels ∧
    (creditBack p back s).fab = s.fab ∧ (creditBack p back s).planner = s.planner ∧
    (creditBack p back s).host = s.host ∧ (creditBack p back s).twin = s.twin ∧ (creditBack p back s).ckpt = s.ckpt ∧
    (creditBack p back s).keeper = s.keeper ∧ (creditBack p back s).mx = s.mx ∧ (creditBack p back s).ctr = s.ctr ∧
    (creditBack p back s).rcv = s.rcv ∧ (creditBack p back s).boot = s.boot ∧ (creditBack p back s).free = s.free ∧
    (creditBack p back s).pending = s.pending := by
  unfold creditBack
  (repeat' split) <;> simp

@[simp] theorem stampSent_frame (p : TowPkt) (s : State) :
    (stampSent p s).time = s.time ∧ (stampSent p s).p = s.p ∧ (stampSent p s).outs = s.outs ∧
    (stampSent p s).f = s.f ∧ (stampSent p s).refs = s.refs ∧ (stampSent p s).lanes = s.lanes ∧
    (stampSent p s).octets = s.octets ∧ (stampSent p s).sels = s.sels ∧ (stampSent p s).fab = s.fab ∧
    (stampSent p s).planner = s.planner ∧ (stampSent p s).host = s.host ∧ (stampSent p s).twin = s.twin ∧
    (stampSent p s).ckpt = s.ckpt ∧ (stampSent p s).keeper = s.keeper ∧ (stampSent p s).mx = s.mx ∧
    (stampSent p s).ctr = s.ctr ∧ (stampSent p s).rcv = s.rcv ∧ (stampSent p s).boot = s.boot ∧
    (stampSent p s).out = s.out ∧ (stampSent p s).free = s.free ∧ (stampSent p s).pending = s.pending := by
  simp [stampSent]

@[simp] theorem portForward_frame (sd : Side) (p : TowPkt) (back : Option Side) (s : State) :
    (portForward sd p back s).time = s.time ∧ (portForward sd p back s).p = s.p ∧
    (portForward sd p back s).outs = s.outs ∧ (portForward sd p back s).f = s.f ∧
    (portForward sd p back s).refs = s.refs ∧ (portForward sd p back s).lanes = s.lanes ∧
    (portForward sd p back s).octets = s.octets ∧ (portForward sd p back s).sels = s.sels ∧
    (portForward sd p back s).fab = s.fab ∧ (portForward sd p back s).planner = s.planner ∧
    (portForward sd p back s).host = s.host ∧ (portForward sd p back s).twin = s.twin ∧
    (portForward sd p back s).ckpt = s.ckpt ∧ (portForward sd p back s).keeper = s.keeper ∧
    (portForward sd p back s).mx = s.mx ∧ (portForward sd p back s).ctr = s.ctr ∧
    (portForward sd p back s).rcv = s.rcv ∧ (portForward sd p back s).boot = s.boot ∧
    (portForward sd p back s).free = s.free ∧ (portForward sd p back s).pending = s.pending := by
  simp [portForward]

@[simp] theorem portSend_frame (sd : Side) (p : TowPkt) (s : State) :
    (portSend sd p s).time = s.time ∧ (portSend sd p s).p = s.p ∧ (portSend sd p s).outs = s.outs ∧
    (portSend sd p s).f = s.f ∧ (portSend sd p s).refs = s.refs ∧ (portSend sd p s).lanes = s.lanes ∧
    (portSend sd p s).octets = s.octets ∧ (portSend sd p s).sels = s.sels ∧ (portSend sd p s).fab = s.fab ∧
    (portSend sd p s).planner = s.planner ∧ (portSend sd p s).host = s.host ∧ (portSend sd p s).twin = s.twin ∧
    (portSend sd p s).ckpt = s.ckpt ∧ (portSend sd p s).keeper = s.keeper ∧ (portSend sd p s).mx = s.mx ∧
    (portSend sd p s).ctr = s.ctr ∧ (portSend sd p s).rcv = s.rcv ∧ (portSend sd p s).boot = s.boot ∧
    (portSend sd p s).free = s.free ∧ (portSend sd p s).pending = s.pending := by
  simp [portSend]

@[simp] theorem portDrain_frame (sd : Side) (s : State) :
    (portDrain sd s).time = s.time ∧ (portDrain sd s).p = s.p ∧ (portDrain sd s).outs = s.outs ∧
    (portDrain sd s).f = s.f ∧ (portDrain sd s).refs = s.refs ∧ (portDrain sd s).lanes = s.lanes ∧
    (portDrain sd s).octets = s.octets ∧ (portDrain sd s).sels = s.sels ∧ (portDrain sd s).fab = s.fab ∧
    (portDrain sd s).planner = s.planner ∧ (portDrain sd s).host = s.host ∧ (portDrain sd s).twin = s.twin ∧
    (portDrain sd s).ckpt = s.ckpt ∧ (portDrain sd s).keeper = s.keeper ∧ (portDrain sd s).mx = s.mx ∧
    (portDrain sd s).ctr = s.ctr ∧ (portDrain sd s).rcv = s.rcv ∧ (portDrain sd s).boot = s.boot ∧
    (portDrain sd s).free = s.free ∧ (portDrain sd s).pending = s.pending := by
  simp [portDrain]

@[simp] theorem towSend_frame (type : Nat) (dst : Nat) (payload : List W64) (s : State) :
    (towSend type dst payload s).time = s.time ∧ (towSend type dst payload s).p = s.p ∧
    (towSend type dst payload s).outs = s.outs ∧ (towSend type dst payload s).f = s.f ∧
    (towSend type dst payload s).refs = s.refs ∧ (towSend type dst payload s).lanes = s.lanes ∧
    (towSend type dst payload s).octets = s.octets ∧ (towSend type dst payload s).sels = s.sels ∧
    (towSend type dst payload s).fab = s.fab ∧ (towSend type dst payload s).planner = s.planner ∧
    (towSend type dst payload s).host = s.host ∧ (towSend type dst payload s).twin = s.twin ∧
    (towSend type dst payload s).ckpt = s.ckpt ∧ (towSend type dst payload s).keeper = s.keeper ∧
    (towSend type dst payload s).mx = s.mx ∧ (towSend type dst payload s).ctr = s.ctr ∧
    (towSend type dst payload s).rcv = s.rcv ∧ (towSend type dst payload s).boot = s.boot ∧
    (towSend type dst payload s).free = s.free ∧ (towSend type dst payload s).pending = s.pending := by
  unfold towSend
  dsimp only
  (repeat' split) <;> simp

@[simp] theorem towSendAll_frame (type : Nat) (payload : List W64) (s : State) :
    (towSendAll type payload s).time = s.time ∧ (towSendAll type payload s).p = s.p ∧
    (towSendAll type payload s).outs = s.outs ∧ (towSendAll type payload s).f = s.f ∧
    (towSendAll type payload s).refs = s.refs ∧ (towSendAll type payload s).lanes = s.lanes ∧
    (towSendAll type payload s).octets = s.octets ∧ (towSendAll type payload s).sels = s.sels ∧
    (towSendAll type payload s).fab = s.fab ∧ (towSendAll type payload s).planner = s.planner ∧
    (towSendAll type payload s).host = s.host ∧ (towSendAll type payload s).twin = s.twin ∧
    (towSendAll type payload s).ckpt = s.ckpt ∧ (towSendAll type payload s).keeper = s.keeper ∧
    (towSendAll type payload s).mx = s.mx ∧ (towSendAll type payload s).ctr = s.ctr ∧
    (towSendAll type payload s).rcv = s.rcv ∧ (towSendAll type payload s).boot = s.boot ∧
    (towSendAll type payload s).free = s.free ∧ (towSendAll type payload s).pending = s.pending := by
  simp [towSendAll]

@[simp] theorem dmaPackets_frame (gw a : Nat) (ws : List W64) (n : Nat) (s : State) :
    (dmaPackets gw a ws n s).time = s.time ∧ (dmaPackets gw a ws n s).p = s.p ∧
    (dmaPackets gw a ws n s).outs = s.outs ∧ (dmaPackets gw a ws n s).f = s.f ∧
    (dmaPackets gw a ws n s).refs = s.refs ∧ (dmaPackets gw a ws n s).lanes = s.lanes ∧
    (dmaPackets gw a ws n s).octets = s.octets ∧ (dmaPackets gw a ws n s).sels = s.sels ∧
    (dmaPackets gw a ws n s).fab = s.fab ∧ (dmaPackets gw a ws n s).planner = s.planner ∧
    (dmaPackets gw a ws n s).host = s.host ∧ (dmaPackets gw a ws n s).twin = s.twin ∧
    (dmaPackets gw a ws n s).ckpt = s.ckpt ∧ (dmaPackets gw a ws n s).keeper = s.keeper ∧
    (dmaPackets gw a ws n s).mx = s.mx ∧ (dmaPackets gw a ws n s).ctr = s.ctr ∧ (dmaPackets gw a ws n s).rcv = s.rcv ∧
    (dmaPackets gw a ws n s).boot = s.boot ∧ (dmaPackets gw a ws n s).free = s.free ∧
    (dmaPackets gw a ws n s).pending = s.pending := by
  induction n generalizing a ws s with
  | zero => simp [dmaPackets]
  | succ n ih =>
    unfold dmaPackets
    split
    · simp
    · simp [ih]

@[simp] theorem bufWrite_frame (a : Nat) (ws : List W64) (s : State) :
    (bufWrite a ws s).time = s.time ∧ (bufWrite a ws s).p = s.p ∧ (bufWrite a ws s).outs = s.outs ∧
    (bufWrite a ws s).f = s.f ∧ (bufWrite a ws s).refs = s.refs ∧ (bufWrite a ws s).lanes = s.lanes ∧
    (bufWrite a ws s).octets = s.octets ∧ (bufWrite a ws s).sels = s.sels ∧ (bufWrite a ws s).fab = s.fab ∧
    (bufWrite a ws s).planner = s.planner ∧ (bufWrite a ws s).host.engine = s.host.engine ∧
    (bufWrite a ws s).host.work = s.host.work ∧ (bufWrite a ws s).twin = s.twin ∧ (bufWrite a ws s).ckpt = s.ckpt ∧
    (bufWrite a ws s).keeper = s.keeper ∧ (bufWrite a ws s).flight = s.flight ∧ (bufWrite a ws s).mx = s.mx ∧
    (bufWrite a ws s).ctr = s.ctr ∧ (bufWrite a ws s).rcv = s.rcv ∧ (bufWrite a ws s).boot = s.boot ∧
    (bufWrite a ws s).out = s.out ∧ (bufWrite a ws s).free = s.free ∧ (bufWrite a ws s).pending = s.pending := by
  simp [bufWrite]

@[simp] theorem memberWrite_frame (r : Run) (gw : Nat) (a : Nat) (ws : List W64) (reply : List W64) (s : State) :
    (memberWrite r gw a ws reply s).time = s.time ∧ (memberWrite r gw a ws reply s).p = s.p ∧
    (memberWrite r gw a ws reply s).outs = s.outs ∧ (memberWrite r gw a ws reply s).f = s.f ∧
    (memberWrite r gw a ws reply s).refs = s.refs ∧ (memberWrite r gw a ws reply s).lanes = s.lanes ∧
    (memberWrite r gw a ws reply s).octets = s.octets ∧ (memberWrite r gw a ws reply s).sels = s.sels ∧
    (memberWrite r gw a ws reply s).fab = s.fab ∧ (memberWrite r gw a ws reply s).planner = s.planner ∧
    (memberWrite r gw a ws reply s).host.mem = s.host.mem ∧
    (memberWrite r gw a ws reply s).host.engine = s.host.engine ∧
    (memberWrite r gw a ws reply s).host.work = s.host.work ∧ (memberWrite r gw a ws reply s).twin = s.twin ∧
    (memberWrite r gw a ws reply s).ckpt = s.ckpt ∧ (memberWrite r gw a ws reply s).keeper = s.keeper ∧
    (memberWrite r gw a ws reply s).mx = s.mx ∧ (memberWrite r gw a ws reply s).ctr = s.ctr ∧
    (memberWrite r gw a ws reply s).rcv = s.rcv ∧ (memberWrite r gw a ws reply s).boot = s.boot ∧
    (memberWrite r gw a ws reply s).free = s.free ∧ (memberWrite r gw a ws reply s).pending = s.pending := by
  simp [memberWrite]

@[simp] theorem dmaAsk_frame (k : Key) (a : Nat) (n : Nat) (s : State) :
    (dmaAsk k a n s).time = s.time ∧ (dmaAsk k a n s).p = s.p ∧ (dmaAsk k a n s).outs = s.outs ∧
    (dmaAsk k a n s).f = s.f ∧ (dmaAsk k a n s).refs = s.refs ∧ (dmaAsk k a n s).lanes = s.lanes ∧
    (dmaAsk k a n s).octets = s.octets ∧ (dmaAsk k a n s).sels = s.sels ∧ (dmaAsk k a n s).fab = s.fab ∧
    (dmaAsk k a n s).planner = s.planner ∧ (dmaAsk k a n s).host.mem = s.host.mem ∧
    (dmaAsk k a n s).host.engine = s.host.engine ∧ (dmaAsk k a n s).host.work = s.host.work ∧
    (dmaAsk k a n s).twin = s.twin ∧ (dmaAsk k a n s).ckpt = s.ckpt ∧ (dmaAsk k a n s).keeper = s.keeper ∧
    (dmaAsk k a n s).mx = s.mx ∧ (dmaAsk k a n s).ctr = s.ctr ∧ (dmaAsk k a n s).rcv = s.rcv ∧
    (dmaAsk k a n s).boot = s.boot ∧ (dmaAsk k a n s).free = s.free ∧ (dmaAsk k a n s).pending = s.pending := by
  unfold dmaAsk
  (repeat' split) <;> simp

@[simp] theorem bufUndefined_frame (a : Nat) (n : Nat) (s : State) :
    (bufUndefined a n s).time = s.time ∧ (bufUndefined a n s).p = s.p ∧ (bufUndefined a n s).outs = s.outs ∧
    (bufUndefined a n s).f = s.f ∧ (bufUndefined a n s).refs = s.refs ∧ (bufUndefined a n s).lanes = s.lanes ∧
    (bufUndefined a n s).octets = s.octets ∧ (bufUndefined a n s).sels = s.sels ∧ (bufUndefined a n s).fab = s.fab ∧
    (bufUndefined a n s).planner = s.planner ∧ (bufUndefined a n s).host.engine = s.host.engine ∧
    (bufUndefined a n s).host.work = s.host.work ∧ (bufUndefined a n s).twin = s.twin ∧
    (bufUndefined a n s).ckpt = s.ckpt ∧ (bufUndefined a n s).keeper = s.keeper ∧
    (bufUndefined a n s).flight = s.flight ∧ (bufUndefined a n s).mx = s.mx ∧ (bufUndefined a n s).ctr = s.ctr ∧
    (bufUndefined a n s).rcv = s.rcv ∧ (bufUndefined a n s).boot = s.boot ∧ (bufUndefined a n s).out = s.out ∧
    (bufUndefined a n s).pending = s.pending := by
  simp [bufUndefined]

@[simp] theorem msixSend_frame (v : Nat) (s : State) :
    (msixSend v s).time = s.time ∧ (msixSend v s).p = s.p ∧ (msixSend v s).outs = s.outs ∧ (msixSend v s).f = s.f ∧
    (msixSend v s).refs = s.refs ∧ (msixSend v s).lanes = s.lanes ∧ (msixSend v s).octets = s.octets ∧
    (msixSend v s).sels = s.sels ∧ (msixSend v s).fab = s.fab ∧ (msixSend v s).planner = s.planner ∧
    (msixSend v s).host.mem = s.host.mem ∧ (msixSend v s).host.engine = s.host.engine ∧
    (msixSend v s).host.work = s.host.work ∧ (msixSend v s).twin = s.twin ∧ (msixSend v s).ckpt = s.ckpt ∧
    (msixSend v s).keeper = s.keeper ∧ (msixSend v s).flight = s.flight ∧ (msixSend v s).mx = s.mx ∧
    (msixSend v s).ctr = s.ctr ∧ (msixSend v s).rcv = s.rcv ∧ (msixSend v s).boot = s.boot ∧
    (msixSend v s).free = s.free ∧ (msixSend v s).pending = s.pending := by
  simp [msixSend]

@[simp] theorem countEvent_frame (code : Nat) (obj : Nat) (n : Nat) (s : State) :
    (countEvent code obj n s).time = s.time ∧ (countEvent code obj n s).p = s.p ∧
    (countEvent code obj n s).outs = s.outs ∧ (countEvent code obj n s).f = s.f ∧
    (countEvent code obj n s).refs = s.refs ∧ (countEvent code obj n s).lanes = s.lanes ∧
    (countEvent code obj n s).octets = s.octets ∧ (countEvent code obj n s).sels = s.sels ∧
    (countEvent code obj n s).fab = s.fab ∧ (countEvent code obj n s).planner = s.planner ∧
    (countEvent code obj n s).host = s.host ∧ (countEvent code obj n s).twin = s.twin ∧
    (countEvent code obj n s).ckpt = s.ckpt ∧ (countEvent code obj n s).keeper = s.keeper ∧
    (countEvent code obj n s).flight = s.flight ∧ (countEvent code obj n s).mx = s.mx ∧
    (countEvent code obj n s).rcv = s.rcv ∧ (countEvent code obj n s).boot = s.boot ∧
    (countEvent code obj n s).out = s.out ∧ (countEvent code obj n s).free = s.free ∧
    (countEvent code obj n s).pending = s.pending := by
  simp [countEvent]

@[simp] theorem deliverEvent_frame (r : EvRec) (s : State) :
    (deliverEvent r s).time = s.time ∧ (deliverEvent r s).p = s.p ∧ (deliverEvent r s).outs = s.outs ∧
    (deliverEvent r s).f = s.f ∧ (deliverEvent r s).refs = s.refs ∧ (deliverEvent r s).lanes = s.lanes ∧
    (deliverEvent r s).octets = s.octets ∧ (deliverEvent r s).sels = s.sels ∧ (deliverEvent r s).fab = s.fab ∧
    (deliverEvent r s).planner = s.planner ∧ (deliverEvent r s).host.mem = s.host.mem ∧
    (deliverEvent r s).host.engine = s.host.engine ∧ (deliverEvent r s).host.work = s.host.work ∧
    (deliverEvent r s).twin = s.twin ∧ (deliverEvent r s).ckpt = s.ckpt ∧ (deliverEvent r s).keeper = s.keeper ∧
    (deliverEvent r s).flight = s.flight ∧ (deliverEvent r s).mx = s.mx ∧ (deliverEvent r s).ctr = s.ctr ∧
    (deliverEvent r s).rcv = s.rcv ∧ (deliverEvent r s).boot = s.boot ∧ (deliverEvent r s).out = s.out ∧
    (deliverEvent r s).free = s.free ∧ (deliverEvent r s).pending = s.pending := by
  simp [deliverEvent]

@[simp] theorem keepEvent_frame (r : EvRec) (s : State) :
    (keepEvent r s).time = s.time ∧ (keepEvent r s).p = s.p ∧ (keepEvent r s).outs = s.outs ∧
    (keepEvent r s).f = s.f ∧ (keepEvent r s).refs = s.refs ∧ (keepEvent r s).lanes = s.lanes ∧
    (keepEvent r s).octets = s.octets ∧ (keepEvent r s).sels = s.sels ∧ (keepEvent r s).fab = s.fab ∧
    (keepEvent r s).planner = s.planner ∧ (keepEvent r s).host.mem = s.host.mem ∧
    (keepEvent r s).host.engine = s.host.engine ∧ (keepEvent r s).host.work = s.host.work ∧
    (keepEvent r s).twin = s.twin ∧ (keepEvent r s).ckpt = s.ckpt ∧ (keepEvent r s).keeper = s.keeper ∧
    (keepEvent r s).flight = s.flight ∧ (keepEvent r s).mx = s.mx ∧ (keepEvent r s).ctr = s.ctr ∧
    (keepEvent r s).rcv = s.rcv ∧ (keepEvent r s).boot = s.boot ∧ (keepEvent r s).out = s.out ∧
    (keepEvent r s).free = s.free ∧ (keepEvent r s).pending = s.pending := by
  simp [keepEvent]

@[simp] theorem raise_frame (code : Nat) (payload : List W64) (s : State) :
    (raise code payload s).time = s.time ∧ (raise code payload s).p = s.p ∧ (raise code payload s).outs = s.outs ∧
    (raise code payload s).f = s.f ∧ (raise code payload s).refs = s.refs ∧ (raise code payload s).lanes = s.lanes ∧
    (raise code payload s).octets = s.octets ∧ (raise code payload s).sels = s.sels ∧
    (raise code payload s).fab = s.fab ∧ (raise code payload s).planner = s.planner ∧
    (raise code payload s).host.mem = s.host.mem ∧ (raise code payload s).host.engine = s.host.engine ∧
    (raise code payload s).host.work = s.host.work ∧ (raise code payload s).twin = s.twin ∧
    (raise code payload s).ckpt = s.ckpt ∧ (raise code payload s).keeper = s.keeper ∧
    (raise code payload s).mx = s.mx ∧ (raise code payload s).rcv = s.rcv ∧ (raise code payload s).boot = s.boot ∧
    (raise code payload s).free = s.free ∧ (raise code payload s).pending = s.pending := by
  unfold raise
  dsimp only
  (repeat' split) <;> simp

@[simp] theorem raiseSummary_frame (code : Nat) (objs : List Nat) (detail : Nat) (w5 : Nat) (s : State) :
    (raiseSummary code objs detail w5 s).time = s.time ∧ (raiseSummary code objs detail w5 s).p = s.p ∧
    (raiseSummary code objs detail w5 s).outs = s.outs ∧ (raiseSummary code objs detail w5 s).f = s.f ∧
    (raiseSummary code objs detail w5 s).refs = s.refs ∧ (raiseSummary code objs detail w5 s).lanes = s.lanes ∧
    (raiseSummary code objs detail w5 s).octets = s.octets ∧ (raiseSummary code objs detail w5 s).sels = s.sels ∧
    (raiseSummary code objs detail w5 s).fab = s.fab ∧ (raiseSummary code objs detail w5 s).planner = s.planner ∧
    (raiseSummary code objs detail w5 s).host.mem = s.host.mem ∧
    (raiseSummary code objs detail w5 s).host.engine = s.host.engine ∧
    (raiseSummary code objs detail w5 s).host.work = s.host.work ∧
    (raiseSummary code objs detail w5 s).twin = s.twin ∧ (raiseSummary code objs detail w5 s).ckpt = s.ckpt ∧
    (raiseSummary code objs detail w5 s).keeper = s.keeper ∧ (raiseSummary code objs detail w5 s).mx = s.mx ∧
    (raiseSummary code objs detail w5 s).rcv = s.rcv ∧ (raiseSummary code objs detail w5 s).boot = s.boot ∧
    (raiseSummary code objs detail w5 s).free = s.free ∧
    (raiseSummary code objs detail w5 s).pending = s.pending := by
  unfold raiseSummary
  (repeat' split) <;> simp

@[simp] theorem postReply_frame (r : Reply) (s : State) :
    (postReply r s).time = s.time ∧ (postReply r s).p = s.p ∧ (postReply r s).outs = s.outs ∧
    (postReply r s).f = s.f ∧ (postReply r s).refs = s.refs ∧ (postReply r s).lanes = s.lanes ∧
    (postReply r s).octets = s.octets ∧ (postReply r s).sels = s.sels ∧ (postReply r s).fab = s.fab ∧
    (postReply r s).planner = s.planner ∧ (postReply r s).host.mem = s.host.mem ∧
    (postReply r s).host.engine = s.host.engine ∧ (postReply r s).host.work = s.host.work ∧
    (postReply r s).twin = s.twin ∧ (postReply r s).ckpt = s.ckpt ∧ (postReply r s).keeper = s.keeper ∧
    (postReply r s).flight = s.flight ∧ (postReply r s).mx = s.mx ∧ (postReply r s).ctr = s.ctr ∧
    (postReply r s).rcv = s.rcv ∧ (postReply r s).boot = s.boot ∧ (postReply r s).out = s.out ∧
    (postReply r s).free = s.free ∧ (postReply r s).pending = s.pending := by
  unfold postReply
  (repeat' split) <;> simp

@[simp] theorem flushBcast_frame (s : State) :
    (flushBcast s).time = s.time ∧ (flushBcast s).p = s.p ∧ (flushBcast s).outs = s.outs ∧ (flushBcast s).f = s.f ∧
    (flushBcast s).refs = s.refs ∧ (flushBcast s).lanes = s.lanes ∧ (flushBcast s).octets = s.octets ∧
    (flushBcast s).sels = s.sels ∧ (flushBcast s).fab = s.fab ∧ (flushBcast s).planner = s.planner ∧
    (flushBcast s).host.mem = s.host.mem ∧ (flushBcast s).host.engine = s.host.engine ∧
    (flushBcast s).host.work = s.host.work ∧ (flushBcast s).twin = s.twin ∧ (flushBcast s).ckpt = s.ckpt ∧
    (flushBcast s).keeper = s.keeper ∧ (flushBcast s).flight = s.flight ∧ (flushBcast s).mx = s.mx ∧
    (flushBcast s).ctr = s.ctr ∧ (flushBcast s).rcv = s.rcv ∧ (flushBcast s).boot = s.boot ∧
    (flushBcast s).out = s.out ∧ (flushBcast s).free = s.free ∧ (flushBcast s).pending = s.pending := by
  simp [flushBcast]

@[simp] theorem gatewayReply_frame (r : Reply) (s : State) :
    (gatewayReply r s).time = s.time ∧ (gatewayReply r s).p = s.p ∧ (gatewayReply r s).outs = s.outs ∧
    (gatewayReply r s).f = s.f ∧ (gatewayReply r s).refs = s.refs ∧ (gatewayReply r s).lanes = s.lanes ∧
    (gatewayReply r s).octets = s.octets ∧ (gatewayReply r s).sels = s.sels ∧ (gatewayReply r s).fab = s.fab ∧
    (gatewayReply r s).planner = s.planner ∧ (gatewayReply r s).host.mem = s.host.mem ∧
    (gatewayReply r s).host.engine = s.host.engine ∧ (gatewayReply r s).host.work = s.host.work ∧
    (gatewayReply r s).twin = s.twin ∧ (gatewayReply r s).ckpt = s.ckpt ∧ (gatewayReply r s).keeper = s.keeper ∧
    (gatewayReply r s).flight = s.flight ∧ (gatewayReply r s).mx = s.mx ∧ (gatewayReply r s).ctr = s.ctr ∧
    (gatewayReply r s).rcv = s.rcv ∧ (gatewayReply r s).boot = s.boot ∧ (gatewayReply r s).out = s.out ∧
    (gatewayReply r s).free = s.free ∧ (gatewayReply r s).pending = s.pending := by
  simp [gatewayReply]

@[simp] theorem sendReply_frame (k : Key) (r : Reply) (s : State) :
    (sendReply k r s).time = s.time ∧ (sendReply k r s).p = s.p ∧ (sendReply k r s).outs = s.outs ∧
    (sendReply k r s).f = s.f ∧ (sendReply k r s).refs = s.refs ∧ (sendReply k r s).lanes = s.lanes ∧
    (sendReply k r s).octets = s.octets ∧ (sendReply k r s).sels = s.sels ∧ (sendReply k r s).fab = s.fab ∧
    (sendReply k r s).planner = s.planner ∧ (sendReply k r s).host.mem = s.host.mem ∧
    (sendReply k r s).host.engine = s.host.engine ∧ (sendReply k r s).host.work = s.host.work ∧
    (sendReply k r s).twin = s.twin ∧ (sendReply k r s).ckpt = s.ckpt ∧ (sendReply k r s).keeper = s.keeper ∧
    (sendReply k r s).mx = s.mx ∧ (sendReply k r s).ctr = s.ctr ∧ (sendReply k r s).rcv = s.rcv ∧
    (sendReply k r s).boot = s.boot ∧ (sendReply k r s).free = s.free ∧ (sendReply k r s).pending = s.pending := by
  unfold sendReply
  (repeat' split) <;> simp

@[simp] theorem cacheReply_frame (k : Key) (c : Cmd) (r : Reply) (s : State) :
    (cacheReply k c r s).time = s.time ∧ (cacheReply k c r s).p = s.p ∧ (cacheReply k c r s).outs = s.outs ∧
    (cacheReply k c r s).f = s.f ∧ (cacheReply k c r s).refs = s.refs ∧ (cacheReply k c r s).lanes = s.lanes ∧
    (cacheReply k c r s).octets = s.octets ∧ (cacheReply k c r s).sels = s.sels ∧ (cacheReply k c r s).fab = s.fab ∧
    (cacheReply k c r s).planner = s.planner ∧ (cacheReply k c r s).host.mem = s.host.mem ∧
    (cacheReply k c r s).host.engine = s.host.engine ∧ (cacheReply k c r s).host.work = s.host.work ∧
    (cacheReply k c r s).twin = s.twin ∧ (cacheReply k c r s).ckpt = s.ckpt ∧ (cacheReply k c r s).keeper = s.keeper ∧
    (cacheReply k c r s).flight = s.flight ∧ (cacheReply k c r s).mx = s.mx ∧ (cacheReply k c r s).ctr = s.ctr ∧
    (cacheReply k c r s).rcv = s.rcv ∧ (cacheReply k c r s).boot = s.boot ∧ (cacheReply k c r s).out = s.out ∧
    (cacheReply k c r s).free = s.free ∧ (cacheReply k c r s).pending = s.pending := by
  simp [cacheReply]

@[simp] theorem flushDups_frame (k : Key) (r : Reply) (s : State) :
    (flushDups k r s).time = s.time ∧ (flushDups k r s).p = s.p ∧ (flushDups k r s).outs = s.outs ∧
    (flushDups k r s).f = s.f ∧ (flushDups k r s).refs = s.refs ∧ (flushDups k r s).lanes = s.lanes ∧
    (flushDups k r s).octets = s.octets ∧ (flushDups k r s).sels = s.sels ∧ (flushDups k r s).fab = s.fab ∧
    (flushDups k r s).planner = s.planner ∧ (flushDups k r s).host.mem = s.host.mem ∧
    (flushDups k r s).host.engine = s.host.engine ∧ (flushDups k r s).host.work = s.host.work ∧
    (flushDups k r s).twin = s.twin ∧ (flushDups k r s).ckpt = s.ckpt ∧ (flushDups k r s).keeper = s.keeper ∧
    (flushDups k r s).mx = s.mx ∧ (flushDups k r s).ctr = s.ctr ∧ (flushDups k r s).rcv = s.rcv ∧
    (flushDups k r s).boot = s.boot ∧ (flushDups k r s).free = s.free ∧ (flushDups k r s).pending = s.pending := by
  simp [flushDups]

@[simp] theorem completeAt_frame (k : Key) (c : Cmd) (status : Nat) (frame : Nat) (row : Nat) (ws : List W64) (s : State) :
    (completeAt k c status frame row ws s).time = s.time ∧ (completeAt k c status frame row ws s).p = s.p ∧
    (completeAt k c status frame row ws s).outs = s.outs ∧ (completeAt k c status frame row ws s).f = s.f ∧
    (completeAt k c status frame row ws s).refs = s.refs ∧ (completeAt k c status frame row ws s).lanes = s.lanes ∧
    (completeAt k c status frame row ws s).octets = s.octets ∧ (completeAt k c status frame row ws s).sels = s.sels ∧
    (completeAt k c status frame row ws s).fab = s.fab ∧ (completeAt k c status frame row ws s).planner = s.planner ∧
    (completeAt k c status frame row ws s).host.mem = s.host.mem ∧
    (completeAt k c status frame row ws s).host.engine = s.host.engine ∧
    (completeAt k c status frame row ws s).host.work = s.host.work ∧
    (completeAt k c status frame row ws s).twin = s.twin ∧ (completeAt k c status frame row ws s).ckpt = s.ckpt ∧
    (completeAt k c status frame row ws s).keeper = s.keeper ∧ (completeAt k c status frame row ws s).mx = s.mx ∧
    (completeAt k c status frame row ws s).ctr = s.ctr ∧ (completeAt k c status frame row ws s).rcv = s.rcv ∧
    (completeAt k c status frame row ws s).boot = s.boot ∧ (completeAt k c status frame row ws s).free = s.free ∧
    (completeAt k c status frame row ws s).pending = s.pending := by
  simp [completeAt]

@[simp] theorem finish_frame (r : Run) (status : Nat) (ws : List W64) (s : State) :
    (finish r status ws s).time = s.time ∧ (finish r status ws s).p = s.p ∧ (finish r status ws s).outs = s.outs ∧
    (finish r status ws s).f = s.f ∧ (finish r status ws s).refs = s.refs ∧ (finish r status ws s).lanes = s.lanes ∧
    (finish r status ws s).octets = s.octets ∧ (finish r status ws s).sels = s.sels ∧
    (finish r status ws s).fab = s.fab ∧ (finish r status ws s).planner = s.planner ∧
    (finish r status ws s).host.mem = s.host.mem ∧ (finish r status ws s).host.engine = s.host.engine ∧
    (finish r status ws s).host.work = s.host.work ∧ (finish r status ws s).twin = s.twin ∧
    (finish r status ws s).ckpt = s.ckpt ∧ (finish r status ws s).keeper = s.keeper ∧
    (finish r status ws s).mx = s.mx ∧ (finish r status ws s).ctr = s.ctr ∧ (finish r status ws s).rcv = s.rcv ∧
    (finish r status ws s).boot = s.boot ∧ (finish r status ws s).free = s.free ∧
    (finish r status ws s).pending = s.pending := by
  simp [finish]

@[simp] theorem later_frame (r : Run) (s : State) :
    (later r s).time = s.time ∧ (later r s).p = s.p ∧ (later r s).outs = s.outs ∧ (later r s).f = s.f ∧
    (later r s).refs = s.refs ∧ (later r s).lanes = s.lanes ∧ (later r s).octets = s.octets ∧
    (later r s).sels = s.sels ∧ (later r s).fab = s.fab ∧ (later r s).planner = s.planner ∧
    (later r s).host.mem = s.host.mem ∧ (later r s).host.engine = s.host.engine ∧
    (later r s).host.work = s.host.work ∧ (later r s).twin = s.twin ∧ (later r s).ckpt = s.ckpt ∧
    (later r s).keeper = s.keeper ∧ (later r s).flight = s.flight ∧ (later r s).mx = s.mx ∧ (later r s).ctr = s.ctr ∧
    (later r s).rcv = s.rcv ∧ (later r s).boot = s.boot ∧ (later r s).out = s.out ∧ (later r s).free = s.free ∧
    (later r s).pending = s.pending := by
  simp [later]

@[simp] theorem finishKey_frame (k : Key) (status : Nat) (ws : List W64) (s : State) :
    (finishKey k status ws s).time = s.time ∧ (finishKey k status ws s).p = s.p ∧
    (finishKey k status ws s).outs = s.outs ∧ (finishKey k status ws s).f = s.f ∧
    (finishKey k status ws s).refs = s.refs ∧ (finishKey k status ws s).lanes = s.lanes ∧
    (finishKey k status ws s).octets = s.octets ∧ (finishKey k status ws s).sels = s.sels ∧
    (finishKey k status ws s).fab = s.fab ∧ (finishKey k status ws s).planner = s.planner ∧
    (finishKey k status ws s).host.mem = s.host.mem ∧ (finishKey k status ws s).host.engine = s.host.engine ∧
    (finishKey k status ws s).host.work = s.host.work ∧ (finishKey k status ws s).twin = s.twin ∧
    (finishKey k status ws s).ckpt = s.ckpt ∧ (finishKey k status ws s).keeper = s.keeper ∧
    (finishKey k status ws s).mx = s.mx ∧ (finishKey k status ws s).ctr = s.ctr ∧
    (finishKey k status ws s).rcv = s.rcv ∧ (finishKey k status ws s).boot = s.boot ∧
    (finishKey k status ws s).free = s.free ∧ (finishKey k status ws s).pending = s.pending := by
  unfold finishKey
  (repeat' split) <;> simp

@[simp] theorem notReached_frame (m : Nat) (s : State) :
    (notReached m s).time = s.time ∧ (notReached m s).p = s.p ∧ (notReached m s).outs = s.outs ∧
    (notReached m s).f = s.f ∧ (notReached m s).refs = s.refs ∧ (notReached m s).lanes = s.lanes ∧
    (notReached m s).octets = s.octets ∧ (notReached m s).sels = s.sels ∧ (notReached m s).fab = s.fab ∧
    (notReached m s).planner = s.planner ∧ (notReached m s).host = s.host ∧ (notReached m s).twin = s.twin ∧
    (notReached m s).ckpt = s.ckpt ∧ (notReached m s).keeper = s.keeper ∧ (notReached m s).flight = s.flight ∧
    (notReached m s).ctr = s.ctr ∧ (notReached m s).rcv = s.rcv ∧ (notReached m s).boot = s.boot ∧
    (notReached m s).out = s.out ∧ (notReached m s).free = s.free ∧ (notReached m s).pending = s.pending := by
  simp [notReached]

@[simp] theorem invalid_frame (r : Run) (s : State) :
    (invalid r s).time = s.time ∧ (invalid r s).p = s.p ∧ (invalid r s).outs = s.outs ∧ (invalid r s).f = s.f ∧
    (invalid r s).refs = s.refs ∧ (invalid r s).lanes = s.lanes ∧ (invalid r s).octets = s.octets ∧
    (invalid r s).sels = s.sels ∧ (invalid r s).fab = s.fab ∧ (invalid r s).planner = s.planner ∧
    (invalid r s).host.mem = s.host.mem ∧ (invalid r s).host.engine = s.host.engine ∧
    (invalid r s).host.work = s.host.work ∧ (invalid r s).twin = s.twin ∧ (invalid r s).ckpt = s.ckpt ∧
    (invalid r s).keeper = s.keeper ∧ (invalid r s).mx = s.mx ∧ (invalid r s).ctr = s.ctr ∧
    (invalid r s).rcv = s.rcv ∧ (invalid r s).boot = s.boot ∧ (invalid r s).free = s.free ∧
    (invalid r s).pending = s.pending := by
  simp [invalid]

@[simp] theorem bumpCfg_frame (s : State) :
    (bumpCfg s).time = s.time ∧ (bumpCfg s).p = s.p ∧ (bumpCfg s).outs = s.outs ∧ (bumpCfg s).f = s.f ∧
    (bumpCfg s).refs = s.refs ∧ (bumpCfg s).lanes = s.lanes ∧ (bumpCfg s).octets = s.octets ∧
    (bumpCfg s).sels = s.sels ∧ (bumpCfg s).fab = s.fab ∧ (bumpCfg s).planner = s.planner ∧
    (bumpCfg s).host = s.host ∧ (bumpCfg s).twin = s.twin ∧ (bumpCfg s).ckpt = s.ckpt ∧
    (bumpCfg s).keeper = s.keeper ∧ (bumpCfg s).flight = s.flight ∧ (bumpCfg s).mx = s.mx ∧ (bumpCfg s).ctr = s.ctr ∧
    (bumpCfg s).boot = s.boot ∧ (bumpCfg s).out = s.out ∧ (bumpCfg s).free = s.free ∧
    (bumpCfg s).pending = s.pending := by
  simp [bumpCfg]

end Sys2Proof.Machine
end

