-- ==== Sys2Proof/Laws/FramesTwinLine.lean ====
section
/-! SUPPORT. What the operations of Machine/TwinLine.lean leave as it was: one lemma per operation. -/

namespace Sys2Proof.Machine

open Sys2Proof

@[simp] theorem sendTwin_frame (type : Nat) (gen : Nat) (frame : Nat) (acked : Nat) (ws : List SlotWrite) (s : State) :
    (sendTwin type gen frame acked ws s).time = s.time ∧ (sendTwin type gen frame acked ws s).lanes = s.lanes ∧
    (sendTwin type gen frame acked ws s).planner = s.planner ∧ (sendTwin type gen frame acked ws s).host = s.host ∧
    (sendTwin type gen frame acked ws s).twin = s.twin ∧ (sendTwin type gen frame acked ws s).flight = s.flight ∧
    (sendTwin type gen frame acked ws s).boot = s.boot ∧
    (sendTwin type gen frame acked ws s).pending = s.pending := by
  simp [sendTwin]

@[simp] theorem nextBlock_frame (s : State) :
    (nextBlock s).2.time = s.time ∧ (nextBlock s).2.lanes = s.lanes ∧ (nextBlock s).2.planner = s.planner ∧
    (nextBlock s).2.host = s.host ∧ (nextBlock s).2.twin = s.twin ∧ (nextBlock s).2.flight = s.flight ∧
    (nextBlock s).2.boot = s.boot ∧ (nextBlock s).2.pending = s.pending := by
  unfold nextBlock
  (repeat' split) <;> simp

@[simp] theorem sendBlocks_frame (n : Nat) (s : State) :
    (sendBlocks n s).time = s.time ∧ (sendBlocks n s).lanes = s.lanes ∧ (sendBlocks n s).planner = s.planner ∧
    (sendBlocks n s).host = s.host ∧ (sendBlocks n s).twin = s.twin ∧ (sendBlocks n s).flight = s.flight ∧
    (sendBlocks n s).boot = s.boot ∧ (sendBlocks n s).pending = s.pending := by
  induction n generalizing s with
  | zero => simp [sendBlocks]
  | succ n ih =>
    unfold sendBlocks
    simp only [ih]
    split <;> simp

@[simp] theorem twinSend_frame (s : State) :
    (twinSend s).time = s.time ∧ (twinSend s).lanes = s.lanes ∧ (twinSend s).planner = s.planner ∧
    (twinSend s).host = s.host ∧ (twinSend s).twin = s.twin ∧ (twinSend s).flight = s.flight ∧
    (twinSend s).boot = s.boot ∧ (twinSend s).pending = s.pending := by
  simp [twinSend]

@[simp] theorem takeBlock_frame (b : List W64) (s : State) :
    (takeBlock b s).2.time = s.time ∧ (takeBlock b s).2.lanes = s.lanes ∧ (takeBlock b s).2.planner = s.planner ∧
    (takeBlock b s).2.host = s.host ∧ (takeBlock b s).2.twin = s.twin ∧ (takeBlock b s).2.flight = s.flight ∧
    (takeBlock b s).2.boot = s.boot ∧ (takeBlock b s).2.pending = s.pending := by
  unfold takeBlock
  (repeat' split) <;> simp

@[simp] theorem takeBlocks_frame (bs : List (List W64)) (s : State) :
    (takeBlocks bs s).2.time = s.time ∧ (takeBlocks bs s).2.lanes = s.lanes ∧ (takeBlocks bs s).2.planner = s.planner ∧
    (takeBlocks bs s).2.host = s.host ∧ (takeBlocks bs s).2.twin = s.twin ∧ (takeBlocks bs s).2.flight = s.flight ∧
    (takeBlocks bs s).2.boot = s.boot ∧ (takeBlocks bs s).2.pending = s.pending := by
  induction bs generalizing s with
  | nil => simp [takeBlocks]
  | cons b bs ih => simp [takeBlocks, ih]

end Sys2Proof.Machine
end

