-- ==== Sys2Proof/Laws/FramesHostIf.lean ====
section
/-! SUPPORT. What the operations of Machine/HostIf.lean leave as it was: one lemma per operation. -/

namespace Sys2Proof.Machine

open Sys2Proof

@[simp] theorem refill_frame (s : State) :
    (refill s).time = s.time ∧ (refill s).p = s.p ∧ (refill s).outs = s.outs ∧ (refill s).f = s.f ∧
    (refill s).refs = s.refs ∧ (refill s).lanes = s.lanes ∧ (refill s).octets = s.octets ∧ (refill s).sels = s.sels ∧
    (refill s).fab = s.fab ∧ (refill s).planner = s.planner ∧ (refill s).host.mem = s.host.mem ∧
    (refill s).host.engine = s.host.engine ∧ (refill s).twin = s.twin ∧ (refill s).ckpt = s.ckpt ∧
    (refill s).keeper = s.keeper ∧ (refill s).flight = s.flight ∧ (refill s).mx = s.mx ∧ (refill s).ctr = s.ctr ∧
    (refill s).rcv = s.rcv ∧ (refill s).boot = s.boot ∧ (refill s).out = s.out ∧ (refill s).free = s.free ∧
    (refill s).pending = s.pending := by
  simp [refill]

@[simp] theorem withdrawSent_frame (q : Nat) (s : State) :
    (withdrawSent q s).time = s.time ∧ (withdrawSent q s).p = s.p ∧ (withdrawSent q s).outs = s.outs ∧
    (withdrawSent q s).f = s.f ∧ (withdrawSent q s).refs = s.refs ∧ (withdrawSent q s).lanes = s.lanes ∧
    (withdrawSent q s).octets = s.octets ∧ (withdrawSent q s).sels = s.sels ∧ (withdrawSent q s).fab = s.fab ∧
    (withdrawSent q s).planner = s.planner ∧ (withdrawSent q s).host.mem = s.host.mem ∧
    (withdrawSent q s).host.engine = s.host.engine ∧ (withdrawSent q s).host.work = s.host.work ∧
    (withdrawSent q s).twin = s.twin ∧ (withdrawSent q s).ckpt = s.ckpt ∧ (withdrawSent q s).keeper = s.keeper ∧
    (withdrawSent q s).mx = s.mx ∧ (withdrawSent q s).ctr = s.ctr ∧ (withdrawSent q s).rcv = s.rcv ∧
    (withdrawSent q s).boot = s.boot ∧ (withdrawSent q s).free = s.free ∧ (withdrawSent q s).pending = s.pending := by
  simp [withdrawSent]

@[simp] theorem deleteSq_frame (q : Nat) (s : State) :
    (deleteSq q s).time = s.time ∧ (deleteSq q s).p = s.p ∧ (deleteSq q s).outs = s.outs ∧ (deleteSq q s).f = s.f ∧
    (deleteSq q s).refs = s.refs ∧ (deleteSq q s).lanes = s.lanes ∧ (deleteSq q s).octets = s.octets ∧
    (deleteSq q s).sels = s.sels ∧ (deleteSq q s).fab = s.fab ∧ (deleteSq q s).planner = s.planner ∧
    (deleteSq q s).host.mem = s.host.mem ∧ (deleteSq q s).host.engine = s.host.engine ∧ (deleteSq q s).twin = s.twin ∧
    (deleteSq q s).ckpt = s.ckpt ∧ (deleteSq q s).keeper = s.keeper ∧ (deleteSq q s).mx = s.mx ∧
    (deleteSq q s).ctr = s.ctr ∧ (deleteSq q s).rcv = s.rcv ∧ (deleteSq q s).boot = s.boot ∧
    (deleteSq q s).free = s.free ∧ (deleteSq q s).pending = s.pending := by
  unfold deleteSq
  dsimp only
  (repeat' split) <;> simp

@[simp] theorem deleteEq_frame (e : Nat) (s : State) :
    (deleteEq e s).time = s.time ∧ (deleteEq e s).p = s.p ∧ (deleteEq e s).outs = s.outs ∧ (deleteEq e s).f = s.f ∧
    (deleteEq e s).refs = s.refs ∧ (deleteEq e s).lanes = s.lanes ∧ (deleteEq e s).octets = s.octets ∧
    (deleteEq e s).sels = s.sels ∧ (deleteEq e s).fab = s.fab ∧ (deleteEq e s).planner = s.planner ∧
    (deleteEq e s).host.mem = s.host.mem ∧ (deleteEq e s).host.engine = s.host.engine ∧
    (deleteEq e s).host.work = s.host.work ∧ (deleteEq e s).twin = s.twin ∧ (deleteEq e s).ckpt = s.ckpt ∧
    (deleteEq e s).keeper = s.keeper ∧ (deleteEq e s).flight = s.flight ∧ (deleteEq e s).mx = s.mx ∧
    (deleteEq e s).ctr = s.ctr ∧ (deleteEq e s).rcv = s.rcv ∧ (deleteEq e s).boot = s.boot ∧
    (deleteEq e s).out = s.out ∧ (deleteEq e s).free = s.free ∧ (deleteEq e s).pending = s.pending := by
  unfold deleteEq
  (repeat' split) <;> simp

@[simp] theorem createEq_frame (e : Nat) (x : EvQ) (s : State) :
    (createEq e x s).time = s.time ∧ (createEq e x s).p = s.p ∧ (createEq e x s).outs = s.outs ∧
    (createEq e x s).f = s.f ∧ (createEq e x s).refs = s.refs ∧ (createEq e x s).lanes = s.lanes ∧
    (createEq e x s).octets = s.octets ∧ (createEq e x s).sels = s.sels ∧ (createEq e x s).fab = s.fab ∧
    (createEq e x s).planner = s.planner ∧ (createEq e x s).host.mem = s.host.mem ∧
    (createEq e x s).host.engine = s.host.engine ∧ (createEq e x s).host.work = s.host.work ∧
    (createEq e x s).twin = s.twin ∧ (createEq e x s).ckpt = s.ckpt ∧ (createEq e x s).keeper = s.keeper ∧
    (createEq e x s).flight = s.flight ∧ (createEq e x s).mx = s.mx ∧ (createEq e x s).ctr = s.ctr ∧
    (createEq e x s).rcv = s.rcv ∧ (createEq e x s).boot = s.boot ∧ (createEq e x s).out = s.out ∧
    (createEq e x s).free = s.free ∧ (createEq e x s).pending = s.pending := by
  simp [createEq]

@[simp] theorem functionReset_frame (s : State) :
    (functionReset s).time = s.time ∧ (functionReset s).p = s.p ∧ (functionReset s).outs = s.outs ∧
    (functionReset s).f = s.f ∧ (functionReset s).refs = s.refs ∧ (functionReset s).lanes = s.lanes ∧
    (functionReset s).octets = s.octets ∧ (functionReset s).sels = s.sels ∧ (functionReset s).fab = s.fab ∧
    (functionReset s).planner = s.planner ∧ (functionReset s).host.mem = s.host.mem ∧
    (functionReset s).host.engine = s.host.engine ∧ (functionReset s).twin = s.twin ∧
    (functionReset s).ckpt = s.ckpt ∧ (functionReset s).keeper = s.keeper ∧ (functionReset s).mx = s.mx ∧
    (functionReset s).ctr = s.ctr ∧ (functionReset s).rcv = s.rcv ∧ (functionReset s).boot = s.boot ∧
    (functionReset s).free = s.free ∧ (functionReset s).pending = s.pending := by
  simp [functionReset]

@[simp] theorem adminCtrl_frame (v : BitVec 32) (s : State) :
    (adminCtrl v s).time = s.time ∧ (adminCtrl v s).p = s.p ∧ (adminCtrl v s).outs = s.outs ∧
    (adminCtrl v s).f = s.f ∧ (adminCtrl v s).refs = s.refs ∧ (adminCtrl v s).lanes = s.lanes ∧
    (adminCtrl v s).octets = s.octets ∧ (adminCtrl v s).sels = s.sels ∧ (adminCtrl v s).fab = s.fab ∧
    (adminCtrl v s).planner = s.planner ∧ (adminCtrl v s).host.mem = s.host.mem ∧
    (adminCtrl v s).host.engine = s.host.engine ∧ (adminCtrl v s).twin = s.twin ∧ (adminCtrl v s).ckpt = s.ckpt ∧
    (adminCtrl v s).keeper = s.keeper ∧ (adminCtrl v s).mx = s.mx ∧ (adminCtrl v s).ctr = s.ctr ∧
    (adminCtrl v s).rcv = s.rcv ∧ (adminCtrl v s).boot = s.boot ∧ (adminCtrl v s).free = s.free ∧
    (adminCtrl v s).pending = s.pending := by
  simp [adminCtrl]

@[simp] theorem queueFault_frame (kind : QKind) (q : Nat) (cause : Nat) (s : State) :
    (queueFault kind q cause s).time = s.time ∧ (queueFault kind q cause s).p = s.p ∧
    (queueFault kind q cause s).outs = s.outs ∧ (queueFault kind q cause s).f = s.f ∧
    (queueFault kind q cause s).refs = s.refs ∧ (queueFault kind q cause s).lanes = s.lanes ∧
    (queueFault kind q cause s).octets = s.octets ∧ (queueFault kind q cause s).sels = s.sels ∧
    (queueFault kind q cause s).fab = s.fab ∧ (queueFault kind q cause s).planner = s.planner ∧
    (queueFault kind q cause s).host.mem = s.host.mem ∧ (queueFault kind q cause s).host.engine = s.host.engine ∧
    (queueFault kind q cause s).host.work = s.host.work ∧ (queueFault kind q cause s).twin = s.twin ∧
    (queueFault kind q cause s).ckpt = s.ckpt ∧ (queueFault kind q cause s).keeper = s.keeper ∧
    (queueFault kind q cause s).mx = s.mx ∧ (queueFault kind q cause s).rcv = s.rcv ∧
    (queueFault kind q cause s).boot = s.boot ∧ (queueFault kind q cause s).free = s.free ∧
    (queueFault kind q cause s).pending = s.pending := by
  simp [queueFault]

@[simp] theorem sqTail_frame (q : Nat) (v : BitVec 32) (s : State) :
    (sqTail q v s).time = s.time ∧ (sqTail q v s).p = s.p ∧ (sqTail q v s).outs = s.outs ∧ (sqTail q v s).f = s.f ∧
    (sqTail q v s).refs = s.refs ∧ (sqTail q v s).lanes = s.lanes ∧ (sqTail q v s).octets = s.octets ∧
    (sqTail q v s).sels = s.sels ∧ (sqTail q v s).fab = s.fab ∧ (sqTail q v s).planner = s.planner ∧
    (sqTail q v s).host.mem = s.host.mem ∧ (sqTail q v s).host.engine = s.host.engine ∧
    (sqTail q v s).host.work = s.host.work ∧ (sqTail q v s).twin = s.twin ∧ (sqTail q v s).ckpt = s.ckpt ∧
    (sqTail q v s).keeper = s.keeper ∧ (sqTail q v s).mx = s.mx ∧ (sqTail q v s).rcv = s.rcv ∧
    (sqTail q v s).boot = s.boot ∧ (sqTail q v s).free = s.free ∧ (sqTail q v s).pending = s.pending := by
  unfold sqTail
  (repeat' split) <;> simp

@[simp] theorem cqHead_frame (q : Nat) (v : BitVec 32) (s : State) :
    (cqHead q v s).time = s.time ∧ (cqHead q v s).p = s.p ∧ (cqHead q v s).outs = s.outs ∧ (cqHead q v s).f = s.f ∧
    (cqHead q v s).refs = s.refs ∧ (cqHead q v s).lanes = s.lanes ∧ (cqHead q v s).octets = s.octets ∧
    (cqHead q v s).sels = s.sels ∧ (cqHead q v s).fab = s.fab ∧ (cqHead q v s).planner = s.planner ∧
    (cqHead q v s).host.mem = s.host.mem ∧ (cqHead q v s).host.engine = s.host.engine ∧
    (cqHead q v s).host.work = s.host.work ∧ (cqHead q v s).twin = s.twin ∧ (cqHead q v s).ckpt = s.ckpt ∧
    (cqHead q v s).keeper = s.keeper ∧ (cqHead q v s).mx = s.mx ∧ (cqHead q v s).rcv = s.rcv ∧
    (cqHead q v s).boot = s.boot ∧ (cqHead q v s).free = s.free ∧ (cqHead q v s).pending = s.pending := by
  unfold cqHead
  (repeat' split) <;> simp

@[simp] theorem eqHead_frame (e : Nat) (v : BitVec 32) (s : State) :
    (eqHead e v s).time = s.time ∧ (eqHead e v s).p = s.p ∧ (eqHead e v s).outs = s.outs ∧ (eqHead e v s).f = s.f ∧
    (eqHead e v s).refs = s.refs ∧ (eqHead e v s).lanes = s.lanes ∧ (eqHead e v s).octets = s.octets ∧
    (eqHead e v s).sels = s.sels ∧ (eqHead e v s).fab = s.fab ∧ (eqHead e v s).planner = s.planner ∧
    (eqHead e v s).host.mem = s.host.mem ∧ (eqHead e v s).host.engine = s.host.engine ∧
    (eqHead e v s).host.work = s.host.work ∧ (eqHead e v s).twin = s.twin ∧ (eqHead e v s).ckpt = s.ckpt ∧
    (eqHead e v s).keeper = s.keeper ∧ (eqHead e v s).mx = s.mx ∧ (eqHead e v s).rcv = s.rcv ∧
    (eqHead e v s).boot = s.boot ∧ (eqHead e v s).free = s.free ∧ (eqHead e v s).pending = s.pending := by
  unfold eqHead
  (repeat' split) <;> simp

@[simp] theorem msixUnmask_frame (v : Nat) (s : State) :
    (msixUnmask v s).time = s.time ∧ (msixUnmask v s).p = s.p ∧ (msixUnmask v s).outs = s.outs ∧
    (msixUnmask v s).f = s.f ∧ (msixUnmask v s).refs = s.refs ∧ (msixUnmask v s).lanes = s.lanes ∧
    (msixUnmask v s).octets = s.octets ∧ (msixUnmask v s).sels = s.sels ∧ (msixUnmask v s).fab = s.fab ∧
    (msixUnmask v s).planner = s.planner ∧ (msixUnmask v s).host.mem = s.host.mem ∧
    (msixUnmask v s).host.engine = s.host.engine ∧ (msixUnmask v s).host.work = s.host.work ∧
    (msixUnmask v s).twin = s.twin ∧ (msixUnmask v s).ckpt = s.ckpt ∧ (msixUnmask v s).keeper = s.keeper ∧
    (msixUnmask v s).flight = s.flight ∧ (msixUnmask v s).mx = s.mx ∧ (msixUnmask v s).ctr = s.ctr ∧
    (msixUnmask v s).rcv = s.rcv ∧ (msixUnmask v s).boot = s.boot ∧ (msixUnmask v s).free = s.free ∧
    (msixUnmask v s).pending = s.pending := by
  simp [msixUnmask]

@[simp] theorem windowWrite32_frame (off : Nat) (v : BitVec 32) (s : State) :
    (windowWrite32 off v s).time = s.time ∧ (windowWrite32 off v s).p = s.p ∧ (windowWrite32 off v s).outs = s.outs ∧
    (windowWrite32 off v s).f = s.f ∧ (windowWrite32 off v s).refs = s.refs ∧
    (windowWrite32 off v s).lanes = s.lanes ∧ (windowWrite32 off v s).octets = s.octets ∧
    (windowWrite32 off v s).sels = s.sels ∧ (windowWrite32 off v s).fab = s.fab ∧
    (windowWrite32 off v s).planner = s.planner ∧ (windowWrite32 off v s).host.mem = s.host.mem ∧
    (windowWrite32 off v s).host.engine = s.host.engine ∧ (windowWrite32 off v s).twin = s.twin ∧
    (windowWrite32 off v s).ckpt = s.ckpt ∧ (windowWrite32 off v s).keeper = s.keeper ∧
    (windowWrite32 off v s).mx = s.mx ∧ (windowWrite32 off v s).rcv = s.rcv ∧ (windowWrite32 off v s).boot = s.boot ∧
    (windowWrite32 off v s).free = s.free ∧ (windowWrite32 off v s).pending = s.pending := by
  simp [windowWrite32]

@[simp] theorem windowRead32_frame (off : Nat) (s : State) :
    (windowRead32 off s).time = s.time ∧ (windowRead32 off s).p = s.p ∧ (windowRead32 off s).outs = s.outs ∧
    (windowRead32 off s).f = s.f ∧ (windowRead32 off s).refs = s.refs ∧ (windowRead32 off s).lanes = s.lanes ∧
    (windowRead32 off s).octets = s.octets ∧ (windowRead32 off s).sels = s.sels ∧ (windowRead32 off s).fab = s.fab ∧
    (windowRead32 off s).planner = s.planner ∧ (windowRead32 off s).host.mem = s.host.mem ∧
    (windowRead32 off s).host.engine = s.host.engine ∧ (windowRead32 off s).host.work = s.host.work ∧
    (windowRead32 off s).twin = s.twin ∧ (windowRead32 off s).ckpt = s.ckpt ∧ (windowRead32 off s).keeper = s.keeper ∧
    (windowRead32 off s).flight = s.flight ∧ (windowRead32 off s).mx = s.mx ∧ (windowRead32 off s).ctr = s.ctr ∧
    (windowRead32 off s).rcv = s.rcv ∧ (windowRead32 off s).boot = s.boot ∧ (windowRead32 off s).out = s.out ∧
    (windowRead32 off s).free = s.free ∧ (windowRead32 off s).pending = s.pending := by
  simp [windowRead32]

@[simp] theorem windowRead64_frame (off : Nat) (s : State) :
    (windowRead64 off s).time = s.time ∧ (windowRead64 off s).p = s.p ∧ (windowRead64 off s).outs = s.outs ∧
    (windowRead64 off s).f = s.f ∧ (windowRead64 off s).refs = s.refs ∧ (windowRead64 off s).lanes = s.lanes ∧
    (windowRead64 off s).octets = s.octets ∧ (windowRead64 off s).sels = s.sels ∧ (windowRead64 off s).fab = s.fab ∧
    (windowRead64 off s).planner = s.planner ∧ (windowRead64 off s).host.mem = s.host.mem ∧
    (windowRead64 off s).host.engine = s.host.engine ∧ (windowRead64 off s).host.work = s.host.work ∧
    (windowRead64 off s).twin = s.twin ∧ (windowRead64 off s).ckpt = s.ckpt ∧ (windowRead64 off s).keeper = s.keeper ∧
    (windowRead64 off s).flight = s.flight ∧ (windowRead64 off s).mx = s.mx ∧ (windowRead64 off s).ctr = s.ctr ∧
    (windowRead64 off s).rcv = s.rcv ∧ (windowRead64 off s).boot = s.boot ∧ (windowRead64 off s).out = s.out ∧
    (windowRead64 off s).free = s.free ∧ (windowRead64 off s).pending = s.pending := by
  simp [windowRead64]

@[simp] theorem pcieTick_frame (c : Option PcieCfg) (s : State) :
    (pcieTick c s).time = s.time ∧ (pcieTick c s).p = s.p ∧ (pcieTick c s).outs = s.outs ∧ (pcieTick c s).f = s.f ∧
    (pcieTick c s).refs = s.refs ∧ (pcieTick c s).lanes = s.lanes ∧ (pcieTick c s).octets = s.octets ∧
    (pcieTick c s).sels = s.sels ∧ (pcieTick c s).fab = s.fab ∧ (pcieTick c s).planner = s.planner ∧
    (pcieTick c s).host.mem = s.host.mem ∧ (pcieTick c s).host.engine = s.host.engine ∧
    (pcieTick c s).host.work = s.host.work ∧ (pcieTick c s).twin = s.twin ∧ (pcieTick c s).ckpt = s.ckpt ∧
    (pcieTick c s).keeper = s.keeper ∧ (pcieTick c s).flight = s.flight ∧ (pcieTick c s).mx = s.mx ∧
    (pcieTick c s).ctr = s.ctr ∧ (pcieTick c s).rcv = s.rcv ∧ (pcieTick c s).boot = s.boot ∧
    (pcieTick c s).out = s.out ∧ (pcieTick c s).free = s.free ∧ (pcieTick c s).pending = s.pending := by
  unfold pcieTick
  (repeat' split) <;> simp

@[simp] theorem enqueue_frame (w : Work) (s : State) :
    (enqueue w s).time = s.time ∧ (enqueue w s).p = s.p ∧ (enqueue w s).outs = s.outs ∧ (enqueue w s).f = s.f ∧
    (enqueue w s).refs = s.refs ∧ (enqueue w s).lanes = s.lanes ∧ (enqueue w s).octets = s.octets ∧
    (enqueue w s).sels = s.sels ∧ (enqueue w s).fab = s.fab ∧ (enqueue w s).planner = s.planner ∧
    (enqueue w s).host.mem = s.host.mem ∧ (enqueue w s).host.engine = s.host.engine ∧ (enqueue w s).twin = s.twin ∧
    (enqueue w s).ckpt = s.ckpt ∧ (enqueue w s).keeper = s.keeper ∧ (enqueue w s).flight = s.flight ∧
    (enqueue w s).mx = s.mx ∧ (enqueue w s).ctr = s.ctr ∧ (enqueue w s).rcv = s.rcv ∧ (enqueue w s).boot = s.boot ∧
    (enqueue w s).out = s.out ∧ (enqueue w s).free = s.free ∧ (enqueue w s).pending = s.pending := by
  simp [enqueue]

@[simp] theorem completeOverdue_frame (w : Work) (s : State) :
    (completeOverdue w s).time = s.time ∧ (completeOverdue w s).p = s.p ∧ (completeOverdue w s).outs = s.outs ∧
    (completeOverdue w s).f = s.f ∧ (completeOverdue w s).refs = s.refs ∧ (completeOverdue w s).lanes = s.lanes ∧
    (completeOverdue w s).octets = s.octets ∧ (completeOverdue w s).sels = s.sels ∧
    (completeOverdue w s).fab = s.fab ∧ (completeOverdue w s).planner = s.planner ∧
    (completeOverdue w s).host.mem = s.host.mem ∧ (completeOverdue w s).host.engine = s.host.engine ∧
    (completeOverdue w s).host.work = s.host.work ∧ (completeOverdue w s).twin = s.twin ∧
    (completeOverdue w s).ckpt = s.ckpt ∧ (completeOverdue w s).keeper = s.keeper ∧ (completeOverdue w s).mx = s.mx ∧
    (completeOverdue w s).ctr = s.ctr ∧ (completeOverdue w s).rcv = s.rcv ∧ (completeOverdue w s).boot = s.boot ∧
    (completeOverdue w s).free = s.free ∧ (completeOverdue w s).pending = s.pending := by
  unfold completeOverdue
  (repeat' split) <;> simp

@[simp] theorem arrive_frame (w : Work) (s : State) :
    (arrive w s).time = s.time ∧ (arrive w s).p = s.p ∧ (arrive w s).outs = s.outs ∧ (arrive w s).f = s.f ∧
    (arrive w s).refs = s.refs ∧ (arrive w s).lanes = s.lanes ∧ (arrive w s).octets = s.octets ∧
    (arrive w s).sels = s.sels ∧ (arrive w s).fab = s.fab ∧ (arrive w s).planner = s.planner ∧
    (arrive w s).host.mem = s.host.mem ∧ (arrive w s).host.engine = s.host.engine ∧ (arrive w s).twin = s.twin ∧
    (arrive w s).ckpt = s.ckpt ∧ (arrive w s).keeper = s.keeper ∧ (arrive w s).mx = s.mx ∧ (arrive w s).ctr = s.ctr ∧
    (arrive w s).rcv = s.rcv ∧ (arrive w s).boot = s.boot ∧ (arrive w s).free = s.free ∧
    (arrive w s).pending = s.pending := by
  unfold arrive
  (repeat' split) <;> simp

@[simp] theorem forward_frame (k : Key) (c : Cmd) (dst : Nat) (s : State) :
    (forward k c dst s).time = s.time ∧ (forward k c dst s).p = s.p ∧ (forward k c dst s).outs = s.outs ∧
    (forward k c dst s).f = s.f ∧ (forward k c dst s).refs = s.refs ∧ (forward k c dst s).lanes = s.lanes ∧
    (forward k c dst s).octets = s.octets ∧ (forward k c dst s).sels = s.sels ∧ (forward k c dst s).fab = s.fab ∧
    (forward k c dst s).planner = s.planner ∧ (forward k c dst s).host.mem = s.host.mem ∧
    (forward k c dst s).host.engine = s.host.engine ∧ (forward k c dst s).host.work = s.host.work ∧
    (forward k c dst s).twin = s.twin ∧ (forward k c dst s).ckpt = s.ckpt ∧ (forward k c dst s).keeper = s.keeper ∧
    (forward k c dst s).mx = s.mx ∧ (forward k c dst s).ctr = s.ctr ∧ (forward k c dst s).rcv = s.rcv ∧
    (forward k c dst s).boot = s.boot ∧ (forward k c dst s).free = s.free ∧
    (forward k c dst s).pending = s.pending := by
  simp [forward]

@[simp] theorem dispatch_frame (k : Key) (c : Cmd) (s : State) :
    (dispatch k c s).time = s.time ∧ (dispatch k c s).p = s.p ∧ (dispatch k c s).outs = s.outs ∧
    (dispatch k c s).f = s.f ∧ (dispatch k c s).refs = s.refs ∧ (dispatch k c s).lanes = s.lanes ∧
    (dispatch k c s).octets = s.octets ∧ (dispatch k c s).sels = s.sels ∧ (dispatch k c s).fab = s.fab ∧
    (dispatch k c s).planner = s.planner ∧ (dispatch k c s).host.mem = s.host.mem ∧
    (dispatch k c s).host.engine = s.host.engine ∧ (dispatch k c s).twin = s.twin ∧ (dispatch k c s).ckpt = s.ckpt ∧
    (dispatch k c s).keeper = s.keeper ∧ (dispatch k c s).mx = s.mx ∧ (dispatch k c s).ctr = s.ctr ∧
    (dispatch k c s).rcv = s.rcv ∧ (dispatch k c s).boot = s.boot ∧ (dispatch k c s).free = s.free ∧
    (dispatch k c s).pending = s.pending := by
  simp [dispatch]

@[simp] theorem raiseHigh_frame (k : Key) (s : State) :
    (raiseHigh k s).time = s.time ∧ (raiseHigh k s).p = s.p ∧ (raiseHigh k s).outs = s.outs ∧
    (raiseHigh k s).f = s.f ∧ (raiseHigh k s).refs = s.refs ∧ (raiseHigh k s).lanes = s.lanes ∧
    (raiseHigh k s).octets = s.octets ∧ (raiseHigh k s).sels = s.sels ∧ (raiseHigh k s).fab = s.fab ∧
    (raiseHigh k s).planner = s.planner ∧ (raiseHigh k s).host.mem = s.host.mem ∧
    (raiseHigh k s).host.engine = s.host.engine ∧ (raiseHigh k s).host.work = s.host.work ∧
    (raiseHigh k s).twin = s.twin ∧ (raiseHigh k s).ckpt = s.ckpt ∧ (raiseHigh k s).keeper = s.keeper ∧
    (raiseHigh k s).flight = s.flight ∧ (raiseHigh k s).mx = s.mx ∧ (raiseHigh k s).ctr = s.ctr ∧
    (raiseHigh k s).rcv = s.rcv ∧ (raiseHigh k s).boot = s.boot ∧ (raiseHigh k s).out = s.out ∧
    (raiseHigh k s).free = s.free ∧ (raiseHigh k s).pending = s.pending := by
  simp [raiseHigh]

@[simp] theorem answerDup_frame (w : Work) (s : State) :
    (answerDup w s).time = s.time ∧ (answerDup w s).p = s.p ∧ (answerDup w s).outs = s.outs ∧
    (answerDup w s).f = s.f ∧ (answerDup w s).refs = s.refs ∧ (answerDup w s).lanes = s.lanes ∧
    (answerDup w s).octets = s.octets ∧ (answerDup w s).sels = s.sels ∧ (answerDup w s).fab = s.fab ∧
    (answerDup w s).planner = s.planner ∧ (answerDup w s).host.mem = s.host.mem ∧
    (answerDup w s).host.engine = s.host.engine ∧ (answerDup w s).host.work = s.host.work ∧
    (answerDup w s).twin = s.twin ∧ (answerDup w s).ckpt = s.ckpt ∧ (answerDup w s).keeper = s.keeper ∧
    (answerDup w s).mx = s.mx ∧ (answerDup w s).ctr = s.ctr ∧ (answerDup w s).rcv = s.rcv ∧
    (answerDup w s).boot = s.boot ∧ (answerDup w s).free = s.free ∧ (answerDup w s).pending = s.pending := by
  unfold answerDup
  (repeat' split) <;> simp

@[simp] theorem startNew_frame (w : Work) (s : State) :
    (startNew w s).time = s.time ∧ (startNew w s).p = s.p ∧ (startNew w s).outs = s.outs ∧ (startNew w s).f = s.f ∧
    (startNew w s).refs = s.refs ∧ (startNew w s).lanes = s.lanes ∧ (startNew w s).octets = s.octets ∧
    (startNew w s).sels = s.sels ∧ (startNew w s).fab = s.fab ∧ (startNew w s).planner = s.planner ∧
    (startNew w s).host.mem = s.host.mem ∧ (startNew w s).host.work = s.host.work ∧ (startNew w s).twin = s.twin ∧
    (startNew w s).ckpt = s.ckpt ∧ (startNew w s).keeper = s.keeper ∧ (startNew w s).mx = s.mx ∧
    (startNew w s).ctr = s.ctr ∧ (startNew w s).rcv = s.rcv ∧ (startNew w s).boot = s.boot ∧
    (startNew w s).free = s.free ∧ (startNew w s).pending = s.pending := by
  unfold startNew
  dsimp only
  (repeat' split) <;> simp

@[simp] theorem startTick_frame (s : State) :
    (startTick s).time = s.time ∧ (startTick s).p = s.p ∧ (startTick s).outs = s.outs ∧ (startTick s).f = s.f ∧
    (startTick s).refs = s.refs ∧ (startTick s).lanes = s.lanes ∧ (startTick s).octets = s.octets ∧
    (startTick s).sels = s.sels ∧ (startTick s).fab = s.fab ∧ (startTick s).planner = s.planner ∧
    (startTick s).host.mem = s.host.mem ∧ (startTick s).host.engine = s.host.engine ∧
    (startTick s).host.work = s.host.work ∧ (startTick s).twin = s.twin ∧ (startTick s).ckpt = s.ckpt ∧
    (startTick s).keeper = s.keeper ∧ (startTick s).flight = s.flight ∧ (startTick s).mx = s.mx ∧
    (startTick s).boot = s.boot ∧ (startTick s).out = s.out ∧ (startTick s).free = s.free ∧
    (startTick s).pending = s.pending := by
  simp [startTick]

@[simp] theorem dropWaiting_frame (i : Nat) (s : State) :
    (dropWaiting i s).time = s.time ∧ (dropWaiting i s).p = s.p ∧ (dropWaiting i s).outs = s.outs ∧
    (dropWaiting i s).f = s.f ∧ (dropWaiting i s).refs = s.refs ∧ (dropWaiting i s).lanes = s.lanes ∧
    (dropWaiting i s).octets = s.octets ∧ (dropWaiting i s).sels = s.sels ∧ (dropWaiting i s).fab = s.fab ∧
    (dropWaiting i s).planner = s.planner ∧ (dropWaiting i s).host.mem = s.host.mem ∧
    (dropWaiting i s).host.engine = s.host.engine ∧ (dropWaiting i s).twin = s.twin ∧
    (dropWaiting i s).ckpt = s.ckpt ∧ (dropWaiting i s).keeper = s.keeper ∧ (dropWaiting i s).flight = s.flight ∧
    (dropWaiting i s).mx = s.mx ∧ (dropWaiting i s).ctr = s.ctr ∧ (dropWaiting i s).rcv = s.rcv ∧
    (dropWaiting i s).boot = s.boot ∧ (dropWaiting i s).out = s.out ∧ (dropWaiting i s).free = s.free ∧
    (dropWaiting i s).pending = s.pending := by
  simp [dropWaiting]

@[simp] theorem expire_frame (st : Nat) (i : Nat) (s : State) :
    (expire st i s).time = s.time ∧ (expire st i s).p = s.p ∧ (expire st i s).outs = s.outs ∧
    (expire st i s).f = s.f ∧ (expire st i s).refs = s.refs ∧ (expire st i s).lanes = s.lanes ∧
    (expire st i s).octets = s.octets ∧ (expire st i s).sels = s.sels ∧ (expire st i s).fab = s.fab ∧
    (expire st i s).planner = s.planner ∧ (expire st i s).host.mem = s.host.mem ∧
    (expire st i s).host.engine = s.host.engine ∧ (expire st i s).twin = s.twin ∧ (expire st i s).ckpt = s.ckpt ∧
    (expire st i s).keeper = s.keeper ∧ (expire st i s).mx = s.mx ∧ (expire st i s).ctr = s.ctr ∧
    (expire st i s).rcv = s.rcv ∧ (expire st i s).boot = s.boot ∧ (expire st i s).free = s.free ∧
    (expire st i s).pending = s.pending := by
  unfold expire
  (repeat' split) <;> simp

end Sys2Proof.Machine
end

