-- ==== Sys2Proof/Laws/FramesPlan.lean ====
section
/-! SUPPORT. What the operations of Machine/Plan.lean leave as it was: one lemma per operation. -/

namespace Sys2Proof.Machine

open Sys2Proof

@[simp] theorem bufFailed_frame (r : Run) (addr : Nat) (bytes : Nat) (s : State) :
    (bufFailed r addr bytes s).time = s.time ∧ (bufFailed r addr bytes s).lanes = s.lanes ∧
    (bufFailed r addr bytes s).planner = s.planner ∧ (bufFailed r addr bytes s).twin = s.twin ∧
    (bufFailed r addr bytes s).boot = s.boot ∧ (bufFailed r addr bytes s).pending = s.pending := by
  simp [bufFailed]

@[simp] theorem bufReply_frame (r : Run) (ok : Bool) (addr : Nat) (ws : List W64) (reply : List W64) (s : State) :
    (bufReply r ok addr ws reply s).time = s.time ∧ (bufReply r ok addr ws reply s).lanes = s.lanes ∧
    (bufReply r ok addr ws reply s).planner = s.planner ∧ (bufReply r ok addr ws reply s).twin = s.twin ∧
    (bufReply r ok addr ws reply s).boot = s.boot ∧ (bufReply r ok addr ws reply s).pending = s.pending := by
  unfold bufReply
  (repeat' split) <;> simp

theorem throughMatrix_same {τ : Type} (q : State → τ) (m : Nat) (ts : List Nat) (r : Run) (f : State → State) (s : State)
    (hf : ∀ s, q (f s) = q s) (hr : ∀ k ws s, q (finish r k ws s) = q s) (hm : ∀ s k, q { s with mx.tgtErr := k } = q s) :
    q (throughMatrix m ts r f s) = q s := by
  unfold throughMatrix
  split
  · exact hf s
  · split
    · rfl
    · rw [hr, hm]

@[simp] theorem passDeltas_frame (s : State) :
    (passDeltas s).time = s.time ∧ (passDeltas s).lanes = s.lanes ∧ (passDeltas s).host = s.host ∧
    (passDeltas s).twin = s.twin ∧ (passDeltas s).flight = s.flight ∧ (passDeltas s).boot = s.boot ∧
    (passDeltas s).pending = s.pending := by
  simp [passDeltas]

@[simp] theorem dropDeltas_frame (c : Delta → Bool) (s : State) :
    (dropDeltas c s).time = s.time ∧ (dropDeltas c s).lanes = s.lanes ∧ (dropDeltas c s).host = s.host ∧
    (dropDeltas c s).twin = s.twin ∧ (dropDeltas c s).flight = s.flight ∧ (dropDeltas c s).boot = s.boot ∧
    (dropDeltas c s).pending = s.pending := by
  simp [dropDeltas]

@[simp] theorem sendFix_frame (p : Plan) (s : State) :
    (sendFix p s).time = s.time ∧ (sendFix p s).lanes = s.lanes ∧ (sendFix p s).planner = s.planner ∧
    (sendFix p s).host = s.host ∧ (sendFix p s).twin = s.twin ∧ (sendFix p s).flight = s.flight ∧
    (sendFix p s).boot = s.boot ∧ (sendFix p s).pending = s.pending := by
  simp [sendFix]

@[simp] theorem modPlan_frame (n : Nat) (f : Plan → Plan) (s : State) :
    (modPlan n f s).time = s.time ∧ (modPlan n f s).lanes = s.lanes ∧ (modPlan n f s).host = s.host ∧
    (modPlan n f s).twin = s.twin ∧ (modPlan n f s).flight = s.flight ∧ (modPlan n f s).boot = s.boot ∧
    (modPlan n f s).pending = s.pending := by
  simp [modPlan]

@[simp] theorem endPlan_frame (p : Plan) (status : Nat) (s : State) :
    (endPlan p status s).time = s.time ∧ (endPlan p status s).lanes = s.lanes ∧
    (endPlan p status s).host.mem = s.host.mem ∧ (endPlan p status s).twin = s.twin ∧
    (endPlan p status s).boot = s.boot ∧ (endPlan p status s).pending = s.pending := by
  simp [endPlan]

@[simp] theorem releaseDrops_frame (c : DropWait → Bool) (s : State) :
    (releaseDrops c s).time = s.time ∧ (releaseDrops c s).lanes = s.lanes ∧ (releaseDrops c s).host.mem = s.host.mem ∧
    (releaseDrops c s).twin = s.twin ∧ (releaseDrops c s).boot = s.boot ∧ (releaseDrops c s).pending = s.pending := by
  simp [releaseDrops]

@[simp] theorem withdrawFrom_frame (n : Nat) (status : Nat) (s : State) :
    (withdrawFrom n status s).time = s.time ∧ (withdrawFrom n status s).lanes = s.lanes ∧
    (withdrawFrom n status s).host.mem = s.host.mem ∧ (withdrawFrom n status s).twin = s.twin ∧
    (withdrawFrom n status s).boot = s.boot ∧ (withdrawFrom n status s).pending = s.pending := by
  unfold withdrawFrom
  dsimp only
  (repeat' split) <;> simp

@[simp] theorem discardOpen_frame (s : State) :
    (discardOpen s).time = s.time ∧ (discardOpen s).lanes = s.lanes ∧ (discardOpen s).host = s.host ∧
    (discardOpen s).twin = s.twin ∧ (discardOpen s).flight = s.flight ∧ (discardOpen s).boot = s.boot ∧
    (discardOpen s).pending = s.pending := by
  simp [discardOpen]

@[simp] theorem withdrawAll_frame (s : State) :
    (withdrawAll s).time = s.time ∧ (withdrawAll s).lanes = s.lanes ∧ (withdrawAll s).host.mem = s.host.mem ∧
    (withdrawAll s).twin = s.twin ∧ (withdrawAll s).boot = s.boot ∧ (withdrawAll s).pending = s.pending := by
  simp [withdrawAll]

@[simp] theorem armReady_frame (s : State) :
    (armReady s).time = s.time ∧ (armReady s).lanes = s.lanes ∧ (armReady s).host = s.host ∧
    (armReady s).twin = s.twin ∧ (armReady s).boot = s.boot ∧ (armReady s).pending = s.pending := by
  unfold armReady
  (repeat' split) <;> simp

@[simp] theorem forgetAcks_frame (s : State) :
    (forgetAcks s).time = s.time ∧ (forgetAcks s).lanes = s.lanes ∧ (forgetAcks s).host = s.host ∧
    (forgetAcks s).twin = s.twin ∧ (forgetAcks s).flight = s.flight ∧ (forgetAcks s).boot = s.boot ∧
    (forgetAcks s).pending = s.pending := by
  simp [forgetAcks]

@[simp] theorem peerLost_frame (cause : Nat) (s : State) :
    (peerLost cause s).time = s.time ∧ (peerLost cause s).lanes = s.lanes ∧ (peerLost cause s).host.mem = s.host.mem ∧
    (peerLost cause s).twin = s.twin ∧ (peerLost cause s).boot = s.boot ∧ (peerLost cause s).pending = s.pending := by
  simp [peerLost]

@[simp] theorem armOne_frame (n : Nat) (a : Nat) (s : State) :
    (armOne n a s).time = s.time ∧ (armOne n a s).lanes = s.lanes ∧ (armOne n a s).host.mem = s.host.mem ∧
    (armOne n a s).twin = s.twin ∧ (armOne n a s).boot = s.boot ∧ (armOne n a s).pending = s.pending := by
  unfold armOne
  (repeat' split) <;> simp

@[simp] theorem armingCheck_frame (a : Nat) (s : State) :
    (armingCheck a s).time = s.time ∧ (armingCheck a s).lanes = s.lanes ∧ (armingCheck a s).host.mem = s.host.mem ∧
    (armingCheck a s).twin = s.twin ∧ (armingCheck a s).boot = s.boot ∧ (armingCheck a s).pending = s.pending := by
  simp [armingCheck]

@[simp] theorem beginRead_frame (r : Run) (g : Nat) (ok : Bool) (s : State) :
    (beginRead r g ok s).time = s.time ∧ (beginRead r g ok s).lanes = s.lanes ∧
    (beginRead r g ok s).planner = s.planner ∧ (beginRead r g ok s).host.mem = s.host.mem ∧
    (beginRead r g ok s).twin = s.twin ∧ (beginRead r g ok s).boot = s.boot ∧
    (beginRead r g ok s).pending = s.pending := by
  unfold beginRead
  (repeat' split) <;> simp

@[simp] theorem endRead_frame (r : Run) (s : State) :
    (endRead r s).time = s.time ∧ (endRead r s).lanes = s.lanes ∧ (endRead r s).planner = s.planner ∧
    (endRead r s).twin = s.twin ∧ (endRead r s).boot = s.boot ∧ (endRead r s).pending = s.pending := by
  unfold endRead
  dsimp only
  (repeat' split) <;> simp

@[simp] theorem endReads_frame (s : State) :
    (endReads s).time = s.time ∧ (endReads s).lanes = s.lanes ∧ (endReads s).planner = s.planner ∧ (endReads s).twin = s.twin ∧
    (endReads s).boot = s.boot ∧ (endReads s).pending = s.pending := by
  unfold endReads
  exact ⟨foldl_same (fun s : State => s.time) _ (fun s r => by
      refine throughMatrix_same (fun s : State => s.time) _ _ _ _ s ?_ ?_ ?_ <;> intros <;> simp) _ _,
    foldl_same (fun s : State => s.lanes) _ (fun s r => by
      refine throughMatrix_same (fun s : State => s.lanes) _ _ _ _ s ?_ ?_ ?_ <;> intros <;> simp) _ _,
    foldl_same (fun s : State => s.planner) _ (fun s r => by
      refine throughMatrix_same (fun s : State => s.planner) _ _ _ _ s ?_ ?_ ?_ <;> intros <;> simp) _ _,
    foldl_same (fun s : State => s.twin) _ (fun s r => by
      refine throughMatrix_same (fun s : State => s.twin) _ _ _ _ s ?_ ?_ ?_ <;> intros <;> simp) _ _,
    foldl_same (fun s : State => s.boot) _ (fun s r => by
      refine throughMatrix_same (fun s : State => s.boot) _ _ _ _ s ?_ ?_ ?_ <;> intros <;> simp) _ _,
    foldl_same (fun s : State => s.pending) _ (fun s r => by
      refine throughMatrix_same (fun s : State => s.pending) _ _ _ _ s ?_ ?_ ?_ <;> intros <;> simp) _ _⟩

@[simp] theorem interruptReads_frame (s : State) :
    (interruptReads s).time = s.time ∧ (interruptReads s).lanes = s.lanes ∧ (interruptReads s).planner = s.planner ∧
    (interruptReads s).twin = s.twin ∧ (interruptReads s).boot = s.boot ∧ (interruptReads s).pending = s.pending := by
  simp [interruptReads]

end Sys2Proof.Machine
end

