-- ==== Sys2Proof/Laws/FramesConn.lean ====
section
/-! SUPPORT. What the operations of Machine/Conn.lean leave as it was: one lemma per operation. -/

namespace Sys2Proof.Machine

open Sys2Proof

@[simp] theorem addEdits_frame (es : List (Nat × BitVec 32)) (ts : List (Nat × List W64)) (named : List Nat) (s : State) :
    (addEdits es ts named s).time = s.time ∧ (addEdits es ts named s).lanes = s.lanes ∧
    (addEdits es ts named s).host = s.host ∧ (addEdits es ts named s).twin = s.twin ∧
    (addEdits es ts named s).flight = s.flight ∧ (addEdits es ts named s).boot = s.boot ∧
    (addEdits es ts named s).pending = s.pending := by
  simp [addEdits]

@[simp] theorem loadRun_frame (r : Run) (buf : Option (List W64)) (s : State) :
    (loadRun r buf s).time = s.time ∧ (loadRun r buf s).lanes = s.lanes ∧ (loadRun r buf s).host.mem = s.host.mem ∧
    (loadRun r buf s).twin = s.twin ∧ (loadRun r buf s).boot = s.boot ∧ (loadRun r buf s).pending = s.pending := by
  unfold loadRun
  dsimp only
  (repeat' split) <;> simp

end Sys2Proof.Machine
end

