-- ==== Sys2Proof/Laws/FramesRefs.lean ====
section
/-! SUPPORT. What the operations of Machine/Refs.lean leave as it was: one lemma per operation. -/

namespace Sys2Proof.Machine

open Sys2Proof

@[simp] theorem setFState_frame (n : FState) (s : State) :
    (setFState n s).time = s.time ∧ (setFState n s).lanes = s.lanes ∧ (setFState n s).planner = s.planner ∧
    (setFState n s).host.mem = s.host.mem ∧ (setFState n s).twin = s.twin ∧ (setFState n s).boot = s.boot ∧
    (setFState n s).pending = s.pending := by
  simp [setFState]

@[simp] theorem takeBw_frame (s : State) :
    (takeBw s).time = s.time ∧ (takeBw s).lanes = s.lanes ∧ (takeBw s).planner = s.planner ∧
    (takeBw s).host = s.host ∧ (takeBw s).twin = s.twin ∧ (takeBw s).flight = s.flight ∧ (takeBw s).boot = s.boot ∧
    (takeBw s).pending = s.pending := by
  unfold takeBw
  (repeat' split) <;> simp

@[simp] theorem acquire_frame (build : Bool) (s : State) :
    (acquire build s).time = s.time ∧ (acquire build s).lanes = s.lanes ∧ (acquire build s).planner = s.planner ∧
    (acquire build s).host.mem = s.host.mem ∧ (acquire build s).twin = s.twin ∧ (acquire build s).boot = s.boot ∧
    (acquire build s).pending = s.pending := by
  simp [acquire]

@[simp] theorem onDie_frame (s : State) :
    (onDie s).time = s.time ∧ (onDie s).lanes = s.lanes ∧ (onDie s).planner = s.planner ∧
    (onDie s).host.mem = s.host.mem ∧ (onDie s).twin = s.twin ∧ (onDie s).boot = s.boot ∧
    (onDie s).pending = s.pending := by
  simp [onDie]

@[simp] theorem loseReference_frame (s : State) :
    (loseReference s).time = s.time ∧ (loseReference s).lanes = s.lanes ∧ (loseReference s).planner = s.planner ∧
    (loseReference s).host.mem = s.host.mem ∧ (loseReference s).twin = s.twin ∧ (loseReference s).boot = s.boot ∧
    (loseReference s).pending = s.pending := by
  simp [loseReference]

@[simp] theorem closeSoft_frame (cause : Nat) (s : State) :
    (closeSoft cause s).time = s.time ∧ (closeSoft cause s).lanes = s.lanes ∧
    (closeSoft cause s).planner = s.planner ∧ (closeSoft cause s).host.mem = s.host.mem ∧
    (closeSoft cause s).twin = s.twin ∧ (closeSoft cause s).boot = s.boot ∧
    (closeSoft cause s).pending = s.pending := by
  simp [closeSoft]

@[simp] theorem closeF_frame (s : State) :
    (closeF s).time = s.time ∧ (closeF s).lanes = s.lanes ∧ (closeF s).planner = s.planner ∧
    (closeF s).host.mem = s.host.mem ∧ (closeF s).twin = s.twin ∧ (closeF s).boot = s.boot ∧
    (closeF s).pending = s.pending := by
  simp [closeF]

@[simp] theorem oscLost_frame (s : State) :
    (oscLost s).time = s.time ∧ (oscLost s).lanes = s.lanes ∧ (oscLost s).planner = s.planner ∧
    (oscLost s).host.mem = s.host.mem ∧ (oscLost s).twin = s.twin ∧ (oscLost s).boot = s.boot ∧
    (oscLost s).pending = s.pending := by
  simp [oscLost]

@[simp] theorem channelF_frame (s : State) :
    (channelF s).time = s.time ∧ (channelF s).lanes = s.lanes ∧ (channelF s).planner = s.planner ∧
    (channelF s).host.mem = s.host.mem ∧ (channelF s).twin = s.twin ∧ (channelF s).boot = s.boot ∧
    (channelF s).pending = s.pending := by
  unfold channelF
  dsimp only
  (repeat' split) <;> simp

@[simp] theorem modInputs_frame (f : Nat → Input → Input) (s : State) :
    (modInputs f s).time = s.time ∧ (modInputs f s).lanes = s.lanes ∧ (modInputs f s).planner = s.planner ∧
    (modInputs f s).host = s.host ∧ (modInputs f s).twin = s.twin ∧ (modInputs f s).flight = s.flight ∧
    (modInputs f s).boot = s.boot ∧ (modInputs f s).pending = s.pending := by
  simp [modInputs]

@[simp] theorem releaseSuspects_frame (before : State) (s : State) :
    (releaseSuspects before s).time = s.time ∧ (releaseSuspects before s).lanes = s.lanes ∧
    (releaseSuspects before s).planner = s.planner ∧ (releaseSuspects before s).host = s.host ∧
    (releaseSuspects before s).twin = s.twin ∧ (releaseSuspects before s).flight = s.flight ∧
    (releaseSuspects before s).boot = s.boot ∧ (releaseSuspects before s).pending = s.pending := by
  simp [releaseSuspects]

@[simp] theorem refreshTimeOk_frame (s : State) :
    (refreshTimeOk s).lanes = s.lanes ∧ (refreshTimeOk s).planner = s.planner ∧
    (refreshTimeOk s).host.mem = s.host.mem ∧ (refreshTimeOk s).twin = s.twin ∧ (refreshTimeOk s).boot = s.boot ∧
    (refreshTimeOk s).pending = s.pending := by
  simp [refreshTimeOk]

@[simp] theorem switchInput_frame (n : Option Nat) (cause : Nat) (s : State) :
    (switchInput n cause s).time = s.time ∧ (switchInput n cause s).lanes = s.lanes ∧
    (switchInput n cause s).planner = s.planner ∧ (switchInput n cause s).host.mem = s.host.mem ∧
    (switchInput n cause s).twin = s.twin ∧ (switchInput n cause s).boot = s.boot ∧
    (switchInput n cause s).pending = s.pending := by
  simp [switchInput]

@[simp] theorem select_frame (s : State) :
    (select s).time = s.time ∧ (select s).lanes = s.lanes ∧ (select s).planner = s.planner ∧
    (select s).host.mem = s.host.mem ∧ (select s).twin = s.twin ∧ (select s).boot = s.boot ∧
    (select s).pending = s.pending := by
  simp [select]

@[simp] theorem refEvents_frame (s : State) :
    (refEvents s).time = s.time ∧ (refEvents s).lanes = s.lanes ∧ (refEvents s).planner = s.planner ∧
    (refEvents s).host.mem = s.host.mem ∧ (refEvents s).twin = s.twin ∧ (refEvents s).boot = s.boot ∧
    (refEvents s).pending = s.pending := by
  simp [refEvents]

@[simp] theorem freezeF_frame (s : State) :
    (freezeF s).time = s.time ∧ (freezeF s).lanes = s.lanes ∧ (freezeF s).planner = s.planner ∧
    (freezeF s).host = s.host ∧ (freezeF s).twin = s.twin ∧ (freezeF s).flight = s.flight ∧
    (freezeF s).boot = s.boot ∧ (freezeF s).pending = s.pending := by
  simp [freezeF]

@[simp] theorem applyRef_frame (r : Run) (s : State) :
    (applyRef r s).time = s.time ∧ (applyRef r s).lanes = s.lanes ∧ (applyRef r s).planner = s.planner ∧
    (applyRef r s).host.mem = s.host.mem ∧ (applyRef r s).twin = s.twin ∧ (applyRef r s).boot = s.boot ∧
    (applyRef r s).pending = s.pending := by
  unfold applyRef
  (repeat' split) <;> simp

@[simp] theorem qualTick_frame (before : State) (s : State) :
    (qualTick before s).time = s.time ∧ (qualTick before s).lanes = s.lanes ∧
    (qualTick before s).planner = s.planner ∧ (qualTick before s).host.mem = s.host.mem ∧
    (qualTick before s).twin = s.twin ∧ (qualTick before s).boot = s.boot ∧
    (qualTick before s).pending = s.pending := by
  simp [qualTick]

@[simp] theorem refTick_frame (s : State) :
    (refTick s).lanes = s.lanes ∧ (refTick s).planner = s.planner ∧ (refTick s).host.mem = s.host.mem ∧
    (refTick s).twin = s.twin ∧ (refTick s).boot = s.boot ∧ (refTick s).pending = s.pending := by
  simp [refTick]

@[simp] theorem builtOut_frame (v : Int) (s : State) :
    (builtOut v s).2.time = s.time ∧ (builtOut v s).2.lanes = s.lanes ∧ (builtOut v s).2.planner = s.planner ∧
    (builtOut v s).2.host = s.host ∧ (builtOut v s).2.twin = s.twin ∧ (builtOut v s).2.flight = s.flight ∧
    (builtOut v s).2.boot = s.boot ∧ (builtOut v s).2.pending = s.pending := by
  unfold builtOut
  (repeat' split) <;> simp

@[simp] theorem samplePhase_frame (raw : Int) (s : State) :
    (samplePhase raw s).time = s.time ∧ (samplePhase raw s).lanes = s.lanes ∧
    (samplePhase raw s).planner = s.planner ∧ (samplePhase raw s).host = s.host ∧ (samplePhase raw s).twin = s.twin ∧
    (samplePhase raw s).flight = s.flight ∧ (samplePhase raw s).boot = s.boot ∧
    (samplePhase raw s).pending = s.pending := by
  unfold samplePhase
  (repeat' split) <;> simp

@[simp] theorem rowSample_frame (phase : Option Int) (s : State) :
    (rowSample phase s).time = s.time ∧ (rowSample phase s).lanes = s.lanes ∧
    (rowSample phase s).planner = s.planner ∧ (rowSample phase s).host = s.host ∧ (rowSample phase s).twin = s.twin ∧
    (rowSample phase s).flight = s.flight ∧ (rowSample phase s).boot = s.boot ∧
    (rowSample phase s).pending = s.pending := by
  unfold rowSample
  (repeat' split) <;> simp

@[simp] theorem sampleF_frame (freq : Option Int) (s : State) :
    (sampleF freq s).time = s.time ∧ (sampleF freq s).lanes = s.lanes ∧ (sampleF freq s).planner = s.planner ∧
    (sampleF freq s).host = s.host ∧ (sampleF freq s).twin = s.twin ∧ (sampleF freq s).flight = s.flight ∧
    (sampleF freq s).boot = s.boot ∧ (sampleF freq s).pending = s.pending := by
  unfold sampleF
  (repeat' split) <;> simp

@[simp] theorem msgBad_frame (n : Nat) (s : State) :
    (msgBad n s).time = s.time ∧ (msgBad n s).lanes = s.lanes ∧ (msgBad n s).planner = s.planner ∧
    (msgBad n s).host = s.host ∧ (msgBad n s).twin = s.twin ∧ (msgBad n s).flight = s.flight ∧
    (msgBad n s).boot = s.boot ∧ (msgBad n s).pending = s.pending := by
  simp [msgBad]

@[simp] theorem qlMessage_frame (n : Nat) (ssm : Nat) (essm : Nat) (s : State) :
    (qlMessage n ssm essm s).time = s.time ∧ (qlMessage n ssm essm s).lanes = s.lanes ∧
    (qlMessage n ssm essm s).planner = s.planner ∧ (qlMessage n ssm essm s).host = s.host ∧
    (qlMessage n ssm essm s).twin = s.twin ∧ (qlMessage n ssm essm s).flight = s.flight ∧
    (qlMessage n ssm essm s).boot = s.boot ∧ (qlMessage n ssm essm s).pending = s.pending := by
  simp [qlMessage]

@[simp] theorem refMessage_frame (n : Nat) (m : RefMsg) (s : State) :
    (refMessage n m s).time = s.time ∧ (refMessage n m s).lanes = s.lanes ∧ (refMessage n m s).planner = s.planner ∧
    (refMessage n m s).host = s.host ∧ (refMessage n m s).twin = s.twin ∧ (refMessage n m s).flight = s.flight ∧
    (refMessage n m s).boot = s.boot ∧ (refMessage n m s).pending = s.pending := by
  unfold refMessage
  (repeat' split) <;> simp

@[simp] theorem channelEnds_frame (was : FState) (s : State) :
    (channelEnds was s).time = s.time ∧ (channelEnds was s).lanes = s.lanes ∧
    (channelEnds was s).planner = s.planner ∧ (channelEnds was s).host.mem = s.host.mem ∧
    (channelEnds was s).twin = s.twin ∧ (channelEnds was s).boot = s.boot ∧
    (channelEnds was s).pending = s.pending := by
  simp only [channelEnds, settle, execStaircaseDwellDone, execHoldLimitReached]
  (repeat' split) <;> simp

@[simp] theorem oscFault_frame (offset : Bool) (s : State) :
    (oscFault offset s).time = s.time ∧ (oscFault offset s).lanes = s.lanes ∧
    (oscFault offset s).planner = s.planner ∧ (oscFault offset s).host.mem = s.host.mem ∧
    (oscFault offset s).twin = s.twin ∧ (oscFault offset s).boot = s.boot ∧
    (oscFault offset s).pending = s.pending := by
  simp [oscFault]

@[simp] theorem averages_frame (chanF : Int) (s : State) :
    (averages chanF s).time = s.time ∧ (averages chanF s).lanes = s.lanes ∧ (averages chanF s).planner = s.planner ∧
    (averages chanF s).host.mem = s.host.mem ∧ (averages chanF s).twin = s.twin ∧ (averages chanF s).boot = s.boot ∧
    (averages chanF s).pending = s.pending := by
  simp [averages]

@[simp] theorem tieRecord_frame (n : Nat) (x : Option SecondSample) (s : State) :
    (tieRecord n x s).time = s.time ∧ (tieRecord n x s).lanes = s.lanes ∧ (tieRecord n x s).planner = s.planner ∧
    (tieRecord n x s).host = s.host ∧ (tieRecord n x s).twin = s.twin ∧ (tieRecord n x s).flight = s.flight ∧
    (tieRecord n x s).boot = s.boot ∧ (tieRecord n x s).pending = s.pending := by
  unfold tieRecord
  dsimp only
  (repeat' split) <;> simp

@[simp] theorem disagree_frame (a : Nat) (b : Nat) (s : State) :
    (disagree a b s).time = s.time ∧ (disagree a b s).lanes = s.lanes ∧ (disagree a b s).planner = s.planner ∧
    (disagree a b s).host.mem = s.host.mem ∧ (disagree a b s).twin = s.twin ∧ (disagree a b s).boot = s.boot ∧
    (disagree a b s).pending = s.pending := by
  simp [disagree]

@[simp] theorem disagreeAbove_frame (a : Nat) (s : State) :
    (disagreeAbove a s).time = s.time ∧ (disagreeAbove a s).lanes = s.lanes ∧
    (disagreeAbove a s).planner = s.planner ∧ (disagreeAbove a s).host.mem = s.host.mem ∧
    (disagreeAbove a s).twin = s.twin ∧ (disagreeAbove a s).boot = s.boot ∧
    (disagreeAbove a s).pending = s.pending := by
  simp [disagreeAbove]

@[simp] theorem monitorSecond_frame (inp : SecondInput) (s : State) :
    (monitorSecond inp s).lanes = s.lanes ∧ (monitorSecond inp s).planner = s.planner ∧
    (monitorSecond inp s).host.mem = s.host.mem ∧ (monitorSecond inp s).twin = s.twin ∧
    (monitorSecond inp s).boot = s.boot ∧ (monitorSecond inp s).pending = s.pending := by
  simp [monitorSecond]

end Sys2Proof.Machine
end

