-- ==== Sys2Proof/Laws/FramesLanes.lean ====
section
/-! SUPPORT. What the operations of Machine/Lanes.lean leave as it was: one lemma per operation. -/

namespace Sys2Proof.Machine

open Sys2Proof

@[simp] theorem swapRx_frame (k : Nat) (s : State) :
    (swapRx k s).time = s.time ∧ (swapRx k s).planner = s.planner ∧ (swapRx k s).host = s.host ∧
    (swapRx k s).twin = s.twin ∧ (swapRx k s).flight = s.flight ∧ (swapRx k s).boot = s.boot ∧
    (swapRx k s).pending = s.pending := by
  simp [swapRx]

@[simp] theorem setOctet_frame (k : Nat) (f : Octet → Octet) (s : State) :
    (setOctet k f s).time = s.time ∧ (setOctet k f s).planner = s.planner ∧ (setOctet k f s).host = s.host ∧
    (setOctet k f s).twin = s.twin ∧ (setOctet k f s).flight = s.flight ∧ (setOctet k f s).boot = s.boot ∧
    (setOctet k f s).pending = s.pending := by
  simp [setOctet]

@[simp] theorem fixOrder_frame (k : Nat) (f : Octet → Octet) (s : State) :
    (fixOrder k f s).time = s.time ∧ (fixOrder k f s).planner = s.planner ∧ (fixOrder k f s).host = s.host ∧
    (fixOrder k f s).twin = s.twin ∧ (fixOrder k f s).flight = s.flight ∧ (fixOrder k f s).boot = s.boot ∧
    (fixOrder k f s).pending = s.pending := by
  simp [fixOrder]

@[simp] theorem settleOctet_frame (k : Nat) (s : State) :
    (settleOctet k s).time = s.time ∧ (settleOctet k s).planner = s.planner ∧ (settleOctet k s).host = s.host ∧
    (settleOctet k s).twin = s.twin ∧ (settleOctet k s).flight = s.flight ∧ (settleOctet k s).boot = s.boot ∧
    (settleOctet k s).pending = s.pending := by
  unfold settleOctet
  (repeat' split) <;> simp

@[simp] theorem dropVotes_frame (lane : Nat) (s : State) :
    (dropVotes lane s).time = s.time ∧ (dropVotes lane s).planner = s.planner ∧ (dropVotes lane s).host = s.host ∧
    (dropVotes lane s).twin = s.twin ∧ (dropVotes lane s).flight = s.flight ∧ (dropVotes lane s).boot = s.boot ∧
    (dropVotes lane s).pending = s.pending := by
  simp [dropVotes]

@[simp] theorem idFault_frame (lane : Nat) (cause : Nat) (s : State) :
    (idFault lane cause s).time = s.time ∧ (idFault lane cause s).planner = s.planner ∧
    (idFault lane cause s).host = s.host ∧ (idFault lane cause s).twin = s.twin ∧
    (idFault lane cause s).flight = s.flight ∧ (idFault lane cause s).boot = s.boot ∧
    (idFault lane cause s).pending = s.pending := by
  simp [idFault]

@[simp] theorem failAttempt_frame (lane : Nat) (s : State) :
    (failAttempt lane s).time = s.time ∧ (failAttempt lane s).planner = s.planner ∧
    (failAttempt lane s).host = s.host ∧ (failAttempt lane s).twin = s.twin ∧ (failAttempt lane s).flight = s.flight ∧
    (failAttempt lane s).boot = s.boot ∧ (failAttempt lane s).pending = s.pending := by
  simp [failAttempt]

@[simp] theorem admitLane_frame (lane : Nat) (s : State) :
    (admitLane lane s).time = s.time ∧ (admitLane lane s).planner = s.planner ∧ (admitLane lane s).host = s.host ∧
    (admitLane lane s).twin = s.twin ∧ (admitLane lane s).flight = s.flight ∧ (admitLane lane s).boot = s.boot ∧
    (admitLane lane s).pending = s.pending := by
  simp [admitLane]

@[simp] theorem voteFaults_frame (lanes : List Nat) (s : State) :
    (voteFaults lanes s).time = s.time ∧ (voteFaults lanes s).planner = s.planner ∧
    (voteFaults lanes s).host = s.host ∧ (voteFaults lanes s).twin = s.twin ∧ (voteFaults lanes s).flight = s.flight ∧
    (voteFaults lanes s).boot = s.boot ∧ (voteFaults lanes s).pending = s.pending := by
  simp [voteFaults]

@[simp] theorem rxVote_frame (k : Nat) (p : Nat) (i : W64) (s : State) :
    (rxVote k p i s).time = s.time ∧ (rxVote k p i s).planner = s.planner ∧ (rxVote k p i s).host = s.host ∧
    (rxVote k p i s).twin = s.twin ∧ (rxVote k p i s).flight = s.flight ∧ (rxVote k p i s).boot = s.boot ∧
    (rxVote k p i s).pending = s.pending := by
  unfold rxVote
  dsimp only
  (repeat' split) <;> simp

@[simp] theorem txVote_frame (lane : Nat) (i : W64) (s : State) :
    (txVote lane i s).time = s.time ∧ (txVote lane i s).planner = s.planner ∧ (txVote lane i s).host = s.host ∧
    (txVote lane i s).twin = s.twin ∧ (txVote lane i s).flight = s.flight ∧ (txVote lane i s).boot = s.boot ∧
    (txVote lane i s).pending = s.pending := by
  unfold txVote
  dsimp only
  (repeat' split) <;> simp

@[simp] theorem txVoteOf_frame (lane : Nat) (s : State) :
    (txVoteOf lane s).time = s.time ∧ (txVoteOf lane s).planner = s.planner ∧ (txVoteOf lane s).host = s.host ∧
    (txVoteOf lane s).twin = s.twin ∧ (txVoteOf lane s).flight = s.flight ∧ (txVoteOf lane s).boot = s.boot ∧
    (txVoteOf lane s).pending = s.pending := by
  unfold txVoteOf
  dsimp only
  (repeat' split) <;> simp

@[simp] theorem txVotes_frame (k : Nat) (s : State) :
    (txVotes k s).time = s.time ∧ (txVotes k s).planner = s.planner ∧ (txVotes k s).host = s.host ∧
    (txVotes k s).twin = s.twin ∧ (txVotes k s).flight = s.flight ∧ (txVotes k s).boot = s.boot ∧
    (txVotes k s).pending = s.pending := by
  simp [txVotes]

@[simp] theorem identify_frame (lane : Nat) (s : State) :
    (identify lane s).time = s.time ∧ (identify lane s).planner = s.planner ∧ (identify lane s).host = s.host ∧
    (identify lane s).twin = s.twin ∧ (identify lane s).flight = s.flight ∧ (identify lane s).boot = s.boot ∧
    (identify lane s).pending = s.pending := by
  unfold identify
  dsimp only
  (repeat' split) <;> simp

@[simp] theorem identifyAll_frame (k : Nat) (s : State) :
    (identifyAll k s).time = s.time ∧ (identifyAll k s).planner = s.planner ∧ (identifyAll k s).host = s.host ∧
    (identifyAll k s).twin = s.twin ∧ (identifyAll k s).flight = s.flight ∧ (identifyAll k s).boot = s.boot ∧
    (identifyAll k s).pending = s.pending := by
  simp [identifyAll]

@[simp] theorem goodMarker_frame (lane : Nat) (i : W64) (s : State) :
    (goodMarker lane i s).time = s.time ∧ (goodMarker lane i s).planner = s.planner ∧
    (goodMarker lane i s).host = s.host ∧ (goodMarker lane i s).twin = s.twin ∧
    (goodMarker lane i s).flight = s.flight ∧ (goodMarker lane i s).boot = s.boot ∧
    (goodMarker lane i s).pending = s.pending := by
  unfold goodMarker
  dsimp only
  (repeat' split) <;> simp

@[simp] theorem pairMarker_frame (n : Nat) (m : MarkerRx) (s : State) :
    (pairMarker n m s).time = s.time ∧ (pairMarker n m s).planner = s.planner ∧ (pairMarker n m s).host = s.host ∧
    (pairMarker n m s).twin = s.twin ∧ (pairMarker n m s).flight = s.flight ∧ (pairMarker n m s).boot = s.boot ∧
    (pairMarker n m s).pending = s.pending := by
  simp [pairMarker]

@[simp] theorem twinMarker_frame (n : Nat) (m : MarkerRx) (s : State) :
    (twinMarker n m s).time = s.time ∧ (twinMarker n m s).lanes = s.lanes ∧ (twinMarker n m s).planner = s.planner ∧
    (twinMarker n m s).host = s.host ∧ (twinMarker n m s).flight = s.flight ∧ (twinMarker n m s).boot = s.boot ∧
    (twinMarker n m s).pending = s.pending := by
  simp [twinMarker]

@[simp] theorem showTerm_frame (t : Nat) (why : Nat) (s : State) :
    (showTerm t why s).time = s.time ∧ (showTerm t why s).lanes = s.lanes ∧ (showTerm t why s).planner = s.planner ∧
    (showTerm t why s).host = s.host ∧ (showTerm t why s).flight = s.flight ∧ (showTerm t why s).boot = s.boot ∧
    (showTerm t why s).pending = s.pending := by
  simp [showTerm]

@[simp] theorem header_frame (lane : Nat) (b : BargeRx) (s : State) :
    (header lane b s).1.time = s.time ∧ (header lane b s).1.planner = s.planner ∧ (header lane b s).1.host = s.host ∧
    (header lane b s).1.twin = s.twin ∧ (header lane b s).1.flight = s.flight ∧ (header lane b s).1.boot = s.boot ∧
    (header lane b s).1.pending = s.pending := by
  unfold header
  dsimp only
  (repeat' split) <;> simp

@[simp] theorem joinRow_frame (lane : Nat) (y : Int) (i : Nat) (b : BargeW) (kept : Bool) (s : State) :
    (joinRow lane y i b kept s).time = s.time ∧ (joinRow lane y i b kept s).lanes = s.lanes ∧
    (joinRow lane y i b kept s).planner = s.planner ∧ (joinRow lane y i b kept s).host = s.host ∧
    (joinRow lane y i b kept s).twin = s.twin ∧ (joinRow lane y i b kept s).flight = s.flight ∧
    (joinRow lane y i b kept s).boot = s.boot ∧ (joinRow lane y i b kept s).pending = s.pending := by
  simp [joinRow]

@[simp] theorem dataBarge_frame (lane : Nat) (b : BargeRx) (s : State) :
    (dataBarge lane b s).time = s.time ∧ (dataBarge lane b s).planner = s.planner ∧
    (dataBarge lane b s).host = s.host ∧ (dataBarge lane b s).twin = s.twin ∧ (dataBarge lane b s).flight = s.flight ∧
    (dataBarge lane b s).boot = s.boot ∧ (dataBarge lane b s).pending = s.pending := by
  unfold dataBarge
  have hf := header_frame lane b s
  generalize header lane b s = r at hf
  obtain ⟨s', w⟩ := r
  simp only at hf
  cases w with
  | none => simp [hf]
  | some w =>
    dsimp only
    (repeat' split) <;> simp [hf]

@[simp] theorem holdBarge_frame (lane : Nat) (b : BargeRx) (s : State) :
    (holdBarge lane b s).time = s.time ∧ (holdBarge lane b s).planner = s.planner ∧
    (holdBarge lane b s).host = s.host ∧ (holdBarge lane b s).twin = s.twin ∧ (holdBarge lane b s).flight = s.flight ∧
    (holdBarge lane b s).boot = s.boot ∧ (holdBarge lane b s).pending = s.pending := by
  unfold holdBarge
  have hf := header_frame lane b s
  generalize header lane b s = r at hf
  obtain ⟨s', w⟩ := r
  simp only at hf
  cases w with
  | none => simp [hf]
  | some w =>
    dsimp only
    (repeat' split) <;> simp [hf]

@[simp] theorem frameQl_frame (lane : Nat) (ws : List W64) (s : State) :
    (frameQl lane ws s).time = s.time ∧ (frameQl lane ws s).lanes = s.lanes ∧
    (frameQl lane ws s).planner = s.planner ∧ (frameQl lane ws s).host = s.host ∧ (frameQl lane ws s).twin = s.twin ∧
    (frameQl lane ws s).flight = s.flight ∧ (frameQl lane ws s).boot = s.boot ∧
    (frameQl lane ws s).pending = s.pending := by
  simp [frameQl]

@[simp] theorem goodFrame_frame (lane : Nat) (ws : List W64) (arrival : Int) (s : State) :
    (goodFrame lane ws arrival s).time = s.time ∧ (goodFrame lane ws arrival s).planner = s.planner ∧
    (goodFrame lane ws arrival s).host = s.host ∧ (goodFrame lane ws arrival s).flight = s.flight ∧
    (goodFrame lane ws arrival s).boot = s.boot ∧ (goodFrame lane ws arrival s).pending = s.pending := by
  simp [goodFrame]

@[simp] theorem frameBarge_frame (lane : Nat) (b : BargeRx) (s : State) :
    (frameBarge lane b s).time = s.time ∧ (frameBarge lane b s).planner = s.planner ∧
    (frameBarge lane b s).host = s.host ∧ (frameBarge lane b s).flight = s.flight ∧
    (frameBarge lane b s).boot = s.boot ∧ (frameBarge lane b s).pending = s.pending := by
  unfold frameBarge
  have hf := header_frame lane b s
  generalize header lane b s = r at hf
  obtain ⟨s', w⟩ := r
  simp only at hf
  cases w with
  | none => simp [hf]
  | some w =>
    dsimp only
    (repeat' split) <;> simp [hf]

@[simp] theorem testBarge_frame (lane : Nat) (b : BargeRx) (s : State) :
    (testBarge lane b s).time = s.time ∧ (testBarge lane b s).planner = s.planner ∧
    (testBarge lane b s).host = s.host ∧ (testBarge lane b s).twin = s.twin ∧ (testBarge lane b s).flight = s.flight ∧
    (testBarge lane b s).boot = s.boot ∧ (testBarge lane b s).pending = s.pending := by
  unfold testBarge
  have hf := header_frame lane b s
  generalize header lane b s = r at hf
  obtain ⟨s', w⟩ := r
  simp only at hf
  cases w with
  | none => simp [hf]
  | some w =>
    dsimp only
    (repeat' split) <;> simp [hf]

@[simp] theorem idleBarge_frame (lane : Nat) (b : BargeRx) (s : State) :
    (idleBarge lane b s).time = s.time ∧ (idleBarge lane b s).planner = s.planner ∧ (idleBarge lane b s).host = s.host ∧
    (idleBarge lane b s).twin = s.twin ∧ (idleBarge lane b s).flight = s.flight ∧ (idleBarge lane b s).boot = s.boot ∧
    (idleBarge lane b s).pending = s.pending := by
  unfold idleBarge
  have hf := header_frame lane b s
  generalize header lane b s = r at hf
  obtain ⟨s', w⟩ := r
  simp only at hf
  cases w with
  | none => simp [hf]
  | some w =>
    dsimp only
    (repeat' split) <;> simp [hf]

@[simp] theorem losDeclare_frame (lane : Nat) (s : State) :
    (losDeclare lane s).time = s.time ∧ (losDeclare lane s).planner = s.planner ∧ (losDeclare lane s).host = s.host ∧
    (losDeclare lane s).twin = s.twin ∧ (losDeclare lane s).flight = s.flight ∧ (losDeclare lane s).boot = s.boot ∧
    (losDeclare lane s).pending = s.pending := by
  simp [losDeclare]

end Sys2Proof.Machine
end

