-- ==== Sys2Proof/Laws/FramesSelect.lean ====
section
/-! SUPPORT. What the operations of Machine/Select.lean leave as it was: one lemma per operation. -/

namespace Sys2Proof.Machine

open Sys2Proof

@[simp] theorem tribRow_frame (out : List SlotOut) (t : Nat × List W64) (s : State) :
    (tribRow out t s).time = s.time ∧ (tribRow out t s).lanes = s.lanes ∧ (tribRow out t s).planner = s.planner ∧
    (tribRow out t s).host = s.host ∧ (tribRow out t s).twin = s.twin ∧ (tribRow out t s).flight = s.flight ∧
    (tribRow out t s).boot = s.boot ∧ (tribRow out t s).pending = s.pending := by
  simp [tribRow]

@[simp] theorem readoutLane_frame (lane : Nat) (s : State) :
    (readoutLane lane s).time = s.time ∧ (readoutLane lane s).planner = s.planner ∧
    (readoutLane lane s).host = s.host ∧ (readoutLane lane s).twin = s.twin ∧ (readoutLane lane s).flight = s.flight ∧
    (readoutLane lane s).boot = s.boot ∧ (readoutLane lane s).pending = s.pending := by
  simp [readoutLane]

@[simp] theorem copiesRow_frame (t : Nat × List W64) (s : State) :
    (copiesRow t s).time = s.time ∧ (copiesRow t s).lanes = s.lanes ∧ (copiesRow t s).planner = s.planner ∧
    (copiesRow t s).host = s.host ∧ (copiesRow t s).twin = s.twin ∧ (copiesRow t s).flight = s.flight ∧
    (copiesRow t s).boot = s.boot ∧ (copiesRow t s).pending = s.pending := by
  simp [copiesRow]

@[simp] theorem readout_frame (s : State) :
    (readout s).time = s.time ∧ (readout s).planner = s.planner ∧ (readout s).host = s.host ∧
    (readout s).twin = s.twin ∧ (readout s).flight = s.flight ∧ (readout s).boot = s.boot ∧
    (readout s).pending = s.pending := by
  simp [readout]

@[simp] theorem holdTick_frame (s : State) :
    (holdTick s).time = s.time ∧ (holdTick s).lanes = s.lanes ∧ (holdTick s).planner = s.planner ∧
    (holdTick s).host = s.host ∧ (holdTick s).twin = s.twin ∧ (holdTick s).flight = s.flight ∧
    (holdTick s).boot = s.boot ∧ (holdTick s).pending = s.pending := by
  simp [holdTick]

@[simp] theorem holdEvents_frame (s : State) :
    (holdEvents s).time = s.time ∧ (holdEvents s).lanes = s.lanes ∧ (holdEvents s).planner = s.planner ∧
    (holdEvents s).host.mem = s.host.mem ∧ (holdEvents s).twin = s.twin ∧ (holdEvents s).boot = s.boot ∧
    (holdEvents s).pending = s.pending := by
  simp [holdEvents]

@[simp] theorem condTrib_frame (t : Nat × List W64) (s : State) :
    (condTrib t s).time = s.time ∧ (condTrib t s).lanes = s.lanes ∧ (condTrib t s).planner = s.planner ∧
    (condTrib t s).host = s.host ∧ (condTrib t s).twin = s.twin ∧ (condTrib t s).flight = s.flight ∧
    (condTrib t s).boot = s.boot ∧ (condTrib t s).pending = s.pending := by
  simp [condTrib]

@[simp] theorem judgeMs_frame (refused : List Key) (r : Run) (s : State) :
    (judgeMs refused r s).2.time = s.time ∧ (judgeMs refused r s).2.lanes = s.lanes ∧
    (judgeMs refused r s).2.planner = s.planner ∧ (judgeMs refused r s).2.host = s.host ∧
    (judgeMs refused r s).2.twin = s.twin ∧ (judgeMs refused r s).2.flight = s.flight ∧
    (judgeMs refused r s).2.boot = s.boot ∧ (judgeMs refused r s).2.pending = s.pending := by
  unfold judgeMs
  dsimp only
  (repeat' split) <;> simp

@[simp] theorem cancelMs_frame (t : Nat × List W64) (s : State) :
    (cancelMs t s).time = s.time ∧ (cancelMs t s).lanes = s.lanes ∧ (cancelMs t s).planner = s.planner ∧
    (cancelMs t s).host.mem = s.host.mem ∧ (cancelMs t s).twin = s.twin ∧ (cancelMs t s).boot = s.boot ∧
    (cancelMs t s).pending = s.pending := by
  simp [cancelMs]

@[simp] theorem switched_frame (before : State) (t : Nat) (s : State) :
    (switched before t s).time = s.time ∧ (switched before t s).lanes = s.lanes ∧
    (switched before t s).planner = s.planner ∧ (switched before t s).host = s.host ∧
    (switched before t s).twin = s.twin ∧ (switched before t s).flight = s.flight ∧
    (switched before t s).boot = s.boot ∧ (switched before t s).pending = s.pending := by
  simp [switched]

@[simp] theorem switchEvent_frame (before : State) (ts : List Nat) (s : State) :
    (switchEvent before ts s).time = s.time ∧ (switchEvent before ts s).lanes = s.lanes ∧
    (switchEvent before ts s).planner = s.planner ∧ (switchEvent before ts s).host.mem = s.host.mem ∧
    (switchEvent before ts s).twin = s.twin ∧ (switchEvent before ts s).boot = s.boot ∧
    (switchEvent before ts s).pending = s.pending := by
  unfold switchEvent
  dsimp only
  (repeat' split) <;> simp

@[simp] theorem protReply_frame (refused : List Key) (r : Run) (s : State) :
    (protReply refused r s).time = s.time ∧ (protReply refused r s).lanes = s.lanes ∧
    (protReply refused r s).planner = s.planner ∧ (protReply refused r s).host.mem = s.host.mem ∧
    (protReply refused r s).twin = s.twin ∧ (protReply refused r s).boot = s.boot ∧
    (protReply refused r s).pending = s.pending := by
  simp [protReply]

@[simp] theorem judgeAll_frame (rs : List Run) (s : State) :
    (judgeAll rs s).2.time = s.time ∧ (judgeAll rs s).2.lanes = s.lanes ∧ (judgeAll rs s).2.planner = s.planner ∧
    (judgeAll rs s).2.host = s.host ∧ (judgeAll rs s).2.twin = s.twin ∧ (judgeAll rs s).2.flight = s.flight ∧
    (judgeAll rs s).2.boot = s.boot ∧ (judgeAll rs s).2.pending = s.pending := by
  have h : ∀ {τ : Type} (p : State → τ), (∀ c r s, p (judgeMs c r s).2 = p s) →
      ∀ (l : List Run) (a : List Key × State), p (l.foldl (fun a r => judgeMs a.1 r a.2) a).2 = p a.2 :=
    fun p hp l a => foldl_same (fun a : List Key × State => p a.2) _ (fun a r => hp a.1 r a.2) l a
  exact ⟨h (fun s => s.time) (by simp) _ _, h (fun s => s.lanes) (by simp) _ _, h (fun s => s.planner) (by simp) _ _, h (fun s => s.host) (by simp) _ _, h (fun s => s.twin) (by simp) _ _, h (fun s => s.flight) (by simp) _ _, h (fun s => s.boot) (by simp) _ _, h (fun s => s.pending) (by simp) _ _⟩

@[simp] theorem selectorTick_frame (s : State) :
    (selectorTick s).time = s.time ∧ (selectorTick s).lanes = s.lanes ∧ (selectorTick s).planner = s.planner ∧
    (selectorTick s).host.mem = s.host.mem ∧ (selectorTick s).twin = s.twin ∧ (selectorTick s).boot = s.boot ∧
    (selectorTick s).pending = s.pending := by
  simp [selectorTick]

@[simp] theorem followTick_frame (s : State) :
    (followTick s).time = s.time ∧ (followTick s).lanes = s.lanes ∧ (followTick s).planner = s.planner ∧
    (followTick s).host = s.host ∧ (followTick s).twin = s.twin ∧ (followTick s).flight = s.flight ∧
    (followTick s).boot = s.boot ∧ (followTick s).pending = s.pending := by
  simp [followTick]

@[simp] theorem lockageTrib_frame (old : Page) (new : Page) (t : Nat) (s : State) :
    (lockageTrib old new t s).time = s.time ∧ (lockageTrib old new t s).lanes = s.lanes ∧
    (lockageTrib old new t s).planner = s.planner ∧ (lockageTrib old new t s).host = s.host ∧
    (lockageTrib old new t s).twin = s.twin ∧ (lockageTrib old new t s).flight = s.flight ∧
    (lockageTrib old new t s).boot = s.boot ∧ (lockageTrib old new t s).pending = s.pending := by
  simp [lockageTrib]

@[simp] theorem lockageTribs_frame (s : State) :
    (lockageTribs s).time = s.time ∧ (lockageTribs s).lanes = s.lanes ∧ (lockageTribs s).planner = s.planner ∧
    (lockageTribs s).host = s.host ∧ (lockageTribs s).twin = s.twin ∧ (lockageTribs s).flight = s.flight ∧
    (lockageTribs s).boot = s.boot ∧ (lockageTribs s).pending = s.pending := by
  simp [lockageTribs]

@[simp] theorem streamSels_frame (s : State) :
    (streamSels s).time = s.time ∧ (streamSels s).lanes = s.lanes ∧ (streamSels s).planner = s.planner ∧
    (streamSels s).host = s.host ∧ (streamSels s).twin = s.twin ∧ (streamSels s).flight = s.flight ∧
    (streamSels s).boot = s.boot ∧ (streamSels s).pending = s.pending := by
  simp [streamSels]

@[simp] theorem skewOne_frame (t : Nat) (v : Int) (s : State) :
    (skewOne t v s).time = s.time ∧ (skewOne t v s).lanes = s.lanes ∧ (skewOne t v s).planner = s.planner ∧
    (skewOne t v s).host.mem = s.host.mem ∧ (skewOne t v s).twin = s.twin ∧ (skewOne t v s).boot = s.boot ∧
    (skewOne t v s).pending = s.pending := by
  simp [skewOne]

@[simp] theorem skewOf_frame (y : Nat) (t : Nat × List W64) (s : State) :
    (skewOf y t s).time = s.time ∧ (skewOf y t s).lanes = s.lanes ∧ (skewOf y t s).planner = s.planner ∧
    (skewOf y t s).host.mem = s.host.mem ∧ (skewOf y t s).twin = s.twin ∧ (skewOf y t s).boot = s.boot ∧
    (skewOf y t s).pending = s.pending := by
  unfold skewOf
  (repeat' split) <;> simp

@[simp] theorem skewsOf_frame (t : Nat × List W64) (s : State) :
    (skewsOf t s).time = s.time ∧ (skewsOf t s).lanes = s.lanes ∧ (skewsOf t s).planner = s.planner ∧
    (skewsOf t s).host.mem = s.host.mem ∧ (skewsOf t s).twin = s.twin ∧ (skewsOf t s).boot = s.boot ∧
    (skewsOf t s).pending = s.pending := by
  simp [skewsOf]

@[simp] theorem skewTick_frame (s : State) :
    (skewTick s).time = s.time ∧ (skewTick s).lanes = s.lanes ∧ (skewTick s).planner = s.planner ∧
    (skewTick s).host.mem = s.host.mem ∧ (skewTick s).twin = s.twin ∧ (skewTick s).boot = s.boot ∧
    (skewTick s).pending = s.pending := by
  simp [skewTick]

end Sys2Proof.Machine
end

