-- ==== Sys2Proof/Laws/FramesLaneCmds.lean ====
section
/-! SUPPORT. What the operations of Machine/LaneCmds.lean leave as it was: one lemma per operation. -/

namespace Sys2Proof.Machine

open Sys2Proof

@[simp] theorem startRows_frame (lane : Nat) (s : State) :
    (startRows lane s).time = s.time ∧ (startRows lane s).planner = s.planner ∧ (startRows lane s).host = s.host ∧
    (startRows lane s).twin = s.twin ∧ (startRows lane s).flight = s.flight ∧ (startRows lane s).boot = s.boot ∧
    (startRows lane s).pending = s.pending := by
  simp [startRows]

@[simp] theorem applyLaneCmd_frame (r : Run) (s : State) :
    (applyLaneCmd r s).time = s.time ∧ (applyLaneCmd r s).planner = s.planner ∧
    (applyLaneCmd r s).host.mem = s.host.mem ∧ (applyLaneCmd r s).twin = s.twin ∧ (applyLaneCmd r s).boot = s.boot ∧
    (applyLaneCmd r s).pending = s.pending := by
  unfold applyLaneCmd
  (repeat' split) <;> simp

@[simp] theorem laneCmdTick_frame (s : State) :
    (laneCmdTick s).time = s.time ∧ (laneCmdTick s).planner = s.planner ∧ (laneCmdTick s).host.mem = s.host.mem ∧
    (laneCmdTick s).twin = s.twin ∧ (laneCmdTick s).boot = s.boot ∧ (laneCmdTick s).pending = s.pending := by
  simp [laneCmdTick]

end Sys2Proof.Machine
end

