-- ==== Sys2Proof/Laws/FramesTiming.lean ====
section
/-! SUPPORT. What the operations of Machine/Timing.lean leave as it was: one lemma per operation. -/

namespace Sys2Proof.Machine

open Sys2Proof

@[simp] theorem movePhi_frame (d : Int) (s : State) :
    (movePhi d s).1.time = s.time ∧ (movePhi d s).1.lanes = s.lanes ∧ (movePhi d s).1.planner = s.planner ∧
    (movePhi d s).1.host = s.host ∧ (movePhi d s).1.twin = s.twin ∧ (movePhi d s).1.flight = s.flight ∧
    (movePhi d s).1.boot = s.boot ∧ (movePhi d s).1.pending = s.pending := by
  unfold movePhi
  dsimp only
  (repeat' split) <;> simp

@[simp] theorem phiTick_frame (s : State) :
    (phiTick s).1.time = s.time ∧ (phiTick s).1.lanes = s.lanes ∧ (phiTick s).1.planner = s.planner ∧
    (phiTick s).1.host = s.host ∧ (phiTick s).1.twin = s.twin ∧ (phiTick s).1.flight = s.flight ∧
    (phiTick s).1.boot = s.boot ∧ (phiTick s).1.pending = s.pending := by
  unfold phiTick
  (repeat' split) <;> simp

@[simp] theorem limitEvent_frame (hit : Bool) (s : State) :
    (limitEvent hit s).time = s.time ∧ (limitEvent hit s).lanes = s.lanes ∧ (limitEvent hit s).planner = s.planner ∧
    (limitEvent hit s).host.mem = s.host.mem ∧ (limitEvent hit s).twin = s.twin ∧ (limitEvent hit s).boot = s.boot ∧
    (limitEvent hit s).pending = s.pending := by
  simp [limitEvent]

@[simp] theorem applySteer_frame (r : Run) (s : State) :
    (applySteer r s).time = s.time ∧ (applySteer r s).lanes = s.lanes ∧ (applySteer r s).planner = s.planner ∧
    (applySteer r s).host.mem = s.host.mem ∧ (applySteer r s).twin = s.twin ∧ (applySteer r s).boot = s.boot ∧
    (applySteer r s).pending = s.pending := by
  simp [applySteer]

@[simp] theorem applySoft_frame (r : Run) (s : State) :
    (applySoft r s).time = s.time ∧ (applySoft r s).lanes = s.lanes ∧ (applySoft r s).planner = s.planner ∧
    (applySoft r s).host.mem = s.host.mem ∧ (applySoft r s).twin = s.twin ∧ (applySoft r s).boot = s.boot ∧
    (applySoft r s).pending = s.pending := by
  simp [applySoft]

@[simp] theorem rampF_frame (s : State) :
    (rampF s).time = s.time ∧ (rampF s).lanes = s.lanes ∧ (rampF s).planner = s.planner ∧ (rampF s).host = s.host ∧
    (rampF s).twin = s.twin ∧ (rampF s).flight = s.flight ∧ (rampF s).boot = s.boot ∧
    (rampF s).pending = s.pending := by
  simp [rampF]

@[simp] theorem softSample_frame (phase : Int) (s : State) :
    (softSample phase s).time = s.time ∧ (softSample phase s).lanes = s.lanes ∧
    (softSample phase s).planner = s.planner ∧ (softSample phase s).host = s.host ∧
    (softSample phase s).twin = s.twin ∧ (softSample phase s).flight = s.flight ∧ (softSample phase s).boot = s.boot ∧
    (softSample phase s).pending = s.pending := by
  unfold softSample
  dsimp only
  (repeat' split) <;> simp

@[simp] theorem outBoundary_frame (s : State) :
    (outBoundary s).time = s.time ∧ (outBoundary s).lanes = s.lanes ∧ (outBoundary s).planner = s.planner ∧
    (outBoundary s).host = s.host ∧ (outBoundary s).twin = s.twin ∧ (outBoundary s).flight = s.flight ∧
    (outBoundary s).boot = s.boot ∧ (outBoundary s).pending = s.pending := by
  simp [outBoundary]

@[simp] theorem pulseEnd_frame (n : Nat) (s : State) :
    (pulseEnd n s).time = s.time ∧ (pulseEnd n s).lanes = s.lanes ∧ (pulseEnd n s).planner = s.planner ∧
    (pulseEnd n s).host = s.host ∧ (pulseEnd n s).twin = s.twin ∧ (pulseEnd n s).flight = s.flight ∧
    (pulseEnd n s).boot = s.boot ∧ (pulseEnd n s).pending = s.pending := by
  unfold pulseEnd
  (repeat' split) <;> simp

@[simp] theorem pulseTick_frame (n : Nat) (s : State) :
    (pulseTick n s).time = s.time ∧ (pulseTick n s).lanes = s.lanes ∧ (pulseTick n s).planner = s.planner ∧
    (pulseTick n s).host = s.host ∧ (pulseTick n s).twin = s.twin ∧ (pulseTick n s).flight = s.flight ∧
    (pulseTick n s).boot = s.boot ∧ (pulseTick n s).pending = s.pending := by
  unfold pulseTick
  dsimp only
  (repeat' split) <;> simp

@[simp] theorem dropHigh_frame (s : State) (n : Nat) :
    (dropHigh s n).time = s.time ∧ (dropHigh s n).lanes = s.lanes ∧ (dropHigh s n).planner = s.planner ∧
    (dropHigh s n).host = s.host ∧ (dropHigh s n).twin = s.twin ∧ (dropHigh s n).flight = s.flight ∧
    (dropHigh s n).boot = s.boot ∧ (dropHigh s n).pending = s.pending := by
  simp [dropHigh]

@[simp] theorem clockTick_frame (s : State) :
    (clockTick s).time = s.time ∧ (clockTick s).lanes = s.lanes ∧ (clockTick s).planner = s.planner ∧
    (clockTick s).host = s.host ∧ (clockTick s).twin = s.twin ∧ (clockTick s).flight = s.flight ∧
    (clockTick s).boot = s.boot ∧ (clockTick s).pending = s.pending := by
  simp [clockTick]

@[simp] theorem edgeTick_frame (s : State) :
    (edgeTick s).time = s.time ∧ (edgeTick s).lanes = s.lanes ∧ (edgeTick s).planner = s.planner ∧
    (edgeTick s).host = s.host ∧ (edgeTick s).twin = s.twin ∧ (edgeTick s).flight = s.flight ∧
    (edgeTick s).boot = s.boot ∧ (edgeTick s).pending = s.pending := by
  simp [edgeTick]

@[simp] theorem todSend_frame (out : Nat) (ql : Bool) (s : State) :
    (todSend out ql s).time = s.time ∧ (todSend out ql s).lanes = s.lanes ∧ (todSend out ql s).planner = s.planner ∧
    (todSend out ql s).host = s.host ∧ (todSend out ql s).twin = s.twin ∧ (todSend out ql s).flight = s.flight ∧
    (todSend out ql s).boot = s.boot ∧ (todSend out ql s).pending = s.pending := by
  simp [todSend]

@[simp] theorem todRow_frame (s : State) :
    (todRow s).time = s.time ∧ (todRow s).lanes = s.lanes ∧ (todRow s).planner = s.planner ∧
    (todRow s).host = s.host ∧ (todRow s).twin = s.twin ∧ (todRow s).flight = s.flight ∧ (todRow s).boot = s.boot ∧
    (todRow s).pending = s.pending := by
  simp [todRow]

@[simp] theorem anchorEvent_frame (s : State) :
    (anchorEvent s).lanes = s.lanes ∧ (anchorEvent s).planner = s.planner ∧ (anchorEvent s).host.mem = s.host.mem ∧
    (anchorEvent s).twin = s.twin ∧ (anchorEvent s).boot = s.boot ∧ (anchorEvent s).pending = s.pending := by
  simp [anchorEvent]

@[simp] theorem measureP_frame (n : Nat) (s : State) :
    (measureP n s).time = s.time ∧ (measureP n s).lanes = s.lanes ∧ (measureP n s).planner = s.planner ∧
    (measureP n s).host = s.host ∧ (measureP n s).twin = s.twin ∧ (measureP n s).flight = s.flight ∧
    (measureP n s).boot = s.boot ∧ (measureP n s).pending = s.pending := by
  simp [measureP]

@[simp] theorem measureOffset_frame (n : Nat) (o : Int × Int) (s : State) :
    (measureOffset n o s).lanes = s.lanes ∧ (measureOffset n o s).planner = s.planner ∧
    (measureOffset n o s).host.mem = s.host.mem ∧ (measureOffset n o s).twin = s.twin ∧
    (measureOffset n o s).boot = s.boot ∧ (measureOffset n o s).pending = s.pending := by
  simp [measureOffset]

@[simp] theorem reportStart_frame (k : Nat) (s : State) :
    (reportStart k s).time = s.time ∧ (reportStart k s).lanes = s.lanes ∧ (reportStart k s).planner = s.planner ∧
    (reportStart k s).host = s.host ∧ (reportStart k s).twin = s.twin ∧ (reportStart k s).boot = s.boot ∧
    (reportStart k s).pending = s.pending := by
  unfold reportStart
  (repeat' split) <;> simp

@[simp] theorem fixRealign_frame (r : Run) (n : Nat) (gap : Nat) (mode1 : Bool) (s : State) :
    (fixRealign r n gap mode1 s).lanes = s.lanes ∧ (fixRealign r n gap mode1 s).planner = s.planner ∧
    (fixRealign r n gap mode1 s).host.mem = s.host.mem ∧ (fixRealign r n gap mode1 s).twin = s.twin ∧
    (fixRealign r n gap mode1 s).boot = s.boot ∧ (fixRealign r n gap mode1 s).pending = s.pending := by
  simp [fixRealign]

@[simp] theorem withdrawRealign_frame (status : Nat) (x : Realign) (s : State) :
    (withdrawRealign status x s).lanes = s.lanes ∧ (withdrawRealign status x s).planner = s.planner ∧
    (withdrawRealign status x s).host.mem = s.host.mem ∧ (withdrawRealign status x s).twin = s.twin ∧
    (withdrawRealign status x s).boot = s.boot ∧ (withdrawRealign status x s).pending = s.pending := by
  unfold withdrawRealign
  (repeat' split) <;> simp

@[simp] theorem realignChecks_frame (s : State) :
    (realignChecks s).lanes = s.lanes ∧ (realignChecks s).planner = s.planner ∧
    (realignChecks s).host.mem = s.host.mem ∧ (realignChecks s).twin = s.twin ∧ (realignChecks s).boot = s.boot ∧
    (realignChecks s).pending = s.pending := by
  simp [realignChecks]

@[simp] theorem commitRealigns_frame (s : State) :
    (commitRealigns s).time = s.time ∧ (commitRealigns s).lanes = s.lanes ∧ (commitRealigns s).planner = s.planner ∧
    (commitRealigns s).host = s.host ∧ (commitRealigns s).twin = s.twin ∧ (commitRealigns s).boot = s.boot ∧
    (commitRealigns s).pending = s.pending := by
  simp [commitRealigns]

@[simp] theorem applyRealign_frame (x : Realign) (s : State) :
    (applyRealign x s).planner = s.planner ∧ (applyRealign x s).host = s.host ∧ (applyRealign x s).twin = s.twin ∧
    (applyRealign x s).boot = s.boot ∧ (applyRealign x s).pending = s.pending := by
  simp [applyRealign]

@[simp] theorem realignDone_frame (x : Realign) (s : State) :
    (realignDone x s).time = s.time ∧ (realignDone x s).lanes = s.lanes ∧ (realignDone x s).planner = s.planner ∧
    (realignDone x s).host.mem = s.host.mem ∧ (realignDone x s).twin = s.twin ∧ (realignDone x s).boot = s.boot ∧
    (realignDone x s).pending = s.pending := by
  simp [realignDone]

@[simp] theorem realignReply_frame (x : Realign) (s : State) :
    (realignReply x s).time = s.time ∧ (realignReply x s).lanes = s.lanes ∧ (realignReply x s).planner = s.planner ∧
    (realignReply x s).host.mem = s.host.mem ∧ (realignReply x s).twin = s.twin ∧ (realignReply x s).boot = s.boot ∧
    (realignReply x s).pending = s.pending := by
  unfold realignReply
  (repeat' split) <;> simp

@[simp] theorem outRealignOne_frame (x : Option Realign) (r : Run) (s : State) :
    (outRealignOne x r s).1.time = s.time ∧ (outRealignOne x r s).1.lanes = s.lanes ∧
    (outRealignOne x r s).1.planner = s.planner ∧ (outRealignOne x r s).1.host.mem = s.host.mem ∧
    (outRealignOne x r s).1.twin = s.twin ∧ (outRealignOne x r s).1.boot = s.boot ∧
    (outRealignOne x r s).1.pending = s.pending := by
  unfold outRealignOne
  dsimp only
  (repeat' split) <;> simp

@[simp] theorem outRealignTick_frame (x : Option Realign) (s : State) :
    (outRealignTick x s).1.time = s.time ∧ (outRealignTick x s).1.lanes = s.lanes ∧
    (outRealignTick x s).1.planner = s.planner ∧ (outRealignTick x s).1.host.mem = s.host.mem ∧
    (outRealignTick x s).1.twin = s.twin ∧ (outRealignTick x s).1.boot = s.boot ∧
    (outRealignTick x s).1.pending = s.pending := by
  unfold outRealignTick
  have h : ∀ {τ : Type} (p : State → τ), (∀ r s, p (outRealignOne x r s).1 = p s) → ∀ (l : List Run) (a : State × Bool),
      p (l.foldl (fun a r => let b := outRealignOne x r a.1; (b.1, a.2 || b.2)) a).1 = p a.1 :=
    fun p hp l a => foldl_same (fun a : State × Bool => p a.1)
      (fun (a : State × Bool) (r : Run) => let b := outRealignOne x r a.1; (b.1, a.2 || b.2)) (fun a r => hp r a.1) l a
  exact ⟨h (fun s => s.time) (by simp) _ _, h (fun s => s.lanes) (by simp) _ _, h (fun s => s.planner) (by simp) _ _, h (fun s => s.host.mem) (by simp) _ _, h (fun s => s.twin) (by simp) _ _, h (fun s => s.boot) (by simp) _ _, h (fun s => s.pending) (by simp) _ _⟩

@[simp] theorem restartTie_frame (tie : List (Nat × Int)) (n : Nat) (s : State) :
    (restartTie tie n s).time = s.time ∧ (restartTie tie n s).lanes = s.lanes ∧
    (restartTie tie n s).planner = s.planner ∧ (restartTie tie n s).host = s.host ∧
    (restartTie tie n s).twin = s.twin ∧ (restartTie tie n s).flight = s.flight ∧ (restartTie tie n s).boot = s.boot ∧
    (restartTie tie n s).pending = s.pending := by
  simp [restartTie]

@[simp] theorem restartDelay_frame (n : Nat) (s : State) :
    (restartDelay n s).time = s.time ∧ (restartDelay n s).planner = s.planner ∧ (restartDelay n s).host = s.host ∧
    (restartDelay n s).twin = s.twin ∧ (restartDelay n s).flight = s.flight ∧ (restartDelay n s).boot = s.boot ∧
    (restartDelay n s).pending = s.pending := by
  simp [restartDelay]

@[simp] theorem measRecords_frame (tie : List (Nat × Int)) (r : Run) (ok : Bool) (s : State) :
    (measRecords tie r ok s).time = s.time ∧ (measRecords tie r ok s).planner = s.planner ∧
    (measRecords tie r ok s).twin = s.twin ∧ (measRecords tie r ok s).boot = s.boot ∧
    (measRecords tie r ok s).pending = s.pending := by
  simp [measRecords]

@[simp] theorem frameStatusTick_frame (s : State) :
    (frameStatusTick s).time = s.time ∧ (frameStatusTick s).lanes = s.lanes ∧
    (frameStatusTick s).planner = s.planner ∧ (frameStatusTick s).host.mem = s.host.mem ∧
    (frameStatusTick s).twin = s.twin ∧ (frameStatusTick s).boot = s.boot ∧
    (frameStatusTick s).pending = s.pending := by
  simp [frameStatusTick]

end Sys2Proof.Machine
end

