-- ==== Sys2Proof/Laws/FramesTwin.lean ====
section
/-! SUPPORT. What the operations of Machine/Twin.lean leave as it was: one lemma per operation. -/

namespace Sys2Proof.Machine

open Sys2Proof

@[simp] theorem watchOut_frame (port : Bool) (f : WatchFrame) (s : State) :
    (watchOut port f s).time = s.time ∧ (watchOut port f s).lanes = s.lanes ∧
    (watchOut port f s).planner = s.planner ∧ (watchOut port f s).host = s.host ∧ (watchOut port f s).twin = s.twin ∧
    (watchOut port f s).flight = s.flight ∧ (watchOut port f s).boot = s.boot ∧
    (watchOut port f s).pending = s.pending := by
  simp [watchOut]

@[simp] theorem sendWatch_frame (port : Bool) (type : Nat) (w1 : W64) (w2 : W64) (hi : Nat) (s : State) :
    (sendWatch port type w1 w2 hi s).time = s.time ∧ (sendWatch port type w1 w2 hi s).lanes = s.lanes ∧
    (sendWatch port type w1 w2 hi s).planner = s.planner ∧ (sendWatch port type w1 w2 hi s).host = s.host ∧
    (sendWatch port type w1 w2 hi s).flight = s.flight ∧ (sendWatch port type w1 w2 hi s).boot = s.boot ∧
    (sendWatch port type w1 w2 hi s).pending = s.pending := by
  simp [sendWatch]

@[simp] theorem sendHeartbeat_frame (s : State) :
    (sendHeartbeat s).time = s.time ∧ (sendHeartbeat s).lanes = s.lanes ∧ (sendHeartbeat s).planner = s.planner ∧
    (sendHeartbeat s).host = s.host ∧ (sendHeartbeat s).flight = s.flight ∧ (sendHeartbeat s).boot = s.boot ∧
    (sendHeartbeat s).pending = s.pending := by
  simp [sendHeartbeat]

@[simp] theorem sendStatus_frame (renew : Bool) (s : State) :
    (sendStatus renew s).time = s.time ∧ (sendStatus renew s).lanes = s.lanes ∧
    (sendStatus renew s).planner = s.planner ∧ (sendStatus renew s).host = s.host ∧
    (sendStatus renew s).flight = s.flight ∧ (sendStatus renew s).boot = s.boot ∧
    (sendStatus renew s).pending = s.pending := by
  simp [sendStatus]

@[simp] theorem sendHandoverReq_frame (at_ : Nat) (s : State) :
    (sendHandoverReq at_ s).time = s.time ∧ (sendHandoverReq at_ s).lanes = s.lanes ∧
    (sendHandoverReq at_ s).planner = s.planner ∧ (sendHandoverReq at_ s).host = s.host ∧
    (sendHandoverReq at_ s).flight = s.flight ∧ (sendHandoverReq at_ s).boot = s.boot ∧
    (sendHandoverReq at_ s).pending = s.pending := by
  simp [sendHandoverReq]

@[simp] theorem sendAnswer_frame (a : AnsReg) (s : State) :
    (sendAnswer a s).time = s.time ∧ (sendAnswer a s).lanes = s.lanes ∧ (sendAnswer a s).planner = s.planner ∧
    (sendAnswer a s).host = s.host ∧ (sendAnswer a s).flight = s.flight ∧ (sendAnswer a s).boot = s.boot ∧
    (sendAnswer a s).pending = s.pending := by
  simp [sendAnswer]

@[simp] theorem watchReplies_frame (s : State) :
    (watchReplies s).time = s.time ∧ (watchReplies s).lanes = s.lanes ∧ (watchReplies s).planner = s.planner ∧
    (watchReplies s).host = s.host ∧ (watchReplies s).flight = s.flight ∧ (watchReplies s).boot = s.boot ∧
    (watchReplies s).pending = s.pending := by
  simp [watchReplies]

@[simp] theorem emptySlots_frame (s : State) :
    (emptySlots s).time = s.time ∧ (emptySlots s).lanes = s.lanes ∧ (emptySlots s).planner = s.planner ∧
    (emptySlots s).host = s.host ∧ (emptySlots s).twin = s.twin ∧ (emptySlots s).flight = s.flight ∧
    (emptySlots s).boot = s.boot ∧ (emptySlots s).pending = s.pending := by
  simp [emptySlots]

@[simp] theorem sendFullReq_frame (s : State) :
    (sendFullReq s).time = s.time ∧ (sendFullReq s).lanes = s.lanes ∧ (sendFullReq s).planner = s.planner ∧
    (sendFullReq s).host = s.host ∧ (sendFullReq s).flight = s.flight ∧ (sendFullReq s).boot = s.boot ∧
    (sendFullReq s).pending = s.pending := by
  simp [sendFullReq]

@[simp] theorem pendRole_frame (r : Role) (cause : Nat) (s : State) :
    (pendRole r cause s).time = s.time ∧ (pendRole r cause s).lanes = s.lanes ∧
    (pendRole r cause s).planner = s.planner ∧ (pendRole r cause s).host = s.host ∧
    (pendRole r cause s).flight = s.flight ∧ (pendRole r cause s).boot = s.boot ∧
    (pendRole r cause s).pending = s.pending := by
  simp [pendRole]

@[simp] theorem loseSync_frame (cause : Nat) (roleCause : Nat) (s : State) :
    (loseSync cause roleCause s).time = s.time ∧ (loseSync cause roleCause s).lanes = s.lanes ∧
    (loseSync cause roleCause s).planner = s.planner ∧ (loseSync cause roleCause s).host = s.host ∧
    (loseSync cause roleCause s).flight = s.flight ∧ (loseSync cause roleCause s).boot = s.boot ∧
    (loseSync cause roleCause s).pending = s.pending := by
  simp [loseSync]

@[simp] theorem mirrorCopy_frame (s : State) :
    (mirrorCopy s).time = s.time ∧ (mirrorCopy s).lanes = s.lanes ∧ (mirrorCopy s).planner = s.planner ∧
    (mirrorCopy s).host = s.host ∧ (mirrorCopy s).twin = s.twin ∧ (mirrorCopy s).flight = s.flight ∧
    (mirrorCopy s).boot = s.boot ∧ (mirrorCopy s).pending = s.pending := by
  simp [mirrorCopy]

@[simp] theorem promoteTick_frame (s : State) :
    (promoteTick s).time = s.time ∧ (promoteTick s).lanes = s.lanes ∧ (promoteTick s).host = s.host ∧
    (promoteTick s).twin = s.twin ∧ (promoteTick s).flight = s.flight ∧ (promoteTick s).boot = s.boot ∧
    (promoteTick s).pending = s.pending := by
  unfold promoteTick
  (repeat' split) <;> simp

@[simp] theorem stopHolds_frame (s : State) :
    (stopHolds s).time = s.time ∧ (stopHolds s).lanes = s.lanes ∧ (stopHolds s).planner = s.planner ∧
    (stopHolds s).host = s.host ∧ (stopHolds s).twin = s.twin ∧ (stopHolds s).flight = s.flight ∧
    (stopHolds s).boot = s.boot ∧ (stopHolds s).pending = s.pending := by
  simp [stopHolds]

@[simp] theorem loadSels_frame (sl : Slot) (s : State) :
    (loadSels sl s).time = s.time ∧ (loadSels sl s).lanes = s.lanes ∧ (loadSels sl s).planner = s.planner ∧
    (loadSels sl s).host = s.host ∧ (loadSels sl s).twin = s.twin ∧ (loadSels sl s).flight = s.flight ∧
    (loadSels sl s).boot = s.boot ∧ (loadSels sl s).pending = s.pending := by
  simp [loadSels]

@[simp] theorem startDie_frame (s : State) :
    (startDie s).time = s.time ∧ (startDie s).lanes = s.lanes ∧ (startDie s).planner = s.planner ∧
    (startDie s).host = s.host ∧ (startDie s).flight = s.flight ∧ (startDie s).boot = s.boot ∧
    (startDie s).pending = s.pending := by
  simp [startDie]

@[simp] theorem stopDie_frame (s : State) :
    (stopDie s).time = s.time ∧ (stopDie s).lanes = s.lanes ∧ (stopDie s).planner = s.planner ∧
    (stopDie s).host = s.host ∧ (stopDie s).flight = s.flight ∧ (stopDie s).boot = s.boot ∧
    (stopDie s).pending = s.pending := by
  simp [stopDie]

@[simp] theorem leaveActive_frame (s : State) :
    (leaveActive s).time = s.time ∧ (leaveActive s).lanes = s.lanes ∧ (leaveActive s).host.mem = s.host.mem ∧
    (leaveActive s).boot = s.boot ∧ (leaveActive s).pending = s.pending := by
  simp [leaveActive]

@[simp] theorem endRun_frame (status : Nat) (r : Run) (s : State) :
    (endRun status r s).lanes = s.lanes ∧ (endRun status r s).planner = s.planner ∧
    (endRun status r s).host.mem = s.host.mem ∧ (endRun status r s).twin = s.twin ∧
    (endRun status r s).boot = s.boot ∧ (endRun status r s).pending = s.pending := by
  simp [endRun]

@[simp] theorem withdrawRun_frame (r : Run) (s : State) :
    (withdrawRun r s).lanes = s.lanes ∧ (withdrawRun r s).planner = s.planner ∧
    (withdrawRun r s).host.mem = s.host.mem ∧ (withdrawRun r s).twin = s.twin ∧ (withdrawRun r s).boot = s.boot ∧
    (withdrawRun r s).pending = s.pending := by
  simp [withdrawRun]

@[simp] theorem withdrawRoleRuns_frame (s : State) :
    (withdrawRoleRuns s).lanes = s.lanes ∧ (withdrawRoleRuns s).planner = s.planner ∧
    (withdrawRoleRuns s).host.mem = s.host.mem ∧ (withdrawRoleRuns s).twin = s.twin ∧
    (withdrawRoleRuns s).boot = s.boot ∧ (withdrawRoleRuns s).pending = s.pending := by
  unfold withdrawRoleRuns
  (repeat' split) <;> simp

@[simp] theorem enterRole_frame (r : Role) (s : State) :
    (enterRole r s).time = s.time ∧ (enterRole r s).lanes = s.lanes ∧ (enterRole r s).planner = s.planner ∧
    (enterRole r s).host = s.host ∧ (enterRole r s).flight = s.flight ∧ (enterRole r s).boot = s.boot ∧
    (enterRole r s).pending = s.pending := by
  unfold enterRole
  (repeat' split) <;> simp

@[simp] theorem dropLease_frame (s : State) :
    (dropLease s).time = s.time ∧ (dropLease s).lanes = s.lanes ∧ (dropLease s).planner = s.planner ∧
    (dropLease s).host = s.host ∧ (dropLease s).flight = s.flight ∧ (dropLease s).boot = s.boot ∧
    (dropLease s).pending = s.pending := by
  simp [dropLease]

@[simp] theorem setRole_frame (r : Role) (cause : Nat) (s : State) :
    (setRole r cause s).lanes = s.lanes ∧ (setRole r cause s).host.mem = s.host.mem ∧
    (setRole r cause s).boot = s.boot ∧ (setRole r cause s).pending = s.pending := by
  simp [setRole]

@[simp] theorem roleEvent_frame (s : State) :
    (roleEvent s).time = s.time ∧ (roleEvent s).lanes = s.lanes ∧ (roleEvent s).planner = s.planner ∧
    (roleEvent s).host.mem = s.host.mem ∧ (roleEvent s).boot = s.boot ∧ (roleEvent s).pending = s.pending := by
  unfold roleEvent
  (repeat' split) <;> simp

@[simp] theorem ownTerm_frame (t : Nat) (s : State) :
    (ownTerm t s).time = s.time ∧ (ownTerm t s).lanes = s.lanes ∧ (ownTerm t s).planner = s.planner ∧
    (ownTerm t s).host = s.host ∧ (ownTerm t s).flight = s.flight ∧ (ownTerm t s).boot = s.boot ∧
    (ownTerm t s).pending = s.pending := by
  simp [ownTerm]

@[simp] theorem newTerm_frame (s : State) :
    (newTerm s).time = s.time ∧ (newTerm s).lanes = s.lanes ∧ (newTerm s).planner = s.planner ∧
    (newTerm s).host = s.host ∧ (newTerm s).twin = s.twin ∧ (newTerm s).flight = s.flight ∧
    (newTerm s).boot = s.boot ∧ (newTerm s).pending = s.pending := by
  simp [newTerm]

@[simp] theorem beginTaking_frame (t : TakeReg) (s : State) :
    (beginTaking t s).lanes = s.lanes ∧ (beginTaking t s).host.mem = s.host.mem ∧ (beginTaking t s).boot = s.boot ∧
    (beginTaking t s).pending = s.pending := by
  simp [beginTaking]

@[simp] theorem applyTake_frame (t : TakeReg) (s : State) :
    (applyTake t s).lanes = s.lanes ∧ (applyTake t s).host.mem = s.host.mem ∧ (applyTake t s).boot = s.boot ∧
    (applyTake t s).pending = s.pending := by
  unfold applyTake
  (repeat' split) <;> simp

@[simp] theorem pendOne_frame (x : Role × Nat) (s : State) :
    (pendOne x s).lanes = s.lanes ∧ (pendOne x s).host.mem = s.host.mem ∧ (pendOne x s).boot = s.boot ∧
    (pendOne x s).pending = s.pending := by
  unfold pendOne
  (repeat' split) <;> simp

@[simp] theorem noticeTick_frame (s : State) :
    (noticeTick s).lanes = s.lanes ∧ (noticeTick s).host.mem = s.host.mem ∧ (noticeTick s).boot = s.boot ∧
    (noticeTick s).pending = s.pending := by
  simp [noticeTick]

@[simp] theorem handoverDone_frame (at_ : Nat) (st : Nat) (s : State) :
    (handoverDone at_ st s).time = s.time ∧ (handoverDone at_ st s).lanes = s.lanes ∧
    (handoverDone at_ st s).planner = s.planner ∧ (handoverDone at_ st s).host.mem = s.host.mem ∧
    (handoverDone at_ st s).twin = s.twin ∧ (handoverDone at_ st s).boot = s.boot ∧
    (handoverDone at_ st s).pending = s.pending := by
  unfold handoverDone
  (repeat' split) <;> simp

@[simp] theorem freeOther_frame (s : State) :
    (freeOther s).time = s.time ∧ (freeOther s).lanes = s.lanes ∧ (freeOther s).planner = s.planner ∧
    (freeOther s).host = s.host ∧ (freeOther s).twin = s.twin ∧ (freeOther s).flight = s.flight ∧
    (freeOther s).boot = s.boot ∧ (freeOther s).pending = s.pending := by
  simp [freeOther]

@[simp] theorem handoverGained_frame (h : Hand) (s : State) :
    (handoverGained h s).lanes = s.lanes ∧ (handoverGained h s).host.mem = s.host.mem ∧
    (handoverGained h s).boot = s.boot ∧ (handoverGained h s).pending = s.pending := by
  simp [handoverGained]

@[simp] theorem handoverKept_frame (h : Hand) (s : State) :
    (handoverKept h s).lanes = s.lanes ∧ (handoverKept h s).host.mem = s.host.mem ∧ (handoverKept h s).boot = s.boot ∧
    (handoverKept h s).pending = s.pending := by
  simp [handoverKept]

@[simp] theorem handoverSlots_frame (s : State) :
    (handoverSlots s).time = s.time ∧ (handoverSlots s).lanes = s.lanes ∧ (handoverSlots s).planner = s.planner ∧
    (handoverSlots s).host = s.host ∧ (handoverSlots s).twin = s.twin ∧ (handoverSlots s).flight = s.flight ∧
    (handoverSlots s).boot = s.boot ∧ (handoverSlots s).pending = s.pending := by
  simp [handoverSlots]

@[simp] theorem handoverOut_frame (h : Hand) (s : State) :
    (handoverOut h s).lanes = s.lanes ∧ (handoverOut h s).host.mem = s.host.mem ∧ (handoverOut h s).boot = s.boot ∧
    (handoverOut h s).pending = s.pending := by
  simp [handoverOut]

@[simp] theorem handoverTick_frame (s : State) :
    (handoverTick s).lanes = s.lanes ∧ (handoverTick s).host.mem = s.host.mem ∧ (handoverTick s).boot = s.boot ∧
    (handoverTick s).pending = s.pending := by
  unfold handoverTick
  (repeat' split) <;> simp

@[simp] theorem handoverCheck_frame (s : State) :
    (handoverCheck s).time = s.time ∧ (handoverCheck s).lanes = s.lanes ∧ (handoverCheck s).planner = s.planner ∧
    (handoverCheck s).host = s.host ∧ (handoverCheck s).flight = s.flight ∧ (handoverCheck s).boot = s.boot ∧
    (handoverCheck s).pending = s.pending := by
  unfold handoverCheck
  (repeat' split) <;> simp

@[simp] theorem warmTick_frame (s : State) :
    (warmTick s).lanes = s.lanes ∧ (warmTick s).host.mem = s.host.mem ∧ (warmTick s).boot = s.boot ∧
    (warmTick s).pending = s.pending := by
  unfold warmTick
  (repeat' split) <;> simp

@[simp] theorem raiseHterm_frame (s : State) :
    (raiseHterm s).time = s.time ∧ (raiseHterm s).planner = s.planner ∧ (raiseHterm s).host = s.host ∧
    (raiseHterm s).flight = s.flight ∧ (raiseHterm s).boot = s.boot ∧ (raiseHterm s).pending = s.pending := by
  simp [raiseHterm]

@[simp] theorem pendTick_frame (s : State) :
    (pendTick s).lanes = s.lanes ∧ (pendTick s).host.mem = s.host.mem ∧ (pendTick s).boot = s.boot ∧
    (pendTick s).pending = s.pending := by
  unfold pendTick
  dsimp only
  (repeat' split) <;> simp

@[simp] theorem stepDownTick_frame (why : Nat) (s : State) :
    (stepDownTick why s).lanes = s.lanes ∧ (stepDownTick why s).host.mem = s.host.mem ∧
    (stepDownTick why s).boot = s.boot ∧ (stepDownTick why s).pending = s.pending := by
  simp [stepDownTick]

@[simp] theorem roleTick_frame (s : State) :
    (roleTick s).host.mem = s.host.mem ∧ (roleTick s).boot = s.boot ∧ (roleTick s).pending = s.pending := by
  simp [roleTick]

@[simp] theorem rwtrTick_frame (s : State) :
    (rwtrTick s).time = s.time ∧ (rwtrTick s).lanes = s.lanes ∧ (rwtrTick s).planner = s.planner ∧
    (rwtrTick s).host = s.host ∧ (rwtrTick s).flight = s.flight ∧ (rwtrTick s).boot = s.boot ∧
    (rwtrTick s).pending = s.pending := by
  unfold rwtrTick
  (repeat' split) <;> simp

@[simp] theorem applyRevert_frame (r : Run) (s : State) :
    (applyRevert r s).lanes = s.lanes ∧ (applyRevert r s).host.mem = s.host.mem ∧ (applyRevert r s).boot = s.boot ∧
    (applyRevert r s).pending = s.pending := by
  unfold applyRevert
  (repeat' split) <;> simp

@[simp] theorem revertCmdTick_frame (s : State) :
    (revertCmdTick s).lanes = s.lanes ∧ (revertCmdTick s).host.mem = s.host.mem ∧ (revertCmdTick s).boot = s.boot ∧
    (revertCmdTick s).pending = s.pending := by
  simp [revertCmdTick]

@[simp] theorem revertEvent_frame (e : Nat × Nat × Nat) (s : State) :
    (revertEvent e s).time = s.time ∧ (revertEvent e s).lanes = s.lanes ∧ (revertEvent e s).planner = s.planner ∧
    (revertEvent e s).host.mem = s.host.mem ∧ (revertEvent e s).twin = s.twin ∧ (revertEvent e s).boot = s.boot ∧
    (revertEvent e s).pending = s.pending := by
  simp [revertEvent]

@[simp] theorem twinEvents_frame (s : State) :
    (twinEvents s).time = s.time ∧ (twinEvents s).lanes = s.lanes ∧ (twinEvents s).planner = s.planner ∧
    (twinEvents s).host.mem = s.host.mem ∧ (twinEvents s).boot = s.boot ∧ (twinEvents s).pending = s.pending := by
  unfold twinEvents
  dsimp only
  (repeat' split) <;> simp

@[simp] theorem twinLaneTick_frame (s : State) :
    (twinLaneTick s).time = s.time ∧ (twinLaneTick s).lanes = s.lanes ∧ (twinLaneTick s).planner = s.planner ∧
    (twinLaneTick s).host = s.host ∧ (twinLaneTick s).flight = s.flight ∧ (twinLaneTick s).boot = s.boot ∧
    (twinLaneTick s).pending = s.pending := by
  simp [twinLaneTick]

@[simp] theorem partnerGone_frame (s : State) :
    (partnerGone s).lanes = s.lanes ∧ (partnerGone s).host.mem = s.host.mem ∧ (partnerGone s).boot = s.boot ∧
    (partnerGone s).pending = s.pending := by
  simp [partnerGone]

@[simp] theorem settlePeer_frame (s : State) :
    (settlePeer s).lanes = s.lanes ∧ (settlePeer s).host.mem = s.host.mem ∧ (settlePeer s).boot = s.boot ∧
    (settlePeer s).pending = s.pending := by
  simp [settlePeer]

@[simp] theorem settleKeeper_frame (s : State) :
    (settleKeeper s).time = s.time ∧ (settleKeeper s).lanes = s.lanes ∧ (settleKeeper s).planner = s.planner ∧
    (settleKeeper s).host.mem = s.host.mem ∧ (settleKeeper s).boot = s.boot ∧
    (settleKeeper s).pending = s.pending := by
  simp [settleKeeper]

@[simp] theorem settleLease_frame (s : State) :
    (settleLease s).time = s.time ∧ (settleLease s).lanes = s.lanes ∧ (settleLease s).planner = s.planner ∧
    (settleLease s).host.mem = s.host.mem ∧ (settleLease s).boot = s.boot ∧ (settleLease s).pending = s.pending := by
  simp [settleLease]

@[simp] theorem prefSeen_frame (pref : Bool) (s : State) :
    (prefSeen pref s).time = s.time ∧ (prefSeen pref s).lanes = s.lanes ∧ (prefSeen pref s).planner = s.planner ∧
    (prefSeen pref s).host = s.host ∧ (prefSeen pref s).flight = s.flight ∧ (prefSeen pref s).boot = s.boot ∧
    (prefSeen pref s).pending = s.pending := by
  simp [prefSeen]

@[simp] theorem requestRevert_frame (pref : Bool) (roleSt : Nat) (s : State) :
    (requestRevert pref roleSt s).time = s.time ∧ (requestRevert pref roleSt s).lanes = s.lanes ∧
    (requestRevert pref roleSt s).planner = s.planner ∧ (requestRevert pref roleSt s).host = s.host ∧
    (requestRevert pref roleSt s).flight = s.flight ∧ (requestRevert pref roleSt s).boot = s.boot ∧
    (requestRevert pref roleSt s).pending = s.pending := by
  simp [requestRevert]

@[simp] theorem heartbeatIn_frame (f : WatchFrame) (s : State) :
    (heartbeatIn f s).lanes = s.lanes ∧ (heartbeatIn f s).host.mem = s.host.mem ∧ (heartbeatIn f s).boot = s.boot ∧
    (heartbeatIn f s).pending = s.pending := by
  simp [heartbeatIn]

@[simp] theorem takeIn_frame (f : WatchFrame) (s : State) :
    (takeIn f s).time = s.time ∧ (takeIn f s).lanes = s.lanes ∧ (takeIn f s).planner = s.planner ∧
    (takeIn f s).host = s.host ∧ (takeIn f s).flight = s.flight ∧ (takeIn f s).boot = s.boot ∧
    (takeIn f s).pending = s.pending := by
  simp [takeIn]

@[simp] theorem handoverIn_frame (f : WatchFrame) (s : State) :
    (handoverIn f s).time = s.time ∧ (handoverIn f s).lanes = s.lanes ∧ (handoverIn f s).planner = s.planner ∧
    (handoverIn f s).host = s.host ∧ (handoverIn f s).flight = s.flight ∧ (handoverIn f s).boot = s.boot ∧
    (handoverIn f s).pending = s.pending := by
  simp [handoverIn]

@[simp] theorem keeperIn_frame (f : WatchFrame) (s : State) :
    (keeperIn f s).time = s.time ∧ (keeperIn f s).lanes = s.lanes ∧ (keeperIn f s).planner = s.planner ∧
    (keeperIn f s).host.mem = s.host.mem ∧ (keeperIn f s).boot = s.boot ∧ (keeperIn f s).pending = s.pending := by
  unfold keeperIn
  (repeat' split) <;> simp

@[simp] theorem twinFrame_frame (port : Bool) (f : WatchFrame) (s : State) :
    (twinFrame port f s).lanes = s.lanes ∧ (twinFrame port f s).host.mem = s.host.mem ∧
    (twinFrame port f s).boot = s.boot ∧ (twinFrame port f s).pending = s.pending := by
  simp [twinFrame]

@[simp] theorem loadSlot_frame (sl : Slot) (s : State) :
    (loadSlot sl s).time = s.time ∧ (loadSlot sl s).lanes = s.lanes ∧ (loadSlot sl s).planner = s.planner ∧
    (loadSlot sl s).host = s.host ∧ (loadSlot sl s).twin = s.twin ∧ (loadSlot sl s).flight = s.flight ∧
    (loadSlot sl s).boot = s.boot ∧ (loadSlot sl s).pending = s.pending := by
  simp [loadSlot]

@[simp] theorem primeSels_frame (s : State) :
    (primeSels s).time = s.time ∧ (primeSels s).lanes = s.lanes ∧ (primeSels s).planner = s.planner ∧
    (primeSels s).host = s.host ∧ (primeSels s).twin = s.twin ∧ (primeSels s).flight = s.flight ∧
    (primeSels s).boot = s.boot ∧ (primeSels s).pending = s.pending := by
  simp [primeSels]

@[simp] theorem coldStart_frame (matches_ : Bool) (s : State) :
    (coldStart matches_ s).lanes = s.lanes ∧ (coldStart matches_ s).host.mem = s.host.mem ∧
    (coldStart matches_ s).boot = s.boot ∧ (coldStart matches_ s).pending = s.pending := by
  unfold coldStart
  (repeat' split) <;> simp

end Sys2Proof.Machine
end

