-- ==== Sys2Proof/Laws/FramesCkpt.lean ====
section
/-! SUPPORT. What the operations of Machine/Ckpt.lean leave as it was: one lemma per operation. -/

namespace Sys2Proof.Machine

open Sys2Proof

@[simp] theorem beginFull_frame (s : State) :
    (beginFull s).time = s.time ∧ (beginFull s).lanes = s.lanes ∧ (beginFull s).planner = s.planner ∧
    (beginFull s).host = s.host ∧ (beginFull s).twin = s.twin ∧ (beginFull s).flight = s.flight ∧
    (beginFull s).boot = s.boot ∧ (beginFull s).pending = s.pending := by
  simp [beginFull]

@[simp] theorem fullReq_frame (s : State) :
    (fullReq s).time = s.time ∧ (fullReq s).lanes = s.lanes ∧ (fullReq s).host.mem = s.host.mem ∧
    (fullReq s).twin = s.twin ∧ (fullReq s).boot = s.boot ∧ (fullReq s).pending = s.pending := by
  simp [fullReq]

@[simp] theorem fullCopyEnd_frame (f : FullSend) (s : State) :
    (fullCopyEnd f s).time = s.time ∧ (fullCopyEnd f s).lanes = s.lanes ∧ (fullCopyEnd f s).host = s.host ∧
    (fullCopyEnd f s).twin = s.twin ∧ (fullCopyEnd f s).flight = s.flight ∧ (fullCopyEnd f s).boot = s.boot ∧
    (fullCopyEnd f s).pending = s.pending := by
  simp [fullCopyEnd]

@[simp] theorem peerSynced_frame (s : State) :
    (peerSynced s).time = s.time ∧ (peerSynced s).lanes = s.lanes ∧ (peerSynced s).host = s.host ∧
    (peerSynced s).twin = s.twin ∧ (peerSynced s).flight = s.flight ∧ (peerSynced s).boot = s.boot ∧
    (peerSynced s).pending = s.pending := by
  simp [peerSynced]

@[simp] theorem ckptAck_frame (m : TwinMsg) (s : State) :
    (ckptAck m s).time = s.time ∧ (ckptAck m s).lanes = s.lanes ∧ (ckptAck m s).host.mem = s.host.mem ∧
    (ckptAck m s).twin = s.twin ∧ (ckptAck m s).boot = s.boot ∧ (ckptAck m s).pending = s.pending := by
  unfold ckptAck
  (repeat' split) <;> simp

@[simp] theorem deltaShip_frame (s : State) :
    (deltaShip s).time = s.time ∧ (deltaShip s).lanes = s.lanes ∧ (deltaShip s).host = s.host ∧
    (deltaShip s).twin = s.twin ∧ (deltaShip s).flight = s.flight ∧ (deltaShip s).boot = s.boot ∧
    (deltaShip s).pending = s.pending := by
  unfold deltaShip
  dsimp only
  (repeat' split) <;> simp

@[simp] theorem mirrorTick_frame (s : State) :
    (mirrorTick s).time = s.time ∧ (mirrorTick s).lanes = s.lanes ∧ (mirrorTick s).planner = s.planner ∧
    (mirrorTick s).host = s.host ∧ (mirrorTick s).twin = s.twin ∧ (mirrorTick s).flight = s.flight ∧
    (mirrorTick s).boot = s.boot ∧ (mirrorTick s).pending = s.pending := by
  simp [mirrorTick]

@[simp] theorem fullIn_frame (m : TwinMsg) (s : State) :
    (fullIn m s).time = s.time ∧ (fullIn m s).lanes = s.lanes ∧ (fullIn m s).planner = s.planner ∧
    (fullIn m s).host = s.host ∧ (fullIn m s).twin = s.twin ∧ (fullIn m s).flight = s.flight ∧
    (fullIn m s).boot = s.boot ∧ (fullIn m s).pending = s.pending := by
  simp [fullIn]

@[simp] theorem fullTick_frame (s : State) :
    (fullTick s).time = s.time ∧ (fullTick s).lanes = s.lanes ∧ (fullTick s).planner = s.planner ∧
    (fullTick s).host = s.host ∧ (fullTick s).twin = s.twin ∧ (fullTick s).flight = s.flight ∧
    (fullTick s).boot = s.boot ∧ (fullTick s).pending = s.pending := by
  simp [fullTick]

@[simp] theorem discardMsg_frame (type : Nat) (s : State) :
    (discardMsg type s).time = s.time ∧ (discardMsg type s).lanes = s.lanes ∧
    (discardMsg type s).planner = s.planner ∧ (discardMsg type s).host = s.host ∧
    (discardMsg type s).flight = s.flight ∧ (discardMsg type s).boot = s.boot ∧
    (discardMsg type s).pending = s.pending := by
  simp [discardMsg]

@[simp] theorem openFree_frame (s : State) :
    (openFree s).time = s.time ∧ (openFree s).lanes = s.lanes ∧ (openFree s).planner = s.planner ∧
    (openFree s).host = s.host ∧ (openFree s).twin = s.twin ∧ (openFree s).flight = s.flight ∧
    (openFree s).boot = s.boot ∧ (openFree s).pending = s.pending := by
  simp [openFree]

@[simp] theorem deltaIn_frame (m : TwinMsg) (s : State) :
    (deltaIn m s).time = s.time ∧ (deltaIn m s).lanes = s.lanes ∧ (deltaIn m s).planner = s.planner ∧
    (deltaIn m s).host = s.host ∧ (deltaIn m s).flight = s.flight ∧ (deltaIn m s).boot = s.boot ∧
    (deltaIn m s).pending = s.pending := by
  simp [deltaIn]

@[simp] theorem modCommitted_frame (gen : Nat) (f : Slot → Slot) (s : State) :
    (modCommitted gen f s).time = s.time ∧ (modCommitted gen f s).lanes = s.lanes ∧
    (modCommitted gen f s).planner = s.planner ∧ (modCommitted gen f s).host = s.host ∧
    (modCommitted gen f s).twin = s.twin ∧ (modCommitted gen f s).flight = s.flight ∧
    (modCommitted gen f s).boot = s.boot ∧ (modCommitted gen f s).pending = s.pending := by
  simp [modCommitted]

@[simp] theorem unpromote_frame (gen : Nat) (frame : Nat) (s : State) :
    (unpromote gen frame s).time = s.time ∧ (unpromote gen frame s).lanes = s.lanes ∧
    (unpromote gen frame s).planner = s.planner ∧ (unpromote gen frame s).host = s.host ∧
    (unpromote gen frame s).twin = s.twin ∧ (unpromote gen frame s).flight = s.flight ∧
    (unpromote gen frame s).boot = s.boot ∧ (unpromote gen frame s).pending = s.pending := by
  unfold unpromote
  (repeat' split) <;> simp

@[simp] theorem fixIn_frame (m : TwinMsg) (s : State) :
    (fixIn m s).time = s.time ∧ (fixIn m s).lanes = s.lanes ∧ (fixIn m s).planner = s.planner ∧
    (fixIn m s).host = s.host ∧ (fixIn m s).twin = s.twin ∧ (fixIn m s).flight = s.flight ∧
    (fixIn m s).boot = s.boot ∧ (fixIn m s).pending = s.pending := by
  simp [fixIn]

@[simp] theorem dropIn_frame (m : TwinMsg) (s : State) :
    (dropIn m s).time = s.time ∧ (dropIn m s).lanes = s.lanes ∧ (dropIn m s).planner = s.planner ∧
    (dropIn m s).host = s.host ∧ (dropIn m s).flight = s.flight ∧ (dropIn m s).boot = s.boot ∧
    (dropIn m s).pending = s.pending := by
  simp [dropIn]

@[simp] theorem followWrite_frame (w : SlotWrite) (s : State) :
    (followWrite w s).time = s.time ∧ (followWrite w s).lanes = s.lanes ∧ (followWrite w s).planner = s.planner ∧
    (followWrite w s).host = s.host ∧ (followWrite w s).twin = s.twin ∧ (followWrite w s).flight = s.flight ∧
    (followWrite w s).boot = s.boot ∧ (followWrite w s).pending = s.pending := by
  simp [followWrite]

@[simp] theorem selIn_frame (m : TwinMsg) (s : State) :
    (selIn m s).time = s.time ∧ (selIn m s).lanes = s.lanes ∧ (selIn m s).planner = s.planner ∧
    (selIn m s).host = s.host ∧ (selIn m s).twin = s.twin ∧ (selIn m s).flight = s.flight ∧
    (selIn m s).boot = s.boot ∧ (selIn m s).pending = s.pending := by
  simp [selIn]

@[simp] theorem syncEndIn_frame (s : State) :
    (syncEndIn s).time = s.time ∧ (syncEndIn s).lanes = s.lanes ∧ (syncEndIn s).planner = s.planner ∧
    (syncEndIn s).host = s.host ∧ (syncEndIn s).flight = s.flight ∧ (syncEndIn s).boot = s.boot ∧
    (syncEndIn s).pending = s.pending := by
  simp [syncEndIn]

@[simp] theorem refreshDone_frame (s : State) :
    (refreshDone s).time = s.time ∧ (refreshDone s).lanes = s.lanes ∧ (refreshDone s).planner = s.planner ∧
    (refreshDone s).host = s.host ∧ (refreshDone s).twin = s.twin ∧ (refreshDone s).flight = s.flight ∧
    (refreshDone s).boot = s.boot ∧ (refreshDone s).pending = s.pending := by
  unfold refreshDone
  (repeat' split) <;> simp

@[simp] theorem handleMsg_frame (ws : List W64) (s : State) :
    (handleMsg ws s).time = s.time ∧ (handleMsg ws s).lanes = s.lanes ∧ (handleMsg ws s).host.mem = s.host.mem ∧
    (handleMsg ws s).boot = s.boot ∧ (handleMsg ws s).pending = s.pending := by
  unfold handleMsg onStore
  dsimp only
  (repeat' split) <;> simp

@[simp] theorem beginWrite_frame (s : State) :
    (beginWrite s).time = s.time ∧ (beginWrite s).lanes = s.lanes ∧ (beginWrite s).planner = s.planner ∧
    (beginWrite s).host = s.host ∧ (beginWrite s).twin = s.twin ∧ (beginWrite s).flight = s.flight ∧
    (beginWrite s).boot = s.boot ∧ (beginWrite s).pending = s.pending := by
  simp [beginWrite]

@[simp] theorem twinBlocks_frame (bs : List (List W64)) (s : State) :
    (twinBlocks bs s).time = s.time ∧ (twinBlocks bs s).lanes = s.lanes ∧ (twinBlocks bs s).host.mem = s.host.mem ∧
    (twinBlocks bs s).boot = s.boot ∧ (twinBlocks bs s).pending = s.pending := by
  unfold twinBlocks
  split <;> simp

@[simp] theorem joinPlace_frame (phase : Nat) (cs : List TwinBits) (s : State) :
    (joinPlace phase cs s).2.time = s.time ∧ (joinPlace phase cs s).2.lanes = s.lanes ∧
    (joinPlace phase cs s).2.planner = s.planner ∧ (joinPlace phase cs s).2.host = s.host ∧
    (joinPlace phase cs s).2.flight = s.flight ∧ (joinPlace phase cs s).2.boot = s.boot ∧
    (joinPlace phase cs s).2.pending = s.pending := by
  unfold joinPlace
  dsimp only
  (repeat' split) <;> simp

@[simp] theorem joinLanes_frame (n phase : Nat) (s : State) :
    (joinLanes n phase s).2.time = s.time ∧ (joinLanes n phase s).2.lanes = s.lanes ∧
    (joinLanes n phase s).2.planner = s.planner ∧ (joinLanes n phase s).2.host = s.host ∧
    (joinLanes n phase s).2.flight = s.flight ∧ (joinLanes n phase s).2.boot = s.boot ∧
    (joinLanes n phase s).2.pending = s.pending := by
  induction n generalizing s with
  | zero => simp [joinLanes]
  | succ n ih =>
    simp only [joinLanes]
    split
    · simp
    · dsimp only
      split <;> simp [ih]

@[simp] theorem twinReceive_frame (rx : List TwinRx) (phase : Nat) (s : State) :
    (twinReceive rx phase s).time = s.time ∧ (twinReceive rx phase s).lanes = s.lanes ∧
    (twinReceive rx phase s).boot = s.boot ∧ (twinReceive rx phase s).pending = s.pending := by
  simp only [twinReceive, twinBlocks_frame, joinLanes_frame]
  exact ⟨foldl_same (fun s : State => s.time) _ (by intros; rfl) _ s,
    foldl_same (fun s : State => s.lanes) _ (by intros; rfl) _ s,
    foldl_same (fun s : State => s.boot) _ (by intros; rfl) _ s,
    foldl_same (fun s : State => s.pending) _ (by intros; rfl) _ s⟩

end Sys2Proof.Machine
end

