-- ==== Sys2Proof/Laws/FramesKeeper.lean ====
section
/-! SUPPORT. What the operations of Machine/Keeper.lean leave as it was: one lemma per operation. -/

namespace Sys2Proof.Machine

open Sys2Proof

@[simp] theorem State.setKport_frame (s : State) (port : Bool) (k : KPort) :
    (State.setKport s port k).time = s.time ∧ (State.setKport s port k).lanes = s.lanes ∧
    (State.setKport s port k).planner = s.planner ∧ (State.setKport s port k).host = s.host ∧
    (State.setKport s port k).twin = s.twin ∧ (State.setKport s port k).flight = s.flight ∧
    (State.setKport s port k).boot = s.boot ∧ (State.setKport s port k).pending = s.pending := by
  simp [State.setKport]

@[simp] theorem State.modKport_frame (s : State) (port : Bool) (f : KPort → KPort) :
    (State.modKport s port f).time = s.time ∧ (State.modKport s port f).lanes = s.lanes ∧
    (State.modKport s port f).planner = s.planner ∧ (State.modKport s port f).host = s.host ∧
    (State.modKport s port f).twin = s.twin ∧ (State.modKport s port f).flight = s.flight ∧
    (State.modKport s port f).boot = s.boot ∧ (State.modKport s port f).pending = s.pending := by
  simp [State.modKport]

@[simp] theorem keeperSend_frame (port : Bool) (type : Nat) (w1 : W64) (w2 : W64) (s : State) :
    (keeperSend port type w1 w2 s).time = s.time ∧ (keeperSend port type w1 w2 s).lanes = s.lanes ∧
    (keeperSend port type w1 w2 s).planner = s.planner ∧ (keeperSend port type w1 w2 s).host = s.host ∧
    (keeperSend port type w1 w2 s).twin = s.twin ∧ (keeperSend port type w1 w2 s).flight = s.flight ∧
    (keeperSend port type w1 w2 s).boot = s.boot ∧ (keeperSend port type w1 w2 s).pending = s.pending := by
  simp [keeperSend]

@[simp] theorem sendNotice_frame (port : Bool) (s : State) :
    (sendNotice port s).time = s.time ∧ (sendNotice port s).lanes = s.lanes ∧
    (sendNotice port s).planner = s.planner ∧ (sendNotice port s).host = s.host ∧ (sendNotice port s).twin = s.twin ∧
    (sendNotice port s).flight = s.flight ∧ (sendNotice port s).boot = s.boot ∧
    (sendNotice port s).pending = s.pending := by
  simp [sendNotice]

@[simp] theorem sendHello_frame (s : State) :
    (sendHello s).time = s.time ∧ (sendHello s).lanes = s.lanes ∧ (sendHello s).planner = s.planner ∧
    (sendHello s).host = s.host ∧ (sendHello s).twin = s.twin ∧ (sendHello s).flight = s.flight ∧
    (sendHello s).boot = s.boot ∧ (sendHello s).pending = s.pending := by
  simp [sendHello]

@[simp] theorem sendQuery_frame (s : State) :
    (sendQuery s).time = s.time ∧ (sendQuery s).lanes = s.lanes ∧ (sendQuery s).planner = s.planner ∧
    (sendQuery s).host = s.host ∧ (sendQuery s).twin = s.twin ∧ (sendQuery s).flight = s.flight ∧
    (sendQuery s).boot = s.boot ∧ (sendQuery s).pending = s.pending := by
  unfold sendQuery
  (repeat' split) <;> simp

@[simp] theorem sendTake_frame (s : State) :
    (sendTake s).time = s.time ∧ (sendTake s).lanes = s.lanes ∧ (sendTake s).planner = s.planner ∧
    (sendTake s).host = s.host ∧ (sendTake s).twin = s.twin ∧ (sendTake s).flight = s.flight ∧
    (sendTake s).boot = s.boot ∧ (sendTake s).pending = s.pending := by
  unfold sendTake
  (repeat' split) <;> simp

@[simp] theorem kHeld_frame (port : Bool) (term : Nat) (s : State) :
    (kHeld port term s).time = s.time ∧ (kHeld port term s).lanes = s.lanes ∧
    (kHeld port term s).planner = s.planner ∧ (kHeld port term s).host = s.host ∧ (kHeld port term s).twin = s.twin ∧
    (kHeld port term s).flight = s.flight ∧ (kHeld port term s).boot = s.boot ∧
    (kHeld port term s).pending = s.pending := by
  simp [kHeld]

@[simp] theorem kGrant_frame (port : Bool) (base : Nat) (s : State) :
    (kGrant port base s).time = s.time ∧ (kGrant port base s).lanes = s.lanes ∧
    (kGrant port base s).planner = s.planner ∧ (kGrant port base s).host = s.host ∧
    (kGrant port base s).twin = s.twin ∧ (kGrant port base s).flight = s.flight ∧ (kGrant port base s).boot = s.boot ∧
    (kGrant port base s).pending = s.pending := by
  simp [kGrant]

@[simp] theorem kLapse_frame (s : State) :
    (kLapse s).time = s.time ∧ (kLapse s).lanes = s.lanes ∧ (kLapse s).planner = s.planner ∧
    (kLapse s).host = s.host ∧ (kLapse s).twin = s.twin ∧ (kLapse s).flight = s.flight ∧ (kLapse s).boot = s.boot ∧
    (kLapse s).pending = s.pending := by
  unfold kLapse
  (repeat' split) <;> simp

@[simp] theorem kActive_frame (port : Bool) (f : WatchFrame) (s : State) :
    (kActive port f s).1.time = s.time ∧ (kActive port f s).1.lanes = s.lanes ∧
    (kActive port f s).1.planner = s.planner ∧ (kActive port f s).1.host = s.host ∧
    (kActive port f s).1.twin = s.twin ∧ (kActive port f s).1.flight = s.flight ∧ (kActive port f s).1.boot = s.boot ∧
    (kActive port f s).1.pending = s.pending := by
  unfold kActive
  (repeat' split) <;> simp

@[simp] theorem kStatus_frame (port : Bool) (f : WatchFrame) (s : State) :
    (kStatus port f s).time = s.time ∧ (kStatus port f s).lanes = s.lanes ∧ (kStatus port f s).planner = s.planner ∧
    (kStatus port f s).host = s.host ∧ (kStatus port f s).twin = s.twin ∧ (kStatus port f s).flight = s.flight ∧
    (kStatus port f s).boot = s.boot ∧ (kStatus port f s).pending = s.pending := by
  simp [kStatus]

@[simp] theorem kAnswer_frame (port : Bool) (f : WatchFrame) (s : State) :
    (kAnswer port f s).time = s.time ∧ (kAnswer port f s).lanes = s.lanes ∧ (kAnswer port f s).planner = s.planner ∧
    (kAnswer port f s).host = s.host ∧ (kAnswer port f s).twin = s.twin ∧ (kAnswer port f s).flight = s.flight ∧
    (kAnswer port f s).boot = s.boot ∧ (kAnswer port f s).pending = s.pending := by
  simp [kAnswer]

@[simp] theorem kTaken_frame (port : Bool) (f : WatchFrame) (s : State) :
    (kTaken port f s).time = s.time ∧ (kTaken port f s).lanes = s.lanes ∧ (kTaken port f s).planner = s.planner ∧
    (kTaken port f s).host = s.host ∧ (kTaken port f s).twin = s.twin ∧ (kTaken port f s).flight = s.flight ∧
    (kTaken port f s).boot = s.boot ∧ (kTaken port f s).pending = s.pending := by
  simp [kTaken]

@[simp] theorem kHandover_frame (port : Bool) (f : WatchFrame) (s : State) :
    (kHandover port f s).time = s.time ∧ (kHandover port f s).lanes = s.lanes ∧
    (kHandover port f s).planner = s.planner ∧ (kHandover port f s).host = s.host ∧
    (kHandover port f s).twin = s.twin ∧ (kHandover port f s).flight = s.flight ∧ (kHandover port f s).boot = s.boot ∧
    (kHandover port f s).pending = s.pending := by
  simp [kHandover]

@[simp] theorem keeperFrame_frame (port : Bool) (f : WatchFrame) (s : State) :
    (keeperFrame port f s).time = s.time ∧ (keeperFrame port f s).lanes = s.lanes ∧
    (keeperFrame port f s).planner = s.planner ∧ (keeperFrame port f s).host = s.host ∧
    (keeperFrame port f s).twin = s.twin ∧ (keeperFrame port f s).flight = s.flight ∧
    (keeperFrame port f s).boot = s.boot ∧ (keeperFrame port f s).pending = s.pending := by
  unfold keeperFrame
  split
  · simp
  · split
    · simp
    · have hk := kActive_frame port f (s.modKport port (fun k => k.hear f s.time.rows))
      simp only []
      generalize kActive port f (s.modKport port (fun k => k.hear f s.time.rows)) = r at hk
      obtain ⟨s', b⟩ := r
      simp at hk
      cases b with
      | true => simp [hk]
      | false =>
        dsimp only
        split <;> simp [hk]

@[simp] theorem toKeeper_frame (port : Bool) (f : WatchFrame) (s : State) :
    (toKeeper port f s).time = s.time ∧ (toKeeper port f s).lanes = s.lanes ∧
    (toKeeper port f s).planner = s.planner ∧ (toKeeper port f s).host = s.host ∧
    (toKeeper port f s).flight = s.flight ∧ (toKeeper port f s).boot = s.boot ∧
    (toKeeper port f s).pending = s.pending := by
  simp [toKeeper]

@[simp] theorem keeperStart_frame (s : State) :
    (keeperStart s).time = s.time ∧ (keeperStart s).lanes = s.lanes ∧ (keeperStart s).planner = s.planner ∧
    (keeperStart s).host = s.host ∧ (keeperStart s).twin = s.twin ∧ (keeperStart s).flight = s.flight ∧
    (keeperStart s).boot = s.boot ∧ (keeperStart s).pending = s.pending := by
  simp [keeperStart]

@[simp] theorem keeperLearnt_frame (s : State) :
    (keeperLearnt s).time = s.time ∧ (keeperLearnt s).lanes = s.lanes ∧ (keeperLearnt s).planner = s.planner ∧
    (keeperLearnt s).host = s.host ∧ (keeperLearnt s).twin = s.twin ∧ (keeperLearnt s).flight = s.flight ∧
    (keeperLearnt s).boot = s.boot ∧ (keeperLearnt s).pending = s.pending := by
  simp [keeperLearnt]

@[simp] theorem keeperTick_frame (s : State) :
    (keeperTick s).time = s.time ∧ (keeperTick s).lanes = s.lanes ∧ (keeperTick s).planner = s.planner ∧
    (keeperTick s).host = s.host ∧ (keeperTick s).twin = s.twin ∧ (keeperTick s).flight = s.flight ∧
    (keeperTick s).boot = s.boot ∧ (keeperTick s).pending = s.pending := by
  simp [keeperTick]

@[simp] theorem keeperGrant_frame (s : State) :
    (keeperGrant s).time = s.time ∧ (keeperGrant s).lanes = s.lanes ∧ (keeperGrant s).planner = s.planner ∧
    (keeperGrant s).host = s.host ∧ (keeperGrant s).twin = s.twin ∧ (keeperGrant s).flight = s.flight ∧
    (keeperGrant s).boot = s.boot ∧ (keeperGrant s).pending = s.pending := by
  simp [keeperGrant]

end Sys2Proof.Machine
end

