-- ==== Sys2Proof/Laws/FramesTow.lean ====
section
/-! SUPPORT. What the operations of Machine/Tow.lean leave as it was: one lemma per operation. -/

namespace Sys2Proof.Machine

open Sys2Proof

@[simp] theorem towBad_frame (src : Nat) (s : State) :
    (towBad src s).time = s.time ∧ (towBad src s).lanes = s.lanes ∧ (towBad src s).planner = s.planner ∧
    (towBad src s).host = s.host ∧ (towBad src s).twin = s.twin ∧ (towBad src s).boot = s.boot ∧
    (towBad src s).pending = s.pending := by
  simp [towBad]

@[simp] theorem ackPacket_frame (p : TowPkt) (s : State) :
    (ackPacket p s).time = s.time ∧ (ackPacket p s).lanes = s.lanes ∧ (ackPacket p s).planner = s.planner ∧
    (ackPacket p s).host = s.host ∧ (ackPacket p s).twin = s.twin ∧ (ackPacket p s).boot = s.boot ∧
    (ackPacket p s).pending = s.pending := by
  simp [ackPacket]

@[simp] theorem queueGone_frame (q : Nat) (src : Nat) (s : State) :
    (queueGone q src s).time = s.time ∧ (queueGone q src s).lanes = s.lanes ∧
    (queueGone q src s).planner = s.planner ∧ (queueGone q src s).host.mem = s.host.mem ∧
    (queueGone q src s).twin = s.twin ∧ (queueGone q src s).flight = s.flight ∧ (queueGone q src s).boot = s.boot ∧
    (queueGone q src s).pending = s.pending := by
  simp [queueGone]

@[simp] theorem cmdIn_frame (p : TowPkt) (priv : Nat) (s : State) :
    (cmdIn p priv s).time = s.time ∧ (cmdIn p priv s).lanes = s.lanes ∧ (cmdIn p priv s).planner = s.planner ∧
    (cmdIn p priv s).host.mem = s.host.mem ∧ (cmdIn p priv s).twin = s.twin ∧ (cmdIn p priv s).boot = s.boot ∧
    (cmdIn p priv s).pending = s.pending := by
  simp [cmdIn]

@[simp] theorem dmaRdIn_frame (p : TowPkt) (data : Option (List W64)) (s : State) :
    (dmaRdIn p data s).time = s.time ∧ (dmaRdIn p data s).lanes = s.lanes ∧ (dmaRdIn p data s).planner = s.planner ∧
    (dmaRdIn p data s).host = s.host ∧ (dmaRdIn p data s).twin = s.twin ∧ (dmaRdIn p data s).boot = s.boot ∧
    (dmaRdIn p data s).pending = s.pending := by
  simp [dmaRdIn]

@[simp] theorem dmaDataIn_frame (p : TowPkt) (s : State) :
    (dmaDataIn p s).time = s.time ∧ (dmaDataIn p s).lanes = s.lanes ∧ (dmaDataIn p s).planner = s.planner ∧
    (dmaDataIn p s).host.mem = s.host.mem ∧ (dmaDataIn p s).twin = s.twin ∧ (dmaDataIn p s).flight = s.flight ∧
    (dmaDataIn p s).boot = s.boot ∧ (dmaDataIn p s).pending = s.pending := by
  simp [dmaDataIn]

@[simp] theorem takeHeld_frame (h : HeldPkt) (s : State) :
    (takeHeld h s).time = s.time ∧ (takeHeld h s).lanes = s.lanes ∧ (takeHeld h s).planner = s.planner ∧
    (takeHeld h s).host.mem = s.host.mem ∧ (takeHeld h s).twin = s.twin ∧ (takeHeld h s).boot = s.boot ∧
    (takeHeld h s).pending = s.pending := by
  unfold takeHeld
  (repeat' split) <;> simp

@[simp] theorem releaseHeld_frame (s : State) :
    (releaseHeld s).time = s.time ∧ (releaseHeld s).lanes = s.lanes ∧ (releaseHeld s).planner = s.planner ∧
    (releaseHeld s).host.mem = s.host.mem ∧ (releaseHeld s).twin = s.twin ∧ (releaseHeld s).boot = s.boot ∧
    (releaseHeld s).pending = s.pending := by
  simp [releaseHeld]

@[simp] theorem hold_frame (p : TowPkt) (priv : Nat) (data : Option (List W64)) (s : State) :
    (hold p priv data s).time = s.time ∧ (hold p priv data s).lanes = s.lanes ∧
    (hold p priv data s).planner = s.planner ∧ (hold p priv data s).host = s.host ∧
    (hold p priv data s).twin = s.twin ∧ (hold p priv data s).boot = s.boot ∧
    (hold p priv data s).pending = s.pending := by
  simp [hold]

@[simp] theorem heldTick_frame (s : State) :
    (heldTick s).time = s.time ∧ (heldTick s).lanes = s.lanes ∧ (heldTick s).planner = s.planner ∧
    (heldTick s).host.mem = s.host.mem ∧ (heldTick s).twin = s.twin ∧ (heldTick s).boot = s.boot ∧
    (heldTick s).pending = s.pending := by
  simp [heldTick]

theorem consume_same {τ : Type} (q : State → τ) (p : TowPkt) (g : State → State) (s : State) (hg : ∀ s, q (g s) = q s)
    (ha : ∀ s, q (ackPacket p s) = q s) (hr : ∀ s k, q { s with flight.rxSeq := k } = q s) (hl : ∀ s, q (releaseHeld s) = q s) :
    q (consume p g s) = q s := by
  unfold consume
  split
  · exact hg s
  · dsimp only
    split
    · exact ha s
    · rw [hl, hg, hr, ha]

@[simp] theorem freeBuffer_frame (p : TowPkt) (side : Side) (s : State) :
    (freeBuffer p side s).time = s.time ∧ (freeBuffer p side s).lanes = s.lanes ∧
    (freeBuffer p side s).planner = s.planner ∧ (freeBuffer p side s).host = s.host ∧
    (freeBuffer p side s).twin = s.twin ∧ (freeBuffer p side s).boot = s.boot ∧
    (freeBuffer p side s).pending = s.pending := by
  simp [freeBuffer]

theorem receive_same {τ : Type} (q : State → τ) (type : Nat) (side : Side) (p : TowPkt) (fwd : TowPkt → TowPkt)
    (g : State → State) (s : State) (hg : ∀ s, q (g s) = q s) (ha : ∀ s, q (ackPacket p s) = q s)
    (hr : ∀ s k, q { s with flight.rxSeq := k } = q s) (hl : ∀ s, q (releaseHeld s) = q s) (hb : ∀ a s, q (towBad a s) = q s)
    (hf : ∀ d x b s, q (portForward d x b s) = q s) (hc : ∀ x d s, q (freeBuffer x d s) = q s) :
    q (receive type side p fwd g s) = q s := by
  unfold receive
  split
  · rfl
  · split
    · rw [hc, hb]
    · dsimp only
      have hs : q (if (hopLocal type || p.all || (s.flight.addressed && p.dst == s.flight.addr)) = true then consume p g s
          else s) = q s := by
        split
        · exact consume_same q p g s hg ha hr hl
        · rfl
      generalize (if (hopLocal type || p.all || (s.flight.addressed && p.dst == s.flight.addr)) = true then consume p g s
          else s) = u at hs ⊢
      rw [apply_ite q, apply_ite q, hf, hc, hs]
      simp

@[simp] theorem memberEvent_frame (a : Nat) (detail : Nat) (s : State) :
    (memberEvent a detail s).time = s.time ∧ (memberEvent a detail s).lanes = s.lanes ∧
    (memberEvent a detail s).planner = s.planner ∧ (memberEvent a detail s).host = s.host ∧
    (memberEvent a detail s).twin = s.twin ∧ (memberEvent a detail s).boot = s.boot ∧
    (memberEvent a detail s).pending = s.pending := by
  simp [memberEvent]

@[simp] theorem stampMember_frame (before : State) (a : Nat) (s : State) :
    (stampMember before a s).time = s.time ∧ (stampMember before a s).lanes = s.lanes ∧
    (stampMember before a s).planner = s.planner ∧ (stampMember before a s).host = s.host ∧
    (stampMember before a s).twin = s.twin ∧ (stampMember before a s).boot = s.boot ∧
    (stampMember before a s).pending = s.pending := by
  simp [stampMember]

@[simp] theorem flushEvents_frame (s : State) :
    (flushEvents s).time = s.time ∧ (flushEvents s).lanes = s.lanes ∧ (flushEvents s).planner = s.planner ∧
    (flushEvents s).host.mem = s.host.mem ∧ (flushEvents s).twin = s.twin ∧ (flushEvents s).boot = s.boot ∧
    (flushEvents s).pending = s.pending := by
  unfold flushEvents
  (repeat' split) <;> simp

@[simp] theorem dropMember_frame (a : Nat) (s : State) :
    (dropMember a s).time = s.time ∧ (dropMember a s).lanes = s.lanes ∧ (dropMember a s).planner = s.planner ∧
    (dropMember a s).host.mem = s.host.mem ∧ (dropMember a s).twin = s.twin ∧ (dropMember a s).flight = s.flight ∧
    (dropMember a s).boot = s.boot ∧ (dropMember a s).pending = s.pending := by
  simp [dropMember]

@[simp] theorem gatewayRule_frame (s : State) :
    (gatewayRule s).time = s.time ∧ (gatewayRule s).lanes = s.lanes ∧ (gatewayRule s).planner = s.planner ∧
    (gatewayRule s).host.mem = s.host.mem ∧ (gatewayRule s).twin = s.twin ∧ (gatewayRule s).boot = s.boot ∧
    (gatewayRule s).pending = s.pending := by
  unfold gatewayRule
  (repeat' split) <;> simp

@[simp] theorem delayAsk_frame (sd : Side) (s : State) :
    (delayAsk sd s).time = s.time ∧ (delayAsk sd s).lanes = s.lanes ∧ (delayAsk sd s).planner = s.planner ∧
    (delayAsk sd s).host = s.host ∧ (delayAsk sd s).twin = s.twin ∧ (delayAsk sd s).boot = s.boot ∧
    (delayAsk sd s).pending = s.pending := by
  simp [delayAsk]

@[simp] theorem takeAddress_frame (a : Nat) (s : State) :
    (takeAddress a s).time = s.time ∧ (takeAddress a s).lanes = s.lanes ∧ (takeAddress a s).planner = s.planner ∧
    (takeAddress a s).host = s.host ∧ (takeAddress a s).twin = s.twin ∧ (takeAddress a s).boot = s.boot ∧
    (takeAddress a s).pending = s.pending := by
  simp [takeAddress]

@[simp] theorem memberIn_frame (side : Side) (p : TowPkt) (s : State) :
    (memberIn side p s).time = s.time ∧ (memberIn side p s).lanes = s.lanes ∧
    (memberIn side p s).planner = s.planner ∧ (memberIn side p s).host.mem = s.host.mem ∧
    (memberIn side p s).twin = s.twin ∧ (memberIn side p s).boot = s.boot ∧
    (memberIn side p s).pending = s.pending := by
  simp [memberIn]

@[simp] theorem ownAddressSeen_frame (p : TowPkt) (s : State) :
    (ownAddressSeen p s).time = s.time ∧ (ownAddressSeen p s).lanes = s.lanes ∧
    (ownAddressSeen p s).planner = s.planner ∧ (ownAddressSeen p s).host.mem = s.host.mem ∧
    (ownAddressSeen p s).twin = s.twin ∧ (ownAddressSeen p s).boot = s.boot ∧
    (ownAddressSeen p s).pending = s.pending := by
  simp [ownAddressSeen]

@[simp] theorem memberPacket_frame (side : Side) (p : TowPkt) (s : State) :
    (memberPacket side p s).time = s.time ∧ (memberPacket side p s).lanes = s.lanes ∧
    (memberPacket side p s).planner = s.planner ∧ (memberPacket side p s).host.mem = s.host.mem ∧
    (memberPacket side p s).twin = s.twin ∧ (memberPacket side p s).boot = s.boot ∧
    (memberPacket side p s).pending = s.pending := by
  simp [memberPacket]

@[simp] theorem memberSend_frame (s : State) :
    (memberSend s).time = s.time ∧ (memberSend s).lanes = s.lanes ∧ (memberSend s).planner = s.planner ∧
    (memberSend s).host = s.host ∧ (memberSend s).twin = s.twin ∧ (memberSend s).boot = s.boot ∧
    (memberSend s).pending = s.pending := by
  simp [memberSend]

@[simp] theorem countMembers_frame (s : State) :
    (countMembers s).time = s.time ∧ (countMembers s).lanes = s.lanes ∧ (countMembers s).planner = s.planner ∧
    (countMembers s).host.mem = s.host.mem ∧ (countMembers s).twin = s.twin ∧ (countMembers s).boot = s.boot ∧
    (countMembers s).pending = s.pending := by
  simp [countMembers]

@[simp] theorem ownRecord_frame (s : State) :
    (ownRecord s).time = s.time ∧ (ownRecord s).lanes = s.lanes ∧ (ownRecord s).planner = s.planner ∧
    (ownRecord s).host = s.host ∧ (ownRecord s).twin = s.twin ∧ (ownRecord s).boot = s.boot ∧
    (ownRecord s).pending = s.pending := by
  simp [ownRecord]

@[simp] theorem memberTick_frame (s : State) :
    (memberTick s).time = s.time ∧ (memberTick s).lanes = s.lanes ∧ (memberTick s).planner = s.planner ∧
    (memberTick s).host.mem = s.host.mem ∧ (memberTick s).twin = s.twin ∧ (memberTick s).boot = s.boot ∧
    (memberTick s).pending = s.pending := by
  unfold memberTick
  dsimp only
  (repeat' split) <;> simp

@[simp] theorem syncSend_frame (s : State) :
    (syncSend s).time = s.time ∧ (syncSend s).lanes = s.lanes ∧ (syncSend s).planner = s.planner ∧
    (syncSend s).host = s.host ∧ (syncSend s).twin = s.twin ∧ (syncSend s).boot = s.boot ∧
    (syncSend s).pending = s.pending := by
  simp [syncSend]

@[simp] theorem delaySend_frame (s : State) :
    (delaySend s).time = s.time ∧ (delaySend s).lanes = s.lanes ∧ (delaySend s).planner = s.planner ∧
    (delaySend s).host = s.host ∧ (delaySend s).twin = s.twin ∧ (delaySend s).boot = s.boot ∧
    (delaySend s).pending = s.pending := by
  simp [delaySend]

@[simp] theorem fixDir_frame (s : State) :
    (fixDir s).time = s.time ∧ (fixDir s).lanes = s.lanes ∧ (fixDir s).planner = s.planner ∧
    (fixDir s).host = s.host ∧ (fixDir s).twin = s.twin ∧ (fixDir s).boot = s.boot ∧
    (fixDir s).pending = s.pending := by
  unfold fixDir
  (repeat' split) <;> simp

@[simp] theorem flightFrame_frame (frame : Nat) (s : State) :
    (flightFrame frame s).time = s.time ∧ (flightFrame frame s).lanes = s.lanes ∧
    (flightFrame frame s).planner = s.planner ∧ (flightFrame frame s).host.mem = s.host.mem ∧
    (flightFrame frame s).twin = s.twin ∧ (flightFrame frame s).boot = s.boot ∧
    (flightFrame frame s).pending = s.pending := by
  simp [flightFrame]

@[simp] theorem dropSync_frame (s : State) :
    (dropSync s).time = s.time ∧ (dropSync s).lanes = s.lanes ∧ (dropSync s).planner = s.planner ∧
    (dropSync s).host = s.host ∧ (dropSync s).twin = s.twin ∧ (dropSync s).boot = s.boot ∧
    (dropSync s).pending = s.pending := by
  simp [dropSync]

@[simp] theorem syncUse_frame (side : Side) (p : TowPkt) (arrival : Nat) (s : State) :
    (syncUse side p arrival s).time = s.time ∧ (syncUse side p arrival s).lanes = s.lanes ∧
    (syncUse side p arrival s).planner = s.planner ∧ (syncUse side p arrival s).host.mem = s.host.mem ∧
    (syncUse side p arrival s).twin = s.twin ∧ (syncUse side p arrival s).boot = s.boot ∧
    (syncUse side p arrival s).pending = s.pending := by
  simp [syncUse]

@[simp] theorem syncIn_frame (side : Side) (p : TowPkt) (arrival : Nat) (s : State) :
    (syncIn side p arrival s).time = s.time ∧ (syncIn side p arrival s).lanes = s.lanes ∧
    (syncIn side p arrival s).planner = s.planner ∧ (syncIn side p arrival s).host.mem = s.host.mem ∧
    (syncIn side p arrival s).twin = s.twin ∧ (syncIn side p arrival s).boot = s.boot ∧
    (syncIn side p arrival s).pending = s.pending := by
  simp [syncIn]

@[simp] theorem backupTick_frame (s : State) :
    (backupTick s).time = s.time ∧ (backupTick s).lanes = s.lanes ∧ (backupTick s).planner = s.planner ∧
    (backupTick s).host = s.host ∧ (backupTick s).twin = s.twin ∧ (backupTick s).boot = s.boot ∧
    (backupTick s).pending = s.pending := by
  simp [backupTick]

@[simp] theorem creditIn_frame (side : Side) (p : TowPkt) (s : State) :
    (creditIn side p s).time = s.time ∧ (creditIn side p s).lanes = s.lanes ∧
    (creditIn side p s).planner = s.planner ∧ (creditIn side p s).host = s.host ∧ (creditIn side p s).twin = s.twin ∧
    (creditIn side p s).boot = s.boot ∧ (creditIn side p s).pending = s.pending := by
  simp [creditIn]

@[simp] theorem delayReqIn_frame (side : Side) (turnaround : Nat) (s : State) :
    (delayReqIn side turnaround s).time = s.time ∧ (delayReqIn side turnaround s).lanes = s.lanes ∧
    (delayReqIn side turnaround s).planner = s.planner ∧ (delayReqIn side turnaround s).host = s.host ∧
    (delayReqIn side turnaround s).twin = s.twin ∧ (delayReqIn side turnaround s).boot = s.boot ∧
    (delayReqIn side turnaround s).pending = s.pending := by
  simp [delayReqIn]

@[simp] theorem delayRespIn_frame (side : Side) (p : TowPkt) (roundTrip : Nat) (s : State) :
    (delayRespIn side p roundTrip s).time = s.time ∧ (delayRespIn side p roundTrip s).lanes = s.lanes ∧
    (delayRespIn side p roundTrip s).planner = s.planner ∧ (delayRespIn side p roundTrip s).host = s.host ∧
    (delayRespIn side p roundTrip s).twin = s.twin ∧ (delayRespIn side p roundTrip s).boot = s.boot ∧
    (delayRespIn side p roundTrip s).pending = s.pending := by
  simp [delayRespIn]

@[simp] theorem commitIn_frame (p : TowPkt) (s : State) :
    (commitIn p s).time = s.time ∧ (commitIn p s).lanes = s.lanes ∧ (commitIn p s).planner = s.planner ∧
    (commitIn p s).host = s.host ∧ (commitIn p s).twin = s.twin ∧ (commitIn p s).boot = s.boot ∧
    (commitIn p s).pending = s.pending := by
  simp [commitIn]

@[simp] theorem replyIn_frame (p : TowPkt) (s : State) :
    (replyIn p s).time = s.time ∧ (replyIn p s).lanes = s.lanes ∧ (replyIn p s).planner = s.planner ∧
    (replyIn p s).host.mem = s.host.mem ∧ (replyIn p s).twin = s.twin ∧ (replyIn p s).flight = s.flight ∧
    (replyIn p s).boot = s.boot ∧ (replyIn p s).pending = s.pending := by
  simp [replyIn]

@[simp] theorem eventIn_frame (p : TowPkt) (s : State) :
    (eventIn p s).time = s.time ∧ (eventIn p s).lanes = s.lanes ∧ (eventIn p s).planner = s.planner ∧
    (eventIn p s).host.mem = s.host.mem ∧ (eventIn p s).twin = s.twin ∧ (eventIn p s).flight = s.flight ∧
    (eventIn p s).boot = s.boot ∧ (eventIn p s).pending = s.pending := by
  simp [eventIn]

@[simp] theorem ackIn_frame (p : TowPkt) (s : State) :
    (ackIn p s).time = s.time ∧ (ackIn p s).lanes = s.lanes ∧ (ackIn p s).planner = s.planner ∧
    (ackIn p s).host.mem = s.host.mem ∧ (ackIn p s).twin = s.twin ∧ (ackIn p s).boot = s.boot ∧
    (ackIn p s).pending = s.pending := by
  unfold ackIn
  dsimp only
  (repeat' split) <;> simp

@[simp] theorem dmaWrIn_frame (p : TowPkt) (s : State) :
    (dmaWrIn p s).time = s.time ∧ (dmaWrIn p s).lanes = s.lanes ∧ (dmaWrIn p s).planner = s.planner ∧
    (dmaWrIn p s).twin = s.twin ∧ (dmaWrIn p s).flight = s.flight ∧ (dmaWrIn p s).boot = s.boot ∧
    (dmaWrIn p s).pending = s.pending := by
  simp [dmaWrIn]

@[simp] theorem dmaWrBad_frame (side : Side) (p : DmaWrPkt) (s : State) :
    (dmaWrBad side p s).time = s.time ∧ (dmaWrBad side p s).lanes = s.lanes ∧
    (dmaWrBad side p s).planner = s.planner ∧ (dmaWrBad side p s).host = s.host ∧ (dmaWrBad side p s).twin = s.twin ∧
    (dmaWrBad side p s).boot = s.boot ∧ (dmaWrBad side p s).pending = s.pending := by
  simp [dmaWrBad]

@[simp] theorem unqueue_frame (u : Unacked) (s : State) :
    (unqueue u s).time = s.time ∧ (unqueue u s).lanes = s.lanes ∧ (unqueue u s).planner = s.planner ∧
    (unqueue u s).host = s.host ∧ (unqueue u s).twin = s.twin ∧ (unqueue u s).boot = s.boot ∧
    (unqueue u s).pending = s.pending := by
  simp [unqueue]

@[simp] theorem resend_frame (i : Nat) (s : State) :
    (resend i s).time = s.time ∧ (resend i s).lanes = s.lanes ∧ (resend i s).planner = s.planner ∧
    (resend i s).host = s.host ∧ (resend i s).twin = s.twin ∧ (resend i s).boot = s.boot ∧
    (resend i s).pending = s.pending := by
  unfold resend
  (repeat' split) <;> simp

@[simp] theorem ringEvent_frame (side : Side) (up : Bool) (s : State) :
    (ringEvent side up s).time = s.time ∧ (ringEvent side up s).lanes = s.lanes ∧
    (ringEvent side up s).planner = s.planner ∧ (ringEvent side up s).host.mem = s.host.mem ∧
    (ringEvent side up s).twin = s.twin ∧ (ringEvent side up s).boot = s.boot ∧
    (ringEvent side up s).pending = s.pending := by
  simp [ringEvent]

@[simp] theorem towReports_frame (rs : List TowLine) (s : State) :
    (towReports rs s).time = s.time ∧ (towReports rs s).lanes = s.lanes ∧ (towReports rs s).planner = s.planner ∧
    (towReports rs s).host = s.host ∧ (towReports rs s).twin = s.twin ∧ (towReports rs s).boot = s.boot ∧
    (towReports rs s).pending = s.pending := by
  simp [towReports]

@[simp] theorem remoteFaults_frame (s : State) :
    (remoteFaults s).time = s.time ∧ (remoteFaults s).lanes = s.lanes ∧ (remoteFaults s).planner = s.planner ∧
    (remoteFaults s).host = s.host ∧ (remoteFaults s).twin = s.twin ∧ (remoteFaults s).flight = s.flight ∧
    (remoteFaults s).boot = s.boot ∧ (remoteFaults s).pending = s.pending := by
  simp [remoteFaults]

@[simp] theorem routeLapse_frame (a : Nat) (side : Side) (s : State) :
    (routeLapse a side s).time = s.time ∧ (routeLapse a side s).lanes = s.lanes ∧
    (routeLapse a side s).planner = s.planner ∧ (routeLapse a side s).host.mem = s.host.mem ∧
    (routeLapse a side s).twin = s.twin ∧ (routeLapse a side s).boot = s.boot ∧
    (routeLapse a side s).pending = s.pending := by
  simp [routeLapse]

@[simp] theorem failReads_frame (s : State) :
    (failReads s).time = s.time ∧ (failReads s).lanes = s.lanes ∧ (failReads s).planner = s.planner ∧
    (failReads s).host.mem = s.host.mem ∧ (failReads s).twin = s.twin ∧ (failReads s).flight = s.flight ∧
    (failReads s).boot = s.boot ∧ (failReads s).pending = s.pending := by
  simp [failReads]

@[simp] theorem memberLost_frame (a : Nat) (s : State) :
    (memberLost a s).time = s.time ∧ (memberLost a s).lanes = s.lanes ∧ (memberLost a s).planner = s.planner ∧
    (memberLost a s).host.mem = s.host.mem ∧ (memberLost a s).twin = s.twin ∧ (memberLost a s).boot = s.boot ∧
    (memberLost a s).pending = s.pending := by
  unfold memberLost
  dsimp only
  (repeat' split) <;> simp

@[simp] theorem certOutcome_frame (a : Nat) (ok : Bool) (s : State) :
    (certOutcome a ok s).time = s.time ∧ (certOutcome a ok s).lanes = s.lanes ∧
    (certOutcome a ok s).planner = s.planner ∧ (certOutcome a ok s).host = s.host ∧
    (certOutcome a ok s).flight = s.flight ∧ (certOutcome a ok s).boot = s.boot ∧
    (certOutcome a ok s).pending = s.pending := by
  simp [certOutcome]

@[simp] theorem identityCheck_frame (a : Nat) (r : IdentResult) (s : State) :
    (identityCheck a r s).time = s.time ∧ (identityCheck a r s).lanes = s.lanes ∧
    (identityCheck a r s).planner = s.planner ∧ (identityCheck a r s).host.mem = s.host.mem ∧
    (identityCheck a r s).boot = s.boot ∧ (identityCheck a r s).pending = s.pending := by
  simp [identityCheck]

@[simp] theorem startRole_frame (s : State) :
    (startRole s).lanes = s.lanes ∧ (startRole s).planner = s.planner ∧ (startRole s).host.mem = s.host.mem ∧
    (startRole s).boot = s.boot ∧ (startRole s).pending = s.pending := by
  simp [startRole]

@[simp] theorem admitDone_frame (second : Bool) (first : Bool) (j : FlashJob) (s : State) :
    (admitDone second first j s).lanes = s.lanes ∧ (admitDone second first j s).planner = s.planner ∧
    (admitDone second first j s).host.mem = s.host.mem ∧ (admitDone second first j s).pending = s.pending := by
  simp [admitDone]

end Sys2Proof.Machine
end

