-- ==== Sys2Proof/Laws/FramesMatrixM.lean ====
section
/-! SUPPORT. What the operations of Machine/MatrixM.lean leave as it was: one lemma per operation. -/

namespace Sys2Proof.Machine

open Sys2Proof

@[simp] theorem declareWedged_frame (f : Nat) (cause : Nat) (target : Nat) (s : State) :
    (declareWedged f cause target s).time = s.time ∧ (declareWedged f cause target s).lanes = s.lanes ∧
    (declareWedged f cause target s).planner = s.planner ∧ (declareWedged f cause target s).host = s.host ∧
    (declareWedged f cause target s).twin = s.twin ∧ (declareWedged f cause target s).flight = s.flight ∧
    (declareWedged f cause target s).boot = s.boot ∧ (declareWedged f cause target s).pending = s.pending := by
  simp [declareWedged]

@[simp] theorem failCommand_frame (q : MReq) (s : State) :
    (failCommand q s).lanes = s.lanes ∧ (failCommand q s).planner = s.planner ∧
    (failCommand q s).host.mem = s.host.mem ∧ (failCommand q s).twin = s.twin ∧ (failCommand q s).boot = s.boot ∧
    (failCommand q s).pending = s.pending := by
  unfold failCommand
  dsimp only
  (repeat' split) <;> simp

@[simp] theorem decodeError_frame (r : MReq) (cause : Nat) (s : State) :
    (decodeError r cause s).lanes = s.lanes ∧ (decodeError r cause s).planner = s.planner ∧
    (decodeError r cause s).host.mem = s.host.mem ∧ (decodeError r cause s).twin = s.twin ∧
    (decodeError r cause s).boot = s.boot ∧ (decodeError r cause s).pending = s.pending := by
  simp [decodeError]

@[simp] theorem targetError_frame (q : MReq) (s : State) :
    (targetError q s).lanes = s.lanes ∧ (targetError q s).planner = s.planner ∧
    (targetError q s).host.mem = s.host.mem ∧ (targetError q s).twin = s.twin ∧ (targetError q s).boot = s.boot ∧
    (targetError q s).pending = s.pending := by
  simp [targetError]

@[simp] theorem modSlots_frame (a : Nat) (f : Nat → Nat) (s : State) :
    (modSlots a f s).time = s.time ∧ (modSlots a f s).lanes = s.lanes ∧ (modSlots a f s).planner = s.planner ∧
    (modSlots a f s).host = s.host ∧ (modSlots a f s).twin = s.twin ∧ (modSlots a f s).flight = s.flight ∧
    (modSlots a f s).boot = s.boot ∧ (modSlots a f s).pending = s.pending := by
  simp [modSlots]

@[simp] theorem slotSeen_frame (a : Nat) (free : Bool) (s : State) :
    (slotSeen a free s).time = s.time ∧ (slotSeen a free s).lanes = s.lanes ∧
    (slotSeen a free s).planner = s.planner ∧ (slotSeen a free s).host = s.host ∧ (slotSeen a free s).twin = s.twin ∧
    (slotSeen a free s).flight = s.flight ∧ (slotSeen a free s).boot = s.boot ∧
    (slotSeen a free s).pending = s.pending := by
  simp [slotSeen]

@[simp] theorem grantHead_frame (m : Nat) (t : Nat) (s : State) :
    (grantHead m t s).time = s.time ∧ (grantHead m t s).lanes = s.lanes ∧ (grantHead m t s).planner = s.planner ∧
    (grantHead m t s).host = s.host ∧ (grantHead m t s).twin = s.twin ∧ (grantHead m t s).flight = s.flight ∧
    (grantHead m t s).boot = s.boot ∧ (grantHead m t s).pending = s.pending := by
  unfold grantHead
  (repeat' split) <;> simp

@[simp] theorem visit_frame (m t n : Nat) (s : State) :
    (visit m t n s).time = s.time ∧ (visit m t n s).lanes = s.lanes ∧ (visit m t n s).planner = s.planner ∧
    (visit m t n s).host = s.host ∧ (visit m t n s).twin = s.twin ∧ (visit m t n s).flight = s.flight ∧
    (visit m t n s).boot = s.boot ∧ (visit m t n s).pending = s.pending := by
  induction n generalizing s with
  | zero => simp [visit]
  | succ n ih =>
    unfold visit
    split
    · split
      · simp [ih]
      · simp
    · simp

@[simp] theorem openRound_frame (t : Nat) (s : State) :
    (openRound t s).time = s.time ∧ (openRound t s).lanes = s.lanes ∧ (openRound t s).planner = s.planner ∧
    (openRound t s).host = s.host ∧ (openRound t s).twin = s.twin ∧ (openRound t s).flight = s.flight ∧
    (openRound t s).boot = s.boot ∧ (openRound t s).pending = s.pending := by
  simp [openRound]

@[simp] theorem round_frame (t : Nat) (s : State) :
    (round t s).time = s.time ∧ (round t s).lanes = s.lanes ∧ (round t s).planner = s.planner ∧
    (round t s).host = s.host ∧ (round t s).twin = s.twin ∧ (round t s).flight = s.flight ∧
    (round t s).boot = s.boot ∧ (round t s).pending = s.pending := by
  unfold round openRound
  simp

@[simp] theorem rounds_frame (t n : Nat) (s : State) :
    (rounds t n s).time = s.time ∧ (rounds t n s).lanes = s.lanes ∧ (rounds t n s).planner = s.planner ∧
    (rounds t n s).host = s.host ∧ (rounds t n s).twin = s.twin ∧ (rounds t n s).flight = s.flight ∧
    (rounds t n s).boot = s.boot ∧ (rounds t n s).pending = s.pending := by
  induction n generalizing s with
  | zero => simp [rounds]
  | succ n ih =>
    unfold rounds
    split
    · simp [ih]
    · simp

@[simp] theorem arbitrate_frame (s : State) :
    (arbitrate s).time = s.time ∧ (arbitrate s).lanes = s.lanes ∧ (arbitrate s).planner = s.planner ∧
    (arbitrate s).host = s.host ∧ (arbitrate s).twin = s.twin ∧ (arbitrate s).flight = s.flight ∧
    (arbitrate s).boot = s.boot ∧ (arbitrate s).pending = s.pending := by
  simp [arbitrate]

@[simp] theorem matrixRequest_frame (r : MReq) (slotFree : Bool) (s : State) :
    (matrixRequest r slotFree s).lanes = s.lanes ∧ (matrixRequest r slotFree s).planner = s.planner ∧
    (matrixRequest r slotFree s).host.mem = s.host.mem ∧ (matrixRequest r slotFree s).twin = s.twin ∧
    (matrixRequest r slotFree s).boot = s.boot ∧ (matrixRequest r slotFree s).pending = s.pending := by
  simp [matrixRequest]

@[simp] theorem releaseTargets_frame (s : State) :
    (releaseTargets s).time = s.time ∧ (releaseTargets s).lanes = s.lanes ∧ (releaseTargets s).planner = s.planner ∧
    (releaseTargets s).host = s.host ∧ (releaseTargets s).twin = s.twin ∧ (releaseTargets s).flight = s.flight ∧
    (releaseTargets s).boot = s.boot ∧ (releaseTargets s).pending = s.pending := by
  simp [releaseTargets]

@[simp] theorem orderMarks_frame (s : State) :
    (orderMarks s).time = s.time ∧ (orderMarks s).lanes = s.lanes ∧ (orderMarks s).planner = s.planner ∧
    (orderMarks s).host = s.host ∧ (orderMarks s).twin = s.twin ∧ (orderMarks s).flight = s.flight ∧
    (orderMarks s).boot = s.boot ∧ (orderMarks s).pending = s.pending := by
  simp [orderMarks]

@[simp] theorem storeByte_frame (a : Nat) (b : BitVec 8) (s : State) :
    (storeByte a b s).time = s.time ∧ (storeByte a b s).lanes = s.lanes ∧ (storeByte a b s).planner = s.planner ∧
    (storeByte a b s).host = s.host ∧ (storeByte a b s).twin = s.twin ∧ (storeByte a b s).flight = s.flight ∧
    (storeByte a b s).boot = s.boot ∧ (storeByte a b s).pending = s.pending := by
  unfold storeByte
  (repeat' split) <;> simp

@[simp] theorem storeBytes_frame (cut : Option Nat) (a : Nat) (ds : List (Option (BitVec 8))) (s : State) :
    (storeBytes cut a ds s).time = s.time ∧ (storeBytes cut a ds s).lanes = s.lanes ∧
    (storeBytes cut a ds s).planner = s.planner ∧ (storeBytes cut a ds s).host = s.host ∧
    (storeBytes cut a ds s).twin = s.twin ∧ (storeBytes cut a ds s).flight = s.flight ∧
    (storeBytes cut a ds s).boot = s.boot ∧ (storeBytes cut a ds s).pending = s.pending := by
  induction ds generalizing a s with
  | nil => simp [storeBytes]
  | cons d ds ih =>
    simp only [storeBytes, ih]
    (repeat' split) <;> simp

@[simp] theorem matrixResponse_frame (r : MReq) (err : Bool) (s : State) :
    (matrixResponse r err s).lanes = s.lanes ∧ (matrixResponse r err s).planner = s.planner ∧
    (matrixResponse r err s).host.mem = s.host.mem ∧ (matrixResponse r err s).twin = s.twin ∧
    (matrixResponse r err s).boot = s.boot ∧ (matrixResponse r err s).pending = s.pending := by
  unfold matrixResponse
  split
  · dsimp only
    simp only [arbitrate_frame, releaseTargets_frame, orderMarks_frame]
    (repeat' split) <;> simp
  · simp

@[simp] theorem resetMaster_frame (m : Nat) (s : State) :
    (resetMaster m s).time = s.time ∧ (resetMaster m s).lanes = s.lanes ∧ (resetMaster m s).planner = s.planner ∧
    (resetMaster m s).host = s.host ∧ (resetMaster m s).twin = s.twin ∧ (resetMaster m s).flight = s.flight ∧
    (resetMaster m s).boot = s.boot ∧ (resetMaster m s).pending = s.pending := by
  simp [resetMaster]

@[simp] theorem readmit_frame (m : Nat) (s : State) :
    (readmit m s).time = s.time ∧ (readmit m s).lanes = s.lanes ∧ (readmit m s).planner = s.planner ∧
    (readmit m s).host = s.host ∧ (readmit m s).twin = s.twin ∧ (readmit m s).flight = s.flight ∧
    (readmit m s).boot = s.boot ∧ (readmit m s).pending = s.pending := by
  simp [readmit]

@[simp] theorem refuseWaiting_frame (s : State) :
    (refuseWaiting s).lanes = s.lanes ∧ (refuseWaiting s).planner = s.planner ∧
    (refuseWaiting s).host.mem = s.host.mem ∧ (refuseWaiting s).twin = s.twin ∧ (refuseWaiting s).boot = s.boot ∧
    (refuseWaiting s).pending = s.pending := by
  simp [refuseWaiting]

@[simp] theorem applyMatrixCfg_frame (r : Run) (s : State) :
    (applyMatrixCfg r s).time = s.time ∧ (applyMatrixCfg r s).lanes = s.lanes ∧
    (applyMatrixCfg r s).planner = s.planner ∧ (applyMatrixCfg r s).host.mem = s.host.mem ∧
    (applyMatrixCfg r s).twin = s.twin ∧ (applyMatrixCfg r s).boot = s.boot ∧
    (applyMatrixCfg r s).pending = s.pending := by
  simp [applyMatrixCfg]

@[simp] theorem judgeWedges_frame (s : State) :
    (judgeWedges s).time = s.time ∧ (judgeWedges s).lanes = s.lanes ∧ (judgeWedges s).planner = s.planner ∧
    (judgeWedges s).host = s.host ∧ (judgeWedges s).twin = s.twin ∧ (judgeWedges s).flight = s.flight ∧
    (judgeWedges s).boot = s.boot ∧ (judgeWedges s).pending = s.pending := by
  simp [judgeWedges]

@[simp] theorem matrixTick_frame (s : State) :
    (matrixTick s).lanes = s.lanes ∧ (matrixTick s).planner = s.planner ∧ (matrixTick s).host.mem = s.host.mem ∧
    (matrixTick s).twin = s.twin ∧ (matrixTick s).boot = s.boot ∧ (matrixTick s).pending = s.pending := by
  simp [matrixTick]

end Sys2Proof.Machine
end

