-- ==== Sys2Proof/Laws/FramesCountersM.lean ====
section
/-! SUPPORT. What the operations of Machine/CountersM.lean leave as it was: one lemma per operation. -/

namespace Sys2Proof.Machine

open Sys2Proof

@[simp] theorem State.modBank_frame (s : State) (b : Nat) (f : Bank → Bank) :
    (State.modBank s b f).time = s.time ∧ (State.modBank s b f).lanes = s.lanes ∧
    (State.modBank s b f).planner = s.planner ∧ (State.modBank s b f).host = s.host ∧
    (State.modBank s b f).twin = s.twin ∧ (State.modBank s b f).flight = s.flight ∧
    (State.modBank s b f).boot = s.boot ∧ (State.modBank s b f).pending = s.pending := by
  simp [State.modBank]

@[simp] theorem overflowEvent_frame (b : Nat) (s : State) :
    (overflowEvent b s).time = s.time ∧ (overflowEvent b s).lanes = s.lanes ∧
    (overflowEvent b s).planner = s.planner ∧ (overflowEvent b s).host.mem = s.host.mem ∧
    (overflowEvent b s).twin = s.twin ∧ (overflowEvent b s).boot = s.boot ∧
    (overflowEvent b s).pending = s.pending := by
  unfold overflowEvent
  (repeat' split) <;> simp

@[simp] theorem advanceAll_frame (s : State) :
    (advanceAll s).lanes = s.lanes ∧ (advanceAll s).planner = s.planner ∧ (advanceAll s).host = s.host ∧
    (advanceAll s).twin = s.twin ∧ (advanceAll s).flight = s.flight ∧ (advanceAll s).boot = s.boot ∧
    (advanceAll s).pending = s.pending := by
  simp [advanceAll]

@[simp] theorem overflowCounts_frame (n : Nat) (done : List Nat) (s : State) :
    (overflowCounts n done s).lanes = s.lanes ∧ (overflowCounts n done s).planner = s.planner ∧
    (overflowCounts n done s).host = s.host ∧ (overflowCounts n done s).twin = s.twin ∧
    (overflowCounts n done s).flight = s.flight ∧ (overflowCounts n done s).boot = s.boot ∧
    (overflowCounts n done s).pending = s.pending := by
  induction n generalizing done s with
  | zero => simp [overflowCounts]
  | succ n ih =>
    simp only [overflowCounts]
    split
    · simp
    · simp [ih]

@[simp] theorem countStep_frame (s : State) :
    (countStep s).lanes = s.lanes ∧ (countStep s).planner = s.planner ∧ (countStep s).host.mem = s.host.mem ∧
    (countStep s).twin = s.twin ∧ (countStep s).boot = s.boot ∧ (countStep s).pending = s.pending := by
  simp [countStep]

@[simp] theorem weirStep_frame (weirs : List (Nat × Nat × Nat × Nat)) (s : State) :
    (weirStep weirs s).time = s.time ∧ (weirStep weirs s).lanes = s.lanes ∧ (weirStep weirs s).planner = s.planner ∧
    (weirStep weirs s).host = s.host ∧ (weirStep weirs s).twin = s.twin ∧ (weirStep weirs s).flight = s.flight ∧
    (weirStep weirs s).boot = s.boot ∧ (weirStep weirs s).pending = s.pending := by
  simp [weirStep]

@[simp] theorem restartBank_frame (b : Nat) (s : State) :
    (restartBank b s).time = s.time ∧ (restartBank b s).planner = s.planner ∧ (restartBank b s).host = s.host ∧
    (restartBank b s).twin = s.twin ∧ (restartBank b s).flight = s.flight ∧ (restartBank b s).boot = s.boot ∧
    (restartBank b s).pending = s.pending := by
  simp [restartBank]

@[simp] theorem closeInterval_frame (b : Nat) (frame : Nat) (short : Bool) (nextShort : Bool) (s : State) :
    (closeInterval b frame short nextShort s).time = s.time ∧
    (closeInterval b frame short nextShort s).planner = s.planner ∧
    (closeInterval b frame short nextShort s).host = s.host ∧
    (closeInterval b frame short nextShort s).twin = s.twin ∧
    (closeInterval b frame short nextShort s).flight = s.flight ∧
    (closeInterval b frame short nextShort s).boot = s.boot ∧
    (closeInterval b frame short nextShort s).pending = s.pending := by
  simp [closeInterval]

@[simp] theorem closePeriod_frame (b : Nat) (frame : Nat) (s : State) :
    (closePeriod b frame s).time = s.time ∧ (closePeriod b frame s).planner = s.planner ∧
    (closePeriod b frame s).host = s.host ∧ (closePeriod b frame s).twin = s.twin ∧
    (closePeriod b frame s).flight = s.flight ∧ (closePeriod b frame s).boot = s.boot ∧
    (closePeriod b frame s).pending = s.pending := by
  simp [closePeriod]

@[simp] theorem closeBw_frame (frame : Nat) (short : Bool) (nextShort : Bool) (s : State) :
    (closeBw frame short nextShort s).time = s.time ∧ (closeBw frame short nextShort s).planner = s.planner ∧
    (closeBw frame short nextShort s).host = s.host ∧ (closeBw frame short nextShort s).twin = s.twin ∧
    (closeBw frame short nextShort s).flight = s.flight ∧ (closeBw frame short nextShort s).boot = s.boot ∧
    (closeBw frame short nextShort s).pending = s.pending := by
  simp [closeBw]

@[simp] theorem closeWindow_frame (frame : Nat) (s : State) :
    (closeWindow frame s).time = s.time ∧ (closeWindow frame s).planner = s.planner ∧
    (closeWindow frame s).host = s.host ∧ (closeWindow frame s).twin = s.twin ∧
    (closeWindow frame s).flight = s.flight ∧ (closeWindow frame s).boot = s.boot ∧
    (closeWindow frame s).pending = s.pending := by
  simp [closeWindow]

@[simp] theorem readStep_frame (s : State) :
    (readStep s).time = s.time ∧ (readStep s).lanes = s.lanes ∧ (readStep s).planner = s.planner ∧ (readStep s).twin = s.twin ∧
    (readStep s).boot = s.boot ∧ (readStep s).pending = s.pending := by
  unfold readStep
  exact ⟨foldl_same (fun s : State => s.time) _ (fun s r => by
      refine throughMatrix_same (fun s : State => s.time) _ _ _ _ s ?_ ?_ ?_ <;> intros <;> simp) _ _,
    foldl_same (fun s : State => s.lanes) _ (fun s r => by
      refine throughMatrix_same (fun s : State => s.lanes) _ _ _ _ s ?_ ?_ ?_ <;> intros <;> simp) _ _,
    foldl_same (fun s : State => s.planner) _ (fun s r => by
      refine throughMatrix_same (fun s : State => s.planner) _ _ _ _ s ?_ ?_ ?_ <;> intros <;> simp) _ _,
    foldl_same (fun s : State => s.twin) _ (fun s r => by
      refine throughMatrix_same (fun s : State => s.twin) _ _ _ _ s ?_ ?_ ?_ <;> intros <;> simp) _ _,
    foldl_same (fun s : State => s.boot) _ (fun s r => by
      refine throughMatrix_same (fun s : State => s.boot) _ _ _ _ s ?_ ?_ ?_ <;> intros <;> simp) _ _,
    foldl_same (fun s : State => s.pending) _ (fun s r => by
      refine throughMatrix_same (fun s : State => s.pending) _ _ _ _ s ?_ ?_ ?_ <;> intros <;> simp) _ _⟩

@[simp] theorem latch_frame (scopes : Nat) (s : State) :
    (latch scopes s).time = s.time ∧ (latch scopes s).lanes = s.lanes ∧ (latch scopes s).planner = s.planner ∧
    (latch scopes s).host = s.host ∧ (latch scopes s).twin = s.twin ∧ (latch scopes s).flight = s.flight ∧
    (latch scopes s).boot = s.boot ∧ (latch scopes s).pending = s.pending := by
  simp [latch]

@[simp] theorem storeError_frame (k : Key) (s : State) :
    (storeError k s).time = s.time ∧ (storeError k s).lanes = s.lanes ∧ (storeError k s).planner = s.planner ∧
    (storeError k s).host.mem = s.host.mem ∧ (storeError k s).twin = s.twin ∧ (storeError k s).boot = s.boot ∧
    (storeError k s).pending = s.pending := by
  simp [storeError]

@[simp] theorem snapStep_frame (s : State) :
    (snapStep s).time = s.time ∧ (snapStep s).lanes = s.lanes ∧ (snapStep s).planner = s.planner ∧
    (snapStep s).host.mem = s.host.mem ∧ (snapStep s).twin = s.twin ∧ (snapStep s).boot = s.boot ∧
    (snapStep s).pending = s.pending := by
  simp [snapStep]

@[simp] theorem changeBank_frame (b : Nat) (s : State) :
    (changeBank b s).time = s.time ∧ (changeBank b s).planner = s.planner ∧ (changeBank b s).host = s.host ∧
    (changeBank b s).twin = s.twin ∧ (changeBank b s).flight = s.flight ∧ (changeBank b s).boot = s.boot ∧
    (changeBank b s).pending = s.pending := by
  unfold changeBank
  (repeat' split) <;> simp

@[simp] theorem changeStep_frame (s : State) :
    (changeStep s).time = s.time ∧ (changeStep s).planner = s.planner ∧ (changeStep s).host = s.host ∧
    (changeStep s).twin = s.twin ∧ (changeStep s).flight = s.flight ∧ (changeStep s).boot = s.boot ∧
    (changeStep s).pending = s.pending := by
  simp [changeStep]

@[simp] theorem reconfigure_frame (b : Nat) (p : CtrPend) (s : State) :
    (reconfigure b p s).time = s.time ∧ (reconfigure b p s).lanes = s.lanes ∧
    (reconfigure b p s).planner = s.planner ∧ (reconfigure b p s).host.mem = s.host.mem ∧
    (reconfigure b p s).twin = s.twin ∧ (reconfigure b p s).boot = s.boot ∧
    (reconfigure b p s).pending = s.pending := by
  simp [reconfigure]

@[simp] theorem reconfBank_frame (b : Nat) (s : State) :
    (reconfBank b s).time = s.time ∧ (reconfBank b s).lanes = s.lanes ∧ (reconfBank b s).planner = s.planner ∧
    (reconfBank b s).host.mem = s.host.mem ∧ (reconfBank b s).twin = s.twin ∧ (reconfBank b s).boot = s.boot ∧
    (reconfBank b s).pending = s.pending := by
  unfold reconfBank
  (repeat' split) <;> simp

@[simp] theorem reconfStep_frame (s : State) :
    (reconfStep s).time = s.time ∧ (reconfStep s).lanes = s.lanes ∧ (reconfStep s).planner = s.planner ∧
    (reconfStep s).host.mem = s.host.mem ∧ (reconfStep s).twin = s.twin ∧ (reconfStep s).boot = s.boot ∧
    (reconfStep s).pending = s.pending := by
  simp [reconfStep]

@[simp] theorem latchStep_frame (s : State) :
    (latchStep s).time = s.time ∧ (latchStep s).planner = s.planner ∧ (latchStep s).host.mem = s.host.mem ∧
    (latchStep s).twin = s.twin ∧ (latchStep s).boot = s.boot ∧ (latchStep s).pending = s.pending := by
  simp [latchStep]

@[simp] theorem closedEvent_frame (s : State) :
    (closedEvent s).time = s.time ∧ (closedEvent s).lanes = s.lanes ∧ (closedEvent s).planner = s.planner ∧
    (closedEvent s).host.mem = s.host.mem ∧ (closedEvent s).twin = s.twin ∧ (closedEvent s).boot = s.boot ∧
    (closedEvent s).pending = s.pending := by
  simp [closedEvent]

@[simp] theorem realignCounters_frame (n : Nat) (s : State) :
    (realignCounters n s).time = s.time ∧ (realignCounters n s).planner = s.planner ∧
    (realignCounters n s).host = s.host ∧ (realignCounters n s).twin = s.twin ∧
    (realignCounters n s).flight = s.flight ∧ (realignCounters n s).boot = s.boot ∧
    (realignCounters n s).pending = s.pending := by
  simp [realignCounters]

@[simp] theorem pendReconf_frame (b : Nat) (r : Run) (s : State) :
    (pendReconf b r s).time = s.time ∧ (pendReconf b r s).lanes = s.lanes ∧ (pendReconf b r s).planner = s.planner ∧
    (pendReconf b r s).host.mem = s.host.mem ∧ (pendReconf b r s).twin = s.twin ∧ (pendReconf b r s).boot = s.boot ∧
    (pendReconf b r s).pending = s.pending := by
  simp [pendReconf]

end Sys2Proof.Machine
end

