-- ==== Sys2Proof/Laws/FramesRecovery.lean ====
section
/-! SUPPORT. What the operations of Machine/Recovery.lean leave as it was: one lemma per operation. -/

namespace Sys2Proof.Machine

open Sys2Proof

@[simp] theorem progressTick_frame (stuck : List Nat) (s : State) :
    (progressTick stuck s).time = s.time ∧ (progressTick stuck s).lanes = s.lanes ∧
    (progressTick stuck s).planner = s.planner ∧ (progressTick stuck s).host = s.host ∧
    (progressTick stuck s).twin = s.twin ∧ (progressTick stuck s).flight = s.flight ∧
    (progressTick stuck s).boot = s.boot ∧ (progressTick stuck s).pending = s.pending := by
  simp [progressTick]

@[simp] theorem workTick_frame (s : State) :
    (workTick s).time = s.time ∧ (workTick s).lanes = s.lanes ∧ (workTick s).planner = s.planner ∧
    (workTick s).host = s.host ∧ (workTick s).twin = s.twin ∧ (workTick s).flight = s.flight ∧
    (workTick s).boot = s.boot ∧ (workTick s).pending = s.pending := by
  simp [workTick]

@[simp] theorem recoveryEvent_frame (code : Nat) (f : Nat) (ws : List W64) (s : State) :
    (recoveryEvent code f ws s).time = s.time ∧ (recoveryEvent code f ws s).lanes = s.lanes ∧
    (recoveryEvent code f ws s).planner = s.planner ∧ (recoveryEvent code f ws s).host = s.host ∧
    (recoveryEvent code f ws s).twin = s.twin ∧ (recoveryEvent code f ws s).flight = s.flight ∧
    (recoveryEvent code f ws s).boot = s.boot ∧ (recoveryEvent code f ws s).pending = s.pending := by
  simp [recoveryEvent]

@[simp] theorem recoveryEvents_frame (s : State) :
    (recoveryEvents s).time = s.time ∧ (recoveryEvents s).lanes = s.lanes ∧ (recoveryEvents s).planner = s.planner ∧
    (recoveryEvents s).host.mem = s.host.mem ∧ (recoveryEvents s).twin = s.twin ∧ (recoveryEvents s).boot = s.boot ∧
    (recoveryEvents s).pending = s.pending := by
  simp [recoveryEvents]

@[simp] theorem escalation_frame (step : Nat) (outcome : Nat) (f : Nat) (s : State) :
    (escalation step outcome f s).time = s.time ∧ (escalation step outcome f s).lanes = s.lanes ∧
    (escalation step outcome f s).planner = s.planner ∧ (escalation step outcome f s).host = s.host ∧
    (escalation step outcome f s).twin = s.twin ∧ (escalation step outcome f s).flight = s.flight ∧
    (escalation step outcome f s).boot = s.boot ∧ (escalation step outcome f s).pending = s.pending := by
  simp [escalation]

@[simp] theorem escalate_frame (f : Nat) (s : State) :
    (escalate f s).time = s.time ∧ (escalate f s).lanes = s.lanes ∧ (escalate f s).planner = s.planner ∧
    (escalate f s).host = s.host ∧ (escalate f s).twin = s.twin ∧ (escalate f s).flight = s.flight ∧
    (escalate f s).boot = s.boot ∧ (escalate f s).pending = s.pending := by
  simp [escalate]

@[simp] theorem powerCycle_frame (s : State) :
    (powerCycle s).time = s.time ∧ (powerCycle s).lanes = s.lanes ∧ (powerCycle s).planner = s.planner ∧
    (powerCycle s).host = s.host ∧ (powerCycle s).twin = s.twin ∧ (powerCycle s).flight = s.flight ∧
    (powerCycle s).pending = s.pending := by
  simp [powerCycle]

@[simp] theorem stepTick_frame (s : State) :
    (stepTick s).time = s.time ∧ (stepTick s).lanes = s.lanes ∧ (stepTick s).planner = s.planner ∧
    (stepTick s).host = s.host ∧ (stepTick s).flight = s.flight ∧ (stepTick s).pending = s.pending := by
  unfold stepTick
  (repeat' split) <;> simp

@[simp] theorem discardCmd_frame (s : State) :
    (discardCmd s).time = s.time ∧ (discardCmd s).lanes = s.lanes ∧ (discardCmd s).planner = s.planner ∧
    (discardCmd s).host.mem = s.host.mem ∧ (discardCmd s).twin = s.twin ∧ (discardCmd s).boot = s.boot ∧
    (discardCmd s).pending = s.pending := by
  simp [discardCmd]

@[simp] theorem discardTow_frame (s : State) :
    (discardTow s).time = s.time ∧ (discardTow s).lanes = s.lanes ∧ (discardTow s).planner = s.planner ∧
    (discardTow s).host = s.host ∧ (discardTow s).twin = s.twin ∧ (discardTow s).boot = s.boot ∧
    (discardTow s).pending = s.pending := by
  simp [discardTow]

@[simp] theorem discardCkpt_frame (s : State) :
    (discardCkpt s).lanes = s.lanes ∧ (discardCkpt s).host.mem = s.host.mem ∧ (discardCkpt s).boot = s.boot ∧
    (discardCkpt s).pending = s.pending := by
  simp [discardCkpt]

@[simp] theorem discardPlan_frame (s : State) :
    (discardPlan s).time = s.time ∧ (discardPlan s).lanes = s.lanes ∧ (discardPlan s).host.mem = s.host.mem ∧
    (discardPlan s).boot = s.boot ∧ (discardPlan s).pending = s.pending := by
  simp [discardPlan]

@[simp] theorem discardTime_frame (s : State) :
    (discardTime s).time = s.time ∧ (discardTime s).lanes = s.lanes ∧ (discardTime s).planner = s.planner ∧
    (discardTime s).host = s.host ∧ (discardTime s).twin = s.twin ∧ (discardTime s).flight = s.flight ∧
    (discardTime s).boot = s.boot ∧ (discardTime s).pending = s.pending := by
  simp [discardTime]

@[simp] theorem discardLanes_frame (k : Nat) (s : State) :
    (discardLanes k s).time = s.time ∧ (discardLanes k s).planner = s.planner ∧ (discardLanes k s).host = s.host ∧
    (discardLanes k s).twin = s.twin ∧ (discardLanes k s).flight = s.flight ∧ (discardLanes k s).boot = s.boot ∧
    (discardLanes k s).pending = s.pending := by
  simp [discardLanes]

@[simp] theorem discard_frame (f : Nat) (s : State) :
    (discard f s).host.mem = s.host.mem ∧ (discard f s).boot = s.boot ∧ (discard f s).pending = s.pending := by
  unfold discard
  (repeat' split) <;> simp

@[simp] theorem restore_frame (f : Nat) (s : State) :
    (restore f s).time = s.time ∧ (restore f s).planner = s.planner ∧ (restore f s).host = s.host ∧
    (restore f s).flight = s.flight ∧ (restore f s).boot = s.boot ∧ (restore f s).pending = s.pending := by
  unfold restore
  (repeat' split) <;> simp

@[simp] theorem reinitEvent_frame (r : Reinit) (outcome : Nat) (rows : Nat) (s : State) :
    (reinitEvent r outcome rows s).time = s.time ∧ (reinitEvent r outcome rows s).lanes = s.lanes ∧
    (reinitEvent r outcome rows s).planner = s.planner ∧ (reinitEvent r outcome rows s).host = s.host ∧
    (reinitEvent r outcome rows s).twin = s.twin ∧ (reinitEvent r outcome rows s).flight = s.flight ∧
    (reinitEvent r outcome rows s).boot = s.boot ∧ (reinitEvent r outcome rows s).pending = s.pending := by
  simp [reinitEvent]

@[simp] theorem beginReinit_frame (r : Reinit) (s : State) :
    (beginReinit r s).host.mem = s.host.mem ∧ (beginReinit r s).boot = s.boot ∧
    (beginReinit r s).pending = s.pending := by
  simp [beginReinit]

@[simp] theorem endReinit_frame (r : Reinit) (s : State) :
    (endReinit r s).time = s.time ∧ (endReinit r s).planner = s.planner ∧ (endReinit r s).host.mem = s.host.mem ∧
    (endReinit r s).boot = s.boot ∧ (endReinit r s).pending = s.pending := by
  unfold endReinit
  (repeat' split) <;> simp

@[simp] theorem overrunReinit_frame (r : Reinit) (s : State) :
    (overrunReinit r s).time = s.time ∧ (overrunReinit r s).lanes = s.lanes ∧
    (overrunReinit r s).planner = s.planner ∧ (overrunReinit r s).host = s.host ∧ (overrunReinit r s).twin = s.twin ∧
    (overrunReinit r s).flight = s.flight ∧ (overrunReinit r s).boot = s.boot ∧
    (overrunReinit r s).pending = s.pending := by
  simp [overrunReinit]

@[simp] theorem reinitLimit_frame (f : Nat) (s : State) :
    (reinitLimit f s).time = s.time ∧ (reinitLimit f s).lanes = s.lanes ∧ (reinitLimit f s).planner = s.planner ∧
    (reinitLimit f s).host = s.host ∧ (reinitLimit f s).twin = s.twin ∧ (reinitLimit f s).flight = s.flight ∧
    (reinitLimit f s).boot = s.boot ∧ (reinitLimit f s).pending = s.pending := by
  unfold reinitLimit
  (repeat' split) <;> simp

@[simp] theorem wedgeOne_frame (w : Nat × Nat × Nat) (s : State) :
    (wedgeOne w s).time = s.time ∧ (wedgeOne w s).lanes = s.lanes ∧ (wedgeOne w s).planner = s.planner ∧
    (wedgeOne w s).host.mem = s.host.mem ∧ (wedgeOne w s).twin = s.twin ∧ (wedgeOne w s).boot = s.boot ∧
    (wedgeOne w s).pending = s.pending := by
  simp [wedgeOne]

@[simp] theorem applyRecoverCfg_frame (r : Run) (s : State) :
    (applyRecoverCfg r s).time = s.time ∧ (applyRecoverCfg r s).lanes = s.lanes ∧
    (applyRecoverCfg r s).planner = s.planner ∧ (applyRecoverCfg r s).host.mem = s.host.mem ∧
    (applyRecoverCfg r s).twin = s.twin ∧ (applyRecoverCfg r s).boot = s.boot ∧
    (applyRecoverCfg r s).pending = s.pending := by
  simp [applyRecoverCfg]

@[simp] theorem recoveryTick_frame (s : State) :
    (recoveryTick s).host.mem = s.host.mem ∧ (recoveryTick s).pending = s.pending := by
  simp [recoveryTick]

end Sys2Proof.Machine
end

