-- ==== Sys2Proof/Laws/FramesBoardTable.lean ====
section
/-! SUPPORT. What the operations of Machine/BoardTable.lean leave as it was: one lemma per operation. -/

namespace Sys2Proof.Machine

open Sys2Proof

@[simp] theorem startAddress_frame (s : State) :
    (startAddress s).time = s.time ∧ (startAddress s).lanes = s.lanes ∧ (startAddress s).planner = s.planner ∧
    (startAddress s).host = s.host ∧ (startAddress s).twin = s.twin ∧ (startAddress s).boot = s.boot ∧
    (startAddress s).pending = s.pending := by
  simp [startAddress]

@[simp] theorem loadRec_frame (r : BtRec) (s : State) :
    (loadRec r s).planner = s.planner ∧ (loadRec r s).host = s.host ∧ (loadRec r s).pending = s.pending := by
  unfold loadRec
  (repeat' split) <;> simp

@[simp] theorem btLoad_frame (a : List W64) (b : List W64) (s : State) :
    (btLoad a b s).planner = s.planner ∧ (btLoad a b s).host.mem = s.host.mem ∧
    (btLoad a b s).pending = s.pending := by
  unfold btLoad
  dsimp only
  (repeat' split) <;> simp

@[simp] theorem applyLaneRec_frame (old : List BtRec) (new : List BtRec) (i : Nat) (s : State) :
    (applyLaneRec old new i s).time = s.time ∧ (applyLaneRec old new i s).planner = s.planner ∧
    (applyLaneRec old new i s).host = s.host ∧ (applyLaneRec old new i s).twin = s.twin ∧
    (applyLaneRec old new i s).flight = s.flight ∧ (applyLaneRec old new i s).boot = s.boot ∧
    (applyLaneRec old new i s).pending = s.pending := by
  simp [applyLaneRec]

@[simp] theorem applyOctetRec_frame (old : List BtRec) (new : List BtRec) (k : Nat) (s : State) :
    (applyOctetRec old new k s).time = s.time ∧ (applyOctetRec old new k s).planner = s.planner ∧
    (applyOctetRec old new k s).host = s.host ∧ (applyOctetRec old new k s).twin = s.twin ∧
    (applyOctetRec old new k s).flight = s.flight ∧ (applyOctetRec old new k s).boot = s.boot ∧
    (applyOctetRec old new k s).pending = s.pending := by
  simp [applyOctetRec]

@[simp] theorem applyTable_frame (r : Run) (s : State) :
    (applyTable r s).time = s.time ∧ (applyTable r s).planner = s.planner ∧ (applyTable r s).host.mem = s.host.mem ∧
    (applyTable r s).twin = s.twin ∧ (applyTable r s).pending = s.pending := by
  unfold applyTable
  dsimp only
  (repeat' split) <;> simp

@[simp] theorem btTick_frame (s : State) :
    (btTick s).time = s.time ∧ (btTick s).planner = s.planner ∧ (btTick s).twin = s.twin ∧
    (btTick s).pending = s.pending := by
  unfold btTick
  exact ⟨foldl_same (fun s : State => s.time) _ (fun s r => by
      refine throughMatrix_same (fun s : State => s.time) _ _ _ _ s ?_ ?_ ?_ <;> intros <;> simp) _ _,
    foldl_same (fun s : State => s.planner) _ (fun s r => by
      refine throughMatrix_same (fun s : State => s.planner) _ _ _ _ s ?_ ?_ ?_ <;> intros <;> simp) _ _,
    foldl_same (fun s : State => s.twin) _ (fun s r => by
      refine throughMatrix_same (fun s : State => s.twin) _ _ _ _ s ?_ ?_ ?_ <;> intros <;> simp) _ _,
    foldl_same (fun s : State => s.pending) _ (fun s r => by
      refine throughMatrix_same (fun s : State => s.pending) _ _ _ _ s ?_ ?_ ?_ <;> intros <;> simp) _ _⟩

@[simp] theorem beginTable_frame (r : Run) (buf : Option (List W64)) (s : State) :
    (beginTable r buf s).time = s.time ∧ (beginTable r buf s).lanes = s.lanes ∧
    (beginTable r buf s).planner = s.planner ∧ (beginTable r buf s).host.mem = s.host.mem ∧
    (beginTable r buf s).twin = s.twin ∧ (beginTable r buf s).pending = s.pending := by
  unfold beginTable
  (repeat' split) <;> simp

@[simp] theorem btWritten_frame (readback : Bool) (j : FlashJob) (s : State) :
    (btWritten readback j s).time = s.time ∧ (btWritten readback j s).lanes = s.lanes ∧
    (btWritten readback j s).planner = s.planner ∧ (btWritten readback j s).host.mem = s.host.mem ∧
    (btWritten readback j s).twin = s.twin ∧ (btWritten readback j s).pending = s.pending := by
  simp [btWritten]

end Sys2Proof.Machine
end

