-- ==== Sys2Proof/Laws/FramesBoot.lean ====
section
/-! SUPPORT. What the operations of Machine/Boot.lean leave as it was: one lemma per operation. -/

namespace Sys2Proof.Machine

open Sys2Proof

@[simp] theorem cutFlash_frame (s : State) :
    (cutFlash s).time = s.time ∧ (cutFlash s).lanes = s.lanes ∧ (cutFlash s).planner = s.planner ∧
    (cutFlash s).host = s.host ∧ (cutFlash s).twin = s.twin ∧ (cutFlash s).pending = s.pending := by
  unfold cutFlash
  (repeat' split) <;> simp

@[simp] theorem enterReset_frame (cause : Nat) (s : State) :
    (enterReset cause s).host.mem = s.host.mem ∧ (enterReset cause s).pending = s.pending ∧
    (enterReset cause s).time = {} := by
  unfold enterReset
  simp [State.reset]

@[simp] theorem powerDown_frame (s : State) :
    (powerDown s).host.mem = s.host.mem ∧ (powerDown s).pending = s.pending ∧ (powerDown s).time = {} := by
  unfold powerDown
  simp

@[simp] theorem beginRom_frame (st : Straps) (s : State) :
    (beginRom st s).time = s.time ∧ (beginRom st s).lanes = s.lanes ∧ (beginRom st s).planner = s.planner ∧
    (beginRom st s).host = s.host ∧ (beginRom st s).twin = s.twin ∧ (beginRom st s).flight = s.flight ∧
    (beginRom st s).pending = s.pending := by
  simp [beginRom]

@[simp] theorem startupStep4_frame (s : State) :
    (startupStep4 s).time = s.time ∧ (startupStep4 s).lanes = s.lanes ∧ (startupStep4 s).planner = s.planner ∧
    (startupStep4 s).host.mem = s.host.mem ∧ (startupStep4 s).twin = s.twin ∧
    (startupStep4 s).pending = s.pending := by
  simp [startupStep4]

@[simp] theorem startFailed_frame (s : State) :
    (startFailed s).time = s.time ∧ (startFailed s).lanes = s.lanes ∧ (startFailed s).planner = s.planner ∧
    (startFailed s).host.mem = s.host.mem ∧ (startFailed s).twin = s.twin ∧ (startFailed s).pending = s.pending := by
  simp [startFailed]

@[simp] theorem runImage_frame (i : FwImage) (slotB : Bool) (cause : Nat) (s : State) :
    (runImage i slotB cause s).planner = s.planner ∧ (runImage i slotB cause s).host.mem = s.host.mem ∧
    (runImage i slotB cause s).pending = s.pending := by
  simp [runImage]

@[simp] theorem loadA_frame (a : Option FwImage) (cause : Nat) (s : State) :
    (loadA a cause s).planner = s.planner ∧ (loadA a cause s).host.mem = s.host.mem ∧
    (loadA a cause s).pending = s.pending := by
  simp [loadA]

@[simp] theorem fwLoad_frame (a : Option FwImage) (b : Option FwImage) (s : State) :
    (fwLoad a b s).planner = s.planner ∧ (fwLoad a b s).host.mem = s.host.mem ∧
    (fwLoad a b s).pending = s.pending := by
  simp [fwLoad]

@[simp] theorem fixCount_frame (frame : Nat) (row : Nat) (anchored : Bool) (s : State) :
    (fixCount frame row anchored s).lanes = s.lanes ∧ (fixCount frame row anchored s).planner = s.planner ∧
    (fixCount frame row anchored s).host = s.host ∧ (fixCount frame row anchored s).twin = s.twin ∧
    (fixCount frame row anchored s).flight = s.flight ∧ (fixCount frame row anchored s).boot = s.boot ∧
    (fixCount frame row anchored s).pending = s.pending := by
  simp [fixCount]

@[simp] theorem adminDefault_frame (s : State) :
    (adminDefault s).time = s.time ∧ (adminDefault s).planner = s.planner ∧ (adminDefault s).host = s.host ∧
    (adminDefault s).twin = s.twin ∧ (adminDefault s).flight = s.flight ∧ (adminDefault s).boot = s.boot ∧
    (adminDefault s).pending = s.pending := by
  simp [adminDefault]

@[simp] theorem beginServices_frame (s : State) :
    (beginServices s).time = s.time ∧ (beginServices s).planner = s.planner ∧ (beginServices s).host = s.host ∧
    (beginServices s).twin = s.twin ∧ (beginServices s).flight = s.flight ∧
    (beginServices s).pending = s.pending := by
  simp [beginServices]

@[simp] theorem admissionCheck_frame (s : State) :
    (admissionCheck s).time = s.time ∧ (admissionCheck s).lanes = s.lanes ∧ (admissionCheck s).planner = s.planner ∧
    (admissionCheck s).host.mem = s.host.mem ∧ (admissionCheck s).twin = s.twin ∧
    (admissionCheck s).pending = s.pending := by
  simp [admissionCheck]

@[simp] theorem becomeReady_frame (s : State) :
    (becomeReady s).lanes = s.lanes ∧ (becomeReady s).planner = s.planner ∧ (becomeReady s).host.mem = s.host.mem ∧
    (becomeReady s).pending = s.pending := by
  simp [becomeReady]

@[simp] theorem beginImage_frame (r : Run) (img : Option FwImage) (s : State) :
    (beginImage r img s).time = s.time ∧ (beginImage r img s).lanes = s.lanes ∧
    (beginImage r img s).planner = s.planner ∧ (beginImage r img s).host.mem = s.host.mem ∧
    (beginImage r img s).twin = s.twin ∧ (beginImage r img s).pending = s.pending := by
  unfold beginImage
  (repeat' split) <;> simp

@[simp] theorem dmaEnd_frame (j : DmaJob) (s : State) :
    (dmaEnd j s).time = s.time ∧ (dmaEnd j s).lanes = s.lanes ∧ (dmaEnd j s).host.mem = s.host.mem ∧
    (dmaEnd j s).twin = s.twin ∧ (dmaEnd j s).pending = s.pending := by
  unfold dmaEnd
  (repeat' split) <;> simp

@[simp] theorem dmaTick_frame (s : State) :
    (dmaTick s).time = s.time ∧ (dmaTick s).lanes = s.lanes ∧ (dmaTick s).host.mem = s.host.mem ∧
    (dmaTick s).twin = s.twin ∧ (dmaTick s).pending = s.pending := by
  simp [dmaTick]

@[simp] theorem wrTick_frame (s : State) :
    (wrTick s).time = s.time ∧ (wrTick s).lanes = s.lanes ∧ (wrTick s).planner = s.planner ∧
    (wrTick s).twin = s.twin ∧ (wrTick s).boot = s.boot ∧ (wrTick s).pending = s.pending := by
  simp [wrTick]

@[simp] theorem fwWritten_frame (readback : Bool) (j : FlashJob) (s : State) :
    (fwWritten readback j s).time = s.time ∧ (fwWritten readback j s).lanes = s.lanes ∧
    (fwWritten readback j s).planner = s.planner ∧ (fwWritten readback j s).host.mem = s.host.mem ∧
    (fwWritten readback j s).twin = s.twin ∧ (fwWritten readback j s).pending = s.pending := by
  simp [fwWritten]

end Sys2Proof.Machine
end

