-- ==== Sys2Proof/Laws/Outcomes.lean ====
section
/-! SUPPORT. What holds of every next state that a command answers: the forms that meanings share. -/

namespace Sys2Proof.Machine

open Sys2Proof

/-- P holds of the next state that the outcome answers, if it answers one. -/
def AllNext (P : State → Prop) (x : Res) : Prop := ∀ t, x = .next t → P t

theorem allNext_next {P : State → Prop} {t : State} (h : P t) : AllNext P (.next t) := fun _ hu => by cases hu; exact h

theorem allNext_fault {P : State → Prop} {f : Fault} : AllNext P (.fault f) := fun _ hu => by cases hu

/-- The engine's command met a wedged target: it is completed with ST_FUNCTION_DOWN, and the error is counted (R413). -/
def wedgedRun (r : Run) (s : State) : State :=
  finish r stFunctionDown [] { s with host.engine := none, mx.tgtErr := sat 0xFFFFFFFF (s.mx.tgtErr + 1) }

/-- A meaning on the engine's command acts on it, with the engine free, or completes it because a target is wedged, or leaves the
state. -/
theorem onEngine_cases (op : Nat) (f : Run → State → State) (s : State) :
    (∃ r, s.host.engine = some r ∧ r.cmd.opcode = op ∧ onEngine op f s = .next (f r { s with host.engine := none })) ∨
    (∃ r, s.host.engine = some r ∧ r.cmd.opcode = op ∧ onEngine op f s = .next (wedgedRun r s)) ∨
    onEngine op f s = .next s := by
  unfold onEngine
  split
  · rename_i r h
    split
    · rename_i h2
      split
      · exact .inl ⟨r, h, h2, rfl⟩
      · split
        · exact .inr (.inr rfl)
        · exact .inr (.inl ⟨r, h, h2, rfl⟩)
    · exact .inr (.inr rfl)
  · exact .inr (.inr rfl)

/-- The meaning on the engine's command when the engine holds one of the opcode and its master reaches the targets. -/
theorem onEngine_held {op : Nat} {f : Run → State → State} {s : State} {r : Run} (h : s.host.engine = some r)
    (ho : r.cmd.opcode = op) (hr : op / 256 = 0x0A ∨ s.engineReaches op = true) :
    onEngine op f s = .next (f r { s with host.engine := none }) := by
  unfold onEngine
  rw [h]
  simp only [ho, if_true, if_pos hr]

/-- With no master in reset and no target wedged, every master reaches every target. -/
theorem reaches_of_clear {s : State} (m : Nat) (ts : List Nat) (hr : s.mx.reset = []) (hw : s.mx.wedged = []) :
    s.reaches m ts = true := by
  simp [State.reaches, hr, hw]

/-- With no master in reset and no target wedged, nothing keeps the engine from the objects of an opcode. -/
theorem engineReaches_of_clear {s : State} (op : Nat) (hr : s.mx.reset = []) (hw : s.mx.wedged = []) :
    s.engineReaches op = true := by
  simp [State.engineReaches, reaches_of_clear _ _ hr hw]

/-- What the meaning keeps of every state, the command on the engine keeps. -/
theorem onEngine_keeps {P : State → Prop} {op : Nat} {f : Run → State → State} {s : State} (hs : P s)
    (he : P s → P { s with host.engine := none }) (hw : ∀ r, P s → P (wedgedRun r s)) (hf : ∀ r s, P s → P (f r s)) :
    AllNext P (onEngine op f s) := by
  rcases onEngine_cases op f s with ⟨r, _, _, h⟩ | ⟨r, _, _, h⟩ | h
  · rw [h]
    exact allNext_next (hf r _ (he hs))
  · rw [h]
    exact allNext_next (hw r hs)
  · rw [h]
    exact allNext_next hs

theorem onLane_keeps {P : State → Prop} {i : Nat} {t : State} (h : P t) : AllNext P (onLane i t) := by
  unfold onLane
  split
  · exact allNext_next h
  · exact allNext_fault

theorem onRunningLane_keeps {P : State → Prop} {i : Nat} {s t : State} (hs : P s) (h : P t) :
    AllNext P (onRunningLane i s t) := by
  unfold onRunningLane
  apply onLane_keeps
  split
  · exact h
  · exact hs

theorem onInput_keeps {P : State → Prop} {n : Nat} {t : State} (h : P t) : AllNext P (onInput n t) := by
  unfold onInput
  split
  · exact allNext_next h
  · exact allNext_fault

theorem onPin_keeps {P : State → Prop} {n : Nat} {s t : State} (hs : P s) (h : P t) : AllNext P (onPin n s t) := by
  unfold onPin
  split
  · apply allNext_next
    split
    · exact h
    · exact hs
  · exact allNext_fault

theorem onTrib_keeps {P : State → Prop} {n : Nat} {t : State} (h : P t) : AllNext P (onTrib n t) := by
  unfold onTrib
  split
  · exact allNext_next h
  · exact allNext_fault

end Sys2Proof.Machine
end

