-- ==== Sys2Proof/Laws/FramesExpiry.lean ====
section
/-! SUPPORT. What the expiries that ROW_TICK takes (Machine/Expiry.lean) leave as it was. -/

namespace Sys2Proof.Machine

open Sys2Proof

/-- A command that stops leaves the state; one that answers leaves what it answers. -/
theorem settle_keeps {P : State → Prop} {s : State} {x : Res} (hs : P s) (hx : AllNext P x) : P (settle s x) := by
  cases x with
  | next t => exact hx t rfl
  | fault _ => exact hs
  | refused _ => exact hs

/-- What each command of a list keeps, the list keeps. -/
theorem settleAll_keeps {P : State → Prop} (fs : List (State → Res)) (hf : ∀ f ∈ fs, ∀ s, P s → AllNext P (f s)) (s : State)
    (hs : P s) : P (settleAll fs s) := by
  unfold settleAll
  induction fs generalizing s with
  | nil => exact hs
  | cons f fs ih =>
    refine ih (fun g hg => hf g (List.mem_cons_of_mem f hg)) _ ?_
    exact settle_keeps hs (hf f List.mem_cons_self s hs)

theorem execAttemptTimerExpiry_pending (lane : Nat) (s : State) :
    AllNext (fun t => t.pending = s.pending) (execAttemptTimerExpiry lane s) := by
  unfold execAttemptTimerExpiry onRunningLane onLane
  (repeat' split) <;> first | exact allNext_fault | exact allNext_next rfl

theorem execBackupTimeSource_pending (s : State) :
    AllNext (fun t => t.pending = s.pending) (execBackupTimeSource s) := by
  unfold execBackupTimeSource
  (repeat' split) <;> first | exact allNext_fault | exact allNext_next (by simp)

theorem execDeadlineExpiry_pending (i : Nat) (s : State) :
    AllNext (fun t => t.pending = s.pending) (execDeadlineExpiry i s) := by
  unfold execDeadlineExpiry
  (repeat' split) <;> first | exact allNext_fault | exact allNext_next (by simp)

theorem execEnumerationTimeout_pending (s : State) :
    AllNext (fun t => t.pending = s.pending) (execEnumerationTimeout s) := by
  unfold execEnumerationTimeout
  (repeat' split) <;> first | exact allNext_fault | exact allNext_next rfl

theorem execFrmMissingTimeout_pending (lane : Nat) (s : State) :
    AllNext (fun t => t.pending = s.pending) (execFrmMissingTimeout lane s) := by
  unfold execFrmMissingTimeout onRunningLane onLane
  (repeat' split) <;> first | exact allNext_fault | exact allNext_next rfl

theorem execHandoverRequestLapse_pending (s : State) :
    AllNext (fun t => t.pending = s.pending) (execHandoverRequestLapse s) := by
  unfold execHandoverRequestLapse
  (repeat' split) <;> first | exact allNext_fault | exact allNext_next (by simp)

theorem execHeartbeatSend_pending (s : State) :
    AllNext (fun t => t.pending = s.pending) (execHeartbeatSend s) := by
  unfold execHeartbeatSend
  (repeat' split) <;> first | exact allNext_fault | exact allNext_next (by simp)

theorem execHoldExpiry_pending (t : Nat) (s : State) :
    AllNext (fun t => t.pending = s.pending) (execHoldExpiry t s) := by
  unfold execHoldExpiry onTrib
  (repeat' split) <;> first | exact allNext_fault | exact allNext_next rfl

theorem execHoldoffExpiry_pending (n : Nat) (s : State) :
    AllNext (fun t => t.pending = s.pending) (execHoldoffExpiry n s) := by
  unfold execHoldoffExpiry onInput
  (repeat' split) <;> first | exact allNext_fault | exact allNext_next rfl

theorem execIdFaultExpiry_pending (lane : Nat) (s : State) :
    AllNext (fun t => t.pending = s.pending) (execIdFaultExpiry lane s) := by
  unfold execIdFaultExpiry onRunningLane onLane
  (repeat' split) <;> first | exact allNext_fault | exact allNext_next rfl

theorem execInputActivityChange_pending (n : Nat) (obs : ActivityObs) (s : State) :
    AllNext (fun t => t.pending = s.pending) (execInputActivityChange n obs s) := by
  unfold execInputActivityChange onInput
  (repeat' split) <;> first | exact allNext_fault | exact allNext_next rfl

theorem execKeeperGrant_pending (s : State) :
    AllNext (fun t => t.pending = s.pending) (execKeeperGrant s) := by
  unfold execKeeperGrant
  (repeat' split) <;> first | exact allNext_fault | exact allNext_next (by simp)

theorem execKeeperHelloInterval_pending (s : State) :
    AllNext (fun t => t.pending = s.pending) (execKeeperHelloInterval s) := by
  unfold execKeeperHelloInterval
  (repeat' split) <;> first | exact allNext_fault | exact allNext_next rfl

theorem execKeeperLearningEnd_pending (s : State) :
    AllNext (fun t => t.pending = s.pending) (execKeeperLearningEnd s) := by
  unfold execKeeperLearningEnd
  (repeat' split) <;> first | exact allNext_fault | exact allNext_next (by simp)

theorem execKeeperLeaseLapse_pending (s : State) :
    AllNext (fun t => t.pending = s.pending) (execKeeperLeaseLapse s) := by
  unfold execKeeperLeaseLapse
  (repeat' split) <;> first | exact allNext_fault | exact allNext_next (by simp)

theorem execKeeperLost_pending (s : State) :
    AllNext (fun t => t.pending = s.pending) (execKeeperLost s) := by
  unfold execKeeperLost
  (repeat' split) <;> first | exact allNext_fault | exact allNext_next (by simp)

theorem execKeeperQueryRepeat_pending (s : State) :
    AllNext (fun t => t.pending = s.pending) (execKeeperQueryRepeat s) := by
  unfold execKeeperQueryRepeat
  (repeat' split) <;> first | exact allNext_fault | exact allNext_next (by simp)

theorem execKeeperTakeRepeat_pending (s : State) :
    AllNext (fun t => t.pending = s.pending) (execKeeperTakeRepeat s) := by
  unfold execKeeperTakeRepeat
  (repeat' split) <;> first | exact allNext_fault | exact allNext_next (by simp)

theorem execKeeperTwinLost_pending (port : Bool) (s : State) :
    AllNext (fun t => t.pending = s.pending) (execKeeperTwinLost port s) := by
  unfold execKeeperTwinLost
  (repeat' split) <;> first | exact allNext_fault | exact allNext_next (by simp)

theorem execLeadExpiry_pending (i : Nat) (s : State) :
    AllNext (fun t => t.pending = s.pending) (execLeadExpiry i s) := by
  unfold execLeadExpiry
  (repeat' split) <;> first | exact allNext_fault | exact allNext_next (by simp)

theorem execLeaseExpiry_pending (s : State) :
    AllNext (fun t => t.pending = s.pending) (execLeaseExpiry s) := by
  unfold execLeaseExpiry
  (repeat' split) <;> first | exact allNext_fault | exact allNext_next (by simp)

theorem execLocaloscFault_pending (offset : Bool) (s : State) :
    AllNext (fun t => t.pending = s.pending) (execLocaloscFault offset s) := by
  unfold execLocaloscFault
  (repeat' split) <;> first | exact allNext_fault | exact allNext_next (by simp)

theorem execLocaloscFaultClear_pending (s : State) :
    AllNext (fun t => t.pending = s.pending) (execLocaloscFaultClear s) := by
  unfold execLocaloscFaultClear
  (repeat' split) <;> first | exact allNext_fault | exact allNext_next (by simp)

theorem execLoraClearRun_pending (lane : Nat) (s : State) :
    AllNext (fun t => t.pending = s.pending) (execLoraClearRun lane s) := by
  unfold execLoraClearRun onRunningLane onLane
  (repeat' split) <;> first | exact allNext_fault | exact allNext_next rfl

theorem execLoraDeclareRun_pending (lane : Nat) (s : State) :
    AllNext (fun t => t.pending = s.pending) (execLoraDeclareRun lane s) := by
  unfold execLoraDeclareRun onRunningLane onLane
  (repeat' split) <;> first | exact allNext_fault | exact allNext_next rfl

theorem execLosClearRun_pending (lane : Nat) (s : State) :
    AllNext (fun t => t.pending = s.pending) (execLosClearRun lane s) := by
  unfold execLosClearRun onRunningLane onLane
  (repeat' split) <;> first | exact allNext_fault | exact allNext_next rfl

theorem execLosDeclareRun_pending (lane : Nat) (s : State) :
    AllNext (fun t => t.pending = s.pending) (execLosDeclareRun lane s) := by
  unfold execLosDeclareRun onRunningLane onLane
  (repeat' split) <;> first | exact allNext_fault | exact allNext_next (by simp)

theorem execMemberUnreachable_pending (addr : Nat) (s : State) :
    AllNext (fun t => t.pending = s.pending) (execMemberUnreachable addr s) := by
  unfold execMemberUnreachable
  (repeat' split) <;> first | exact allNext_fault | exact allNext_next (by simp)

theorem execPeerLost_pending (s : State) :
    AllNext (fun t => t.pending = s.pending) (execPeerLost s) := by
  unfold execPeerLost
  (repeat' split) <;> first | exact allNext_fault | exact allNext_next (by simp)

theorem execQlMessageAbsent_pending (n : Nat) (s : State) :
    AllNext (fun t => t.pending = s.pending) (execQlMessageAbsent n s) := by
  unfold execQlMessageAbsent onInput
  (repeat' split) <;> first | exact allNext_fault | exact allNext_next (by simp)

theorem execRefWtrExpiry_pending (n : Nat) (s : State) :
    AllNext (fun t => t.pending = s.pending) (execRefWtrExpiry n s) := by
  unfold execRefWtrExpiry onInput
  (repeat' split) <;> first | exact allNext_fault | exact allNext_next rfl

theorem execRenewSend_pending (s : State) :
    AllNext (fun t => t.pending = s.pending) (execRenewSend s) := by
  unfold execRenewSend
  (repeat' split) <;> first | exact allNext_fault | exact allNext_next (by simp)

theorem execRouteLapse_pending (addr : Nat) (side : Side) (s : State) :
    AllNext (fun t => t.pending = s.pending) (execRouteLapse addr side s) := by
  unfold execRouteLapse
  (repeat' split) <;> first | exact allNext_fault | exact allNext_next (by simp)

theorem execSfClearRun_pending (t : Nat) (copyB : Bool) (s : State) :
    AllNext (fun t => t.pending = s.pending) (execSfClearRun t copyB s) := by
  unfold execSfClearRun onTrib
  (repeat' split) <;> first | exact allNext_fault | exact allNext_next rfl

theorem execSfRowsReached_pending (t : Nat) (copyB : Bool) (s : State) :
    AllNext (fun t => t.pending = s.pending) (execSfRowsReached t copyB s) := by
  unfold execSfRowsReached onTrib
  (repeat' split) <;> first | exact allNext_fault | exact allNext_next rfl

theorem execSignalReportedRun_pending (lane : Nat) (s : State) :
    AllNext (fun t => t.pending = s.pending) (execSignalReportedRun lane s) := by
  unfold execSignalReportedRun onRunningLane onLane
  (repeat' split) <;> first | exact allNext_fault | exact allNext_next rfl

theorem execStep3Cancel_pending (s : State) :
    AllNext (fun t => t.pending = s.pending) (execStep3Cancel s) := by
  unfold execStep3Cancel
  (repeat' split) <;> first | exact allNext_fault | exact allNext_next (by simp)

theorem execSyncAbsent_pending (s : State) :
    AllNext (fun t => t.pending = s.pending) (execSyncAbsent s) := by
  unfold execSyncAbsent
  (repeat' split) <;> first | exact allNext_fault | exact allNext_next rfl

theorem execTakeoverHoldExpiry_pending (s : State) :
    AllNext (fun t => t.pending = s.pending) (execTakeoverHoldExpiry s) := by
  unfold execTakeoverHoldExpiry
  (repeat' split) <;> first | exact allNext_fault | exact allNext_next rfl

theorem execTargetWedged_pending (t : Nat) (s : State) :
    AllNext (fun t => t.pending = s.pending) (execTargetWedged t s) := by
  unfold execTargetWedged
  (repeat' split) <;> first | exact allNext_fault | exact allNext_next (by simp)

theorem execTowPortDown_pending (side : Side) (s : State) :
    AllNext (fun t => t.pending = s.pending) (execTowPortDown side s) := by
  unfold execTowPortDown
  (repeat' split) <;> first | exact allNext_fault | exact allNext_next (by simp)

theorem execTowPortUp_pending (side : Side) (s : State) :
    AllNext (fun t => t.pending = s.pending) (execTowPortUp side s) := by
  unfold execTowPortUp
  (repeat' split) <;> first | exact allNext_fault | exact allNext_next (by simp)

theorem execTowResend_pending (i : Nat) (s : State) :
    AllNext (fun t => t.pending = s.pending) (execTowResend i s) := by
  unfold execTowResend
  (repeat' split) <;> first | exact allNext_fault | exact allNext_next (by simp)

theorem execWarmLimitExpiry_pending (s : State) :
    AllNext (fun t => t.pending = s.pending) (execWarmLimitExpiry s) := by
  unfold execWarmLimitExpiry
  (repeat' split) <;> first | exact allNext_fault | exact allNext_next (by simp)

theorem execWatchdogExpiry_pending (f : Nat) (s : State) :
    AllNext (fun t => t.pending = s.pending) (execWatchdogExpiry f s) := by
  unfold execWatchdogExpiry
  (repeat' split) <;> first | exact allNext_fault | exact allNext_next (by simp)

theorem execWtrExpiry_pending (t : Nat) (s : State) :
    AllNext (fun t => t.pending = s.pending) (execWtrExpiry t s) := by
  unfold execWtrExpiry onTrib
  (repeat' split) <;> first | exact allNext_fault | exact allNext_next rfl

/-- A property of every command of a list of commands. -/
def AllKeep (P : State → Prop) (fs : List (State → Res)) : Prop := ∀ f ∈ fs, ∀ s, P s → AllNext P (f s)

theorem allKeep_append {P : State → Prop} {xs ys : List (State → Res)} (hx : AllKeep P xs) (hy : AllKeep P ys) :
    AllKeep P (xs ++ ys) := fun f hf => (List.mem_append.mp hf).elim (hx f) (hy f)

theorem allKeep_cons {P : State → Prop} {x : State → Res} {xs : List (State → Res)} (hx : ∀ s, P s → AllNext P (x s))
    (hy : AllKeep P xs) : AllKeep P (x :: xs) := fun f hf => by
  rcases List.mem_cons.mp hf with rfl | h
  · exact hx
  · exact hy f h

theorem allKeep_nil {P : State → Prop} : AllKeep P [] := fun _ hf => nomatch hf

theorem allKeep_flatMap {α : Type} {P : State → Prop} {g : α → List (State → Res)} {xs : List α}
    (h : ∀ a, AllKeep P (g a)) : AllKeep P (xs.flatMap g) := fun f hf => by
  obtain ⟨a, _, ha⟩ := List.mem_flatMap.mp hf
  exact h a f ha

theorem allKeep_map {α : Type} {P : State → Prop} {g : α → State → Res} {xs : List α}
    (h : ∀ a s, P s → AllNext P (g a s)) : AllKeep P (xs.map g) := fun f hf => by
  obtain ⟨a, _, rfl⟩ := List.mem_map.mp hf
  exact h a

theorem keep_of {q : List Instr} {f : State → Res} (h : ∀ s, AllNext (fun t => t.pending = s.pending) (f s)) (s : State)
    (hs : s.pending = q) : AllNext (fun t => t.pending = q) (f s) := fun t ht => (h s t ht).trans hs

theorem laneExpiries_pending {q : List Instr} (lane : Nat) : AllKeep (fun t => t.pending = q) (laneExpiries lane) :=
  allKeep_cons (keep_of (execLosDeclareRun_pending lane)) <|
  allKeep_cons (keep_of (execLosClearRun_pending lane)) <|
  allKeep_cons (keep_of (execLoraDeclareRun_pending lane)) <|
  allKeep_cons (keep_of (execLoraClearRun_pending lane)) <|
  allKeep_cons (keep_of (execFrmMissingTimeout_pending lane)) <|
  allKeep_cons (keep_of (execSignalReportedRun_pending lane)) <|
  allKeep_nil

theorem tribExpiries_pending {q : List Instr} (t : Nat) : AllKeep (fun t => t.pending = q) (tribExpiries t) :=
  allKeep_cons (keep_of (execSfRowsReached_pending t false)) <|
  allKeep_cons (keep_of (execSfRowsReached_pending t true)) <|
  allKeep_cons (keep_of (execSfClearRun_pending t false)) <|
  allKeep_cons (keep_of (execSfClearRun_pending t true)) <|
  allKeep_cons (keep_of (execWtrExpiry_pending t)) <|
  allKeep_cons (keep_of (execHoldExpiry_pending t)) <|
  allKeep_nil

theorem inputExpiries_pending {q : List Instr} (n : Nat) : AllKeep (fun t => t.pending = q) (inputExpiries n) :=
  allKeep_cons (keep_of (execInputActivityChange_pending n .inner)) <|
  allKeep_cons (keep_of (execQlMessageAbsent_pending n)) <|
  allKeep_cons (keep_of (execRefWtrExpiry_pending n)) <|
  allKeep_cons (keep_of (execHoldoffExpiry_pending n)) <|
  allKeep_nil

theorem rowExpiries_pending {q : List Instr} : AllKeep (fun t => t.pending = q) rowExpiries :=
  allKeep_append (
    allKeep_cons (keep_of (execLocaloscFault_pending true)) <|
    allKeep_cons (keep_of (execLocaloscFaultClear_pending)) <|
    allKeep_cons (keep_of (execTakeoverHoldExpiry_pending)) <|
    allKeep_cons (keep_of (execHeartbeatSend_pending)) <|
    allKeep_cons (keep_of (execRenewSend_pending)) <|
    allKeep_cons (keep_of (execKeeperHelloInterval_pending)) <|
    allKeep_nil) (allKeep_map fun k => keep_of (execTargetWedged_pending k))

/-- What is registered at the end of a row leaves the queue. -/
@[simp] theorem registerDue_pending (s : State) : (registerDue s).pending = s.pending :=
  settleAll_keeps (P := fun t => t.pending = s.pending) (dueInRow s)
    (allKeep_append (allKeep_append (allKeep_append (allKeep_append (allKeep_flatMap fun e => laneExpiries_pending e.1)
        (allKeep_flatMap fun e => tribExpiries_pending e.1)) (allKeep_flatMap fun e => inputExpiries_pending e.1))
      (allKeep_map fun f => keep_of (execWatchdogExpiry_pending f))) rowExpiries_pending) s rfl

theorem waitExpiries_pending {q : List Instr} (s : State) : AllKeep (fun t => t.pending = q) (waitExpiries s) :=
  allKeep_flatMap fun i => allKeep_cons (keep_of (execDeadlineExpiry_pending i)) <|
    allKeep_cons (keep_of (execLeadExpiry_pending i)) allKeep_nil

theorem laneEnds_pending {q : List Instr} (lane : Nat) : AllKeep (fun t => t.pending = q) (laneEnds lane) :=
  allKeep_cons (keep_of (execAttemptTimerExpiry_pending lane)) <|
  allKeep_cons (keep_of (execIdFaultExpiry_pending lane)) <|
  allKeep_nil

theorem timeEnds_pending {q : List Instr} : AllKeep (fun t => t.pending = q) timeEnds :=
  allKeep_cons (keep_of (execSyncAbsent_pending)) <|
  allKeep_cons (keep_of (execBackupTimeSource_pending)) <|
  allKeep_cons (keep_of (execEnumerationTimeout_pending)) <|
  allKeep_cons (keep_of (execTowPortDown_pending .a)) <|
  allKeep_cons (keep_of (execTowPortDown_pending .b)) <|
  allKeep_cons (keep_of (execTowPortUp_pending .a)) <|
  allKeep_cons (keep_of (execTowPortUp_pending .b)) <|
  allKeep_nil

theorem memberEnds_pending {q : List Instr} (a : Nat) : AllKeep (fun t => t.pending = q) (memberEnds a) :=
  allKeep_cons (keep_of (execRouteLapse_pending a .a)) <|
  allKeep_cons (keep_of (execRouteLapse_pending a .b)) <|
  allKeep_cons (keep_of (execMemberUnreachable_pending a)) <|
  allKeep_nil

theorem twinEnds_pending {q : List Instr} : AllKeep (fun t => t.pending = q) twinEnds :=
  allKeep_cons (keep_of (execPeerLost_pending)) <|
  allKeep_cons (keep_of (execKeeperLost_pending)) <|
  allKeep_cons (keep_of (execLeaseExpiry_pending)) <|
  allKeep_cons (keep_of (execWarmLimitExpiry_pending)) <|
  allKeep_cons (keep_of (execHandoverRequestLapse_pending)) <|
  allKeep_cons (keep_of (execStep3Cancel_pending)) <|
  allKeep_nil

theorem keeperEnds_pending {q : List Instr} : AllKeep (fun t => t.pending = q) keeperEnds :=
  allKeep_cons (keep_of (execKeeperLearningEnd_pending)) <|
  allKeep_cons (keep_of (execKeeperTwinLost_pending false)) <|
  allKeep_cons (keep_of (execKeeperTwinLost_pending true)) <|
  allKeep_cons (keep_of (execKeeperLeaseLapse_pending)) <|
  allKeep_cons (keep_of (execKeeperQueryRepeat_pending)) <|
  allKeep_cons (keep_of (execKeeperTakeRepeat_pending)) <|
  allKeep_cons (keep_of (execKeeperGrant_pending)) <|
  allKeep_nil

/-- What falls due leaves the queue. -/
@[simp] theorem expireTick_pending (s : State) : (expireTick s).pending = s.pending :=
  settleAll_keeps (P := fun t => t.pending = s.pending) (dueAtTick s)
    (allKeep_append (allKeep_append (allKeep_append (allKeep_append (allKeep_append (allKeep_append (allKeep_append
      (waitExpiries_pending s)
      (allKeep_flatMap fun e => laneEnds_pending e.1)) timeEnds_pending) (allKeep_flatMap fun e => memberEnds_pending e.1))
      (allKeep_map fun n => keep_of (execTowResend_pending n))) twinEnds_pending) keeperEnds_pending)
      (allKeep_map fun r s hs => allNext_next (by simpa using hs))) s rfl

end Sys2Proof.Machine
end

