-- ==== Sys2Proof/Laws/FramesTransmit.lean ====
section
/-! SUPPORT. What the operations of Machine/Transmit.lean leave as it was: one lemma per operation. -/

namespace Sys2Proof.Machine

open Sys2Proof

@[simp] theorem sendBarge_frame (lane : Nat) (hdr : W64) (ws : List W64) (s : State) :
    (sendBarge lane hdr ws s).time = s.time ∧ (sendBarge lane hdr ws s).planner = s.planner ∧
    (sendBarge lane hdr ws s).host = s.host ∧ (sendBarge lane hdr ws s).twin = s.twin ∧
    (sendBarge lane hdr ws s).flight = s.flight ∧ (sendBarge lane hdr ws s).boot = s.boot ∧
    (sendBarge lane hdr ws s).pending = s.pending := by
  simp [sendBarge]

@[simp] theorem sendRowBarge_frame (lane : Nat) (i : Nat) (s : State) :
    (sendRowBarge lane i s).time = s.time ∧ (sendRowBarge lane i s).planner = s.planner ∧
    (sendRowBarge lane i s).host = s.host ∧ (sendRowBarge lane i s).twin = s.twin ∧
    (sendRowBarge lane i s).boot = s.boot ∧ (sendRowBarge lane i s).pending = s.pending := by
  simp [sendRowBarge]

@[simp] theorem sendFrame_frame (lane : Nat) (s : State) :
    (sendFrame lane s).time = s.time ∧ (sendFrame lane s).planner = s.planner ∧ (sendFrame lane s).host = s.host ∧
    (sendFrame lane s).twin = s.twin ∧ (sendFrame lane s).flight = s.flight ∧ (sendFrame lane s).boot = s.boot ∧
    (sendFrame lane s).pending = s.pending := by
  simp [sendFrame]

@[simp] theorem sendTest_frame (lane : Nat) (s : State) :
    (sendTest lane s).time = s.time ∧ (sendTest lane s).planner = s.planner ∧ (sendTest lane s).host = s.host ∧
    (sendTest lane s).twin = s.twin ∧ (sendTest lane s).flight = s.flight ∧ (sendTest lane s).boot = s.boot ∧
    (sendTest lane s).pending = s.pending := by
  simp [sendTest]

@[simp] theorem sendIdle_frame (lane : Nat) (s : State) :
    (sendIdle lane s).time = s.time ∧ (sendIdle lane s).planner = s.planner ∧ (sendIdle lane s).host = s.host ∧
    (sendIdle lane s).twin = s.twin ∧ (sendIdle lane s).flight = s.flight ∧ (sendIdle lane s).boot = s.boot ∧
    (sendIdle lane s).pending = s.pending := by
  simp [sendIdle]

@[simp] theorem sendPosition_frame (lane : Nat) (i : Nat) (s : State) :
    (sendPosition lane i s).time = s.time ∧ (sendPosition lane i s).planner = s.planner ∧
    (sendPosition lane i s).host = s.host ∧ (sendPosition lane i s).twin = s.twin ∧
    (sendPosition lane i s).boot = s.boot ∧ (sendPosition lane i s).pending = s.pending := by
  simp [sendPosition]

@[simp] theorem sendRun_frame (n lane len i : Nat) (s : State) :
    (sendRun n lane len i s).time = s.time ∧ (sendRun n lane len i s).planner = s.planner ∧ (sendRun n lane len i s).host = s.host ∧ (sendRun n lane len i s).twin = s.twin ∧
    (sendRun n lane len i s).boot = s.boot ∧ (sendRun n lane len i s).pending = s.pending := by
  induction n generalizing i s with
  | zero => simp [sendRun]
  | succ n ih =>
    unfold sendRun
    split <;> simp [ih]

@[simp] theorem sendLane_frame (lane gap : Nat) (s : State) :
    (sendLane lane gap s).time = s.time ∧ (sendLane lane gap s).planner = s.planner ∧ (sendLane lane gap s).host = s.host ∧ (sendLane lane gap s).twin = s.twin ∧
    (sendLane lane gap s).boot = s.boot ∧ (sendLane lane gap s).pending = s.pending := by
  unfold sendLane
  dsimp only
  split <;> simp

@[simp] theorem renameTx_frame (k : Nat) (s : State) :
    (renameTx k s).time = s.time ∧ (renameTx k s).planner = s.planner ∧ (renameTx k s).host = s.host ∧
    (renameTx k s).twin = s.twin ∧ (renameTx k s).flight = s.flight ∧ (renameTx k s).boot = s.boot ∧
    (renameTx k s).pending = s.pending := by
  simp [renameTx]

@[simp] theorem laneSend_frame (gap : Nat) (s : State) :
    (laneSend gap s).time = s.time ∧ (laneSend gap s).planner = s.planner ∧ (laneSend gap s).host = s.host ∧ (laneSend gap s).twin = s.twin ∧
    (laneSend gap s).boot = s.boot ∧ (laneSend gap s).pending = s.pending := by
  simp [laneSend]

@[simp] theorem twinLaneSend_frame (n : Nat) (s : State) :
    (twinLaneSend n s).time = s.time ∧ (twinLaneSend n s).lanes = s.lanes ∧ (twinLaneSend n s).planner = s.planner ∧
    (twinLaneSend n s).host = s.host ∧ (twinLaneSend n s).flight = s.flight ∧ (twinLaneSend n s).boot = s.boot ∧
    (twinLaneSend n s).pending = s.pending := by
  simp [twinLaneSend]

@[simp] theorem twinStart_frame (s : State) :
    (twinStart s).time = s.time ∧ (twinStart s).lanes = s.lanes ∧ (twinStart s).planner = s.planner ∧
    (twinStart s).host = s.host ∧ (twinStart s).flight = s.flight ∧ (twinStart s).boot = s.boot ∧
    (twinStart s).pending = s.pending := by
  simp [twinStart]

@[simp] theorem twinRowSend_frame (s : State) :
    (twinRowSend s).time = s.time ∧ (twinRowSend s).lanes = s.lanes ∧ (twinRowSend s).planner = s.planner ∧
    (twinRowSend s).host = s.host ∧ (twinRowSend s).flight = s.flight ∧ (twinRowSend s).boot = s.boot ∧
    (twinRowSend s).pending = s.pending := by
  simp [twinRowSend]

end Sys2Proof.Machine
end

