-- ==== Sys2Proof/Laws/FramesRowTick.lean ====
section
/-! SUPPORT. What the operations of Machine/RowTick.lean leave as it was: one lemma per operation. -/

namespace Sys2Proof.Machine

open Sys2Proof

@[simp] theorem pairReport_frame (n : Nat) (d : Detector) (s : State) :
    (pairReport n d s).time = s.time ∧ (pairReport n d s).lanes = s.lanes ∧ (pairReport n d s).planner = s.planner ∧
    (pairReport n d s).host = s.host ∧ (pairReport n d s).twin = s.twin ∧ (pairReport n d s).flight = s.flight ∧
    (pairReport n d s).boot = s.boot ∧ (pairReport n d s).pending = s.pending := by
  simp [pairReport]

@[simp] theorem fecTick_frame (inp : RowInput) (s : State) :
    (fecTick inp s).time = s.time ∧ (fecTick inp s).planner = s.planner ∧ (fecTick inp s).host = s.host ∧
    (fecTick inp s).twin = s.twin ∧ (fecTick inp s).flight = s.flight ∧ (fecTick inp s).boot = s.boot ∧
    (fecTick inp s).pending = s.pending := by
  simp [fecTick]

@[simp] theorem laneInputs_frame (inp : RowInput) (s : State) :
    (laneInputs inp s).time = s.time ∧ (laneInputs inp s).planner = s.planner ∧ (laneInputs inp s).host = s.host ∧
    (laneInputs inp s).twin = s.twin ∧ (laneInputs inp s).flight = s.flight ∧ (laneInputs inp s).boot = s.boot ∧
    (laneInputs inp s).pending = s.pending := by
  simp [laneInputs]

@[simp] theorem laneTick_frame (newFrame : Bool) (s : State) :
    (laneTick newFrame s).time = s.time ∧ (laneTick newFrame s).planner = s.planner ∧
    (laneTick newFrame s).host = s.host ∧ (laneTick newFrame s).twin = s.twin ∧
    (laneTick newFrame s).flight = s.flight ∧ (laneTick newFrame s).boot = s.boot ∧
    (laneTick newFrame s).pending = s.pending := by
  simp [laneTick]

@[simp] theorem laneEvents_frame (s : State) :
    (laneEvents s).time = s.time ∧ (laneEvents s).planner = s.planner ∧ (laneEvents s).host.mem = s.host.mem ∧
    (laneEvents s).twin = s.twin ∧ (laneEvents s).boot = s.boot ∧ (laneEvents s).pending = s.pending := by
  simp [laneEvents]

@[simp] theorem coreStep_frame (s : State) :
    (coreStep s).time = s.time ∧ (coreStep s).planner = s.planner ∧ (coreStep s).host = s.host ∧
    (coreStep s).twin = s.twin ∧ (coreStep s).flight = s.flight ∧ (coreStep s).boot = s.boot ∧
    (coreStep s).pending = s.pending := by
  simp [coreStep]

@[simp] theorem onesRow_frame (s : State) :
    (onesRow s).time = s.time ∧ (onesRow s).lanes = s.lanes ∧ (onesRow s).planner = s.planner ∧
    (onesRow s).host = s.host ∧ (onesRow s).twin = s.twin ∧ (onesRow s).flight = s.flight ∧
    (onesRow s).boot = s.boot ∧ (onesRow s).pending = s.pending := by
  unfold onesRow
  (repeat' split) <;> simp

@[simp] theorem coreTick_frame (s : State) :
    (coreTick s).time = s.time ∧ (coreTick s).planner = s.planner ∧ (coreTick s).host = s.host ∧
    (coreTick s).twin = s.twin ∧ (coreTick s).flight = s.flight ∧ (coreTick s).boot = s.boot ∧
    (coreTick s).pending = s.pending := by
  simp [coreTick]

@[simp] theorem lockageStart_frame (s : State) :
    (lockageStart s).time = s.time ∧ (lockageStart s).lanes = s.lanes ∧ (lockageStart s).host = s.host ∧
    (lockageStart s).twin = s.twin ∧ (lockageStart s).flight = s.flight ∧ (lockageStart s).boot = s.boot ∧
    (lockageStart s).pending = s.pending := by
  simp [lockageStart]

@[simp] theorem settleDelta_frame (p : Plan) (s : State) :
    (settleDelta p s).time = s.time ∧ (settleDelta p s).lanes = s.lanes ∧ (settleDelta p s).host = s.host ∧
    (settleDelta p s).twin = s.twin ∧ (settleDelta p s).flight = s.flight ∧ (settleDelta p s).boot = s.boot ∧
    (settleDelta p s).pending = s.pending := by
  simp [settleDelta]

@[simp] theorem lockageDone_frame (s : State) :
    (lockageDone s).time = s.time ∧ (lockageDone s).lanes = s.lanes ∧ (lockageDone s).host.mem = s.host.mem ∧
    (lockageDone s).twin = s.twin ∧ (lockageDone s).boot = s.boot ∧ (lockageDone s).pending = s.pending := by
  unfold lockageDone
  dsimp only
  (repeat' split) <;> simp

@[simp] theorem endIntervals_frame (s : State) :
    (endIntervals s).time = s.time ∧ (endIntervals s).planner = s.planner ∧ (endIntervals s).host = s.host ∧
    (endIntervals s).twin = s.twin ∧ (endIntervals s).flight = s.flight ∧ (endIntervals s).boot = s.boot ∧
    (endIntervals s).pending = s.pending := by
  simp [endIntervals]

theorem execDeferralLimit_pending (s : State) :
    AllNext (fun t => t.pending = s.pending) (execDeferralLimit s) := by
  unfold execDeferralLimit
  dsimp only
  split
  · apply allNext_next
    simp
  · exact allNext_next rfl

@[simp] theorem settle_execDeferralLimit_pending (s : State) : (settle s (execDeferralLimit s)).pending = s.pending :=
  settle_keeps (P := fun t => t.pending = s.pending) rfl (execDeferralLimit_pending s)

@[simp] theorem endFrame_pending (s : State) : (endFrame s).pending = s.pending := by
  unfold endFrame
  dsimp only
  (repeat' split) <;> simp

@[simp] theorem advance_frame (x : Option Realign) (s : State) :
    (advance x s).lanes = s.lanes ∧ (advance x s).planner = s.planner ∧ (advance x s).host = s.host ∧
    (advance x s).twin = s.twin ∧ (advance x s).flight = s.flight ∧ (advance x s).boot = s.boot ∧
    (advance x s).pending = s.pending := by
  unfold advance
  (repeat' split) <;> simp

@[simp] theorem closeRow_pending (x : Option Realign) (inp : RowInput) (s : State) :
    (closeRow x inp s).pending = s.pending := by
  unfold closeRow
  dsimp only
  split <;> simp

@[simp] theorem irqTick_frame (s : State) :
    (irqTick s).time = s.time ∧ (irqTick s).lanes = s.lanes ∧ (irqTick s).planner = s.planner ∧
    (irqTick s).host.mem = s.host.mem ∧ (irqTick s).twin = s.twin ∧ (irqTick s).flight = s.flight ∧
    (irqTick s).boot = s.boot ∧ (irqTick s).pending = s.pending := by
  unfold irqTick
  simp [-List.foldl_reverse]

@[simp] theorem countTick_frame (x : Option Realign) (s : State) :
    (countTick x s).planner = s.planner ∧ (countTick x s).twin = s.twin ∧ (countTick x s).boot = s.boot ∧
    (countTick x s).pending = s.pending := by
  unfold countTick
  (repeat' split) <;> simp

@[simp] theorem settle_execRevertWtrExpiry_pending (s : State) : (settle s (execRevertWtrExpiry s)).pending = s.pending := by
  unfold execRevertWtrExpiry
  (repeat' split) <;> simp [settle]

@[simp] theorem controlTick_pending (s : State) : (controlTick s).pending = s.pending := by
  simp [controlTick]

@[simp] theorem switchTick_frame (s : State) :
    (switchTick s).time = s.time ∧ (switchTick s).planner = s.planner ∧ (switchTick s).host.mem = s.host.mem ∧
    (switchTick s).twin = s.twin ∧ (switchTick s).boot = s.boot ∧ (switchTick s).pending = s.pending := by
  unfold switchTick
  dsimp only
  (repeat' split) <;> simp

@[simp] theorem settle_execSteerDurationEnd_pending (s : State) : (settle s (execSteerDurationEnd s)).pending = s.pending := by
  unfold execSteerDurationEnd
  (repeat' split) <;> simp [settle]

@[simp] theorem outputTick_pending (x : Option Realign) (newFrame : Bool) (s : State) :
    (outputTick x newFrame s).pending = s.pending := by
  unfold outputTick
  dsimp only
  (repeat' split) <;> simp

@[simp] theorem settle_execSoftLoopTimeout_pending (s : State) : (settle s (execSoftLoopTimeout s)).pending = s.pending := by
  unfold execSoftLoopTimeout
  (repeat' split) <;> simp [settle]

@[simp] theorem channelTick_pending (inp : RowInput) (s : State) : (channelTick inp s).pending = s.pending := by
  unfold channelTick
  dsimp only
  split <;> simp

@[simp] theorem towTick_frame (s : State) :
    (towTick s).time = s.time ∧ (towTick s).lanes = s.lanes ∧ (towTick s).planner = s.planner ∧
    (towTick s).host.mem = s.host.mem ∧ (towTick s).twin = s.twin ∧ (towTick s).boot = s.boot ∧
    (towTick s).pending = s.pending := by
  simp [towTick]

@[simp] theorem sampleStatus_frame (tie : List (Nat × Int)) (r : Run) (s : State) :
    (sampleStatus tie r s).time = s.time ∧ (sampleStatus tie r s).planner = s.planner ∧ (sampleStatus tie r s).twin = s.twin ∧
    (sampleStatus tie r s).boot = s.boot ∧ (sampleStatus tie r s).pending = s.pending := by
  have h : ∀ {τ : Type} (q : State → τ), (∀ (ok : Bool) (a : Nat) (ws reply : List W64) (s : State),
      q (bufReply r ok a ws reply s) = q s) → (∀ k ws s, q (finish r k ws s) = q s) →
      (∀ s k, q { s with mx.tgtErr := k } = q s) → (∀ ok s, q (measRecords tie r ok s) = q s) →
      q (sampleStatus tie r s) = q s := by
    intro τ q hb hr hm hx
    have ht := fun ts f hf => throughMatrix_same q 1 ts r f s hf hr hm
    unfold sampleStatus
    dsimp only
    split
    · exact hb ..
    · exact ht _ _ (fun s => hb ..)
    · exact ht _ _ (fun s => hb ..)
    · exact ht _ _ (fun s => hx ..)
    · exact hb ..
    · exact ht _ _ (fun s => hb ..)
    · exact hb ..
    · exact hr ..
  exact ⟨h (fun s => s.time) (by simp) (by simp) (fun _ _ => rfl) (by simp),
    h (fun s => s.planner) (by simp) (by simp) (fun _ _ => rfl) (by simp),
    h (fun s => s.twin) (by simp) (by simp) (fun _ _ => rfl) (by simp),
    h (fun s => s.boot) (by simp) (by simp) (fun _ _ => rfl) (by simp),
    h (fun s => s.pending) (by simp) (by simp) (fun _ _ => rfl) (by simp)⟩

@[simp] theorem sampleTick_frame (tie : List (Nat × Int)) (s : State) :
    (sampleTick tie s).time = s.time ∧ (sampleTick tie s).planner = s.planner ∧ (sampleTick tie s).twin = s.twin ∧
    (sampleTick tie s).boot = s.boot ∧ (sampleTick tie s).pending = s.pending := by
  simp [sampleTick]

@[simp] theorem settle_execPhaseSyncTimeout_pending (s : State) : (settle s (execPhaseSyncTimeout s)).pending = s.pending := by
  unfold execPhaseSyncTimeout
  (repeat' split) <;> simp [settle]

@[simp] theorem firstFrame_pending (s : State) : (firstFrame s).pending = s.pending := by
  simp [firstFrame]

@[simp] theorem rowTick_pending (inp : RowInput) (s : State) : (rowTick inp s).pending = s.pending := by
  simp [rowTick]

@[simp] theorem pinTick_frame (s : State) :
    (pinTick s).planner = s.planner ∧ (pinTick s).host = s.host ∧ (pinTick s).boot = s.boot ∧
    (pinTick s).pending = s.pending := by
  simp [pinTick]

end Sys2Proof.Machine
end

