-- ==== Sys2Proof/Laws/Line.lean ====
section
/-! SUPPORT. What the line coding of Machine/Line.lean does: the table of the encoder is the generator polynomial's, the parity
fits into 30 symbols, and what is sent without an error is what is read. -/

namespace Sys2Proof.Machine

open Sys2Proof

set_option maxRecDepth 100000 in
/-- The rows of the encoder are the lower coefficients of the generator polynomial of R142, times 1, α, … α^9. -/
theorem rsRows_eq :
    rsRows = (List.range 10).map (fun b => pack10 ((rsGenerator.drop 1).map (gfMul (2 ^ b)))) := by
  decide +kernel

theorem rsTimes_lt (f : Nat) : rsTimes f < 2 ^ 300 := by
  have hr : ∀ b, rsRows.getD b 0 < 2 ^ 300 := by
    intro b
    rw [List.getD_eq_getElem?_getD]
    rcases h : rsRows[b]? with _ | v
    · simp
    · have hv : v ∈ rsRows := List.mem_of_getElem? h
      have := (by decide +kernel : ∀ v ∈ rsRows, v < 2 ^ 300) v hv
      simpa using this
  have : ∀ (l : List Nat) (a : Nat), a < 2 ^ 300 →
      l.foldl (fun a b => if f.testBit b then a ^^^ rsRows.getD b 0 else a) a < 2 ^ 300 := by
    intro l
    induction l with
    | nil => exact fun a ha => ha
    | cons b l ih =>
      intro a ha
      refine ih _ ?_
      dsimp only
      split
      · exact Nat.xor_lt_two_pow ha (hr b)
      · exact ha
  exact this _ 0 (Nat.two_pow_pos _)

theorem rsStep_lt (st s : Nat) : rsStep st s < 2 ^ 300 := by
  refine Nat.xor_lt_two_pow ?_ (rsTimes_lt _)
  rw [Nat.shiftLeft_eq]
  have := Nat.mod_lt st (Nat.two_pow_pos 290)
  calc st % 2 ^ 290 * 2 ^ 10 < 2 ^ 290 * 2 ^ 10 := Nat.mul_lt_mul_of_pos_right this (by decide)
    _ = 2 ^ 300 := by rw [← Nat.pow_add]

/-- The parity fits into 30 symbols. -/
theorem rsParity_lt (info : Nat) : rsParity info < 2 ^ 300 := by
  have : ∀ (l : List Nat) (a : Nat), a < 2 ^ 300 →
      l.foldl (fun st k => rsStep st (sym10 info (513 - k))) a < 2 ^ 300 := by
    intro l
    induction l with
    | nil => exact fun a ha => ha
    | cons b l ih => exact fun a _ => ih _ (rsStep_lt _ _)
  exact this _ 0 (Nat.two_pow_pos _)

theorem rsEncode_info (info : Nat) : rsEncode info >>> 300 = info := by
  rw [rsEncode, Nat.shiftRight_xor_distrib, Nat.shiftLeft_shiftRight, Nat.shiftRight_eq_div_pow,
    Nat.div_eq_of_lt (rsParity_lt info), Nat.xor_zero]

theorem rsEncode_parity (info : Nat) : rsEncode info % 2 ^ 300 = rsParity info := by
  rw [rsEncode, Nat.xor_mod_two_pow, Nat.shiftLeft_eq, Nat.mul_mod_left, Nat.zero_xor,
    Nat.mod_eq_of_lt (rsParity_lt info)]

/-- A codeword received without an error gives its information bits, with nothing corrected (R142, R144). -/
theorem rsDecode_rsEncode (info : Nat) : rsDecode (rsEncode info) = { info := info, fixed := 0, bad := false } := by
  simp [rsDecode, rsEncode_info, rsEncode_parity]

theorem pamBits_pamOf (b : Nat) (h : b < 4) : pamBits (pamOf b) = b := by
  interval_cases b <;> rfl

/-- The inversion undoes itself (R154). -/
theorem turn_turn (inv : Bool) (w : Nat) : turn inv (turn inv w) = w := by
  cases inv with
  | false => rfl
  | true => simp [turn]

/-- The symbols of the upper bit pairs come first. -/
theorem linePams_succ (n w : Nat) : linePams (n + 1) w = linePams n (w / 4) ++ [pamOf (w % 4)] := by
  unfold linePams
  rw [List.range_succ, List.map_append, List.map_singleton]
  congr 1
  · refine List.map_congr_left fun i hi => ?_
    have hi := List.mem_range.1 hi
    congr 2
    rw [Nat.shiftRight_eq_div_pow, Nat.shiftRight_eq_div_pow, Nat.div_div_eq_div_mul,
      show 2 * (n + 1 - 1 - i) = 2 + 2 * (n - 1 - i) by omega, Nat.pow_add]
  · simp

/-- Sending bits as PAM4 symbols and reading them gives them back (R143). -/
theorem lineBits_linePams (n : Nat) : ∀ w, w < 4 ^ n → lineBits (linePams n w) = w := by
  induction n with
  | zero => intro w h; simp at h; subst h; rfl
  | succ n ih =>
    intro w h
    have hd : w / 4 < 4 ^ n := by rw [Nat.pow_succ] at h; omega
    have := ih _ hd
    unfold lineBits at this ⊢
    rw [linePams_succ, List.foldl_append, this]
    simp [pamBits_pamOf _ (Nat.mod_lt w (by decide))]
    omega

theorem rsEncode_lt (info : Nat) (h : info < 2 ^ 5140) : rsEncode info < 4 ^ 2720 := by
  rw [show (4 : Nat) ^ 2720 = 2 ^ 5440 from (Nat.pow_mul 2 2 2720).symm]
  refine Nat.xor_lt_two_pow ?_ (Nat.lt_of_lt_of_le (rsParity_lt info) (Nat.pow_le_pow_right (by decide) (by decide)))
  rw [Nat.shiftLeft_eq]
  calc info * 2 ^ 300 < 2 ^ 5140 * 2 ^ 300 := Nat.mul_lt_mul_of_pos_right h (Nat.two_pow_pos _)
    _ = 2 ^ 5440 := by rw [← Nat.pow_add]

/-- What one sends as a codeword in the normal form, a receiver reads without an error (R142 to R144). -/
theorem rsDecode_sent (info : Nat) (h : info < 2 ^ 5140) :
    rsDecode (turn false (lineBits (linePams 2720 (rsEncode info)))) = { info := info, fixed := 0, bad := false } := by
  rw [lineBits_linePams _ _ (rsEncode_lt info h)]
  exact rsDecode_rsEncode info

end Sys2Proof.Machine
end

