-- ==== Sys2Proof/Laws/Objects.lean ====
section
/-! SUPPORT. Reads of one object after an update of another: lanes, inputs, selectors, octets, members, queues. -/

namespace Sys2Proof.Machine

open Sys2Proof

@[simp] theorem lane_modLane (s : State) (i j : Nat) (f : Lane → Lane) :
    (s.modLane i f).lane j = if j = i then f (s.lane i) else s.lane j := by
  simp [State.lane, State.modLane, kget_kset]

@[simp] theorem input_modInput (s : State) (i j : Nat) (f : Input → Input) :
    (s.modInput i f).input j = if j = i then f (s.input i) else s.input j := by
  simp [State.input, State.modInput, kget_kset]

@[simp] theorem sel_modSel (s : State) (i j : Nat) (f : Sel → Sel) :
    (s.modSel i f).sel j = if j = i then f (s.sel i) else s.sel j := by
  simp [State.sel, State.modSel, kget_kset]

@[simp] theorem octet_modOctet (s : State) (i j : Nat) (f : Octet → Octet) :
    (s.modOctet i f).octet j = if j = i then f (s.octet i) else s.octet j := by
  simp [State.octet, State.modOctet, kget_kset]

@[simp] theorem member_modMember (s : State) (i j : Nat) (f : Member → Member) :
    (s.modMember i f).member j = if j = i then f (s.member i) else s.member j := by
  simp [State.member, State.modMember, kget_kset]

@[simp] theorem sq_setSq (s : State) (q k : Nat) (x : Option Sq) : (s.setSq q x).sq k = if k = q then x else s.sq k := by
  simp [State.sq, State.setSq, kget_kset]

@[simp] theorem cq_setCq (s : State) (q k : Nat) (x : Option Cq) : (s.setCq q x).cq k = if k = q then x else s.cq k := by
  simp [State.cq, State.setCq, kget_kset]

@[simp] theorem evq_setEvq (s : State) (q k : Nat) (x : Option EvQ) :
    (s.setEvq q x).evq k = if k = q then x else s.evq k := by
  simp [State.evq, State.setEvq, kget_kset]

@[simp] theorem cq_setSq (s : State) (q k : Nat) (x : Option Sq) : (s.setSq q x).cq k = s.cq k := rfl
@[simp] theorem evq_setSq (s : State) (q k : Nat) (x : Option Sq) : (s.setSq q x).evq k = s.evq k := rfl
@[simp] theorem sq_setCq (s : State) (q k : Nat) (x : Option Cq) : (s.setCq q x).sq k = s.sq k := rfl
@[simp] theorem evq_setCq (s : State) (q k : Nat) (x : Option Cq) : (s.setCq q x).evq k = s.evq k := rfl
@[simp] theorem sq_setEvq (s : State) (q k : Nat) (x : Option EvQ) : (s.setEvq q x).sq k = s.sq k := rfl
@[simp] theorem cq_setEvq (s : State) (q k : Nat) (x : Option EvQ) : (s.setEvq q x).cq k = s.cq k := rfl

@[simp] theorem sq_refill (k : Nat) (s : State) : (refill s).sq k = s.sq k := rfl

/-- What withdrawing a queue's commands sent to other members leaves of the host interface. -/
theorem host_withdrawSent (q : Nat) (s : State) :
    (withdrawSent q s).host = { s.host with fwd := s.host.fwd.filter (fun f => f.key.q != q),
                                            bcast := s.host.bcast.filter (fun b => b.key.q != q) } := by
  unfold withdrawSent
  exact foldl_same (fun s : State => s.host) _ (by simp) _ _

@[simp] theorem sq_withdrawSent (q k : Nat) (s : State) : (withdrawSent q s).sq k = s.sq k := by
  simp [State.sq, host_withdrawSent]

/-- A queue deleted is gone, and every other submission queue stays. -/
@[simp] theorem sq_deleteSq (q k : Nat) (s : State) : (deleteSq q s).sq k = if k = q then none else s.sq k := by
  unfold deleteSq
  split
  · split <;> simp_all
  · simp only
    split <;> rw [sq_withdrawSent, sq_refill] <;> simp [State.sq, State.setSq, State.setCq, kget_kset]

/-- An event queue deleted is gone, and every other event queue stays. -/
@[simp] theorem evq_deleteEq (e k : Nat) (s : State) : (deleteEq e s).evq k = if k = e then none else s.evq k := by
  unfold deleteEq
  split
  · split <;> simp_all
  · simp [State.evq, State.setEvq, kget_kset]

end Sys2Proof.Machine
end

