-- ==== Sys2Proof/Tests/Slice0.lean ====
section
/-! SUPPORT. The author's own tests: one ill-formed command for each check of WellFormed.lean, a witness for the hypotheses of
each statement, clause by clause, and a few single steps on the spec's own figures. -/

namespace Sys2Proof.Tests

set_option Elab.async false

open Sys2Proof Sys2Proof.Machine

/-! ## Small states -/

/-- READY, admitted, gateway of a flight of one, in frame 1,000. -/
def up : State :=
  { State.reset with
    boot.st := .ready, boot.resetN := true, flight.admitted := true, flight.addressed := true, time.frame := 1000,
    time.row := 10, time.rows := 300000, twin.role := .solo, fab.running := true }

/-- A run of a command with this opcode and these parameter words. -/
def run (op : Nat) (ps : List W64) : Run :=
  { key := { q := 1, session := 5, seq := 7 },
    cmd := { w0 := w64 (1 + 256 * op + 7 * 2 ^ 24 + 2 ^ 56), w1 := 0, w2 := w64 (8 * ps.length * 2 ^ 48), w3 := w64 (5 * 2 ^ 54),
             params := ps },
    row := 300000, frame := 1000, rowIn := 10, at_ := 0, mem := [] }

/-- The same for an at-frame. -/
def runAt (op at_ : Nat) (ps : List W64) : Run :=
  let r := run op ps
  { r with cmd := { r.cmd with w2 := w64 (at_ + 8 * ps.length * 2 ^ 48) }, at_ := at_ }

/-- The engine holds r. -/
def hold (r : Run) (s : State) : State := { s with host.engine := some r }

/-! ## Ill-formed commands (WellFormed.lean) -/

def pkt : TowPkt := { type := 7, dst := 1, src := 2, all := false, dir := false, hops := 0, tseq := 1, flight := 0, payload := [] }

theorem test_wf_blocks : (Instr.full [[0]]).wf = false ∧ (Instr.delta [List.replicate 257 0]).wf = false ∧
    blocksWf [List.replicate 256 0] = true := by
  unfold Instr.wf blocksWf
  simp only [List.all_cons, List.length_replicate]
  decide

theorem test_wf_towPkt : (Instr.cmd .a ⟨{ pkt with type := 16 }, 0⟩).wf = false ∧ (Instr.cmd .a ⟨{ pkt with dst := 64 }, 0⟩).wf = false ∧
    (Instr.cmd .a ⟨{ pkt with hops := 64 }, 0⟩).wf = false ∧
    (Instr.cmd .a ⟨pkt, 4⟩).wf = false ∧ (Instr.cmd .a ⟨pkt, 3⟩).wf = true := by decide

theorem test_wf_towPayload : TowPkt.wf { pkt with payload := List.replicate 513 0 } = false := by
  unfold TowPkt.wf
  rw [List.length_replicate]
  decide

theorem test_wf_barge : BargeRx.wf { pos := 8256, first := 0, off := 160, words := [], arrival := 0 } = false ∧
    BargeRx.wf { pos := 0, first := 8192, off := 0, words := [], arrival := 0 } = false ∧
    BargeRx.wf { pos := 0, first := 1, off := 5140, words := [], arrival := 0 } = false ∧
    BargeRx.wf { pos := 0, first := 0, off := 159, words := [], arrival := 0 } = false ∧
    BargeRx.wf { pos := 0, first := 1, off := 0, words := [[.m3]], arrival := 0 } = false := by decide

theorem test_wf_header : (Instr.invalidHeader 0 8256 { first := 0, off := 160, words := [] }).wf = false ∧
    (Instr.invalidHeader 512 0 { first := 0, off := 160, words := [] }).wf = false := by decide

set_option maxRecDepth 100000 in
/-- Two codewords hold a barge that begins with the first; the last bit of it that they can hold is the 10,280th. -/
theorem test_wf_barge_size :
    let w : List Pam := List.replicate 2720 .m3
    BargeRx.wf { pos := 8255, first := 8191, off := 1865, words := [w, w], arrival := 0 } = false ∧
    BargeRx.wf { pos := 8255, first := 8190, off := 2024, words := [w, w], arrival := 0 } = true ∧
    BargeRx.wf { pos := 8255, first := 8190, off := 2025, words := [w, w], arrival := 0 } = false := by decide +kernel

theorem test_wf_marker : (Instr.alignmentMarker (.pair 0) { pos := 22282240, word := [] }).wf = false ∧
    (Instr.alignmentMarker (.pair 0) { pos := 0, word := [.m3] }).wf = false ∧
    (Instr.alignmentMarker (.pair 512) { pos := 0, word := [] }).wf = false ∧
    (Instr.alignmentMarker (.twin 4) { pos := 0, word := [] }).wf = false := by decide

theorem test_wf_rowInput : (Instr.rowTick { detector := [(512, .below)] }).wf = false ∧
    (Instr.rowTick { rx := [(512, [])] }).wf = false ∧ (Instr.rowTick { rx := [(0, [[.m3]])] }).wf = false ∧
    (Instr.rowTick { weirs := [(0x47, 0, 1, 768)] }).wf = false ∧
    (Instr.rowTick { twin := [{ lane := 4, first := 0, word := [] }] }).wf = false ∧
    (Instr.rowTick { twinPhase := 4096 }).wf = false ∧
    (Instr.rowTick { tow := [⟨.a, true, false, false⟩, ⟨.a, false, false, true⟩] }).wf =
      false ∧ (Instr.rowTick {}).wf = true := by decide

theorem test_wf_numbers : (Instr.losDeclareRun 512).wf = false ∧ (Instr.periodBoundary 17).wf = false ∧
    (Instr.counterOverflow 4096).wf = false ∧ (Instr.holdExpiry 131072).wf = false ∧ (Instr.qlMessageAbsent 25).wf = false ∧
    (Instr.timeRefEdgeMeasure 24 125500 0).wf = false ∧ (Instr.timeRefEdgeMeasure 24 0 1000).wf = false ∧
    (Instr.todMessageSend 2 true).wf = false ∧ (Instr.replyWrite 64).wf = false ∧ (Instr.eventWrite 8).wf = false ∧
    (Instr.windowLowRead ⟨65536, false⟩).wf = false ∧ (Instr.routeLapse 64 .a).wf = false ∧ (Instr.targetWedged 9).wf = false ∧
    (Instr.masterReadmit 8).wf = false ∧ (Instr.queueDmaFault .eq 8).wf = false ∧ (Instr.watchdogExpiry 8).wf = false ∧
    (Instr.refmsgQl 8 { bytes := [], framing := false }).wf = false := by decide

theorem test_wf_others : (Instr.matrixRequest { master := 8, write := false, addr := 0, len := 8, id := 0 } true).wf = false ∧
    (Instr.matrixRequest { master := 7, write := false, addr := 0, len := 8, id := 64 } true).wf = false ∧
    (Instr.matrixRequest { master := 7, write := true, addr := 0, len := 0, id := 0, data := [none] } true).wf = false ∧
    (Instr.matrixRequest { master := 7, write := false, addr := 0, len := 1, id := 0, data := [none] } true).wf = false ∧
    (Instr.loadingDone [(6291456, 0)]).wf = false ∧ (Instr.romDone { order := false, uid := 1, secFloor := 64 }).wf = false ∧
    (Instr.monitorSecond { samples := [{ input := 25, freq := 0, phase := 0 }], chanF := 0 }).wf = false ∧
    (Instr.towPacketBad ⟨.a, []⟩).wf = false ∧ (Instr.nop).wf = true := by decide

/-! ## Witnesses: the host interface -/

theorem witness_StepRunsFrontCommand : { up with pending := [Instr.nop] }.pending = Instr.nop :: [] ∧ up.pending = [] := by
  decide

/-- ADMIN_CTRL that creates queue pair 0 at the bounds of R347: LOG2 4 and 12, vector 71. -/
def admin : BitVec 32 := BitVec.ofNat 32 (2 ^ 31 + 71 * 256 + 12 * 16 + 4)

def paired : State := { up with
  host.sqs := [(0, some { base := 0, cq := 0, log2 := 4, priv := 2, credits := 16, session := 1 })],
  host.cqs := [(0, some { base := 0, log2 := 12, vector := 71, irq := false })], host.ctrl := admin }

theorem witness_AdminCtrlWriteActs_refused : up.hostUp = true ∧ RefusedAdminCtrl (BitVec.ofNat 32 (2 ^ 31 + 3)) up :=
  ⟨by decide, Or.inr (Or.inl (by decide))⟩

theorem witness_AdminCtrlWriteActs_created : ¬ RefusedAdminCtrl admin up ∧ bit admin 31 = true ∧ up.sq 0 = none := by
  refine ⟨?_, by decide, by decide⟩
  rintro (h | h | h | h | ⟨h, -⟩) <;> revert h <;> decide

theorem witness_AdminCtrlWriteActs_deleted :
    ¬ RefusedAdminCtrl (BitVec.ofNat 32 (71 * 256 + 12 * 16 + 4)) paired ∧ paired.sq 0 ≠ none := by
  refine ⟨?_, by decide⟩
  rintro (h | h | h | h | ⟨-, -, e, he, h0, -⟩)
  · revert h; decide
  · revert h; decide
  · revert h; decide
  · revert h; decide
  · simp only [paired, List.mem_singleton] at he
    subst he
    exact h0 rfl

theorem witness_AdminCtrlWriteActs_kept : ¬ RefusedAdminCtrl admin paired ∧ ¬ RefusedAdminCtrl 0 up := by
  constructor
  · rintro (h | h | h | h | ⟨h, -⟩) <;> revert h <;> decide
  · rintro (h | h | h | h | ⟨-, h, -⟩) <;> revert h <;> decide

/-- Queue 0 is bound to completion queue 0 and not to queue 4. -/
theorem witness_AdminCtrlWriteActs_replies : ∃ x, paired.sq 0 = some x ∧ x.cq = 0 ∧ x.cq ≠ 4 := ⟨_, rfl, by decide, by decide⟩

theorem witness_DoorbellsAct : up.hostUp = true ∧ (∃ x, paired.sq 0 = some x ∧ fld (15#32) 11 0 < 2 ^ x.log2) ∧
    (∃ x, paired.cq 0 = some x ∧ fld (4095#32) 11 0 < 2 ^ x.log2) ∧
    (∀ x, paired.sq 0 = some x → 2 ^ x.log2 ≤ fld (16#32) 11 0) ∧ up.sq 63 = none ∧ up.cq 63 = none ∧ up.evq 7 = none := by
  refine ⟨by decide, ⟨_, rfl, by decide⟩, ⟨_, rfl, by decide⟩, fun x h => ?_, by decide, by decide, by decide⟩
  cases h
  decide

/-- R351: with LOG2 4, a head that stands 3 entries behind entry 18 (index 15) consumes 2 up to index 1. -/
theorem test_consumed : consumed 18 3 4 1 = 2 ∧ consumed 18 3 4 15 = 0 ∧ consumed 18 3 4 3 = 3 := by decide

theorem witness_HeadWriteConsumesEntries : 3 ≤ 18 ∧ 3 ≤ 2 ^ 4 ∧ 3 < 2 ^ 4 ∧ 3 ≤ 3 := by decide

theorem witness_WindowAccessesAct : up.hostUp = true ∧ ({ up with host.highHalf := some (8, 1) } : State).hostUp = true ∧
    0x9010 ≤ 0x9010 ∧ 0x9010 % 4 = 0 ∧ up.isGateway = true ∧ up.boot.resetN = true ∧ paired.sq 0 ≠ none ∧
    paired.cq 0 ≠ none ∧ ({ up with host.eqs := [(7, some { base := 0, log2 := 4, vector := 0, irq := false, groups := 1 })] } :
      State).evq 7 ≠ none := by
  decide

/-- NOP in queue 0 of session 1, SEQ 1, with the CRC of R358. -/
def nopCmd : Cmd :=
  let c : Cmd := { w0 := w64 (1 + 256 * 0x0107 + 2 ^ 24), w1 := 0, w2 := 0, w3 := w64 (2 ^ 54), params := [] }
  { c with w1 := w64 (c.crcOf * 2 ^ 32) }

def nopUnits : List W64 := [nopCmd.w0, nopCmd.w1, nopCmd.w2, nopCmd.w3]

def fetchable : State := { paired with
  host.sqs := [(0, some { base := 0, cq := 0, log2 := 4, priv := 2, credits := 16, session := 1, tail := 1, avail := 1 })] }

theorem witness_CommandFetchChecks : fetchable.hostUp = true ∧ fetchable.fnDown 1 = false ∧
    (∃ x, fetchable.sq 0 = some x ∧ x.disabled = false ∧ x.used < x.credits ∧
      unitsOf (cmdOfUnits nopUnits).length ≤ x.avail ∧
      (let y : Sq := { x with fetch := 1, avail := 0, used := 1 };
        fetchCheck 0 y (cmdOfUnits nopUnits) (fetchable.setSq 0 (some y)) = none ∧
        fetchCheck 0 y (cmdOfUnits [0, 0, 0, 0]) (fetchable.setSq 0 (some y)) = some stBadHeader)) ∧
    (cmdOfUnits nopUnits).broadcast = false ∧ (cmdOfUnits nopUnits).target = fetchable.flight.addr ∧
    overdue { key := { q := 0, session := 1, seq := 1 }, cmd := cmdOfUnits nopUnits } fetchable = none ∧
    fetchable.host.work.length < 256 ∧ fetchable.host.staging = [] := by
  refine ⟨by decide, by decide, ⟨_, rfl, by decide, by decide, by decide, by decide +kernel, by decide⟩, by decide, by decide,
    by decide, by decide, by decide⟩

/-- R349: an index equal to the fetch position announces all 16 units, and none are announced before a doorbell. -/
theorem test_full_queue : ({ base := 0, cq := 0, log2 := 4, priv := 2, credits := 16, session := 1, fetch := 3 } : Sq).announced 3 =
    16 ∧ ({ base := 0, cq := 0, log2 := 4, priv := 2, credits := 16, session := 1 } : Sq).avail = 0 := by decide

/-- A work queue of a NOP and, second, a command for frame 1,001 with a deadline in frame 999. -/
def waiting : State := { up with
  host.work := [{ key := (run 0x0107 []).key, cmd := (run 0x0107 []).cmd }] }

def late : Work :=
  { key := (run 0x0107 []).key, cmd := { (run 0x0107 []).cmd with w3 := w64 (999 + 5 * 2 ^ 54) } }

def soon : Work := { key := (runAt 0x0301 1001 [0]).key, cmd := (runAt 0x0301 1001 [0]).cmd }

theorem witness_CommandStartChecks_started : ∃ w, waiting.host.work[0]? = some w ∧ canStart 0 w waiting = true ∧
    overdue w (refill { waiting with host.work := [] }) = none ∧
    judgeSeq w.key (refill { waiting with host.work := [] }) = .new ∧
    startCheck w.cmd (raiseHigh w.key (refill { waiting with host.work := [] })) = none :=
  ⟨_, rfl, by decide, by decide, by decide, by decide⟩

theorem witness_CommandStartChecks_refused : canStart 0 { late with cmd := (run 0x0713 []).cmd }
      { up with host.work := [{ late with cmd := (run 0x0713 []).cmd }] } = true ∧
    startCheck (run 0x0713 []).cmd (raiseHigh late.key up) = some stInvalidParam ∧ stInvalidParam ≠ stTooLate ∧
    judgeSeq late.key { up with host.seq := [(late.key.seqAt, { high := some 7, cache := [] })] } = .stale := by decide

theorem witness_CommandStartChecks_overdue : overdue late { up with host.work := [late] } = some (stExpired, 999) ∧
    overdue soon { up with host.work := [soon] } = some (stTooLate, 985) ∧
    canStart 0 late { up with host.work := [late] } = true ∧ canStart 0 soon { up with host.work := [soon] } = true := by decide

/-- A CONN_EDIT behind a CONN_LOAD that waits for its buffer cannot be taken yet; another command is staged behind it. -/
def barred : State := { up with
  host.work := [{ late with cmd := (run 0x0201 []).cmd }], host.staging := [soon], host.prog := [{ run 0x0202 [] with key := { q := 1, session := 5, seq := 6 } }] }

theorem witness_CommandStartChecks_waits : (∃ w, barred.host.work[0]? = some w ∧ canStart 0 w barred = false) ∧
    Machine.waiting 0 { up with host.staging := [late] } = some late ∧ Machine.waiting 1 barred = some soon ∧
    overdue late { up with host.staging := [late] } = some (stExpired, 999) ∧ overdue soon barred = some (stTooLate, 985) ∧
    overdue { late with cmd := (run 0x0107 []).cmd } up = none ∧
    isDup late.key up = false ∧ late.cmd.deadline = 999 ∧ late.cmd.atFrame = 0 ∧ 999 < up.time.frame ∧
    isDup soon.key up = false ∧ soon.cmd.atFrame = 1001 ∧ scheduledOp soon.cmd.opcode = true ∧ soon.cmd.deadline = 0 ∧
    1001 - leadOf soon.cmd.opcode < up.time.frame := by
  refine ⟨⟨_, rfl, by decide⟩, ?_⟩
  decide

theorem witness_OnlyCheckedCommandsStart : waiting.host.engine = none ∧
    ∃ t r, exec (.commandStart 0) waiting = .next t ∧ t.host.engine = some r := ⟨rfl, _, _, rfl, rfl⟩

def cqDue : Cq :=
  { base := 4096, log2 := 12, vector := 71, irq := false, pend := [mkReply (run 0x0107 []).key (run 0x0107 []).cmd 0 stOk 1000 10 []] }

def eqDue : EvQ :=
  { base := 8192, log2 := 4, vector := 0, irq := false, groups := 1, pend := [EvRec.mk 0x0101 0 1 1 0 1 0 1 0 [0] 0 0] }

def replyDue : State := { paired with host.cqs := [(0, some cqDue)], host.eqs := [(7, some eqDue)] }

theorem witness_ReplyAndEventWrites : replyDue.hostUp = true ∧ ({ replyDue with host.perst := true } : State).hostUp = false ∧
    ({ replyDue with host.pcie.d3hot := true } : State).hostUp = false ∧ replyDue.fnDown 1 = false ∧
    (replyDue.cq 0 = some cqDue ∧ cqDue.pend ≠ [] ∧ cqDue.disabled = false ∧ cqDue.unread < 2 ^ cqDue.log2) ∧
    (replyDue.evq 7 = some eqDue ∧ eqDue.pend ≠ [] ∧ eqDue.disabled = false ∧ eqDue.unread < 2 ^ eqDue.log2) := by decide

theorem witness_ReplyAndEventWrites_nothing : replyDue.rcv.step = none ∧ up.cq 63 = none ∧ up.evq 7 = none ∧
    ({ replyDue with host.cqs := [(0, some { cqDue with disabled := true })] } : State).cq 0 =
      some { cqDue with disabled := true } ∧
    ({ replyDue with host.eqs := [(7, some { eqDue with unread := 16 })] } : State).evq 7 = some { eqDue with unread := 16 } ∧
    2 ^ eqDue.log2 ≤ 16 := by decide

/-- The three ways in which a vector that is asked for is signalled: sent, held pending by its mask, sent again after the tick. -/
theorem witness_ReplyAndEventWrites_signalled : replyDue.host.pcie.msixOn = true ∧
    bit (kget 0 replyDue.host.msix (4 * 71 + 3)) 0 = false ∧ 71 ∉ replyDue.host.irqSent ∧
    bit (kget 0 ({ replyDue with host.msix := [(4 * 71 + 3, 1)] } : State).host.msix (4 * 71 + 3)) 0 = true ∧
    71 ∈ ({ replyDue with host.irqSent := [71] } : State).host.irqSent ∧
    ({ replyDue with host.pcie.msixOn := false } : State).host.pcie.msixOn = false ∧
    ({ replyDue with host.cqs := [(0, some { cqDue with irq := true })] } : State).cq 0 = some { cqDue with irq := true } := by
  decide

theorem witness_CompletionPostsOneReply : ∃ q c, (run 0x0107 []).key.gw = none ∧ paired.host.bcast = [] ∧
    paired.host.dups = [] ∧ paired.sq 0 = some q ∧ q.session = 1 ∧ paired.cq q.cq = some c :=
  ⟨_, _, by decide, by decide, by decide, rfl, by decide, rfl⟩

/-- What `Held` asks, for a run put into the engine. -/
theorem held_run {op : Nat} {r : Run} {s : State} (h : r.cmd.opcode = op) (n : sizeOk r = true)
    (m : EngineReaches op (hold r s) := by unfold EngineReaches; decide) : Held op r (hold r s) := ⟨rfl, h, n, m⟩

def cqc : Run := run 0x0101 [w64 0x1000, w64 (1 + 4 * 64)]
def sqc : Run := run 0x0102 [w64 0x1000, w64 (1 + 4 * 4096 + 2 * 2 ^ 16 + 2 ^ 18)]
def eqc : Run := run 0x0105 [w64 0x1000, w64 (7 + 4 * 8)]

def queues : State := { paired with
  host.sqs := [(0, some { base := 0, cq := 0, log2 := 4, priv := 2, credits := 16, session := 1 }),
               (3, some { base := 0, cq := 0, log2 := 4, priv := 1, credits := 1, session := 2 })],
  host.cqs := [(0, some { base := 0, log2 := 12, vector := 71, irq := false }),
               (4, some { base := 0, log2 := 4, vector := 0, irq := false })],
  host.eqs := [(7, some { base := 8192, log2 := 4, vector := 0, irq := false, groups := 1 })] }

theorem witness_QueueOpcodesAct_creates : Held 0x0101 cqc (hold cqc paired) ∧ cqCreateBad cqc (idle (hold cqc paired)) = false ∧
    Held 0x0102 sqc (hold sqc paired) ∧ sqCreateBad sqc (idle (hold sqc paired)) = false ∧
    Held 0x0105 eqc (hold eqc paired) ∧ eqCreateBad eqc (idle (hold eqc paired)) = false :=
  ⟨held_run (by decide) (by decide), by decide, held_run (by decide) (by decide), by decide, held_run (by decide) (by decide),
   by decide⟩

theorem witness_QueueOpcodesAct_deletes : Held 0x0103 (run 0x0103 [3]) (hold (run 0x0103 [3]) queues) ∧
    Held 0x0104 (run 0x0104 [4]) (hold (run 0x0104 [4]) queues) ∧ Held 0x0106 (run 0x0106 [7]) (hold (run 0x0106 [7]) queues) ∧
    Held 0x0107 (run 0x0107 []) (hold (run 0x0107 []) queues) ∧ queues.sq 3 ≠ none ∧ queues.cq 4 ≠ none ∧ queues.evq 7 ≠ none ∧
    (∀ e ∈ queues.host.sqs, ∀ x, e.2 = some x → x.cq ≠ 4) := by
  refine ⟨held_run (by decide) (by decide), held_run (by decide) (by decide), held_run (by decide) (by decide),
    held_run (by decide) (by decide), by decide, by decide, by decide, fun e he x hx => ?_⟩
  simp only [queues, List.mem_cons, List.not_mem_nil, or_false] at he
  rcases he with rfl | rfl <;> cases hx <;> decide


/-- The endpoint held in reset, beside the three commands that make queues. -/
theorem witness_QueueOpcodesAct_off : endpointOff paired = false ∧
    (let s : State := { paired with host.perst := true }
     endpointOff (hold cqc s) = true ∧ cqCreateBad cqc (idle (hold cqc s)) = false ∧ sqCreateBad sqc (idle (hold sqc s)) = false ∧
     eqCreateBad eqc (idle (hold eqc s)) = false ∧ Held 0x0101 cqc (hold cqc s) ∧ Held 0x0102 sqc (hold sqc s) ∧
     Held 0x0105 eqc (hold eqc s)) :=
  ⟨by decide, by decide, by decide, by decide, by decide, held_run (by decide) (by decide), held_run (by decide) (by decide),
   held_run (by decide) (by decide)⟩

/-- The queue that SQ_DELETE deletes has completion queue 0, and another one keeps its replies. -/
theorem witness_QueueOpcodesAct_replies : ∃ x, queues.sq (fld ((run 0x0103 [3]).cmd.p 0) 5 0) = some x ∧ x.cq = 0 ∧ x.cq ≠ 4 :=
  ⟨_, rfl, by decide, by decide⟩
/-! ## Witnesses: plans and reads -/

/-- A kind 01 entry from lane 0, slot 0; the same from lane 511, slot 6143 (Table 3.2). -/
def fromFirst : BitVec 32 := BitVec.ofNat 32 (2 ^ 31 + 2 ^ 29)
def fromLast : BitVec 32 := BitVec.ofNat 32 (2 ^ 31 + 2 ^ 29 + 511 * 2 ^ 20 + 6143 * 2 ^ 7)

def edit1 : Run := run 0x0201 [1, w64 (6143 + 511 * 2 ^ 16 + fromLast.toNat * 2 ^ 32)]
def load1 : Run := run 0x0202 [w64 4096, w64 (511 + 512)]
/-- Tributary 131071: one range of 6,144 slots from slot 0 of lane 511, unprotected. -/
def trib1 : Run := run 0x0203 [1, w64 131071, w64 (1 + 511 * 2 ^ 8), 0, w64 (6144 * 2 ^ 13), 0, 0, 0, 0, 0]

theorem test_entry_fields : eLane fromLast = 511 ∧ eSlot fromLast = 6143 ∧ entryBad fromLast = false ∧
    entryBad (fromLast + 1) = true ∧ eLeg fromFirst = true := by decide

/-- A short buffer reads as entries of zeros, which are free of faults and fit a page without tributaries. -/
theorem load_zeros (n k f : Nat) (p : Page) (hp : p.tribs = []) :
    ∀ e ∈ ((loadEntries ([] ++ List.replicate n 0)).take k).mapIdx (fun i e => (f + i, e)),
      entryBad e.2 = false ∧ p.entryFits (e.1 / 6144) (e.1 % 6144) e.2 = true := by
  intro e he
  obtain ⟨i, hi, rfl⟩ := List.mem_mapIdx.1 he
  constructor
  · have h := List.mem_of_mem_take (List.getElem_mem hi)
    simp only [loadEntries, List.nil_append, List.mem_flatMap, List.mem_replicate] at h
    obtain ⟨w, ⟨-, rfl⟩, h⟩ := h
    have : ((loadEntries ([] ++ List.replicate n 0)).take k)[i] = 0 := by
      rcases List.mem_cons.1 h with h | h
      · exact h
      · exact List.mem_singleton.1 h
    rw [this]
    exact (by decide : entryBad 0 = false)
  · have : ∀ l s, p.tribAt l s = none := by intro l s; simp [Page.tribAt, Page.tribList, hp]
    simp [Page.entryFits, this]

theorem witness_PlanEditsAndSealsAct_edits : up.isActive = true ∧ Held 0x0201 edit1 (hold edit1 up) ∧
    connEditBad edit1 (idle (hold edit1 up)) = false ∧ Held 0x0202 load1 (hold load1 up) ∧
    (∀ e ∈ ((loadEntries ([] ++ List.replicate (3072 * fld (load1.cmd.p 1) 18 9 - 0) 0)).take
        (fld (load1.cmd.p 1) 18 9 * 6144)).mapIdx (fun i e => (fld (load1.cmd.p 1) 8 0 * 6144 + i, e)), entryBad e.2 = false ∧
      (projected (idle (hold load1 up))).entryFits (e.1 / 6144) (e.1 % 6144) e.2 = true) ∧
    Held 0x0203 trib1 (hold trib1 up) ∧ hasDup ([tribEdit trib1.cmd.params 0].map (·.1)) = false ∧
    (tribApply (projected (idle (hold trib1 up))) [tribEdit trib1.cmd.params 0]).isSome = true :=
  ⟨by decide, held_run (by decide) (by decide), by decide, held_run (by decide) (by decide),
   load_zeros _ _ _ _ (by decide), held_run (by decide) (by decide), by decide, by decide⟩

/-- A member without a route to a gateway, and one with a route. -/
def member : State := { up with flight.hasRec := true, flight.addr := 5, flight.members := [(0, { present := true, gateway := true })] }
def routedMember : State := { member with flight.members := [(0, { present := true, gateway := true, hopsA := some 1 })] }

theorem witness_PlanEditsAndSealsAct_loads : up.isGateway = true ∧ up.hostUp = true ∧ routedMember.isGateway = false ∧ routedMember.isActive = true ∧
    routedMember.hostReach = true ∧ member.isGateway = false ∧ member.isActive = true ∧ member.hostReach = false ∧
    Held 0x0202 load1 (hold load1 routedMember) ∧ Held 0x0202 load1 (hold load1 member) :=
  ⟨by decide, by decide, by decide, by decide, by decide, by decide, by decide, by decide, held_run (by decide) (by decide),
   held_run (by decide) (by decide)⟩

/-- A sealed plan, and a state that holds it. -/
def plan2 : Plan := { gen := 2, lock := 1016, first := 1016, atFrame := 1016, cmd := (run 0x0301 [0]).key }
def planned (p : Plan) : State := { up with planner.sealed := [p] }

def seal18 : Run := runAt 0x0301 1018 [0]

theorem witness_PlanEditsAndSealsAct_seals : (planned plan2).isActive = true ∧ Held 0x0301 seal18 (hold seal18 (planned plan2)) ∧
    (∀ p ∈ (planned plan2).planner.sealed, p.lock = 0 ∨ p.lock + 2 ≤ seal18.cmd.atFrame) ∧
    (projected (idle (hold seal18 (planned plan2)))).tribsFit = true ∧
    Held 0x0302 (run 0x0302 []) (hold (run 0x0302 []) up) ∧ Held 0x0303 (run 0x0303 [2]) (hold (run 0x0303 [2]) (planned plan2)) ∧
    findPlan (fun p => p.gen == 2) (planned plan2) = some 0 ∧ plan2.st ≠ .swapping :=
  ⟨by decide, held_run (by decide) (by decide), by decide, by decide, held_run (by decide) (by decide), held_run (by decide) (by decide),
   by decide, by decide⟩

def standby : State := { up with twin.role := .cold }

theorem witness_ActiveOnlyCommandsRefused : standby.isActive = false ∧ (run 0x0401 [0]).cmd.opcode = 0x0401 ∧
    Has 0x0301 (run 0x0301 [0]) (hold (run 0x0301 [0]) standby) :=
  ⟨by decide, by decide, rfl, by decide, by unfold EngineReaches; decide⟩

/-- Where a buffer is written: by the own endpoint, by the gateway, or nowhere. -/
theorem witness_BufferReplyWritesTheBuffer_reach : up.hostUp = true ∧ routedMember.isGateway = false ∧ routedMember.hostReach = true ∧
    member.hostReach = false ∧ ({ up with host.perst := true } : State).hostReach = false := by decide

theorem witness_PlansMoveThroughTheirStates_planning : findPlan (fun p => p.st == .queued) (planned plan2) = some 0 ∧
    (planned plan2).starting = false ∧ (planned plan2).followsLockage = false := by decide

/-- A plan in PLANNING that connects lane 0 slot 0 to egress slot 0 of lane 0, with its one stage word. -/
def planning : State := planned { plan2 with st := .planning, entries := [(0, fromFirst)] }

theorem witness_PlansMoveThroughTheirStates_routed : ∃ p, planning.planner.sealed[0]? = some p ∧
    (routedPage p [(0, 0x8000)] planning).check = true ∧
    movedLegs planning.fab.image (routedPage p [(0, 0x8000)] planning) = 0 ∧
    findPlan (fun p => p.st == .planning) planning = some 0 := ⟨_, rfl, by decide, by decide, by decide⟩

/-- A plan that makes lane 0 feed n more egress slots: R76 lets a lane have 12,288 legs, R74 routes as many from one lane. -/
def feeds (n : Nat) : List (Nat × BitVec 32) := (List.range n).map (fun i => (i, fromFirst))
def overfull (n : Nat) : State := planned { plan2 with st := .planning, entries := feeds n }

theorem kput_last (m : KMap (BitVec 32)) (i : Nat) (x : BitVec 32) (h : ∀ e ∈ m, e.1 < i) : kput i x m = m ++ [(i, x)] := by
  induction m with
  | nil => rfl
  | cons e m ih =>
    obtain ⟨k, v⟩ := e
    simp [kput, h (k, v) (by simp), ih (fun e he => h e (by simp [he]))]

theorem feeds_entries (n : Nat) :
    (feeds n).foldl (fun (p : Page) e => p.setEntry e.1 e.2) {} = { entries := feeds n } := by
  unfold feeds
  induction n with
  | zero => rfl
  | succ n ih =>
    rw [List.range_succ, List.map_append, List.foldl_append, ih]
    have ne : fromFirst ≠ 0 := by decide
    simp only [List.map_cons, List.map_nil, List.foldl_cons, List.foldl_nil, Page.setEntry, kset, ne, if_false]
    rw [kput_last _ _ _ (by simp)]

theorem feeds_page (n : Nat) : routedPage { plan2 with st := .planning, entries := feeds n } [] (overfull n) =
    { gen := 2, entries := feeds n } := by
  have : (overfull n).fab.image = {} := rfl
  simp [routedPage, Page.edit, this, feeds_entries, plan2, putStage]

theorem feeds_legs (n : Nat) : ∃ ls : List Leg, ({ gen := 2, entries := feeds n } : Page).legs = ls ∧ ls.length = n ∧
    ∀ l ∈ ls, l.inLane = 0 := by
  have e : eLeg fromFirst = true := by decide
  have l : eLane fromFirst = 0 := by decide
  refine ⟨_, rfl, ?_, ?_⟩ <;>
    simp [Page.legs, Page.tribList, feeds, e, l, List.filterMap_map]

/-- More new legs from one lane than R74 counts. -/
theorem r74_bound (old new : Page) (ls : List Leg) (ho : old.legs = []) (hn : new.legs = ls) (h0 : ∀ l ∈ ls, l.inLane = 0)
    (hl : 12288 < ls.length) : r74Covers old new = false := by
  have run : ∀ (b : Page) (ys : List Leg) (a : Bool × List Leg), (∀ l ∈ ys, l.inLane = 0) →
      (ys.foldl (fun (a : Bool × List Leg) l =>
        (a.1 && decide (b.occIn l.inLane + (a.2.filter (fun m => m.inLane == l.inLane)).length +
          b.occOut l.lane + (a.2.filter (fun m => m.lane == l.lane)).length ≤ 12287), l :: a.2)) a).1 = true →
      (∀ l ∈ a.2, l.inLane = 0) → a.2.length + ys.length ≤ 12288 ∨ ys = [] := by
    intro b ys
    induction ys with
    | nil => intro a _ _ _; exact Or.inr rfl
    | cons y ys ih =>
      intro a hy ht ha
      left
      rw [List.foldl_cons] at ht
      have hy0 := hy y (by simp)
      rcases ih _ (fun l hl => hy l (by simp [hl])) ht (by
        intro l hl
        rcases List.mem_cons.1 hl with rfl | h
        · exact hy0
        · exact ha l h) with h | rfl
      · simp only [List.length_cons] at h ⊢
        omega
      · simp only [List.foldl_nil, Bool.and_eq_true, decide_eq_true_eq] at ht
        have : a.2.filter (fun m => m.inLane == y.inLane) = a.2 := List.filter_eq_self.2 (fun l hl => by simp [ha l hl, hy0])
        rw [this] at ht
        simp only [List.length_cons, List.length_nil]
        omega
  cases h : r74Covers old new with
  | false => rfl
  | true =>
    unfold r74Covers at h
    simp only [ho, hn, List.contains_nil, Bool.not_false, List.filter_true] at h
    rcases run _ ls (true, []) h0 h (by simp) with h | rfl
    · simp only [List.length_nil] at h
      omega
    · simp at hl

theorem witness_PlansMoveThroughTheirStates_noRoute : ∃ p, (overfull 12289).planner.sealed[0]? = some p ∧
    findPlan (fun p => p.st == .planning) (overfull 12289) = some 0 ∧ (routedPage p [] (overfull 12289)).budgetOk = false ∧
    r74Covers (overfull 12289).fab.image (routedPage p [] (overfull 12289)) = false := by
  refine ⟨{ plan2 with st := .planning, entries := feeds 12289 }, rfl, rfl, ?_⟩
  generalize hn : 12289 = n
  obtain ⟨ls, hl, len, h0⟩ := feeds_legs n
  rw [feeds_page]
  constructor
  · rw [Page.budgetOk, List.all_eq_false]
    refine ⟨0, by simp, ?_⟩
    rw [Page.legsOf, hl, List.filter_eq_self.2 (fun l h => by simp [h0 l h]), len, ← hn]
    decide
  · exact r74_bound _ _ ls rfl hl h0 (by omega)

theorem witness_PlansMoveThroughTheirStates_loading :
    findPlan (fun p => p.st == .planned) (planned { plan2 with st := .planned }) = some 0 ∧
    (planned { plan2 with st := .planned }).planner.credit = true ∧ pageHeld (planned plan2) = false ∧
    (planned plan2).fnDown 4 = false ∧ (planned plan2).reaches 4 [0, 1] = true ∧
    findPlan (fun p => p.st == .loading) (planned { plan2 with st := .loading }) = some 0 ∧
    (planned plan2).fab.image.check = true ∧
    ({ (planned plan2).fab.image with stage := [(0, 0x8000)] } : Page).check = false := by decide

def lockAt : Run := runAt 0x0306 1016 [2]

theorem witness_PlansMoveThroughTheirStates_held : Held 0x0306 lockAt (hold lockAt (planned { plan2 with st := .held })) ∧
    findPlan (fun p => p.gen == fld (lockAt.cmd.p 0) 31 0 && p.st == .held) (planned { plan2 with st := .held }) = some 0 ∧
    findPlan (fun p => p.lock == 1000 + 1 && p.st != .swapping && decide (p.first + p.limit ≤ 1000 + 1) &&
        armFails p (1000 + 1) { planned { plan2 with lock := 1001, first := 1000, limit := 1 } with time.row := 249 } != 0)
      { planned { plan2 with lock := 1001, first := 1000, limit := 1 } with time.row := 249 } = some 0 :=
  ⟨held_run (by decide) (by decide), by decide, by decide⟩

/-- The row 3 tick of a lockage from generation 1 to 2. -/
def swapping : State :=
  { planned { plan2 with st := .swapping } with fab.swap := some 2, fab.stby := { gen := 2 }, time.row := 3 }

theorem witness_PlansMoveThroughTheirStates_lockage : swapping.fab.swap = some 2 ∧ swapping.fab.stby.gen ≠ 0 ∧
    swapping.planner.sealed.find? (fun p => p.st == .swapping) = some { plan2 with st := .swapping } ∧
    ({ swapping with time.row := 0 } : State).time.row < 2 ∧ ({ swapping with time.row := 248 } : State).time.row < 249 := by
  decide

/-- R98, R101, R105: the pages change places and the reply is written. -/
theorem test_lockage_done : (lockageDone swapping).fab.act.gen = 2 ∧ (lockageDone swapping).fab.stby.gen = 1 ∧
    (lockageDone swapping).planner.sealed = [] ∧ (lockageDone swapping).planner.credit = true := by decide

theorem test_generations : genAdd 0xFFFFFFFF 1 = 1 ∧ genAdd 1 4 = 5 ∧ genAdd 0xFFFFFFFF 0 = 0xFFFFFFFF := by decide

theorem witness_GenerationsWrapToOne : 1 ≤ 0xFFFFFFFF ∧ 0xFFFFFFFF < 2 ^ 32 := by decide

theorem witness_BufferReplyWritesTheBuffer : up.isGateway = true ∧ 2 ^ 64 - 8 + 8 * 1 ≤ 2 ^ 64 := by decide

def onKeeper : State := { up with twin.role := .keeper, boot.straps.keeperOnly := true }

theorem witness_StatusReadsAnswer : Held 0x0701 (run 0x0701 []) (hold (run 0x0701 []) up) ∧
    Held 0x0703 (run 0x0703 []) (hold (run 0x0703 []) onKeeper) ∧ Held 0x0710 (run 0x0710 []) (hold (run 0x0710 []) standby) ∧
    Held 0x060A (run 0x060A []) (hold (run 0x060A []) up) ∧ Held 0x0907 (run 0x0907 [16]) (hold (run 0x0907 [16]) up) ∧
    Held 0x0A03 (run 0x0A03 []) (hold (run 0x0A03 []) up) ∧ Held 0x0B01 (run 0x0B01 []) (hold (run 0x0B01 []) up) ∧
    Held 0x0B11 (run 0x0B11 []) (hold (run 0x0B11 []) up) ∧ Held 0x0605 (run 0x0605 []) (hold (run 0x0605 []) up) ∧
    Held 0x0610 (run 0x0610 []) (hold (run 0x0610 []) up) ∧ Held 0x0A06 (run 0x0A06 []) (hold (run 0x0A06 []) up) :=
  ⟨held_run (by decide) (by decide), held_run (by decide) (by decide), held_run (by decide) (by decide),
   held_run (by decide) (by decide), held_run (by decide) (by decide), held_run (by decide) (by decide),
   held_run (by decide) (by decide), held_run (by decide) (by decide), held_run (by decide) (by decide),
   held_run (by decide) (by decide), held_run (by decide) (by decide)⟩

def locked : State := { up with f.state := .locked, f.selected := some 8 }

theorem witness_StatusReadsAnswer_more : bwNow locked = 0 ∧
    State.progOf { up with host.prog := [run 0x0610 []] } 0x0610 = [run 0x0610 []] ∧ fld (w64 16) 4 0 ≤ 16 ∧
    onKeeper.boot.straps.keeperOnly = true ∧ standby.twin.role ≠ .solo := by decide

/-- A record read with BUF_ADDR 4,096 and word 1. -/
def rd (op : Nat) (w : Nat) : Run := run op [4096, w64 w]

theorem witness_RecordReadsFillTheBuffer_ticked : Held 0x0304 (run 0x0304 [4096]) (hold (run 0x0304 [4096]) up) ∧
    Held 0x0402 (run 0x0402 [4096, w64 (131071 * 2 ^ 32), 1]) (hold (run 0x0402 [4096, w64 (131071 * 2 ^ 32), 1]) up) ∧
    Held 0x0503 (rd 0x0503 (511 + 512)) (hold (rd 0x0503 (511 + 512)) up) ∧
    Held 0x0521 (rd 0x0521 (512 * 512)) (hold (rd 0x0521 (512 * 512)) up) ∧
    ({ rd 0x0503 512 with mem := [1] } : Run).mem = [b2n true] :=
  ⟨held_run (by decide) (by decide), held_run (by decide) (by decide), held_run (by decide) (by decide),
   held_run (by decide) (by decide), by decide⟩

theorem witness_RecordReadsFillTheBuffer_atOnce : Held 0x0603 (rd 0x0603 (24 + 32)) (hold (rd 0x0603 (24 + 32)) up) ∧
    Held 0x0608 (rd 0x0608 256) (hold (rd 0x0608 256) up) ∧
    Held 0x060E (rd 0x060E (1 + 511 * 4 + 2048)) (hold (rd 0x060E (1 + 511 * 4 + 2048)) up) ∧
    Held 0x060E (rd 0x060E (24 * 4 + 2048 + 1024 * 2 ^ 22)) (hold (rd 0x060E (24 * 4 + 2048 + 1024 * 2 ^ 22)) up) ∧
    Held 0x0801 (run 0x0801 [4096]) (hold (run 0x0801 [4096]) up) ∧
    Held 0x0906 (rd 0x0906 (511 + 512)) (hold (rd 0x0906 (511 + 512)) up) ∧
    Held 0x0A05 (run 0x0A05 [4096]) (hold (run 0x0A05 [4096]) up) ∧
    Held 0x0A07 (rd 0x0A07 (12 + 63 * 32 + 2 ^ 23)) (hold (rd 0x0A07 (12 + 63 * 32 + 2 ^ 23)) up) ∧
    63 + 1 ≤ classSize 12 ∧ Held 0x0B22 (rd 0x0B22 1) (hold (rd 0x0B22 1) up) :=
  ⟨held_run (by decide) (by decide), held_run (by decide) (by decide), held_run (by decide) (by decide),
   held_run (by decide) (by decide), held_run (by decide) (by decide), held_run (by decide) (by decide),
   held_run (by decide) (by decide), held_run (by decide) (by decide), by decide, held_run (by decide) (by decide)⟩

/-- Well-formed parameters of the record reads, at the last object of each range, and ill-formed ones: an unaligned buffer,
no record, one record more than there are. -/
theorem witness_RecordReadsFillTheBuffer_good : sizeOk (rd 0x0503 (511 + 512)) = true ∧
    ((rd 0x0503 (511 + 512)).cmd.p 0).toNat % 4096 = 0 ∧ ((run 0x0304 [4095]).cmd.p 0).toNat % 4096 ≠ 0 ∧
    (let w := (rd 0x0503 (511 + 512)).cmd.p 1;
      fld w 18 9 ≠ 0 ∧ fld w 8 0 + fld w 18 9 ≤ 512 ∧ fld w 63 19 = 0) ∧
    (let w := (rd 0x0503 (511 + 1024)).cmd.p 1;
      512 < fld w 8 0 + fld w 18 9) ∧
    (let w := (rd 0x0603 (24 + 32)).cmd.p 1;
      fld w 63 10 = 0 ∧ fld w 9 5 ≠ 0 ∧ fld w 4 0 + fld w 9 5 ≤ 25) ∧
    fld ((rd 0x0603 25).cmd.p 1) 9 5 = 0 ∧
    (let w := (rd 0x0608 256).cmd.p 1;
      fld w 63 9 = 0 ∧ fld w 8 0 ≠ 0 ∧ fld w 8 0 ≤ 256) ∧ 256 < fld ((rd 0x0608 257).cmd.p 1) 8 0 ∧
    (let w := (rd 0x0A07 (12 + 63 * 32 + 2 ^ 23)).cmd.p 1;
      fld w 63 41 = 0 ∧ fld w 4 0 ≤ 12 ∧ fld w 22 5 + fld w 40 23 ≤ classSize (fld w 4 0)) ∧
    12 < fld ((rd 0x0A07 13).cmd.p 1) 4 0 ∧ fld ((rd 0x0B22 1).cmd.p 1) 63 1 = 0 ∧ fld ((rd 0x0B22 2).cmd.p 1) 63 1 ≠ 0 := by
  decide

theorem witness_RecordReadsFillTheBuffer_parameters :
    (let r := run 0x0402 [4096, w64 (131071 * 2 ^ 32), 1];
      fld (r.cmd.p 1) 31 0 = 0 ∧ fld (r.cmd.p 1) 63 49 = 0 ∧ fld (r.cmd.p 2) 63 18 = 0 ∧ fld (r.cmd.p 2) 17 0 ≠ 0 ∧
      fld (r.cmd.p 1) 48 32 + fld (r.cmd.p 2) 17 0 ≤ 131072) ∧
    fld ((run 0x0402 [4096, 0, 0]).cmd.p 2) 17 0 = 0 ∧
    (let w := (rd 0x060E (1 + 511 * 4 + 2048)).cmd.p 1;
      fld w 63 33 = 0 ∧ fld w 20 11 ≠ 0 ∧ fld w 1 0 = 1 ∧ fld w 10 2 + fld w 20 11 ≤ 512 ∧ fld w 32 22 = 0) ∧
    (let w := (rd 0x060E (24 * 4 + 2048 + 1024 * 2 ^ 22)).cmd.p 1;
      fld w 63 33 = 0 ∧ fld w 20 11 ≠ 0 ∧ fld w 1 0 = 0 ∧ fld w 10 2 + fld w 20 11 ≤ 25 ∧ fld w 32 22 ≠ 0 ∧ fld w 32 22 ≤ 1024) ∧
    fld ((rd 0x060E (2 + 2048)).cmd.p 1) 1 0 = 2 := by decide

/-- A device whose commands in progress are one sampled read. -/
def reading (r : Run) : State := { up with host.prog := [{ r with mem := [b2n true] }] }

theorem witness_RecordReadsFillTheBuffer_sampled (r : Run) (h : tickReads.contains r.cmd.opcode = true) :
    (reading r).host.prog.filter (fun x => tickReads.contains x.cmd.opcode) = [{ r with mem := [b2n true] }] ∧
    (reading r).reaches 1 [3] = true ∧ (reading r).reaches 1 [4] = true ∧ (reading r).reaches 1 [2] = true := by
  refine ⟨?_, by rfl, by rfl, by rfl⟩
  simp only [reading, List.filter_cons, h, if_true, List.filter_nil]

theorem witness_RecordReadsFillTheBuffer_unreached :
    ({ up with mx.wedged := [2] } : State).reaches 1 [2] = false := by decide

/-- Words of generation 1, from the first byte of the last 4,096 of a page (Table 4.9). -/
def pageRd : Run := run 0x0305 [4096, 1, w64 (12578816 + 4096 * 2 ^ 24)]
def tribRd : Run := run 0x0204 [4096, w64 (1 + 131071 * 2 ^ 32), 1]

theorem witness_DelayedReadsEndAtTheTick_waits : Held 0x0305 pageRd (hold pageRd up) ∧ Held 0x0204 tribRd (hold tribRd up) ∧
    (pageNamed 1 up).isSome = true ∧ pageNamed 3 up = none ∧
    fld (pageRd.cmd.p 2) 23 0 + fld (pageRd.cmd.p 2) 47 24 ≤ 12582912 ∧ fld (tribRd.cmd.p 1) 48 32 + 1 ≤ 131072 ∧
    State.progOf { up with host.prog := [{ pageRd with mem := [1, 1] }] } 0x0305 = [{ pageRd with mem := [1, 1] }] :=
  ⟨held_run (by decide) (by decide), held_run (by decide) (by decide), by decide, by decide, by decide, by decide, by decide⟩

/-- The last counter of bank 15; the last tributary's fixed counters. -/
def ctrRd : Run := run 0x0902 [4096, w64 (15 + 255 * 16 + 4096)]
def fixRd : Run := run 0x0905 [4096, w64 (1 + 131071 * 2 + 2 ^ 19)]

/-- The queue of the run is of privilege MAINTENANCE. -/
def maintained : State := { up with
  host.sqs := [(1, some { base := 0, cq := 0, log2 := 4, priv := 2, credits := 16, session := 5 })] }

theorem witness_DelayedReadsEndAtTheTick_counters : Held 0x0902 ctrRd (hold ctrRd maintained) ∧ crCount ctrRd = 1 ∧
    crSource ctrRd = 0 ∧ privOf ctrRd.key (idle (hold ctrRd maintained)) = 2 ∧ Held 0x0905 fixRd (hold fixRd up) ∧
    frCount fixRd = 1 ∧ frFirst fixRd + frCount fixRd = 131072 ∧ frKind fixRd = true ∧ frInterval fixRd = 0 ∧
    Held 0x0B02 (run 0x0B02 [4096]) (hold (run 0x0B02 [4096]) up) ∧
    Held 0x0B03 (run 0x0B03 [4096, 1, 2, 3, 4]) (hold (run 0x0B03 [4096, 1, 2, 3, 4]) up) :=
  ⟨held_run (by decide) (by decide), by decide, by decide, by decide, held_run (by decide) (by decide), by decide, by decide,
   by decide, by decide, held_run (by decide) (by decide), held_run (by decide) (by decide)⟩

/-! ## Witnesses: protection and lanes -/

def withLane (l : Lane) : State := { up with lanes := [(511, l)] }
def withSel (x : Sel) : State := { up with sels := [(131071, x)] }

/-- Tributary 131071 protected: copy A on lane 0, copy B on lane 511, one slot, revertive (Table 5.1). -/
def protPage : Page :=
  { gen := 1, tribs := [(8 * 131071, w64 (1 + 16 + 32 + 511 * 2 ^ 26)), (8 * 131071 + 2, w64 (2 ^ 13))] }
def protSel (x : Sel) : State := { withSel x with fab.act := protPage }

theorem witness_SelectorEventsAct_hold : ∃ d, ((withSel { holdDue := some 300000 }).sel 131071).holdDue = some d ∧
    d ≤ (withSel { holdDue := some 300000 }).time.rows ∧ ((withSel { holdDue := some 300000 }).sel 131071).expired = false ∧
    ((withSel { holdDue := some 300000, idle := false }).sel 131071).idle = false := ⟨_, rfl, by decide⟩

theorem witness_SelectorEventsAct_sf : (protSel {}).switches = true ∧ isProtected 131071 (protSel {}) = true ∧
    tSfRows ((readoutPage (protSel {})).tribRec 131071) ≤ ((protSel { invA := 4 }).sel 131071).invA ∧
    tSfRows ((readoutPage (protSel {})).tribRec 131071) ≤ ((protSel { invB := 4 }).sel 131071).invB ∧
    tALane ((readoutPage (protSel {})).tribRec 131071) = 0 ∧ tBLane ((readoutPage (protSel {})).tribRec 131071) = 511 ∧
    ((protSel {}).lane 0).sfTrigger = false ∧ ((protSel {}).lane 511).sfTrigger = false ∧
    250 ≤ ((protSel { valA := 250 }).sel 131071).valA ∧ 250 ≤ ((protSel { valB := 250 }).sel 131071).valB ∧
    ((protSel { st := .wtr, wtrDue := some 300000 }).sel 131071).wtrDue = some 300000 := by decide

def protect : Run := run 0x0401 [w64 (131071 + 4 * 2 ^ 17)]

theorem witness_SelectorEventsAct_command : Held 0x0401 protect (hold protect (protSel {})) ∧
    isProtected (fld (protect.cmd.p 0) 16 0) (protSel {}) = true ∧ fld (protect.cmd.p 0) 19 17 ≤ 4 ∧
    ({ st := .nrA, sfB := true } : Sel).lo = false ∧ ({ ms := some true } : Sel).strong true = none ∧
    ({ st := .wtr, wtrHit := true } : Sel).strong false = none ∧ tRev [w64 32] = true ∧ tSdSw [w64 64] = true :=
  ⟨held_run (by decide) (by decide), by decide, by decide, by decide, by decide, by decide, by decide, by decide⟩

/-- An entry that takes slot 9 of ingress lane 0, for slot 7 of lane 5, and a page with it and more tributary records. -/
def legEntry : Nat × BitVec 32 := (6144 * 5 + 7, BitVec.ofNat 32 (2 ^ 31 + 2 ^ 29 + 9 * 128))
def sendingPage (es : List (Nat × BitVec 32)) (ts : List (Nat × W64)) : State :=
  { up with fab.act := { gen := 1, entries := es, tribs := ts } }
/-- Tributary 3 of lane 5, one slot from 7 on, protected or not. -/
def tribOf (prot : Bool) : List (Nat × W64) := [(24, w64 (1 + 16 * b2n prot + 5 * 256)), (26, w64 (7 + 2 ^ 13))]
def ofTrib (s : State) : Option (Nat × List W64) :=
  (laneTribs (readoutPage s) 5).find? (fun t => (memberOf (tRanges t.2) 7).isSome)
/-- The words of copies A and B of slot 7 as they come out of the egress half. -/
def copies (a b : Bool) (s : State) : State :=
  { s with fab.read := [(5 * 12288 + 7, some (11, a)), (5 * 12288 + 6144 + 7, some (22, b))] }

theorem witness_SelectorEventsAct_readout_none :
    (6144 * 5 + 7, legEntry.2) ∈ (readoutPage (sendingPage [legEntry, (6144 * 5 + 8, 0)] [])).entries ∧
    ofTrib (sendingPage [legEntry] []) = none ∧ eLeg legEntry.2 = true ∧ eLeg 0 = false := by decide

theorem witness_SelectorEventsAct_readout_trib :
    (∃ x, ofTrib (sendingPage [legEntry] (tribOf true)) = some x ∧ tProt x.2 = true ∧ tNoSubst x.2 = false) ∧
    (∃ x, ofTrib (sendingPage [legEntry] (tribOf false)) = some x ∧ tProt x.2 = false) := by
  refine ⟨⟨_, rfl, by decide, by decide⟩, ⟨_, rfl, by decide⟩⟩

theorem witness_SelectorEventsAct_readout_copies :
    half (copies true false up).fab.read 5 7 = (11, true) ∧ half (copies false true up).fab.read 5 7 = (11, false) ∧
    half (copies false true up).fab.read 5 (6144 + 7) = (22, true) ∧ (up.sel 3).sel = false ∧ (up.sel 3).st ≠ .lo ∧
    half (copies false false up).fab.read 5 (6144 + 7) = (22, false) := by decide

/-- R123: copy A is sent, copy B for it where it is invalid, and the held word where both are. -/
theorem test_readout :
    let send := fun (a b : Bool) =>
      kget 0 (readoutLane 5 { copies a b (sendingPage [legEntry] (tribOf true)) with fab.words := [(6144 * 5 + 7, 33)] }).fab.words (6144 * 5 + 7)
    send true true = 11 ∧ send false true = 22 ∧ send false false = 33 := by decide

/-- R133, R135: a selector leaves SF_A for WTR with copy B selected when the failure clears, for 300 s by default. -/
theorem test_selector_wtr : (({ st := .sfA, sel := true } : Sel).decideSel [32] 1000).st = .wtr ∧
    (({ st := .sfA, sel := true } : Sel).decideSel [32] 1000).wtrDue = some 600001000 := by decide

/-- A lane in service, with what its runs have counted. -/
def serving : Lane := { bring := .inService, hunter.aligned := true, delin.sync := true }

theorem witness_LaneDefectsRegister : (withLane serving).ticking = true ∧
    ((withLane { serving with noSigRun := 2 }).lane 511).noSigRun = 2 ∧
    ((withLane { serving with los := true, sigRun := 250 }).lane 511).bring = .inService ∧
    4 ≤ ((withLane { serving with outRun := 4 }).lane 511).outRun ∧
    250 ≤ ((withLane { serving with lora := true, inRun := 250 }).lane 511).inRun ∧
    ((withLane { serving with frmRow := 299500 }).lane 511).frmRow + 500 ≤ (withLane serving).time.rows ∧
    State.nextFrame { withLane { serving with degOpen := true } with time.frame := 7999, time.row := 249 } %
      degInt { serving with degOpen := true } = 0 ∧
    ((withLane { serving with degOpen := true, degEnd := true }).lane 511).degEnd = true := by decide

/-- R191 with the defaults of Table 7.2: 4,250,000 corrected symbols make an interval bad, 4,249,999 do not; the seventh of a
run declares. -/
theorem test_deg_thresholds : degBad { degSym := 4250000 } = true ∧ degBad { degSym := 4249999 } = false ∧
    degBad { degUnc := 1 } = true ∧ degM {} ≤ ({ degSym := 4250000, badRun := 6 } : Lane).badRun + 1 ∧
    degM {} ≤ ({ goodRun := 6 } : Lane).goodRun + 1 ∧
    (({ degSym := 4250000, badRun := 6 } : Lane).classDeg).degReg = some true := by decide

def laneCmd (op : Nat) : Run := run op [w64 (511 + 512 + 2 ^ 19)]
def laneRun1 : Run := run 0x0502 [w64 (511 + 512)]
def degCmd : Run := run 0x0520 [w64 (511 + 512), w64 (8 * 2 ^ 48), 10]

theorem witness_LaneCommandsAct : Held 0x0501 (laneCmd 0x0501) (hold (laneCmd 0x0501) up) ∧
    Held 0x0502 laneRun1 (hold laneRun1 up) ∧ Held 0x0504 (laneCmd 0x0504) (hold (laneCmd 0x0504) up) ∧
    fld ((laneCmd 0x0501).cmd.p 0) 8 0 + fld ((laneCmd 0x0501).cmd.p 0) 18 9 ≤ 512 ∧
    fld ((laneCmd 0x0501).cmd.p 0) 63 20 = 0 ∧ fld ((laneCmd 0x0502).cmd.p 0) 63 19 ≠ 0 ∧
    Held 0x0520 degCmd (hold degCmd up) ∧ degRecOk (degCmd.cmd.p 1) (degCmd.cmd.p 2) = true ∧
    degRecOk (w64 (7 * 2 ^ 48)) 0 = false ∧ degRecOk 0 11 = false ∧ degRecOk 0 1 = false :=
  ⟨held_run (by decide) (by decide), held_run (by decide) (by decide), held_run (by decide) (by decide), by decide, by decide,
   by decide, held_run (by decide) (by decide), by decide, by decide, by decide, by decide⟩

/-- One LANE_TEST waits among other commands. -/
theorem witness_LaneCommandsAct_tick :
    ({ up with host.prog := [laneCmd 0x0504, run 0x0903 [1]] } : State).host.prog.filter
      (fun x => [0x0501, 0x0502, 0x0504].contains x.cmd.opcode) = [laneCmd 0x0504] ∧
    fld ((laneCmd 0x0504).cmd.p 0) 8 0 ≤ 511 ∧ 511 < fld ((laneCmd 0x0504).cmd.p 0) 8 0 + fld ((laneCmd 0x0504).cmd.p 0) 18 9 ∧
    (laneCmd 0x0504).cmd.opcode = 0x0504 ∧ (laneCmd 0x0501).cmd.opcode = 0x0501 ∧ laneRun1.cmd.opcode = 0x0502 := by decide

theorem witness_BringUpFollowsItsTable : (withLane {}).ticking = true ∧
    2 ≤ ((withLane { bring := .signalWait, sigRun := 2 }).lane 511).sigRun ∧
    ((withLane { bring := .adapt }).lane 511).bring = .adapt ∧
    ((withLane { bring := .identify, attemptDue := some 299999 }).lane 511).bring.trying = true ∧ 299999 < up.time.rows ∧
    ((withLane { bring := .idFault }).lane 511).idFaultFrame + 2000000 < ({ up with time.rows := 2000001 } : State).time.rows ∧
    ((withLane { bring := .phase, goodFrame0 := true, inRun := 250 }).lane 511).goodFrame0 = true := by decide

/-- The marker of identity 1, with CHECK bits flipped, alone in codeword 0 of a lane frame (Table 6.2, R142). -/
def mark (flip : Nat) : MarkerRx :=
  { pos := 5, word := linePams 2720 (rsEncode (((markerWord 1).toNat ^^^ flip) * 2 ^ 4980)) }

/-- 80 bits as they stand at a marker position. -/
def shown (b : BitVec 80) : MarkerRx := { pos := 5, word := linePams 40 b.toNat }

theorem mark_check (flip : Nat) (h : flip < 2 ^ 160) : markerOf (mark flip) false = (markerWord 1).toNat ^^^ flip := by
  have lt : (markerWord 1).toNat ^^^ flip < 2 ^ 160 := Nat.xor_lt_two_pow (markerWord 1).isLt h
  unfold markerOf mark
  rw [rsDecode_sent _ (by
    calc ((markerWord 1).toNat ^^^ flip) * 2 ^ 4980 < 2 ^ 160 * 2 ^ 4980 := Nat.mul_lt_mul_of_pos_right lt (Nat.two_pow_pos _)
      _ = 2 ^ 5140 := by rw [← Nat.pow_add])]
  simp [Nat.shiftRight_eq_div_pow]

theorem test_marker_forms : matchForm (markerBits (shown pattern)) = some false ∧
    matchForm (markerBits (shown (pattern ^^^ 7))) = some false ∧ matchForm (markerBits (shown (pattern ^^^ 15))) = none ∧
    matchForm (markerBits (shown patternInv)) = some true := by decide +kernel

set_option maxRecDepth 100000 in
theorem witness_MarkersMoveTheHunter_good : matchForm (markerBits (mark 0)) = some false ∧ checkGood (mark 0) false = true ∧
    matchForm (markerBits (mark 1)) = some false ∧ checkGood (mark 1) false = false := by
  refine ⟨by decide +kernel, ?_, by decide +kernel, ?_⟩ <;> unfold checkGood markerId markerCheck <;>
    rw [mark_check _ (by decide)] <;> decide +kernel

theorem witness_MarkersMoveTheHunter : ((withLane { bring := .align }).lane 511).bring.hunts = true ∧
    logicalLane 511 (withLane {}) = 511 ∧ (({} : Hunter).step (shown pattern)).aligned = false ∧
    ({ cands := [(5, false)] } : Hunter).cands.find? (fun c => c.1 == (shown pattern).pos) = some ((shown pattern).pos, false) ∧
    (({ aligned := true, pos := 5, miss := 3 } : Hunter).step (shown (pattern ^^^ 15))).aligned = false ∧
    (({ aligned := true, pos := 6 } : Hunter).step (shown pattern)) = { aligned := true, pos := 6 } := by decide +kernel

/-- A header of Table 6.6 with its HEC: TYPE, ROW, INDEX, SRC_VALID, TYPE_DATA. -/
def header (type row index : Nat) (valid : Bool) (data : Nat) : W64 :=
  let w := pack [(63, 60, type), (59, 48, row), (47, 43, index), (42, 42, b2n valid), (23, 16, data)]
  w ||| w64 (crc16 48 (fld w 63 16)).toNat

/-- A barge of 8,256 bits, unscrambled (state 0 of the scrambler gives zeros), in two codewords received without an error. -/
def sent (v : Nat) (arrival : Int) : BargeRx :=
  let w := v <<< 2024
  { pos := 8255, first := 1, off := 0, arrival := arrival,
    words := [linePams 2720 (rsEncode (w >>> 5140)), linePams 2720 (rsEncode (w % 2 ^ 5140))] }

theorem scramble_zero (n : Nat) : (scramble n 0 0).1 = 0 := by
  induction n with
  | zero => rfl
  | succ n ih => simpa [scramble] using ih

theorem scrambleSkip_zero (n : Nat) : scrambleSkip n 0 = 0 := by
  induction n with
  | zero => rfl
  | succ n ih => simpa [scrambleSkip] using ih

/-- What an aligned receiver in the normal form reads of it. -/
theorem read_sent (v : Nat) (a : Int) (h : Hunter) (hv : v < 2 ^ 8256) (h0 : h.seed = 0) (hi : h.inv = false) :
    readBarge (sent v a) h = { hdr := BitVec.ofNat 64 (v >>> 8192), body := v % 2 ^ 8192, uncorr := false } := by
  have w : v <<< 2024 < 2 ^ 10280 := by
    rw [Nat.shiftLeft_eq]
    calc v * 2 ^ 2024 < 2 ^ 8256 * 2 ^ 2024 := Nat.mul_lt_mul_of_pos_right hv (Nat.two_pow_pos _)
      _ = 2 ^ 10280 := by rw [← Nat.pow_add]
  have top : v <<< 2024 >>> 5140 < 2 ^ 5140 := by
    rw [Nat.shiftRight_eq_div_pow]
    exact Nat.div_lt_of_lt_mul (by rw [← Nat.pow_add]; exact w)
  have low := Nat.mod_lt (v <<< 2024) (Nat.two_pow_pos 5140)
  have join : (v <<< 2024 >>> 5140) <<< 5140 ^^^ (v <<< 2024) % 2 ^ 5140 = v <<< 2024 := by
    generalize v <<< 2024 = x
    refine Nat.eq_of_testBit_eq fun j => ?_
    rw [Nat.testBit_xor, Nat.testBit_shiftLeft, Nat.testBit_shiftRight, Nat.testBit_mod_two_pow]
    by_cases hj : j < 5140
    · simp [hj, Nat.not_le.2 hj]
    · have : 5140 + (j - 5140) = j := by omega
      simp [hj, this]
      omega
  have e : bargeStream (sent v a) h.seedPrev.toNat 0 [v <<< 2024 >>> 5140, (v <<< 2024) % 2 ^ 5140] = v := by
    unfold bargeStream cut sent
    simp only [List.length_cons, List.length_nil, List.foldl_cons, List.foldl_nil, scrambleSkip_zero, scramble_zero,
      Nat.zero_shiftLeft, Nat.zero_xor, join, Nat.xor_zero]
    rw [if_neg (by omega), Nat.shiftLeft_shiftRight, Nat.mod_eq_of_lt hv]
  unfold readBarge
  simp only [sent, List.map_cons, List.map_nil, hi, h0, rsDecode_sent _ top, rsDecode_sent _ low]
  have e' : bargeStream (sent v a) h.seedPrev.toNat 0 [v <<< 2024 >>> 5140, (v <<< 2024) % 2 ^ 5140] = v := e
  simp only [sent] at e'
  simp [e']

/-- A barge with header w and the payload of the words. -/
def barge (w : W64) (ws : List W64) (a : Int) : BargeRx := sent (ws.foldl (fun a x => a * 2 ^ 64 + x.toNat) w.toNat) a

def bits (w : W64) (ws : List W64) : BargeBits :=
  let v := ws.foldl (fun a x => a * 2 ^ 64 + x.toNat) w.toNat
  { hdr := BitVec.ofNat 64 (v >>> 8192), body := v % 2 ^ 8192, uncorr := false }

theorem foldl_words (l : List W64) : ∀ n, l.foldl (fun a x => a * 2 ^ 64 + x.toNat) n =
    n * 2 ^ (64 * l.length) + l.foldl (fun a x => a * 2 ^ 64 + x.toNat) 0 ∧
    l.foldl (fun a x => a * 2 ^ 64 + x.toNat) 0 < 2 ^ (64 * l.length) := by
  induction l with
  | nil => intro n; simp
  | cons x l ih =>
    intro n
    have hx := x.isLt
    have h := ih (n * 2 ^ 64 + x.toNat)
    have h0 := ih (0 * 2 ^ 64 + x.toNat)
    have e : 2 ^ (64 * (x :: l).length) = 2 ^ 64 * 2 ^ (64 * l.length) := by
      rw [← Nat.pow_add, List.length_cons, show 64 * (l.length + 1) = 64 + 64 * l.length by omega]
    rw [List.foldl_cons, List.foldl_cons, h.1, h0.1, e]
    constructor
    · ring
    · have : (x.toNat + 1) * 2 ^ (64 * l.length) ≤ 2 ^ 64 * 2 ^ (64 * l.length) := Nat.mul_le_mul_right _ hx
      have := h.2
      linarith

theorem read_barge (w : W64) (ws : List W64) (a : Int) (h : Hunter) (hw : ws.length = 128) (h0 : h.seed = 0) (hi : h.inv = false) :
    readBarge (barge w ws a) h = bits w ws := by
  refine read_sent _ a h ?_ h0 hi
  have f := foldl_words ws w.toNat
  rw [f.1]
  have g := f.2
  rw [hw] at g ⊢
  have : (w.toNat + 1) * 2 ^ (64 * 128) ≤ 2 ^ 64 * 2 ^ (64 * 128) := Nat.mul_le_mul_right _ w.isLt
  rw [show (2 : Nat) ^ 8256 = 2 ^ 64 * 2 ^ (64 * 128) by rw [← Nat.pow_add]]
  linarith

theorem bits_hdr (w : W64) (ws : List W64) (hw : ws.length = 128) : (bits w ws).hdr = w := by
  have f := foldl_words ws w.toNat
  simp only [bits]
  rw [f.1]
  have g := f.2
  rw [hw] at g ⊢
  rw [Nat.shiftRight_eq_div_pow, show 64 * 128 = 8192 from rfl, Nat.mul_comm, Nat.mul_add_div (Nat.two_pow_pos _),
    Nat.div_eq_of_lt g]
  simp

/-- A lane that receives barges at position 8,255, in network row 250,010, and has had barge 23 of row 250,011. -/
def receiving : Lane := { serving with delin.pos := 8255, got := [24 * 250011 + 22],
                                       basin := [(24 * 250010 + 23, some { words := [5], tag := true })] }

/-- A barge of a type whose header has this ROW, with index 23 and SRC_VALID 1. -/
def data (type row : Nat) (arrival : Int) : BargeRx := barge (header type row 23 true 0) (List.replicate 128 0) arrival

theorem data_read (type row : Nat) (arrival : Int) (l : Lane) (h0 : l.hunter.seed = 0) (hi : l.hunter.inv = false) :
    received 511 (data type row arrival) (withLane l) = bits (header type row 23 true 0) (List.replicate 128 0) :=
  read_barge _ _ _ l.hunter (by simp) h0 hi

theorem test_resolveRow : resolveRow 250010 157 = 250013 ∧ resolveRow 250010 153 = 250009 ∧
    resolveRow 0 4095 = -1 := by decide

/-- A DATA barge of row 250,013 (157 modulo 4,096 of R158) at the bound of R175, one 1 ps too early for R24, one of row
250,010. -/
theorem witness_DataRowsArePlaced : Receives 511 (data 1 157 (-450000)) (withLane receiving) ∧
    hType (received 511 (data 1 157 0) (withLane receiving)).hdr = 1 ∧
    hIndex (received 511 (data 1 157 0) (withLane receiving)).hdr = 23 ∧ (withLane receiving).nrn = 250010 ∧
    resolveRow (withLane receiving).nrn (hRow (received 511 (data 1 157 0) (withLane receiving)).hdr) = 250013 ∧
    resolveRow (withLane receiving).nrn (hRow (received 511 (data 1 154 0) (withLane receiving)).hdr) = 250010 ∧
    ((withLane receiving).lane 511).rowPhase 250010 250013 23 1472872 = -500000 ∧
    ((withLane receiving).lane 511).rowPhase 250010 250013 23 472871 < -1500000 ∧
    -1500000 ≤ ((withLane receiving).lane 511).rowPhase 250010 250010 23 0 ∧
    tooLate 250010 250009 23 0 = true ∧ resolveRow (withLane receiving).nrn (hRow (received 511 (data 1 153 0) (withLane receiving)).hdr) = 250009 ∧
    tooLate 250010 250010 23 22872 = false ∧ tooLate 250010 250010 23 22873 = true ∧
    ((withLane receiving).lane 511).discards.contains 250009 = false ∧ ((withLane receiving).lane 511).discards.contains 250010 = false ∧
    ((withLane receiving).lane 511).got.contains (24 * 250009 + 23) = false ∧
    ((withLane receiving).lane 511).got.contains (24 * 250010 + 23) = false ∧
    ((withLane receiving).lane 511).discards.contains 250013 = false ∧
    ((withLane receiving).lane 511).got.contains (24 * 250013 + 23) = false ∧
    ((withLane receiving).lane 511).got.contains (24 * 250011 + 22) = true := by
  unfold Receives
  simp only [data_read _ _ _ receiving rfl rfl]
  decide +kernel

/-- A barge of the row being released that comes after its basin has run empty, on a lane in service. -/
theorem witness_DataRowsArePlaced_late : Receives 511 (data 1 154 22873) (withLane receiving) ∧
    resolveRow (withLane receiving).nrn (hRow (received 511 (data 1 154 22873) (withLane receiving)).hdr) = 250010 ∧
    hIndex (received 511 (data 1 154 22873) (withLane receiving)).hdr = 23 ∧ tooLate (withLane receiving).nrn 250010 23 22873 = true ∧
    hType (received 511 (data 1 154 22873) (withLane receiving)).hdr = 1 ∧ receiving.bring = .inService := by
  unfold Receives
  simp only [data_read _ _ _ receiving rfl rfl]
  decide +kernel

/-- A HOLD barge of row 250,011 repeats the barge of row 250,010; one of row 250,014 is too far ahead. -/
theorem witness_DataRowsArePlaced_hold : hType (header 4 155 23 false 0) = 4 ∧ resolveRow 250010 155 = 250011 ∧
    (((withLane receiving).lane 511).held 250010 23 250010).isSome = true ∧ resolveRow 250010 158 = 250014 := by decide +kernel

/-- A running die releases row 250,010 of lane 511. -/
theorem witness_DataRowsArePlaced_release : (withLane receiving).fab.running = true ∧
    (511, receiving) ∈ (withLane receiving).lanes ∧ receiving.bring = .inService ∧
    kget none receiving.basin (24 * (withLane receiving).nrn + 23) = some { words := [5], tag := true } := by decide

/-- R175: the barge of the row that begins enters the space stage and stays readable for HOLD barges. -/
theorem test_release :
    kget none (coreStep (withLane receiving)).fab.ingress (24 * 511 + 23) = some { words := [5], tag := true } ∧
    kget none ((coreStep (withLane receiving)).lane 511).prevRow 23 = some { words := [5], tag := true } ∧
    ((coreStep (withLane receiving)).lane 511).basin = [] := by decide

theorem witness_DataRowsArePlaced_headers : (1 : Nat) ≤ 5 ∧ (23 : Nat) < 24 ∧ (1 : Nat) < 2 ∧ (255 : Nat) < 256 := by decide

/-- A FRAME payload with VERSION 1 and the CRC of R167 is good, whatever else it says (Table 6.8). -/
theorem frameGood_crc (ws : List W64) (h : ws.length = 127) (v : fld (wd ws 0) 63 56 = 1) :
    frameGood (ws ++ [w64 (crc32c (frameBytes (ws ++ [0]))).toNat]) = true := by
  have last : ∀ x : W64, wd (ws ++ [x]) 127 = x := fun x => by simp [wd, List.getD, h]
  have rest : ∀ (x : W64) (i : Nat), i < 127 → wd (ws ++ [x]) i = wd ws i := fun x i hi => by
    simp [wd, List.getD, List.getElem?_append_left, h, hi]
  have bytes : ∀ x : W64, frameBytes (ws ++ [x]) =
      ((List.range 127).flatMap (fun i => beBytes 8 (wd ws i).toNat)) ++ beBytes 4 (fld x 63 32) := fun x => by
    unfold frameBytes
    rw [last, List.flatMap_def, List.flatMap_def,
      List.map_congr_left (fun i hi => by rw [rest x i (List.mem_range.1 hi)])]
  have hi : ∀ c : BitVec 32, fld (w64 c.toNat) 63 32 = fld (0 : W64) 63 32 := fun c => by
    have := c.isLt
    simp only [fld, w64, BitVec.toNat_ofNat, Nat.shiftRight_eq_div_pow]
    simp
    omega
  have lo : ∀ c : BitVec 32, fld (w64 c.toNat) 31 0 = c.toNat := fun c => by
    have := c.isLt
    simp only [fld, w64, BitVec.toNat_ofNat]
    omega
  unfold frameGood
  rw [rest _ 0 (by omega), v, last, lo, bytes, hi, ← bytes]
  simp

/-- The words of a good FRAME barge, and a barge with them. -/
def frameWords : List W64 :=
  let ws : List W64 := w64 (2 ^ 56) :: List.replicate 126 0
  ws ++ [w64 (crc32c (frameBytes (ws ++ [0]))).toNat]

def fill (type data : Nat) (ws : List W64) : BargeRx := barge (header type 154 0 false data) ws 0

theorem fill_read (type data : Nat) (ws : List W64) (l : Lane) (hw : ws.length = 128) (h0 : l.hunter.seed = 0)
    (hi : l.hunter.inv = false) :
    received 511 (fill type data ws) (withLane l) = bits (header type 154 0 false data) ws :=
  read_barge _ _ _ l.hunter hw h0 hi

set_option maxRecDepth 100000 in
theorem bits_frame : (bits (header 3 154 0 false 0) frameWords).words = frameWords ∧
    (bits (header 5 154 0 false 7) (testPayload 7)).words = testPayload 7 ∧ (testPayload 7).length = 128 := by decide +kernel

theorem witness_FillBargesAct_goodFrame : Receives 511 (fill 3 0 frameWords) (withLane receiving) ∧
    hType (received 511 (fill 3 0 frameWords) (withLane receiving)).hdr = 3 ∧
    frameGood (received 511 (fill 3 0 frameWords) (withLane receiving)).words = true := by
  unfold Receives
  rw [fill_read _ _ _ receiving (by simp [frameWords]) rfl rfl, bits_hdr _ _ (by simp [frameWords])]
  refine ⟨by decide +kernel, by decide +kernel, ?_⟩
  rw [bits_frame.1]
  exact frameGood_crc (w64 (2 ^ 56) :: List.replicate 126 0) (by simp) (by decide)

theorem witness_FillBargesAct_test : Receives 511 (fill 5 7 (testPayload 7)) (withLane receiving) ∧
    hType (received 511 (fill 5 7 (testPayload 7)) (withLane receiving)).hdr = 5 ∧
    (received 511 (fill 5 7 (testPayload 7)) (withLane receiving)).words =
      testPayload (hTypeData (received 511 (fill 5 7 (testPayload 7)) (withLane receiving)).hdr) := by
  unfold Receives
  rw [fill_read _ _ _ receiving bits_frame.2.2 rfl rfl]
  refine ⟨by decide +kernel, by decide +kernel, ?_⟩
  rw [bits_frame.2.1, show hTypeData (bits (header 5 154 0 false 7) (testPayload 7)).hdr = 7 by decide +kernel]

/-- A FRAME barge of VERSION 0, an IDLE barge. -/
theorem witness_FillBargesAct : Receives 511 (fill 3 0 (List.replicate 128 0)) (withLane receiving) ∧
    hType (received 511 (fill 3 0 (List.replicate 128 0)) (withLane receiving)).hdr = 3 ∧
    frameGood (received 511 (fill 3 0 (List.replicate 128 0)) (withLane receiving)).words = false ∧
    Receives 511 (fill 2 0 (List.replicate 128 0)) (withLane receiving) ∧
    hType (received 511 (fill 2 0 (List.replicate 128 0)) (withLane receiving)).hdr = 2 := by
  unfold Receives
  simp only [fill_read _ _ _ receiving (List.length_replicate ..) rfl rfl]
  refine ⟨by decide +kernel, by decide +kernel, ?_, by decide +kernel⟩
  have : fld (wd (bits (header 3 154 0 false 0) (List.replicate 128 0)).words 0) 63 56 = 0 := by decide +kernel
  generalize (bits (header 3 154 0 false 0) (List.replicate 128 0)).words = ws at this ⊢
  simp [frameGood, this]

theorem witness_FillBargesAct_sent : carriesRows 0 up = false ∧
    carriesRows 511 { withLane serving with fab.kind := .data } = true ∧
    carriesRows 511 { withLane serving with fab.kind := .hold } = true ∧
    carriesRows 511 { withLane serving with fab.kind := .ones } = true ∧
    (({ up with lanes := [(0, { frameDue := true })] } : State).lane 0).frameDue = true ∧
    (({ up with lanes := [(0, { testOn := true })] } : State).lane 0).frameDue = false ∧
    (({ up with lanes := [(0, { testOn := true })] } : State).lane 0).testOn = true := by decide

/-- A header of zeros: no HEC of R155 fits it, and no corrected bit makes it fit. -/
theorem witness_FillBargesAct_invalid : headerFits 0 = false ∧ headerFix 0 = none ∧
    (received 511 (barge 0 (List.replicate 128 0) 0) (withLane { receiving with delin.bad := 6 })).hdr = 0 ∧
    ((withLane { receiving with delin.bad := 6 }).lane 511).delin.sync = true := by
  rw [show received 511 (barge 0 (List.replicate 128 0) 0) (withLane { receiving with delin.bad := 6 }) =
    bits 0 (List.replicate 128 0) from read_barge _ _ _ receiving.hunter (by simp) rfl rfl]
  decide +kernel
/-! ## Witnesses: references and time -/

def withInput (n : Nat) (i : Input) : State := { up with refs := kset {} [] n i }

/-- The QL message of Table 9.4 with SSM 2 and ESSM 0xFF, and the TOD message of second 5, valid. -/
def qlMsg : RefMsg := { bytes := refMessageBytes 1 [2, 0xFF], framing := false }
def todMsg : RefMsg := { bytes := refMessageBytes 2 [0, 0, 0, 0, 0, 5, 1], framing := false }

def pps : Input := { q := .qualified, w0 := w64 (1 + 2 * 2 ^ 5 + 2 ^ 19) }

theorem witness_InputEventsAct_messages : up.ticking = true ∧ refMsg qlMsg = some (1, [2, 0xFF]) ∧
    refMsg todMsg = some (2, [0, 0, 0, 0, 0, 5, 1]) ∧ refMsg { qlMsg with framing := true } = none ∧
    ((withInput 7 pps).input 7).q ≠ .off ∧ ((withInput 7 pps).input 7).msgMode = 2 := by decide +kernel

theorem witness_InputEventsAct_timers :
    ((withInput 7 { pps with qlRow := 0 }).input 7).qlRow + 10000000 ≤ ({ up with time.rows := 10000000 } : State).time.rows ∧
    ((withInput 7 pps).input 7).qlFailed = false ∧ observed 7 (.gap 1501) (withInput 7 pps) = some false ∧
    observed 7 (.run 3) (withInput 7 pps) = some true ∧ observed 7 (.gap 1500) (withInput 7 pps) = none ∧
    ((withInput 24 { q := .restoring, wtrDue := some 300000 }).input 24).wtrDue = some 300000 ∧
    ((withInput 0 { q := .holdoff, holdoffDue := some 300000 }).input 0).q = .holdoff := by decide

theorem witness_InputEventsAct_tick : ({ qlNew := some (2, 255) } : Input).actNew = none ∧
    (({ q := .holdoff, holdHit := true, holdoffDue := some 5 } : Input).tick 3 false false 6).q = .failed ∧
    (({ q := .restoring, active := true, wtrHit := true, wtrDue := some 5 } : Input).tick 3 false false 6).q = .qualified := by decide

/-- Channel F acquiring a lane input of service bandwidth 10 Hz, 900,000 rows after the last step. -/
def acquiring (step : Nat) : State :=
  { withInput 8 { q := .qualified } with
    f.state := .acquiring, f.selected := some 8, f.dwellStart := some 0, f.step := step, f.bw := 10000, time.rows := 900000 }

theorem witness_ChannelFMoves_dwell : sampleRate 8 ((acquiring 0).input 8) = 8000 ∧ lastStep 10000 8000 0 = false ∧
    0 + dwellRows 10000 8000 0 < (acquiring 0).time.rows ∧ lastStep 10000 8000 4 = true ∧
    0 + dwellRows 10000 8000 4 < (acquiring 4).time.rows := by decide

theorem witness_ChannelFMoves_offset : ({ locked with f.secRow := 300000, f.secFar := true } : State).f.secRow =
      up.time.rows ∧ ({ locked with f.secRow := 300000, f.secFar := true } : State).f.secFar = true ∧ (∀ n < 25, eligible n up = false) := by decide

theorem witness_ChannelFMoves_others :
    0 + holdLimitRows up < ({ up with f.state := .holdover, f.holdSince := some 0, time.rows := 172800000001 } : State).time.rows ∧
    (∃ n < 25, eligible n { withInput 8 { q := .qualified, w0 := 2 } with f.recW0 := 1 } = true) ∧
    16 ≤ ({ up with f.oscFault := true, f.oscClean := 16 } : State).f.oscClean ∧
    ({ up with f.software := true, time.rows := 4000001 } : State).f.ffreqRow + swTimeoutRows up < 4000001 := by
  refine ⟨by decide, ⟨8, by decide, by decide⟩, by decide, by decide⟩

/-- A fault registered in the row just ended, with and without an input to go to, and one that ends start-up. -/
theorem witness_ChannelFMoves_fault :
    (∀ n < 25, eligible n { up with f.oscAct := true, f.software := true } = false) ∧
    StartFailureIn .noLocalosc up.boot.st = false ∧ StartFailureIn .noLocalosc .services = true ∧ up.f.oscFault = false ∧
    (∃ n < 25, eligible n { withInput 8 { q := .qualified, w0 := 2 } with f.recW0 := 1, f.oscAct := true, f.software := true } =
      true) := by
  refine ⟨by decide, by decide, by decide, by decide, ⟨8, by decide, by decide⟩⟩

theorem witness_MonitorSecondQualifies_second : up.ticking = true ∧ ((withInput 7 pps).input 7).q ≠ .off ∧
    ((withInput 7 pps).input 8).q = .off ∧ up.f.oscFault = false ∧ ((withInput 7 { pps with dirtySec := true }).input 7).dirtySec = true ∧
    ((withInput 7 { pps with active := true }).input 7).dirtySec = false ∧
    ({ up with f.secRow := 300000 } : State).f.secRow = up.time.rows := by decide

/-- A second that shows LOCALOSC 100 ppm off and 1 part in 10^15 more, seen by a locked channel F, and one that does not. -/
theorem witness_MonitorSecondQualifies_far : locked.f.state = .locked ∧ 100000000 < (-100000001 : Int).natAbs ∧
    ¬ (locked.f.state = .locked ∧ 100000000 < (100000000 : Int).natAbs) ∧
    ({ up with f.oscFault := true } : State).f.oscFault = true := by decide

theorem witness_MonitorSecondQualifies : ({ up with time.rows := 2000000 } : State).time.rows % 2000000 = 0 ∧
    ({ up with time.rows := 2000000 } : State).f.secRow ≠ 2000000 ∧
    ({ active := true } : Input).freqLim < (9200001 : Int).natAbs ∧ 10 * (7360000 : Int).natAbs ≤ 8 * ({} : Input).freqLim ∧
    ({ q := .failed, active := true } : Input).freqFault = false ∧
    (({ q := .qualified, freqFault := true } : Input).freqStep 5).q = .failed := by decide

/-- REF_CFG of input 24, its record enabled. -/
def refCmd : Run := run 0x0601 [w64 (24 + 32), 1, 0]
def manual8 : Run := run 0x0602 [w64 (1 + 8 * 8)]
def dpllCmd : Run := run 0x0604 [1, 0]
def fFreqCmd : Run := run 0x0607 [w64 10000000]
def steerCmd : Run := run 0x0609 [w64 200000000, w64 (200000000 + 2 ^ 32)]
def outRealignCmd : Run := runAt 0x060D 1016 [w64 (1 + 31 * 2), 0]

def eligible8 : State := { withInput 8 { q := .qualified, w0 := 2 } with f.recW0 := 1 }
def soft : State := { up with f.software := true }

theorem witness_TimingCommandsWaitForTheTick_refs : Held 0x0601 refCmd (hold refCmd up) ∧
    refCmd.cmd.length = 8 * (1 + 2 * fld (refCmd.cmd.p 0) 9 5) ∧
    (∀ x ∈ refRecords refCmd, inputRecOk x.1 x.2.1 x.2.2 = true) ∧
    lanesClash ((projectedRefs (hold refCmd up)).map (fun x => match (refRecords refCmd).find? (fun y => y.1 == x.1) with
        | some y => (y.1, y.2.1) | none => x)) = false ∧
    Held 0x0602 manual8 (hold manual8 eligible8) ∧ eligible 8 eligible8 = true ∧ eligible 8 up = false ∧
    fld (manual8.cmd.p 0) 7 3 = 8 ∧ Held 0x0604 dpllCmd (hold dpllCmd up) ∧
    chanFRecOk (dpllCmd.cmd.p 0) (dpllCmd.cmd.p 1) = true ∧ localoscKhz (dpllCmd.cmd.p 1) = localoscKhz up.f.recW1 :=
  ⟨held_run (by decide) (by decide), by decide, by decide, by decide, held_run (by decide) (by decide), by decide, by decide,
   by decide, held_run (by decide) (by decide), by decide, by decide⟩

theorem witness_TimingCommandsWaitForTheTick_steers : Held 0x0606 (run 0x0606 [1]) (hold (run 0x0606 [1]) up) ∧
    Held 0x0607 fFreqCmd (hold fFreqCmd soft) ∧ sgn 32 (fld (fFreqCmd.cmd.p 0) 31 0) = 10000000 ∧ soft.f.software = true ∧
    Held 0x0609 steerCmd (hold steerCmd up) ∧ pOk (fld (steerCmd.cmd.p 0) 31 0) = true ∧ pOk 200000001 = false ∧
    fld (steerCmd.cmd.p 1) 63 32 = 1 ∧ Held 0x060D outRealignCmd (hold outRealignCmd up) ∧
    bit (outRealignCmd.cmd.p 0) 0 = true ∧ fld (outRealignCmd.cmd.p 0) 5 1 = 31 :=
  ⟨held_run (by decide) (by decide), held_run (by decide) (by decide), by decide, by decide, held_run (by decide) (by decide),
   by decide, by decide, by decide, held_run (by decide) (by decide), by decide, by decide⟩

/-- Pulse output 3 (record 19) at one pulse a second; time-of-day output 1 (record 21) linked to it. -/
def pulse1 : W64 := 1
def outCmd : Run := run 0x060B [21, w64 (1 + 3 * 2), 0]
def pulsing : State := { up with outs.recs := [(19, (pulse1, 0)), (21, (w64 (1 + 3 * 2 + 2 ^ 4), 0))] }
def timeCmd : Run := run 0x060F [w64 (62500 + 500 * 2 ^ 16), 0]

theorem witness_OutputsAndTimeAct_outputs : Held 0x060B outCmd (hold outCmd pulsing) ∧
    outRecOk (fld (outCmd.cmd.p 0) 4 0) (outCmd.cmd.p 1) (outCmd.cmd.p 2) = true ∧
    outLinksOk (fld (outCmd.cmd.p 0) 4 0) (outCmd.cmd.p 1) (outCmd.cmd.p 2) (hold outCmd pulsing) = true ∧
    Held 0x060F timeCmd (hold timeCmd up) ∧ timeRecOk (timeCmd.cmd.p 0) (timeCmd.cmd.p 1) = true ∧
    timeRecOk (w64 62501) 0 = false ∧ ({ up with p.steerDue := some 300000 } : State).p.steerDue = some up.time.rows :=
  ⟨held_run (by decide) (by decide), by decide, by decide, held_run (by decide) (by decide), by decide, by decide, by decide⟩

/-- R268: the TOD message of an edge made 200 ms ago is due in the row that begins, and not again once it has been sent; the QL
message is due 500 ms after the edge. -/
theorem witness_OutputsAndTimeAct_message :
    let e : EdgeMark := { out := 3, ps := 0 }
    let s : State := { pulsing with time.rows := 400000, outs.edges := [e] }
    let q : State := { s with time.rows := 1000000, outs.recs := [(21, (w64 (1 + 3 * 2 + 2 ^ 3), 0))] }
    s.ticking = true ∧ bit (kget (0, 0) s.outs.recs 21).1 0 = true ∧ bit (kget (0, 0) s.outs.recs 21).1 4 = true ∧
    fld (kget (0, 0) s.outs.recs 21).1 2 1 = 3 ∧ s.outs.edges.any (fun e => e.out == 3 && e.due 1 false s) = true ∧
    ({ e with sent := [(1, false)] } : EdgeMark).due 1 false s = false ∧ e.due 1 false { s with time.rows := 400001 } = false ∧
    bit (kget (0, 0) q.outs.recs 21).1 3 = true ∧ e.due 1 true q = true := by decide

/-- Input 24 with an anchored timing source is a time reference (R239). -/
def flightRef : State :=
  { withInput 24 { q := .qualified, w0 := 2 } with
    flight.srcAnchored := true, time.anchored := true, flight.syncDir := some false,
    flight.syncSeen := [⟨false, 1000, -5000000, 1, 1⟩] }

/-- Input 7, a PPS input with TOD messages, three of them in a row and one that its next edge takes. -/
def ppsRef : State :=
  withInput 7 { pps with w0 := w64 (1 + 2 + 2 * 2 ^ 5 + 2 ^ 19), w1 := 0, active := true, todRun := 3, todSec := 4,
                         tod := [{ sec := 5, valid := true, row := 100000 }] }

theorem witness_OutputsAndTimeAct_edge : flightRef.ticking = true ∧ timeRef (refreshTimeOk flightRef) = some 24 ∧
    (flightRef.input 24).q ≠ .off ∧
    flightRef.flight.syncSeen.find? (fun z => flightRef.flight.syncDir == some z.dirB) = some ⟨false, 1000, -5000000, 1, 1⟩ := by
  decide +kernel

theorem witness_OutputsAndTimeAct_ppsEdge : ppsRef.ticking = true ∧ (ppsRef.input 7).q ≠ .off ∧ (ppsRef.input 7).freqHz = 1 ∧
    (ppsRef.input 7).msgMode = 2 ∧
    timeRef (refreshTimeOk (ppsRef.modInput 7 (fun i => i.edge ppsRef.time.rows))) = some 7 := by decide +kernel

def realignCmd : Run := runAt 0x060C 1016 [0, w64 2000, w64 124999999]

theorem witness_OutputsAndTimeAct_realign : Held 0x060C realignCmd (hold realignCmd up) ∧
    fld (realignCmd.cmd.p 1) 47 0 = 2000 ∧ fld (realignCmd.cmd.p 2) 26 0 ≤ 124999999 ∧
    realignConflict (some realignCmd.key) (realignCmd.at_ - 1) 2000 (hold realignCmd up) = false ∧
    realignConflict (some realignCmd.key) (realignCmd.at_ - 1) 2000
      { hold realignCmd up with planner.sealed := [{ plan2 with lock := 1999 }] } = true :=
  ⟨held_run (by decide) (by decide), by decide, by decide, by decide, by decide⟩

/-- R263: p = 1 ppm for one row moves Φ by 512 units of 1/1,024 ps. -/
theorem test_phi : phiRow 1000000 = 512 := by decide

/-- R237: the byte 0xA5 as it leaves on a time-of-day output, and the places of its bits. -/
theorem test_serial : serialLevels [0xA5] = [false, true, false, true, false, false, true, false, true, true] := by decide

theorem witness_OutputsAndTimeAct_serial : (1 : Nat) < ([0xA5, 1] : List (BitVec 8)).length ∧ ([0xA5, 1] : List (BitVec 8))[1]? = some 1 := by
  decide

theorem witness_ChannelPStaysWithinItsLimit_step : (∃ t, exec .nop { up with p.phi := phiLimit } = .next t) ∧
    (phiTick { up with p.phi := phiLimit, p.freq := 1000000 }).2 = true ∧ (phiTick { up with p.freq := 1000000 }).2 = false :=
  ⟨⟨_, rfl⟩, by decide, by decide⟩

theorem witness_ChannelPStaysWithinItsLimit : -phiLimit ≤ ({ up with p.phi := phiLimit } : State).p.phi ∧
    ({ up with p.phi := phiLimit } : State).p.phi ≤ phiLimit ∧
    (movePhi 1 { up with p.phi := phiLimit }).2 = true ∧ (movePhi 1 up).2 = false := by decide

/-! ## Witnesses: the twin, its checkpoint and the keeper -/

/-- A device of pair 3 whose partner has address 1, in role r with HTERM 4. -/
def twin (r : Role) : State := { up with
  twin.role := r, twin.cfg := w64 (1 + 3 * 2 + 2 ^ 6), twin.term := 4, twin.hterm := 4, twin.certOk := true }

/-- A frame of pair 3 from the keeper, and a heartbeat of the partner. -/
def fromKeeper (type term : Nat) (w1 w2 : W64) : WatchFrame := mkWatch type 1 0 3 0 term w1 w2 0
def beat (term : Nat) : WatchFrame := mkWatch 1 0 1 3 0 term 0 0 0

theorem witness_WatchFramesRegister_valid : (twin .active).twinUp = true ∧ watchValid false (beat 4) (twin .active) = true ∧
    (twin .active).twin.hterm ≤ (beat 4).term ∧ watchValid true (fromKeeper 3 4 0 0) (twin .active) = true ∧
    (fromKeeper 3 4 0 0).type = 3 ∧ (fromKeeper 3 4 0 0).term = (twin .active).twin.term ∧
    watchValid true (fromKeeper 4 4 7 0) (twin .cold) = true ∧ (fromKeeper 4 4 7 0).type = 4 := by decide +kernel

theorem witness_WatchFramesRegister_more : watchValid true (fromKeeper 6 5 0 0) (twin .cold) = true ∧
    (twin .cold).twin.hterm < (fromKeeper 6 5 0 0).term ∧ fld (fromKeeper 6 5 0 0).w1 37 32 = (twin .cold).flight.addr ∧
    (twin .cold).twin.takeReg = none ∧ watchValid true (fromKeeper 8 4 64 0) (twin .active) = true ∧
    bit (fromKeeper 8 4 64 0).w1 6 = true ∧ watchValid true (fromKeeper 9 4 0 0) (twin .active) = true := by decide +kernel

theorem witness_WatchFramesRegister_last : watchValid true (fromKeeper 0xB 4 1016 1) (twin .active) = true ∧
    fld (fromKeeper 0xB 4 1016 1).w2 5 0 = (twin .active).partner ∧ (twin .active).partner ≠ (twin .active).flight.addr ∧
    (twin .active).time.frame < fld (fromKeeper 0xB 4 1016 1).w1 47 0 ∧
    watchValid false (fromKeeper 3 4 0 0) (twin .active) = false ∧ watchValid true (beat 4) (twin .active) = false := by
  decide +kernel

/-- A HANDOVER that names this device, in COLD. -/
theorem witness_WatchFramesRegister_here : watchValid true (fromKeeper 0xB 4 1016 0) (twin .cold) = true ∧
    fld (fromKeeper 0xB 4 1016 0).w2 5 0 = (twin .cold).flight.addr ∧ (fromKeeper 0xB 4 1016 0).type = 0xB ∧
    (twin .cold).time.frame < fld (fromKeeper 0xB 4 1016 0).w1 47 0 := by decide +kernel

/-- A loss, a missed keeper and a lapsed lease that are due before the frame's row; a TAKE repeated in TAKING. -/
theorem witness_WatchFramesRegister_due :
    (twin .active).twin.hbRow + 160 < 300000 ∧ (twin .active).twin.partnerLost = false ∧
    ¬ (({ twin .active with twin.hbRow := 299840 } : State).twin.hbRow + 160 < (twin .active).time.rows) ∧
    ({ twin .active with twin.keeperLost := false, twin.keeperRow := 299839 } : State).twin.keeperRow + 160 <
      (twin .active).time.rows ∧
    ({ twin .active with twin.leased := true, twin.leaseRow := 299599 } : State).twin.leaseRow + 400 < (twin .active).time.rows ∧
    (twin .active).twin.leased = false ∧ (beat 3).term < (twin .active).twin.hterm ∧
    watchValid false (beat 3) (twin .active) = true ∧ watchValid true (fromKeeper 3 3 0 0) (twin .active) = true ∧
    watchValid true (fromKeeper 6 4 0 0) (twin .taking) = true ∧
    (fromKeeper 6 4 0 0).term = (twin .taking).twin.hterm ∧ (fromKeeper 6 4 0 0).term = (twin .taking).twin.term ∧
    fld (fromKeeper 6 4 0 0).w1 37 32 = (twin .taking).flight.addr := by decide +kernel

/-- R294: one bit of a frame changed fails its CRC. -/
theorem test_watch_crc : watchSound (beat 4) = true ∧ watchSound { beat 4 with w1 := 1 } = false := by decide +kernel

theorem witness_TwinSendsAndLosses : (twin .active).twin.silent = none ∧ (twin .active).twin.beatDue ≤ up.time.rows ∧
    (twin .active).twin.renewDue ≤ up.time.rows ∧ (twin .active).twin.partnerLost = false ∧
    ({ twin .active with twin.hbRow := 299839 } : State).twin.hbRow + 160 < up.time.rows ∧
    ({ twin .active with twin.keeperRow := 299839 } : State).twin.keeperRow + 160 < up.time.rows ∧
    ({ twin .active with twin.leased := true, twin.leaseRow := 299599 } : State).twin.leaseRow + 400 < up.time.rows := by decide

/-- A slot in service of generation 9, with an empty page. -/
def slot9 : Slot := { st := .inService, page := { gen := 9 } }

theorem witness_TakeOverStages_start : ({ twin .taking with ckpt.x := slot9 } : State).serviceSlot = some slot9 ∧
    (twin .taking).twin.started = none ∧ (twin .taking).reaches 3 [0, 1, 6] = true ∧ (twin .taking).twin.startWarm = false ∧
    (true && slot9.page.check) = true ∧
    (true && ({ slot9 with page := { gen := 9, entries := [(0, fromFirst)] } } : Slot).page.check) = false ∧
    (299998 : Nat) + 2 ≤ ({ twin .taking with twin.started := some 299998 } : State).time.rows := by decide

theorem witness_TakeOverStages_timers :
    (295999 : Nat) + holdRows (twin .taking) < ({ twin .taking with twin.takeRow := some 295999 } : State).time.rows ∧
    ({ twin .taking with fab.kind := .hold } : State).fab.kind = .hold ∧
    ({ twin .warming with ckpt.y := slot9 } : State).serviceSlot = some slot9 ∧
    (299999 : Nat) < ({ twin .cold with twin.rwtrDue := some 299999 } : State).time.rows ∧
    (299999 : Nat) < ({ twin .warm with twin.warmDue := some 299999 } : State).time.rows ∧
    ({ twin .warm with twin.hand := some { at_ := 1016, term := 5, here := true } } : State).twin.hand.any (·.here) = true ∧
    (twin .warm).twin.hand.any (·.here) = false ∧ (twin .taking).twin.started = none := by decide

/-- A COLD device whose wait to restore runs (R333): TWIN_PREF 0, REVERT 1, LOCKOUT 0, the partner ACTIVE and in sight. -/
def reverting : State := { twin .cold with
  boot.straps := { (twin .cold).boot.straps with twinPref := false }, twin.revCfg := 1, ckpt.synced := true,
  twin.known := some { role := 2, roleSt := 2, term := 4, addr := 1 }, twin.rwtrDue := some 299999 }

theorem witness_TakeOverStages_revert : rwtrRuns reverting = true ∧ reverting.twin.rwtrDue = some 299999 ∧
    (299999 : Nat) < reverting.time.rows ∧ rwtrRuns { reverting with twin.pairNew := true } = false := by decide

def beat6 : Beat := { role := 2, roleSt := 6, term := 4, addr := 1 }
def handCmd : Run := runAt 0x0713 1016 []

theorem witness_TwinCommandsAct : Held 0x0702 (run 0x0702 [32]) (hold (run 0x0702 [32]) (twin .cold)) ∧
    (twin .cold).twinRole = true ∧ Held 0x0711 (run 0x0711 [w64 (2 ^ 22 - 1)]) (hold (run 0x0711 [w64 (2 ^ 22 - 1)]) (twin .cold)) ∧
    Held 0x0712 (run 0x0712 [1]) (hold (run 0x0712 [1]) (twin .cold)) ∧ (twin .cold).twin.role ≠ .solo ∧
    Held 0x0714 (run 0x0714 [1]) (hold (run 0x0714 [1]) (twin .cold)) ∧ (twin .cold).twin.role.standsBy = true ∧
    bit ((run 0x0714 [1]).cmd.p 0) 0 = true :=
  ⟨held_run (by decide) (by decide), by decide, held_run (by decide) (by decide), held_run (by decide) (by decide), by decide,
   held_run (by decide) (by decide), by decide, by decide⟩

theorem witness_TwinCommandsAct_handover : Held 0x0713 handCmd (hold handCmd { twin .active with twin.known := some beat6 }) ∧
    (twin .active).lockout = false ∧ (twin .active).twin.req = none ∧ (twin .active).twin.hand = none ∧ beat6.roleSt = 6 ∧
    ({ beat6 with roleSt := 4 } : Beat).roleSt ≠ 6 ∧ (1001 : Nat) ≤ (twin .active).time.frame + 1 ∧
    State.run { twin .active with twin.req := some { at_ := 1001, key := some handCmd.key }, host.prog := [handCmd] } handCmd.key =
      some handCmd :=
  ⟨held_run (by decide) (by decide), by decide, by decide, by decide, by decide, by decide, by decide, by decide⟩

theorem witness_TwinCommandsAct_applied : (run 0x0711 [w64 (2 ^ 22 - 1)]).cmd.opcode = 0x0711 ∧
    (run 0x0714 [1]).cmd.opcode = 0x0714 ∧ (run 0x0712 [1]).cmd.opcode = 0x0712 ∧
    ({ twin .cold with host.prog := [run 0x0712 [1], run 0x0903 [1]] } : State).host.prog.filter
      (fun x => [0x0711, 0x0712, 0x0714].contains x.cmd.opcode) = [run 0x0712 [1]] ∧ (twin .cold).twin.role = .cold ∧ (twin .active).twin.partnerLost = false ∧
    ({ twin .active with twin.req := some { at_ := 1001, key := none } } : State).twin.req = some { at_ := 1001, key := none } := by
  decide

theorem witness_StepDownEndsService : (1 : Nat) ≠ 0 ∧ (twin .taking).twin.role = .taking ∧
    ({ twin .active with twin.hterm := 5 } : State).twin.term < ({ twin .active with twin.hterm := 5 } : State).twin.hterm ∧
    (twin .active).twin.hand = none := by decide

/-- An ACTIVE device that has seen term 5 in the row, one that holds it for a HANDOVER at frame 1,001, one at row 0 of that frame and
one at row 1 of it. -/
def seen5 : State := { twin .active with twin.seen := [(5, 1)] }
def held5 (frame row : Nat) : State := { seen5 with
  twin.hand := some { at_ := 1001, term := 5, here := false }, time.frame := frame, time.row := row }

theorem witness_StepDownEndsService_seen : seen5.twinUp = true ∧ seen5.twin.takeReg = none ∧ seen5.twin.term < 5 ∧
    (5, 1) ∈ seen5.twin.seen ∧ stepDownCase seen5 ≠ 0 ∧ seen5.twin.notices = [] ∧ stepDownCase (held5 1000 249) = 0 ∧
    stepDownCase (held5 1001 0) = 0 ∧ stepDownCase (held5 1001 1) ≠ 0 ∧ stepDownCase (twin .active) = 0 := by decide

/-- Headers of two lanes whose TERM_LO form terms 6 and 5, and of one lane alone. -/
def shown2 : State := { twin .active with lanes := [(3, { hdrOther := [6, 4] }), (9, { hdrOther := [5] })] }

theorem witness_StepDownEndsService_headers : headerTerm shown2 = some 5 ∧ stepDownCase shown2 ≠ 0 ∧
    headerTerm { twin .active with lanes := [(3, { hdrOther := [6, 5] })] } = none ∧
    (5 ∈ shown2.lanes.flatMap (fun e => (e.2.hdrOther.map (formTerm shown2.twin.term)).filter
      (fun x => decide (shown2.twin.term < x)))) := by decide

theorem witness_StepDownEndsService_frames :
    (let s : State := { twin .active with twin.keeperRow := 299999, twin.hbRow := 299999 }
     s.twinUp = true ∧ watchValid true (fromKeeper 3 5 0 0) s = true ∧ s.twin.hterm ≤ (fromKeeper 3 5 0 0).term ∧
     settleLease (settleKeeper s) = s ∧ watchValid false (mkWatch 1 0 1 3 0 5 16 0 0) s = true ∧ settlePeer s = s ∧
     fld (mkWatch 1 0 1 3 0 5 16 0 0).w1 5 4 = 1 ∧ s.twin.hterm ≤ (mkWatch 1 0 1 3 0 5 16 0 0).term) := by decide +kernel

/-- A FRAME barge whose header and payload carry SEL 2, with TERM_LO 5 and OWN_TERM 5, on a lane of an ACTIVE device. -/
def activeLane : State := { twin .active with lanes := [(511, receiving)] }
def selHeader : W64 :=
  let w := pack [(63, 60, 3), (59, 48, 154), (41, 40, 2), (39, 24, 5)]
  w ||| w64 (crc16 48 (fld w 63 16)).toNat
def selWords : List W64 :=
  let ws : List W64 := [w64 (2 ^ 56), 0, 0, 0, w64 (2 ^ 63 + 5)] ++ List.replicate 122 0
  ws ++ [w64 (crc32c (frameBytes (ws ++ [0]))).toNat]

set_option maxRecDepth 100000 in
theorem bits_sel : (bits selHeader selWords).words = selWords := by decide +kernel

theorem sel_read : received 511 (barge selHeader selWords 0) activeLane = bits selHeader selWords :=
  read_barge _ _ _ receiving.hunter (by simp [selWords]) rfl rfl

theorem witness_StepDownEndsService_barges : Receives 511 (barge selHeader selWords 0) activeLane ∧ activeLane.twinRole = true ∧
    hType (received 511 (barge selHeader selWords 0) activeLane).hdr = 3 ∧
    hSel (received 511 (barge selHeader selWords 0) activeLane).hdr = 2 ∧
    frameGood (received 511 (barge selHeader selWords 0) activeLane).words = true ∧
    fld (wd (received 511 (barge selHeader selWords 0) activeLane).words 4) 63 62 = 2 := by
  unfold Receives
  rw [sel_read, bits_hdr _ _ (by simp [selWords]), bits_sel]
  refine ⟨by decide +kernel, by decide +kernel, by decide +kernel, by decide +kernel, ?_, by decide +kernel⟩
  exact frameGood_crc ([w64 (2 ^ 56), 0, 0, 0, w64 (2 ^ 63 + 5)] ++ List.replicate 122 0) (by simp) (by decide)

/-- The last tick of a row in which term 5 was seen: the device steps down. -/
theorem test_stepDown : (roleTick seen5).twin.role = .steppedDown ∧ (roleTick seen5).twin.term = 4 := by decide +kernel

/-- A message as the twin lanes carry it: in one block of the bulk stream for a type of that stream, else of the urgent one. -/
def msg (type gen frame acked : Nat) (ws : List SlotWrite) : TwinMsg :=
  { type := type, gen := gen, frame := frame, acked := acked, writes := ws }
def carried (m : TwinMsg) : List (List W64) :=
  [blockOf (if m.type = 2 ∨ m.type = 3 ∨ m.type = 9 then 1 else 2) m.words 1]

set_option maxRecDepth 100000 in
theorem witness_CheckpointActiveSide_messages : (twin .active).activeTwin = true ∧ (twin .active).twin.certOk = true ∧
    BringsBlocks (carried (msg 1 0 0 0 [])) (.fullReq (carried (msg 1 0 0 0 []))) ∧
    takeBlocks (carried (msg 1 0 0 0 [])) (twin .active) = ([(msg 1 0 0 0 []).words], twin .active) ∧
    takeBlocks (carried (msg 7 1 0 2 [])) (twin .active) = ([(msg 7 1 0 2 []).words], twin .active) ∧
    takeBlocks (carried (msg 7 2 1016 3 [])) (twin .active) = ([(msg 7 2 1016 3 []).words], twin .active) ∧
    takeBlocks (carried (msg 8 1 0 0 [])) (twin .active) = ([(msg 8 1 0 0 []).words], twin .active) ∧
    (twin .active).ckpt.rxBulk = [] :=
  ⟨by decide, by decide, Or.inl rfl, rfl, rfl, rfl, rfl, rfl⟩

set_option maxRecDepth 100000 in
theorem witness_CheckpointActiveSide_read : msgGood (msg 1 0 0 0 []).words = true ∧ (readMsg (msg 1 0 0 0 []).words).type = 1 ∧
    msgGood (msg 7 1 0 2 []).words = true ∧ readMsg (msg 7 1 0 2 []).words = msg 7 1 0 2 [] ∧
    (msg 7 1 0 2 []).gen = ({ twin .active with fab.act := { gen := 1 } } : State).fab.act.gen ∧
    readMsg (msg 7 2 1016 3 []).words = msg 7 2 1016 3 [] ∧ readMsg (msg 8 1 0 0 []).words = msg 8 1 0 0 [] ∧
    ({ twin .active with ckpt.endGen := some 1 } : State).ckpt.endGen ≠ none ∧
    findPlan (fun p => p.gen == (msg 7 2 1016 3 []).gen && p.shipped)
      { twin .active with planner.sealed := [{ plan2 with shipped := true }] } = some 0 := by decide +kernel

set_option maxRecDepth 100000 in
/-- R321: one bit of a header or of the payload changed fails its CRC; a message brought so ends as a bad one. -/
theorem test_bad_message :
    (let ws := (msg 8 1 0 0 []).words; msgGood (ws.set 0 (wd ws 0 ^^^ 2)) = false) ∧
    (let ws := (msg 6 0 0 0 [{ off := selOff 131071, word := 1 }]).words; msgGood ws = true ∧ ws.length = 7 ∧
      msgGood (ws.set 5 3) = false) := by decide +kernel

theorem witness_CheckpointActiveSide_ends : ({ twin .active with ckpt.sending := some { gen := 1, row := 5 } } : State).ckpt.sending =
      some { gen := 1, row := 5 } ∧ (twin .active).reaches 3 [0, 1] = true := ⟨rfl, rfl⟩

/-- The checkpoint engine and its store within reach, and the store out of it. -/
theorem witness_CheckpointActiveSide_store : (twin .active).reaches 3 [0, 1, 6] = true ∧ (twin .active).reaches 3 [6] = true ∧
    ({ twin .active with mx.wedged := [6], ckpt.promo := some 299997 } : State).reaches 3 [6] = false ∧
    ({ twin .cold with mx.wedged := [6] } : State).reaches 3 [6] = false ∧ (twin .cold).reaches 3 [6] = true := ⟨rfl, rfl, rfl, rfl, rfl⟩

/-- The tributary table out of reach, and a FULL that waits for it in reach. -/
theorem witness_CheckpointActiveSide_waits : ({ twin .active with mx.wedged := [1] } : State).reaches 3 [0, 1] = false ∧
    ({ twin .active with ckpt.fullDue := true } : State).ckpt.fullDue = true ∧
    ({ twin .active with ckpt.fullDue := true } : State).reaches 3 [0, 1] = true := ⟨rfl, rfl, rfl⟩

/-- A delta of generation 2 sealed with plan 2, and a free slot of generation 1 at the standby. -/
def deltaDue : State := { twin .active with
  planner.sealed := [plan2], ckpt.queue := [{ gen := 2, frame := 1016, writes := [] }], ckpt.freeGen := some 1, ckpt.peer := true }

theorem witness_CheckpointActiveSide_more : (nextDelta deltaDue).isSome = true ∧ genAdd 1 1 = 2 ∧ deltaDue.ckpt.sending = none ∧
    findPlan (fun p => p.gen == 2) deltaDue = some 0 ∧
    ({ twin .active with ckpt.mirror := true, twin.hand := some { at_ := 1016, term := 5, here := false } } : State).serviceSlot =
      none ∧
    (299997 : Nat) + 3 ≤ ({ twin .active with ckpt.promo := some 299997, ckpt.x := slot9 } : State).time.rows ∧
    (twin .active).standbyTwin = false := by decide

theorem witness_CheckpointStandbySide : (twin .syncing).standbyTwin = true ∧ (twin .cold).standbyTwin = true ∧
    ({ twin .syncing with ckpt.fullGot := true } : State).ckpt.acked2 = false ∧ (twin .cold).ckpt.filling = none ∧
    ({ twin .cold with ckpt.x := slot9, ckpt.y := { st := .free } } : State).ckpt.y.st = .free ∧
    ({ twin .cold with ckpt.x := slot9, ckpt.y := { st := .committed, page := { gen := 10 } } } : State).ckpt.x.st ≠ .free ∧
    ({ twin .cold with ckpt.y := { st := .committed, page := { gen := 10 } } } : State).ckpt.y.page.gen = (msg 4 10 5 0 []).gen ∧
    (twin .cold).ckpt.before = none ∧ slot9.st = .inService ∧ (twin .cold).ckpt.y.st = .empty := by decide

/-- A valid heartbeat below HTERM, and one that shows an ACTIVE partner. -/
theorem test_heartbeat : ∃ t, exec (.heartbeat (beat 3)) { twin .active with twin.hbRow := 299900 } = .next t ∧
    t.twin.hb = some { role := 0, roleSt := 0, term := 3, addr := 1 } ∧ t.twin.known = none := ⟨_, rfl, by decide +kernel, by decide +kernel⟩

set_option maxRecDepth 100000 in
theorem witness_CheckpointStandbySide_messages :
    takeBlocks (carried (msg 2 9 5 0 [{ off := 0, word := 1 }])) (twin .syncing) =
      ([(msg 2 9 5 0 [{ off := 0, word := 1 }]).words], twin .syncing) ∧
    takeBlocks (carried (msg 9 9 5 0 [])) (twin .syncing) = ([(msg 9 9 5 0 []).words], twin .syncing) ∧
    takeBlocks (carried (msg 3 10 5 0 [])) (twin .cold) = ([(msg 3 10 5 0 []).words], twin .cold) ∧
    takeBlocks (carried (msg 4 10 5 0 [])) (twin .cold) = ([(msg 4 10 5 0 []).words], twin .cold) ∧
    takeBlocks (carried (msg 5 10 0 0 [])) (twin .cold) = ([(msg 5 10 0 0 []).words], twin .cold) ∧
    takeBlocks (carried (msg 6 0 0 0 [{ off := selOff 131071, word := 1 }])) (twin .cold) =
      ([(msg 6 0 0 0 [{ off := selOff 131071, word := 1 }]).words], twin .cold) :=
  ⟨rfl, rfl, rfl, rfl, rfl, rfl⟩

set_option maxRecDepth 100000 in
theorem witness_CheckpointStandbySide_read :
    msgGood (msg 2 9 5 0 [{ off := 0, word := 1 }]).words = true ∧ (readMsg (msg 2 9 5 0 [{ off := 0, word := 1 }]).words).type = 2 ∧
    msgGood (msg 9 9 5 0 []).words = true ∧ (readMsg (msg 9 9 5 0 []).words).type = 9 ∧
    msgGood (msg 3 10 5 0 []).words = true ∧ (readMsg (msg 3 10 5 0 []).words).type = 3 ∧
    readMsg (msg 4 10 5 0 []).words = msg 4 10 5 0 [] ∧ (readMsg (msg 5 10 0 0 []).words).type = 5 ∧
    (readMsg (msg 6 0 0 0 [{ off := selOff 131071, word := 1 }]).words).writes = [{ off := selOff 131071, word := 1 }] ∧
    fld (wd (msg 6 0 0 0 [{ off := selOff 131071, word := 1 }]).words 0) 63 56 ∈ [2, 3, 6] := by decide +kernel

/-- A keeper of pair 3 in state st with term 4, twin 0 its holder. -/
def keeper (st : KState) : State := { onKeeper with
  keeper.cfg := 3, keeper.st := st, keeper.cur := 4, keeper.holder := some false }

def fromTwin (type term : Nat) (w1 w2 : W64) : WatchFrame := mkWatch type 0 1 3 0 term w1 w2 0

theorem witness_KeeperAnswersFrames : (keeper .held).keeps = true ∧ kValid (fromTwin 2 4 0 0) (keeper .held) = true ∧
    (fromTwin 2 4 0 0).type = 2 ∧ bit (fromTwin 2 4 0 0).w1 10 = false ∧ bit (fromTwin 2 4 1024 0).w1 10 = true ∧
    ((keeper .held).kport false).role ≠ 1 ∧ kValid (fromTwin 5 4 (w64 (3 + 4 * 2 ^ 32)) 0) (keeper .lapsed) = true ∧
    fld (fromTwin 5 4 (w64 (3 + 4 * 2 ^ 32)) 0).w1 63 32 = (keeper .lapsed).keeper.cur ∧
    ((keeper .lapsed).kport false).certOk = true := by decide +kernel

/-- Port 1 is WARM at address 2. -/
def warmOther : State := { keeper .held with keeper.p1 := { statusRow := some 299999, addr := 2, roleSt := 6 } }

theorem witness_KeeperAnswersFrames_more : kValid (fromTwin 7 4 0 0) { keeper .granting with keeper.grantee := some false } = true ∧
    kValid (fromTwin 10 4 0 2) warmOther = true ∧ (warmOther.kport true).statusRow ≠ none ∧
    fld (fromTwin 10 4 0 2).w2 5 0 = (warmOther.kport true).addr ∧ (warmOther.kport true).roleSt = 6 ∧
    (warmOther.kport true).certOk = true ∧ kValid (fromKeeper 3 4 0 0) (keeper .held) = false := by decide +kernel

def learning (p0 : KPort) : State := { keeper .learning with keeper.p0 := p0, keeper.learnRow := 297999, keeper.helloRow := 299960 }

theorem witness_KeeperTimersAct_learning : (learning {}).keeps = true ∧
    (learning {}).keeper.helloRow + 40 ≤ (learning {}).time.rows ∧ (learning {}).keeper.learnRow + 2000 < (learning {}).time.rows ∧
    (learning { statusRow := some 5, role := 1, term := 6, topTerm := 6 }).keeper.p0.term =
      kTop (learning { statusRow := some 5, role := 1, term := 6, topTerm := 6 }) ∧
    (learning {}).keeper.p0.role ≠ 1 ∧ (learning {}).keeper.p1.role ≠ 1 := by decide

theorem witness_KeeperTimersAct_others :
    (299599 : Nat) + 400 < ({ keeper .held with keeper.leaseRow := some 299599 } : State).time.rows ∧
    ({ keeper .held with keeper.p1 := { row := 299839 } } : State).keeper.p1.row + 160 < (keeper .held).time.rows ∧
    ({ keeper .lapsed with keeper.queryRow := 299959 } : State).keeper.queryRow + 40 < (keeper .lapsed).time.rows ∧
    ({ keeper .granting with keeper.takeSent := 299799, keeper.repeats := 3 } : State).keeper.takeSent + 200 <
      (keeper .granting).time.rows ∧
    kQualifies false { keeper .vacant with
      keeper.p0 := { statusRow := some 299840, roleSt := 4 }, keeper.p1 := { lost := true } } = true := by decide

/-- The last term (R291), and the next below it. -/
theorem witness_KeeperAnswersFrames_last : kValid (fromTwin 5 4 (w64 (3 + 0xFFFFFFFF * 2 ^ 32)) 0) { keeper .lapsed with
      keeper.cur := 0xFFFFFFFF } = true ∧ ({ keeper .lapsed with keeper.cur := 0xFFFFFFFE } : State).keeper.cur < 0xFFFFFFFF ∧
    (fromTwin 5 4 0 0).type = 5 ∧ (fromTwin 10 4 0 2).type = 10 := by decide +kernel

/-- Twins that advertise ACTIVE, with terms 3, 4 and 5, and a LEARNING keeper. -/
def activeTwin : State := { keeper .held with keeper.p0 := { statusRow := some 299999, role := 1, roleSt := 2 } }

theorem witness_KeeperAnswersFrames_active : activeTwin.keeps = true ∧
    (∀ t ∈ [2, 5, 7, 10], ((activeTwin.kport false).hear (fromTwin t 3 16 0) 300000).role = 1 ∧
      kValid (fromTwin t 3 16 0) activeTwin = true ∧ kValid (fromTwin t 5 16 0) activeTwin = true ∧
      (fromTwin t 3 16 0).type = t ∧ (fromTwin t 3 16 0).term < activeTwin.keeper.cur ∧
      activeTwin.keeper.cur < (fromTwin t 5 16 0).term) ∧ activeTwin.keeper.st ≠ .learning ∧
    (fromTwin 2 4 0 0).term = activeTwin.keeper.cur := by decide +kernel

/-- A renewal in HELD and in LAPSED; a grant in LAPSED; TAKEN in GRANTING; HANDOVER_REQ in HELD; and frames that match no row. -/
theorem witness_KeeperAnswersFrames_rows : bit (fromTwin 2 4 1040 0).w1 10 = true ∧
    kValid (fromTwin 2 4 1040 0) activeTwin = true ∧ activeTwin.keeper.holder = some false ∧
    ({ activeTwin with keeper.st := .lapsed } : State).keeper.st = .lapsed ∧
    bit (fromTwin 5 4 (w64 (3 + 4 * 2 ^ 32)) 0).w1 0 = true ∧ bit (fromTwin 5 4 (w64 (3 + 4 * 2 ^ 32)) 0).w1 1 = true ∧
    (keeper .lapsed).keeper.cur < 0xFFFFFFFF ∧
    ({ keeper .granting with keeper.grantee := some false } : State).keeper.grantee = some false ∧
    (fromTwin 7 4 0 0).term = (keeper .granting).keeper.cur ∧ (fromTwin 7 4 0 0).type = 7 ∧
    warmOther.keeper.holder = some false ∧ (fromTwin 10 4 0 2).term = warmOther.keeper.cur ∧
    (warmOther.kport true).lost = false ∧ fld (fromTwin 10 4 0 3).w2 5 0 ≠ (warmOther.kport true).addr ∧
    bit (fromTwin 5 4 0 0).w1 0 = false ∧ (keeper .granting).keeper.grantee = none := by decide +kernel

theorem witness_KeeperTermsNeverFall : (keeper .held).keeper.st ≠ .learning ∧ ((keeper .held).kport true).certOk = true := by decide

/-! ## Witnesses: the flight -/

/-- A towpath port that is up, and a packet of a type from address 2 to this device, of address 0. -/
def ringed : State := { up with flight.a := { up := true }, flight.b := { up := true } }
def hop (type : Nat) : TowPkt := { pkt with type := type, dst := 0 }
def toAll (type src : Nat) : TowPkt := { pkt with type := type, all := true, src := src, hops := 62 }

theorem witness_HopPacketsAct : ringed.towUp = true ∧ (ringed.port .a).up = true ∧ (hop 2).flight = ringed.flightId ∧
    (toAll 1 2).hops < 63 ∧ (toAll 1 5).src = ({ ringed with flight.hasRec := true, flight.cfg := w64 (5 * 4) } : State).timeSrc ∧
    (toAll 5 2).src ≠ ringed.flight.addr ∧ ringed.flight.commits.contains 0 = false ∧ (hop 5).all = false ∧
    (hop 5).dst = ringed.flight.addr ∧ ringed.isGateway = true ∧
    ({ ringed with flight.addressed := false } : State).flight.addressed = false := by decide

/-- Ports at the bounds of R382: lock missing for 1 row and 2, 249 rows of lock and 250. -/
theorem witness_RingAndMembersChange_ports : ({ up := true, noLock := 1 } : TowPort).noLock < 2 ∧
    2 ≤ ({ up := true, noLock := 2 } : TowPort).noLock ∧ ({ up := true, remote := true } : TowPort).remote = true ∧
    (({ up with flight.a := { good := 250 } } : State).port .a).good = 250 ∧
    ({ up with flight.a := { good := 249 } } : State).towUp = true ∧ ({ good := 249 } : TowPort).good < 250 := by decide

theorem witness_AddressedPacketsAct : ringed.flight.addressed = true ∧ (hop 7).dst = ringed.flight.addr ∧
    ringed.flight.rxSeq.contains (2, towClass 7, 1) = false ∧ ringed.host.work.length < 256 ∧
    overdue { key := { q := 0, session := 0, seq := 0, gw := some 2 }, cmd := Cmd.mk 0 0 0 0 [] } ringed = none ∧
    ringed.isGateway = true ∧ ringed.rcv.step = none ∧ ringed.host.eqs = [] ∧
    ({ pkt := { pkt with type := 7, dst := 2, tseq := 9 }, row := some 5 } : Unacked).named { hop 0xA with payload := [9] } = true := by
  decide

/-- A CMD whose number follows the last one is in turn, and one with a number between them missing is not. -/
theorem witness_AddressedPacketsAct_turn : ringed.flight.rxHold = [] ∧
    inTurn (hop 7) { ringed with flight.rxSeq := [(2, 1, 1)] } = true ∧
    inTurn { hop 7 with tseq := 3 } { ringed with flight.rxSeq := [(2, 1, 3), (2, 1, 1)] } = false := by decide

/-- A CMD packet of one word that tells of the deletion of queue 5 (log entry 104), to a member that holds a command of it. -/
theorem witness_AddressedPacketsAct_deleted : ({ hop 7 with payload := [deletedWord 5] } : TowPkt).payload = [deletedWord 5] ∧
    fld (deletedWord 5) 61 56 = 5 ∧ inTurn { hop 7 with payload := [deletedWord 5] } { ringed with flight.rxSeq := [(2, 1, 1)] } = true ∧
    1 < ({ hop 7 with payload := nopUnits } : TowPkt).payload.length ∧ ({ q := 5, session := 1023, seq := 0 } : Key).session < 1024 := by
  decide

/-- DMA_WR at a gateway whose endpoint answers, at one held in reset, and one remembered as bad. -/
theorem witness_AddressedPacketsAct_dmaWr : ringed.hostUp = true ∧ ringed.flight.wrBad.contains (2, 1) = false ∧ (hop 0xD).type = 0xD ∧
    ({ ringed with host.perst := true } : State).hostUp = false ∧
    ({ ringed with flight.wrBad := [(2, 1)] } : State).flight.wrBad.contains ((hop 0xD).src, (hop 0xD).tseq) = true := by decide

/-- Writes of a member: acknowledged, failed, and one DMA_WR still on its way; the ACK of that one. -/
def wrJob : WrJob := { run := run 0x0402 [], gw := 2, asked := [1], addr := 4096, bytes := 8, reply := [] }
theorem witness_AddressedPacketsAct_writes : ({ ringed with host.wr := [wrJob] } : State).host.wr = [wrJob] ∧ wrJob.failed = false ∧
    wrJob.asked ≠ [] ∧ ({ wrJob with asked := [] } : WrJob).asked = [] ∧ ({ wrJob with failed := true } : WrJob).failed = true ∧
    (let p : TowPkt := { hop 0xA with payload := [pack [(31, 0, 1), (32, 32, 1), (33, 33, 1)]] }
     p.src = wrJob.gw ∧ bit (wd p.payload 0) 32 = true ∧ fld (wd p.payload 0) 31 0 ∈ wrJob.asked) := by decide

theorem witness_AddressedPacketsAct_reply : ({ q := 1, session := 5, seq := 7 } : Key) =
    { q := (replyOfWords [w64 (7 * 2 ^ 24 + 2 ^ 56), 0, 0, w64 (5 * 2 ^ 40)]).q,
      session := (replyOfWords [w64 (7 * 2 ^ 24 + 2 ^ 56), 0, 0, w64 (5 * 2 ^ 40)]).session,
      seq := (replyOfWords [w64 (7 * 2 ^ 24 + 2 ^ 56), 0, 0, w64 (5 * 2 ^ 40)]).seq } := by decide

theorem witness_PacketsActOnce : towClass (hop 7).type ≠ 0 ∧ (hop 7).type ≠ 0xA ∧
    ({ ringed with flight.rxSeq := [(2, 1, 1)] } : State).flight.rxSeq.contains (2, towClass 7, 1) = true ∧
    ({ hop 7 with flight := 9 } : TowPkt).flight ≠ ringed.flightId ∧ hopLocal 7 = false ∧ pkt.dst ≠ ringed.flight.addr := by decide

theorem witness_RingAndMembersChange : (up.port .a).up = false ∧ (up.port .a).queue = [] ∧
    ({ ringed with flight.unacked := [{ pkt := pkt, row := some 299959 }] } : State).flight.unacked.length = 1 ∧
    299959 + 40 < ringed.time.rows ∧ (({ hopsA := some 1, hopsB := some 1 } : Member).side = some .a) ∧
    (({ hopsA := some 2, hopsB := some 1 } : Member).side = some .b) ∧
    (({ ringed with flight.members := [(63, { rowA := 298999, hopsA := some 1 })] } : State).member 63).rowA + 1000 <
      ringed.time.rows ∧
    (({ ringed with flight.members := [(63, { lostAt := some 295999 })] } : State).member 63).lostAt = some 295999 ∧
    295999 + 4000 < ringed.time.rows := by decide

/-- The backup time source of a flight whose source has address 5. -/
def backup : State := { ringed with flight.hasRec := true, flight.cfg := w64 (5 * 4 + 2 ^ 14), flight.srcRow := some 283999 }

/-- A packet that has been sent by port A for less than 20 µs, and whose route by that port has lapsed; port B still reaches. -/
def rerouted : Unacked := { pkt := pkt, row := some 299990 }

theorem witness_RingAndMembersChange_lapsed : rerouted.lapsed { ringed with flight.members := [(1, { hopsB := some 1 })] } = true ∧
    ¬ (∃ d, rerouted.row = some d ∧ d + 40 < ringed.time.rows) ∧
    ({ rerouted with row := none } : Unacked).lapsed { ringed with flight.members := [(1, { hopsA := some 1 })] } = false ∧
    (({ ringed with flight.members := [(1, { hopsB := some 1 })] } : State).member pkt.dst).side = some .b ∧
    ({ ringed with flight.counted := true } : State).flight.counted = true ∧
    (State.member { ringed with flight.members := [(63, { present := true })] } 63).checkedRow = none := by decide

/-- A packet that has not been sent, in no queue, and one in the queue of port A. -/
theorem witness_RingAndMembersChange_unqueued : ({ rerouted with row := none } : Unacked).queued ringed = false ∧
    ({ rerouted with row := none } : Unacked).queued { ringed with flight.a := { up := true, queue := [{ pkt := { pkt with src := 0 }, back := none }] } } = true ∧
    (({ ringed with flight.members := [(1, { hopsA := some 1 })] } : State).member pkt.dst).side = some .a := by decide

theorem witness_RingAndMembersChange_more : backupValid backup = true ∧ backup.flight.addr = backupAddr backup ∧
    backup.flight.addr ≠ backup.timeSrc ∧ (backup.flight.srcRow.getD backup.flight.towRow) + 16000 < backup.time.rows ∧
    (({ withInput 24 { q := .qualified, active := true } with flight.syncOk := true, flight.syncRow := some 297999 } : State).input
      24).active = true ∧ 297999 + 2000 < up.time.rows ∧
    ({ up with flight.hasRec := true, flight.cfg := 2, time.rows := 2000001 } : State).enumerated = true ∧
    verifies 63 ringed = true ∧ ringed.ready = true := by decide

set_option maxRecDepth 20000 in
/-- R383: what a port sends is a packet for the port that receives it, with all of it; one changed byte makes it none. -/
theorem test_tow_line : (towLine (hop 2)).length = 16 ∧ towOf (towLine (hop 2)) = some (hop 2) ∧
    towOf ((towLine (hop 2)).set 3 1) = none := by decide

set_option maxRecDepth 20000 in
theorem test_tow_line_payload : (towLine { hop 8 with payload := [3] }).length = 32 ∧
    towOf (towLine { hop 8 with payload := [3] }) = some { hop 8 with payload := [3] } ∧
    towOf ((towLine { hop 8 with payload := [3] }).set 23 4) = none := by decide

set_option maxRecDepth 20000 in
theorem witness_RingAndMembersChange_bad : ({ hop 2 with flight := 9 } : TowPkt).flight ≠ ringed.flightId ∧
    towOf (towLine { hop 2 with flight := 9 }) = some { hop 2 with flight := 9 } ∧ towOf [] = none := by decide

set_option maxRecDepth 20000 in
theorem test_towPacketBad : ∃ t, exec (.towPacketBad ⟨.a, towLine { hop 2 with flight := 9 }⟩) ringed = .next t ∧
    t.flight.towBad = 1 ∧ (t.member (hop 2).src).towBad = 1 := ⟨_, rfl, by decide, by decide⟩
/-! ## Witnesses: matrix, counters, recovery -/

/-- Master 0 reads 8 bytes of the first target. -/
def req0 : MReq := { master := 0, write := false, addr := (targetRange 0).1, len := 8, id := 63 }

theorem witness_MatrixKeepsEveryRequest : req0.master < 8 ∧ req0.id < 64 ∧ up.matrixOn = true ∧
    up.masterHeld req0.master = false ∧ decodeCause { req0 with orphan := false } = 0 ∧
    up.mx.wedged.any (fun t => targetOf req0.addr == some t) = false ∧ up.mx.tagged.contains 7 = false := by decide

/-- M5 in tagged mode, with a request waiting for its ID and one outstanding under it. -/
def taggedM5 : State := { up with
  mx.tagged := [5], mx.out := [{ req := { req0 with master := 5 }, row := 1 }],
  mx.wait := [{ req0 with master := 5 }] }

theorem witness_MatrixKeepsEveryRequest_tagged : taggedM5.mx.tagged.contains 5 = true ∧ taggedM5.masterHeld 5 = false ∧
    taggedM5.mx.wedged.any (fun t => targetOf req0.addr == some t) = false ∧ taggedM5.mx.tagged.contains 0 = false := by decide

/-- R407: an address that no target has, and a request that crosses a 4,096-byte boundary. -/
theorem test_decode_errors : decodeCause { req0 with addr := 2 ^ 40 } = 1 ∧
    decodeCause { req0 with addr := (targetRange 0).1 + 4092 } = 3 ∧ decodeCause { req0 with len := 4096 } = 0 := by decide

def out0 : MOut := { req := req0, row := 299872 }

theorem witness_MatrixErrorsAndResponses : up.matrixOn = true ∧ req0.cmd = none ∧ up.masterHeld 0 = false ∧
    decodeCause { req0 with addr := 2 ^ 40, orphan := false } ≠ 0 ∧
    ({ up with mx.wedged := [0] } : State).mx.wedged.any (fun t => targetOf req0.addr == some t) = true ∧
    targetOf out0.req.addr = some 0 ∧ out0.row + 2 * wedgeTime up ≤ up.time.rows ∧
    up.mx.wedged.contains 0 = false ∧ up.mx.wedgedReg.contains 0 = false := by decide

/-- The counter read in progress for which a request to the wedged target T0 is made. -/
def ctrReadRun : Run := run 0x0902 [w64 (3 + 2 ^ 32), 4096]
theorem witness_MatrixErrorsAndResponses_wedged :
    ({ up with host.prog := [ctrReadRun], mx.wedged := [0] } : State).host.engine = none ∧
    ({ req0 with cmd := some (1, 5, 7) } : MReq).cmd = some (ctrReadRun.key.q, ctrReadRun.key.session, ctrReadRun.key.seq) ∧
    ctrReadRun.cmd.opcode / 256 ≠ 0x0A := by decide

/-- One request outstanding, a read and a write. -/
theorem witness_MatrixErrorsAndResponses_response : ({ up with mx.out := [out0] } : State).mx.out = [out0] ∧ up.mx.wait = [] ∧
    answers req0 out0 = true ∧ out0.req.orphan = false ∧ out0.req.cmd = none ∧ out0.cut = none ∧ up.masterHeld req0.master = false ∧
    up.mx.wedged.any (fun u => targetOf req0.addr == some u) = false ∧ req0.write = false ∧
    answers { req0 with write := true } { out0 with req := { req0 with write := true } } = true := by decide

/-- M7 in reset with nothing outstanding, and M0 in reset for 2 us with one request outstanding. -/
theorem witness_MatrixErrorsAndResponses_readmit :
    ({ up with mx.reset := [(7, 299999)] } : State).mx.reset.find? (fun x => x.1 == 7) = some (7, 299999) ∧
    ({ up with mx.reset := [(7, 299999)] } : State).outOf 7 = [] ∧
    ({ up with mx.reset := [(0, 299996)], mx.out := [out0] } : State).mx.reset.find? (fun x => x.1 == 0) = some (0, 299996) ∧
    (299996 : Nat) + 4 ≤ up.time.rows ∧ ({ up with mx.reset := [(0, 299996)], mx.out := [out0] } : State).outOf 0 ≠ [] := by decide

/-- The counter banks wedged, and M0 in reset, beside a CTR_CFG in the engine. -/
theorem witness_MatrixErrorsAndResponses_core : ((Instr.ctrCfg, 0x0901) : Instr × Nat) ∈ coreCommands true ∧
    (run 0x0901 [0, 0]).cmd.opcode = 0x0901 ∧
    ({ up with mx.wedged := [2], host.engine := some (run 0x0901 [0, 0]) } : State).engineReaches 0x0901 = false ∧
    ({ up with mx.wedged := [2] } : State).engineHeld 0x0901 = false ∧
    ({ up with mx.reset := [(0, 5)], host.engine := some (run 0x0901 [0, 0]) } : State).engineReaches 0x0901 = false ∧
    ({ up with mx.reset := [(0, 5)] } : State).engineHeld 0x0901 = true := by decide

/-- The flash wedged, and M7 in reset, beside a BT_APPLY in the engine. -/
theorem witness_MatrixErrorsAndResponses_boot :
    ((Instr.btApply, 0x0B21) : Instr × Nat) ∈ coreCommands true ++ bootCommands true none none ∧
    (run 0x0B21 []).cmd.opcode = 0x0B21 ∧
    ({ up with mx.wedged := [7], host.engine := some (run 0x0B21 []) } : State).engineReaches 0x0B21 = false ∧
    ({ up with mx.wedged := [7] } : State).engineHeld 0x0B21 = false ∧
    ({ up with mx.reset := [(7, 5)], host.engine := some (run 0x0B21 []) } : State).engineReaches 0x0B21 = false ∧
    ({ up with mx.reset := [(7, 5)] } : State).engineHeld 0x0B21 = true := by decide

def mxCmd : Run := run 0x0A04 [0, w64 (16 * 256)]

theorem witness_MatrixErrorsAndResponses_command : Held 0x0A04 mxCmd (hold mxCmd up) ∧ fld (mxCmd.cmd.p 1) 17 8 = 16 :=
  ⟨held_run (by decide) (by decide), by decide⟩

def counting (c : Ctr) : State := { up with ctr.ctrs := [(4095, c)] }

theorem witness_CountersAndPeriods : 2 ^ 48 ≤ ((counting { value := 2 ^ 48 - 1, ev := 1 }).counter 4095).value +
      ((counting { value := 2 ^ 48 - 1, ev := 1 }).counter 4095).ev ∧ up.fnDown 5 = false ∧
    ((counting { w0 := 0 }).counter 4095).action = 0 ∧
    State.nextFrame { up with time.frame := 7199999, time.row := 249 } % State.period up 15 = 0 ∧
    State.realignAt { up with time.frame := 7199999, time.row := 249 } 7199999 = none ∧
    State.nextFrame { up with time.frame := 7999, time.row := 249 } % State.bwWindow up = 0 := by decide

/-- A bank that is due at frame 7,200,000, one that a command has marked, one that is not due, and the window. -/
theorem witness_CountersAndPeriods_close : 7200000 % up.period 16 = 0 ∧ up.ctr.closed.contains 16 = false ∧
    ({ up with ctr.ends := [3] } : State).ctr.ends.contains 3 = true ∧ 1000 % up.period 3 ≠ 0 ∧ up.ctr.ends.contains 3 = false ∧
    16000 % up.bwWindow = 0 ∧ ({ up with ctr.ends := [17] } : State).ctr.ends.contains 17 = true ∧
    up.ctr.closed.contains 17 = false := by decide

/-- A re-alignment fixed for the end of frame 7,199,999, and none fixed there. -/
def realigned : State := { up with
  time.frame := 7199999, time.row := 249, time.realigns := [{ k := 7199999, n := 2000, gap := 0, mode1 := false, key := none }] }

theorem witness_CountersAndPeriods_realigned : realigned.realignAt realigned.time.frame ≠ none ∧ (16 : Nat) < 17 ∧
    State.realignAt { up with time.frame := 7199999, time.row := 249 } 7199999 = none ∧ up.ticking = true := by decide

theorem witness_CountersAndPeriods_more :
    State.run { up with host.prog := [run 0x0903 [1]] } (run 0x0903 [1]).key = some (run 0x0903 [1]) := by decide

/-- CTR_CFG of bank 15 with SET_BANK and PERIOD 8,000. -/
def ctrCmd : Run := run 0x0901 [w64 (15 + 16), w64 8000]
def cancelCmd : Run := run 0x0901 [w64 (15 + 2 ^ 19), 0]
def fixedCmd : Run := run 0x0904 [w64 16000000]

theorem witness_CounterCommandsWait : Held 0x0901 ctrCmd (hold ctrCmd up) ∧ ctrCfgBad ctrCmd = false ∧
    bit (ctrCmd.cmd.p 1) 30 = bit (up.bank 15).w 30 ∧ (up.bank 15).pend = none ∧ ccCancel (ctrCmd.cmd.p 0) = false ∧
    ctrCfgBad cancelCmd = false ∧ ccCancel (cancelCmd.cmd.p 0) = true ∧ ccSetBank (cancelCmd.cmd.p 0) = false ∧
    Held 0x0904 fixedCmd (hold fixedCmd up) ∧ fld (fixedCmd.cmd.p 0) 23 0 = 16000000 ∧ (up.bank 16).pend = none ∧
    Held 0x0903 (run 0x0903 [7]) (hold (run 0x0903 [7]) up) ∧ (run 0x0903 [7]).cmd.broadcast = false :=
  ⟨held_run (by decide) (by decide), by decide, by decide, by decide, by decide, by decide, by decide, by decide,
   held_run (by decide) (by decide), by decide, by decide, held_run (by decide) (by decide), by decide⟩

/-- CTR_CFG that sets protection of bank 15, through a queue without MAINTENANCE; a bank that waits for its reconfiguration. -/
def protectCmd : Run := run 0x0901 [w64 (15 + 16), w64 (8000 + 2 ^ 30)]
def waitingBank (b : Nat) : State := { up with
  ctr.banks := [(b, { pend := some { key := (run 0x0901 [2]).key, at_ := 9000, boundary := false, words := [] } })],
  host.prog := [run 0x0901 [2]] }

theorem witness_CounterCommandsWait_refusals : Held 0x0901 protectCmd (hold protectCmd up) ∧ ctrCfgBad protectCmd = false ∧
    ccSetBank (protectCmd.cmd.p 0) = true ∧ bit (protectCmd.cmd.p 1) 30 ≠ bit (up.bank (ccBank (protectCmd.cmd.p 0))).w 30 ∧
    privOf protectCmd.key up ≠ 2 ∧ privOf { protectCmd.key with gw := some 3, priv := 2 } up = 2 ∧
    ((waitingBank 15).bank (ccBank (ctrCmd.cmd.p 0))).pend ≠ none ∧ ((waitingBank 16).bank 16).pend ≠ none ∧
    (waitingBank 15).run (run 0x0901 [2]).key = some (run 0x0901 [2]) ∧ fld (fixedCmd.cmd.p 0) 63 40 = 0 :=
  ⟨held_run (by decide) (by decide), by decide, by decide, by decide, by decide, by decide, by decide, by decide, by decide,
   by decide⟩

theorem witness_RecoveryActs : isFunction 127 = true ∧ isFunction 63 = false ∧
    hasWork 5 { up with rcv.busy := [5] } = true ∧ kget 0 ({ up with rcv.marks := [(5, 298000)] } : State).rcv.marks 5 + wdRows up ≤
      up.time.rows ∧ heldBack 4 up = false ∧ (300000 : Nat) ≤ 299000 + reinitMax 5 ∧ 2 ≤ escCount up ∧
    (295999 : Nat) + 4000 < ({ twin .active with twin.silent := some 295999 } : State).time.rows := by decide

def asked5 : Reinit := { f := 5, row := 299990, key := none }

/-- Function 5 asked for, down within its maximum, and down past it, where it is automatic and where it is not. -/
theorem witness_RecoveryActs_reinit : heldBack 5 { up with rcv.deferred := [asked5] } = false ∧ up.fnDown 5 = false ∧
    up.time.rows ≤ asked5.row + reinitMax 5 ∧ up.rcv.hist = [] ∧ 2 ≤ escCount up ∧ asked5.late = false ∧
    ({ asked5 with row := 100 } : Reinit).row + reinitMax 5 < up.time.rows ∧ isAuto 5 up = true ∧
    isAuto 5 { up with rcv.w0 := 0 } = false := by decide

def recover2 : Run := run 0x0A01 [w64 (2 + 127 * 8)]
def recoverCfgCmd : Run := run 0x0A02 [w64 (0xFF + 200 * 2 ^ 32), 0]

/-- A step 4 under way holds another back, also with no step asked for. -/
theorem witness_RecoveryActs_busy : up.boot.pwrCycle = false ∧ ({ up with boot.pwrCycle := true } : State).boot.pwrCycle = true ∧
    ({ up with rcv.step := some { step := 3, row := 5, key := none, fn := 127, go := true, begun := true } } : State).rcv.step ≠
      none := by decide

theorem witness_RecoveryActs_commands : Held 0x0A01 recover2 (hold recover2 up) ∧ fld (recover2.cmd.p 0) 9 3 = 127 ∧
    fld (recover2.cmd.p 0) 2 0 = 2 ∧ up.fnDown 127 = false ∧ Held 0x0A01 (run 0x0A01 [4]) (hold (run 0x0A01 [4]) up) ∧
    up.rcv.step = none ∧ ({ up with rcv.deferred := [], rcv.down := [{ f := 127, row := 5, key := none }] } : State).fnDown 127 = true ∧
    Held 0x0A01 (run 0x0A01 [3]) (hold (run 0x0A01 [3]) up) ∧ coveredByPartner up = false ∧
    Held 0x0A02 recoverCfgCmd (hold recoverCfgCmd up) ∧ fld (recoverCfgCmd.cmd.p 0) 47 32 = 200 :=
  ⟨held_run (by decide) (by decide), by decide, by decide, by decide, held_run (by decide) (by decide), by decide, by decide,
   held_run (by decide) (by decide), by decide, held_run (by decide) (by decide), by decide⟩

/-! ## Witnesses: flash, reset, start-up -/

/-- An image of Table 18.5 at its smallest, level 5, stepping 0xB1, and one whose level is below a SEC_FLOOR of 6. -/
def image : FwImage :=
  { header := [w64 (0x4657494D + 2 ^ 32), w64 (4096 + 7 * 2 ^ 32), w64 (5 + 0xB1 * 256), 0, 0, 0, 0, 0],
    body := List.replicate 512 0, sigOk := true }

theorem test_fwAccepted : fwAccepted image 5 = true ∧ fwAccepted image 6 = false ∧
    fwAccepted { image with sigOk := false } 0 = false ∧ fwAccepted badImage 0 = false ∧ fwVersion image = 7 := by decide +kernel

def fwCmd : Run := run 0x0B10 [w64 4096, w64 4224]

theorem witness_FlashCommandsAct_firmware : Held 0x0B12 (run 0x0B12 [5]) (hold (run 0x0B12 [5]) up) ∧
    Held 0x0B10 fwCmd (hold fwCmd up) ∧ bufOk (fwCmd.cmd.p 0) = true ∧ fld (fwCmd.cmd.p 1) 23 0 = 128 + fwLength image ∧
    up.isGateway = true ∧ up.hostUp = true ∧ up.boot.flash = none :=
  ⟨held_run (by decide) (by decide), held_run (by decide) (by decide), by decide, by decide, by decide, by decide, by decide⟩

/-- The header of a board table of SEQUENCE seq, with one BOARD record, and its trailer (Tables 8.2, 8.4). -/
def table (seq : Nat) : List W64 :=
  let ws := [w64 (0x42544C31 + 2 ^ 32), w64 (88 + seq * 2 ^ 32), 0, 1, 0, 0, 0, 0, w64 (1 + 2 * 256), 4]
  ws ++ [w64 ((crc32c (wordBytes ws)).toNat + 0x42544C31 * 2 ^ 32)]

set_option maxRecDepth 100000 in
theorem test_btAccepted : (btAccepted (table 12)).isSome = true ∧ btAccepted (table 0) = none ∧
    btAccepted ((table 12).set 9 8) = none := by decide +kernel

def tabled : State := { up with boot.btA := table 12, boot.btB := table 13, boot.btUse := some false }

set_option maxRecDepth 100000 in
theorem witness_FlashCommandsAct_table : Held 0x0B20 (run 0x0B20 [4096]) (hold (run 0x0B20 [4096]) tabled) ∧
    (btAccepted (table 13)).isSome = true ∧ tabled.btSeq < btSequence (table 13) ∧ btSequence (table 12) ≤ tabled.btSeq ∧
    Held 0x0B21 (run 0x0B21 []) (hold (run 0x0B21 []) tabled) ∧ tabled.btSlot (!tabled.btInUse) = table 13 ∧
    ({ kind := 1, key := {}, words := table 13 } : FlashJob).kind = 1 :=
  ⟨held_run (by decide) (by decide), by decide +kernel, by decide, by decide, held_run (by decide) (by decide), by decide +kernel,
   by decide⟩

set_option maxRecDepth 100000 in
/-- The board's own address is no address of its partner (R214, R313): `btGood` takes what `btAccepted` takes here. -/
theorem witness_FlashCommandsAct_good : (tabled.btGood (table 13)).isSome = true ∧ tabled.btGood [] = none ∧
    tabled.boot.flash = none ∧ tabled.isGateway = true ∧
    (let s : State := { tabled with boot.btUse := some true }; btSequence (s.btSlot (!s.btInUse)) ≤ s.btSeq) := by decide +kernel

/-- The flash within reach of the boot engine, and out of it. -/
theorem witness_FlashCommandsAct_reach : up.reaches 7 [7] = true ∧ ({ up with mx.wedged := [7] } : State).reaches 7 [7] = false ∧
    tabled.hostUp = true ∧
    (∀ k < 3, ({ up with boot.flash := some { kind := k, key := {} }, mx.wedged := [7] } : State).boot.flash =
      some { kind := k, key := {} }) := by decide

def admitCmd : Run := run 0x0802 [w64 9, w64 1]
def notAdmitted : State := { up with flight.admitted := false, boot.uid := BitVec.ofNat 128 (9 + 2 ^ 64) }

theorem witness_FlashCommandsAct_ends : ({ notAdmitted with boot.flash := some { kind := 2, key := {} } } : State).boot.flash =
      some { kind := 2, key := {} } ∧ up.flight.admitted = true ∧
    ({ up with boot.flash := some { kind := 1, key := {} } } : State).boot.flash.isSome = true ∧
    fwAccepted badImage up.boot.secFloor = false := by decide +kernel

theorem witness_FlashCommandsAct_admit : Held 0x0802 admitCmd (hold admitCmd notAdmitted) ∧
    (admitCmd.cmd.p 0).toNat + 2 ^ 64 * (admitCmd.cmd.p 1).toNat = notAdmitted.boot.uid.toNat ∧
    notAdmitted.flight.admitted = false ∧ ({ kind := 2, key := {} } : FlashJob).kind = 2 ∧
    ({ kind := 0, key := {}, img := some image } : FlashJob).kind = 0 :=
  ⟨held_run (by decide) (by decide), by decide, by decide, by decide, by decide⟩

def step3 : StepReq := { step := 3, row := 5, key := none, fn := 127, go := true, begun := true }

theorem witness_ResetsDiscardVolatileState : (99 : Nat) < 100 ∧ (100 : Nat) ≤ 100 ∧ up.boot.resetN = true ∧
    ({ up with rcv.step := some step3 } : State).rcv.step = some step3 ∧ step3.step = 3 ∧ step3.begun = true ∧
    up.twin.silent = none ∧ (2000 : Nat) < 2001 ∧ State.reset.boot.resetN = false ∧ State.reset.boot.railsOk = true ∧
    State.reset.boot.hot = false ∧ ({ up with boot.internal := true } : State).boot.internal = true ∧
    ({ State.reset with boot.hot := true } : State).boot.hot = true := by decide

theorem witness_StartUpRunsThroughItsStates_firmware : ({ up with boot.st := .rom } : State).boot.uid = 0 ∧ (63 : Nat) < 64 ∧
    ({ up with boot.st := .fwLoad } : State).boot.straps.bootSrc = false ∧
    fwAccepted (foundImage false (some image) none) up.boot.secFloor = true ∧
    fwAccepted (foundImage true (some image) (some badImage)) up.boot.secFloor = true ∧
    fwAccepted (foundImage false (some image) (some badImage)) 0 = false ∧ fwAccepted (foundImage false none none) 0 = false := by
  decide +kernel

set_option maxRecDepth 100000 in
theorem witness_StartUpRunsThroughItsStates_tables : (up.btGood (foundTable false (table 12) [])).isSome = true ∧
    (up.btGood (foundTable true (table 13) (table 12))).isSome = true ∧
    btSequence (foundTable false (table 13) (table 12)) = 12 ∧ up.btGood (foundTable false [] []) = none := by decide +kernel

theorem witness_StartUpRunsThroughItsStates_states : (let s : State := { up with boot.st := .phase, time.frame := 0, flight.towRow := 295999 }
     s.time.frame = 0 ∧ s.flight.firstSync = none ∧ s.flight.towRow + phaseWait s < s.time.rows) ∧
    (let f : SyncFirst := { frame := 7, ps := 0, row := 299999, anchored := true }
     let s : State := { up with boot.st := .phase, time.frame := 0, flight.firstSync := some f, flight.towRow := 299999 }
     s.flight.firstSync = some f ∧ f.row ≤ s.flight.towRow + phaseWait s ∧ syncCount f s = (7, 1)) ∧
    ({ up with boot.st := .clocks } : State).boot.st = .clocks ∧ ({ up with boot.st := .services } : State).boot.st = .services ∧
    up.flight.adm0 = 0 ∧ up.flight.adm1 = 0 ∧ ({ up with boot.step3 := 2 } : State).boot.step3 ≠ 0 := by decide +kernel

/-- Lanes of a device in PHASE: present and admitted, present and not, neither; with and without ADMIN_DEFAULT and the keeper strap. -/
def phased (board : W64) (keeper : Bool) : State := { up with
  boot.st := .phase, boot.board := board, boot.straps := { up.boot.straps with keeperOnly := keeper },
  lanes := [(0, { recW1 := 1, admin := true }), (1, { recW1 := 1 }), (2, { admin := true })] }

theorem witness_StartUpRunsThroughItsStates_lanes : (phased 0 false).boot.st = .phase ∧ (phased 0 false).time.frame ≠ 0 ∧
    ((phased 0 false).lane 0).present = true ∧ ((phased 0 false).lane 0).admin = true ∧ ((phased 0 false).lane 1).admin = false ∧
    bit (phased 4 false).boot.board 2 = true ∧ bit (phased 0 false).boot.board 2 = false ∧
    ((phased 0 false).lane 2).present = false ∧ (phased 4 true).boot.straps.keeperOnly = true ∧
    (∀ e ∈ (phased 4 false).lanes, e.1 = 511 → e.2.present = false) := by decide

/-- Table 18.6: ADMIN_DEFAULT brings up the present lanes, with the count already fixed. -/
theorem test_services :
    let s := adminDefault { phased 4 false with boot.st := .services }
    ((admitLane 1 s).lane 1).bring = .signalWait ∧ ((admitLane 2 s).lane 2).bring = .off := by decide

set_option maxRecDepth 100000 in
/-- R399: an admission record with its CRC admits the UID that it names, and no other. -/
theorem test_admission : admJudge 5 (admRecord 5 1000) = some true ∧ admJudge 6 (admRecord 5 1000) = some false ∧
    admJudge 5 0 = none := by decide +kernel

/-- Slot 9 of ingress lane 0, in the row taken in, goes by stage memory word 5 of output port 2 to slot 7 of its copy A. -/
def crossing (tag : Bool) : State := { up with
  fab.act := { gen := 1, entries := [(6144 * 2 + 7, BitVec.ofNat 32 (2 ^ 31 + 2 ^ 29 + 9 * 128))],
               stage := [(12288 * 2 + 5, BitVec.ofNat 16 (2 ^ 15 + 7))] },
  fab.ingress := [(0, some { words := [0, 0, 0, 0, 0, 0, 0, 0, 0, 77], tag := tag })] }

theorem witness_RowTicksCountRowsAndFrames_space : (crossing true).fab.running = true ∧ switchOn (crossing true) = true ∧
    (2, 5, BitVec.ofNat 16 (2 ^ 15 + 7)) ∈ (spacePage (crossing true)).used ∧
    (spacePage (crossing true)).source 2 (BitVec.ofNat 16 (2 ^ 15 + 7)) = some (0, 9) ∧
    rowWord (crossing true).fab.ingress 0 9 = some (77, true) ∧ rowWord up.fab.ingress 0 9 = none ∧
    ({ up with fab.running := false } : State).fab.running = false := by decide

/-- R59: the word and its tag cross; where the row is missing the word is marked invalid (R18). -/
theorem test_space : kget none (coreStep (crossing true)).fab.cross (12288 * 2 + 7) = some (77, true) ∧
    kget none (coreStep (crossing false)).fab.cross (12288 * 2 + 7) = some (77, false) ∧
    (kget none (coreStep { crossing true with fab.ingress := [] }).fab.cross (12288 * 2 + 7)).map (·.2) = some false := by
  refine ⟨by decide, by decide, by rfl⟩

theorem witness_RowTicksCountRowsAndFrames : State.reset.ticking = false ∧ up.ticking = true ∧
    ({ up with time.frame := 0 } : State).time.frame = 0 ∧ up.time.row < 249 ∧ up.realignAt 1000 = none ∧
    (State.realignAt { up with time.realigns := [{ k := 1000, n := 2000, gap := 0, mode1 := false, key := none }] } 1000).isSome =
      true := by decide

/-- R470: a device in PHASE without a frame count, and one past it. -/
theorem witness_RowTicksCountRowsAndFrames_phase :
    ({ up with boot.st := .phase, time.frame := 0 } : State).ticking = true ∧ up.boot.st ≠ .phase ∧
    ({ up with time.row := 249 } : State).time.row = 249 := by decide

/-- A device that failed in SERVICES, and one that failed in CLOCKS. -/
theorem witness_RowTicksCountRowsAndFrames_failed :
    (let s : State := { up with boot.st := .failed, boot.failedIn := .services }
     s.ticking = false ∧ s.boot.st = .failed ∧ s.boot.failedIn = .services) ∧
    (let s : State := { up with boot.st := .failed, boot.failedIn := .clocks }
     s.ticking = false ∧ ¬(s.boot.st = .failed ∧ s.boot.failedIn = .services)) := by decide

theorem witness_WellFormedCommandsComplete : Instr.nop.wf = true := by decide

theorem witness_QueueUntouched : ∃ t, exec .nop up = .next t := ⟨_, rfl⟩

theorem witness_StepKeepsSafe : Safe up ∧ ∃ t, step up = .next t :=
  ⟨⟨by unfold RowInFrame; decide, by unfold HostMemoryCanonical; decide⟩, _, rfl⟩

theorem witness_FusesAndSlotAStand : (∃ t, step { up with boot.uid := 5, boot.fwA := some badImage } = .next t) ∧
    up.boot.reflash = false := ⟨⟨_, rfl⟩, rfl⟩

/-! ## Single steps on the spec's figures -/

/-- R30: row 249 of a frame is followed by row 0 of the next. -/
theorem test_advance : (advance none { up with time.row := 249 }).time.frame = 1001 ∧
    (advance none { up with time.row := 249 }).time.row = 0 ∧ (advance none up).time.row = 11 := by decide

/-- Table 13.3: WIN_STATE of a READY gateway of address 0 at stepping B1. -/
theorem test_window : windowWord 0 up = 0xB1 + 256 + 2 ^ 32 * (8 + 16 + 32) := by decide

/-- R365: a command for the STANDBY role (ROLE 3) is refused by a SOLO device with ST_ROLE_MOVED. -/
theorem test_role_moved : startCheck { (run 0x0107 []).cmd with w2 := w64 (3 * 2 ^ 60) } up = some stRoleMoved := by decide

/-- A malformed operand: no lane 512 exists. -/
theorem test_no_lane : exec (.losDeclareRun 512) up = .fault (.noSuchObject "lane") := rfl

/-- The step takes the first waiting command and leaves the rest. -/
theorem test_step : step { up with pending := [.railFailure 5, .nop] } = .next { up with pending := [.nop] } := rfl

end Sys2Proof.Tests
end

section
/-! SUPPORT. The shared operation `bufReply` (R5, R345, R389): what the bytes of words are, what a run of bytes written reads back,
and the three ways in which a buffer is answered. -/

namespace Sys2Proof.Machine

open Sys2Proof

/-! ## Words as bytes, and bytes read back -/

theorem leBytes_length (n v : Nat) : (leBytes n v).length = n := by
  simp [leBytes]

theorem wordBytes_cons (w : W64) (ws : List W64) : wordBytes (w :: ws) = leBytes 8 w.toNat ++ wordBytes ws := rfl

theorem wordBytes_length (ws : List W64) : (wordBytes ws).length = 8 * ws.length := by
  induction ws with
  | nil => rfl
  | cons w ws ih => rw [wordBytes_cons, List.length_append, leBytes_length, ih, List.length_cons]; omega

/-- Byte i of the bytes of words is byte i % 8, from the least significant, of word i / 8 (R5). -/
theorem wordBytes_getElem? (ws : List W64) {i : Nat} (h : i < 8 * ws.length) :
    (wordBytes ws)[i]? = some (BitVec.ofNat 8 ((wd ws (i / 8)).toNat >>> (8 * (i % 8)))) := by
  induction ws generalizing i with
  | nil => simp at h
  | cons w ws ih =>
    rw [wordBytes_cons]
    by_cases hi : i < 8
    · rw [List.getElem?_append_left (by rwa [leBytes_length]), Nat.div_eq_of_lt hi, Nat.mod_eq_of_lt hi]
      simp [leBytes, hi, wd]
    · obtain ⟨j, rfl⟩ := Nat.exists_eq_add_of_le (Nat.le_of_not_lt hi)
      have hj : j < 8 * ws.length := by rw [List.length_cons] at h; omega
      rw [List.getElem?_append_right (by rw [leBytes_length]; omega), leBytes_length, Nat.add_sub_cancel_left, ih hj,
        Nat.add_mod_left, Nat.add_div_left _ (by decide)]
      rfl

/-- Bytes written from a on, up to the end of the address space, read back at their places. -/
theorem read_write_inside (bs : List (BitVec 8)) (m : List Host.Cell) (a : Nat) (ha : a + bs.length ≤ 2 ^ 64) {i : Nat}
    (hi : i < bs.length) : Memory.read (Memory.write m a bs) (a + i) = bs[i]? := by
  induction bs generalizing m a i with
  | nil => simp at hi
  | cons b bs ih =>
    rw [List.length_cons] at ha hi
    rw [Memory.write]
    cases i with
    | zero =>
      have clear : ∀ j, j < bs.length → a ≠ (a + 1 + j) % 2 ^ 64 := fun j hj => by
        rw [Nat.mod_eq_of_lt (by omega)]; omega
      rw [Nat.add_zero a, read_write_other bs _ _ _ clear, Nat.mod_eq_of_lt (by omega), read_set_same]
      rfl
    | succ i =>
      rw [show a + (i + 1) = a + 1 + i by omega, ih _ _ (by omega) (by omega), List.getElem?_cons_succ]

/-! ## How a buffer is answered -/

theorem isGateway_of_hostUp {s : State} (h : s.hostUp = true) : s.isGateway = true := by
  simp only [State.hostUp, Bool.and_eq_true] at h
  exact h.1.1.1

theorem hostReach_of_hostUp {s : State} (h : s.hostUp = true) : s.hostReach = true := by
  rw [State.hostReach, if_pos (isGateway_of_hostUp h), h]

theorem gatewayAddr_of_hostReach {s : State} (hg : s.isGateway = false) (h : s.hostReach = true) :
    ∃ g, s.gatewayAddr = some g := by
  simp only [State.hostReach, hg, Bool.false_eq_true, if_false, Bool.and_eq_true, Option.any_eq_true] at h
  obtain ⟨_, g, hg, _⟩ := h
  exact ⟨g, hg⟩

/-- The gateway writes the buffer and completes the command. -/
theorem bufReply_up {s : State} (h : s.hostUp = true) (r : Run) (a : Nat) (ws reply : List W64) :
    bufReply r true a ws reply s = finish r stOk reply (bufWrite a ws s) := by
  have own : s.gatewayAddr.filter (fun _ => !s.isGateway) = none := by simp [isGateway_of_hostUp h]
  simp only [bufReply, hostReach_of_hostUp h, Bool.and_self, if_true, own]

/-- A member has its gateway write the buffer. -/
theorem bufReply_member {s : State} (hg : s.isGateway = false) (h : s.hostReach = true) (r : Run) (a : Nat)
    (ws reply : List W64) : ∃ g, bufReply r true a ws reply s = memberWrite r g a ws reply s := by
  obtain ⟨g, hg'⟩ := gatewayAddr_of_hostReach hg h
  have routed : s.gatewayAddr.filter (fun _ => !s.isGateway) = some g := by simp [hg, hg']
  exact ⟨g, by simp only [bufReply, h, Bool.and_self, if_true, routed]⟩

theorem bufReply_unwritten (r : Run) (a : Nat) (ws reply : List W64) (s : State) :
    bufReply r false a ws reply s = finish r stDmaError [] (bufUndefined a (8 * ws.length) s) := rfl

theorem bufReply_unreached {s : State} (h : s.hostReach = false) (r : Run) (ok : Bool) (a : Nat) (ws reply : List W64) :
    bufReply r ok a ws reply s = bufReply r false a ws reply s := by
  simp only [bufReply, h, Bool.and_false]

/-- A buffer is written by the gateway, or through it, or not at all. -/
theorem bufReply_cases (r : Run) (ok : Bool) (a : Nat) (ws reply : List W64) (s : State) :
    bufReply r ok a ws reply s = finish r stOk reply (bufWrite a ws s) ∨
    (∃ g, bufReply r ok a ws reply s = memberWrite r g a ws reply s) ∨
    bufReply r ok a ws reply s = finish r stDmaError [] (bufUndefined a (8 * ws.length) s) := by
  cases ok with
  | false => exact .inr (.inr rfl)
  | true =>
    cases hr : s.hostReach with
    | false => exact .inr (.inr (bufReply_unreached hr ..))
    | true =>
      cases hg : s.isGateway with
      | false => exact .inr (.inl (bufReply_member hg hr ..))
      | true =>
        have up : s.hostUp = true := by rwa [State.hostReach, if_pos hg] at hr
        exact .inl (bufReply_up up ..)

/-! ## Host memory after each of the ways -/

theorem read_bufWrite_outside (a : Nat) (ws : List W64) (s : State) (c : Nat)
    (h : ∀ i, i < 8 * ws.length → c ≠ (a + i) % 2 ^ 64) :
    Memory.read (bufWrite a ws s).host.mem c = Memory.read s.host.mem c :=
  read_write_other _ _ _ _ (by rwa [wordBytes_length])

theorem read_bufUndefined_outside (a n : Nat) (s : State) (c : Nat) (h : ∀ i, i < n → c ≠ (a + i) % 2 ^ 64) :
    Memory.read (bufUndefined a n s).host.mem c = Memory.read s.host.mem c :=
  read_write_other _ _ _ _ (by simpa using h)

theorem read_bufWrite_inside (a : Nat) (ws : List W64) (s : State) (ha : a + 8 * ws.length ≤ 2 ^ 64) {i : Nat}
    (hi : i < 8 * ws.length) : Memory.read (bufWrite a ws s).host.mem (a + i) =
      some (BitVec.ofNat 8 ((wd ws (i / 8)).toNat >>> (8 * (i % 8)))) := by
  rw [← wordBytes_getElem? ws hi]
  exact read_write_inside _ _ _ (by rwa [wordBytes_length]) (by rwa [wordBytes_length])

/-- Bytes outside the buffer read as before. -/
theorem read_bufReply_outside (r : Run) (ok : Bool) (a : Nat) (ws reply : List W64) (s : State) (c : Nat)
    (h : ∀ i, i < 8 * ws.length → c ≠ (a + i) % 2 ^ 64) :
    Memory.read (bufReply r ok a ws reply s).host.mem c = Memory.read s.host.mem c := by
  rcases bufReply_cases r ok a ws reply s with e | ⟨g, e⟩ | e <;> rw [e]
  · simpa using read_bufWrite_outside a ws s c h
  · simp
  · simpa using read_bufUndefined_outside a _ s c h

theorem memberWrite_wr_run (r : Run) (gw a : Nat) (ws reply : List W64) (s : State) :
    (memberWrite r gw a ws reply s).host.wr.map (·.run) = s.host.wr.map (·.run) ++ [r] := by
  simp [memberWrite]

end Sys2Proof.Machine

namespace Sys2Proof

open Sys2Proof.Machine

/-- Settles O16, by the three ways in which a buffer is answered. -/
theorem bufferReplyWritesTheBuffer : Obligations.BufferReplyWritesTheBuffer := by
  intro r a ws reply s
  refine ⟨fun ok c => read_bufReply_outside r ok a ws reply s c, fun up ha i hi => ?_, bufReply_unwritten r a ws reply s,
    fun h => bufReply_unreached h .., fun hg h => ?_⟩
  · rw [bufReply_up up]
    simpa using read_bufWrite_inside a ws s ha hi
  · obtain ⟨g, e⟩ := bufReply_member hg h r a ws reply
    rw [e]
    exact ⟨by simp, memberWrite_wr_run r g a ws reply s⟩

end Sys2Proof
end

section
/-! SUPPORT. Status commands and record reads (R375, R455, R497): a parameter check, then a record answered at once or copied at the
row tick. -/

namespace Sys2Proof

open Sys2Proof.Machine

/-! ## A command with a parameter check -/

theorem Held.has {op : Nat} {r : Run} {s : State} (h : Held op r s) : Has op r s := ⟨h.1, h.2.1, h.2.2.2⟩

theorem Held.size {op : Nat} {r : Run} {s : State} (h : Held op r s) : sizeOk r = true := h.2.2.1

/-- The command answers t where its parameters are as p says; where they are not, it is refused with ST_INVALID_PARAM (R360). -/
def AnswersWhen (p : Prop) (c : Instr) (r : Run) (s t : State) : Prop :=
  (p → exec c s = .next t) ∧ (¬ p → exec c s = .next (invalid r (idle s)))

/-- A command whose meaning m refuses bad parameters, where the engine has it. -/
theorem answersWhen_of_check {op : Nat} {c : Instr} {f : Run → State → State} {bad : Bool} {p : Prop} {r : Run} {s t : State}
    (m : Res) (hc : exec c s = m) (hm : m = onEngine op f s) (hf : f r (idle s) = if bad then invalid r (idle s) else t)
    (h : Has op r s) (hp : bad = false ↔ p) : AnswersWhen p c r s t := by
  obtain ⟨he, ho, hr⟩ := h
  have run : exec c s = .next (if bad then invalid r (idle s) else t) := by
    rw [hc, hm, ← hf]
    exact onEngine_held he ho hr
  rw [AnswersWhen, run, ← hp]
  cases bad <;> simp

/-! ## Status commands -/

section
variable {r : Run} {s : State}

theorem twinStatus_answers (h : Has 0x0701 r s) :
    AnswersWhen (sizeOk r = true) .twinStatus r s (finish r stOk (twinStatusWords (idle s)) (idle s)) :=
  answersWhen_of_check (execTwinStatus s) rfl rfl rfl h (by simp)

theorem keeperStatus_answers (h : Has 0x0703 r s) :
    AnswersWhen (sizeOk r = true ∧ s.boot.straps.keeperOnly = true) .keeperStatus r s
      (finish r stOk (keeperStatusWords (idle s)) (idle s)) :=
  answersWhen_of_check (execKeeperStatus s) rfl rfl rfl h (by simp [idle])

theorem ckptStatus_answers (h : Has 0x0710 r s) :
    AnswersWhen (sizeOk r = true ∧ s.twin.role ≠ .solo) .ckptStatus r s
      (finish r stOk (ckptStatusWords (idle s)) (idle s)) :=
  answersWhen_of_check (execCkptStatus s) rfl rfl rfl h (by simp [idle, noPair])

theorem pStatus_answers (h : Has 0x060A r s) :
    AnswersWhen (sizeOk r = true) .pStatus r s (finish r stOk (pStatusWords (idle s)) (idle s)) :=
  answersWhen_of_check (execPStatus s) rfl rfl rfl h (by simp)

theorem ctrStatus_answers (h : Has 0x0907 r s) :
    AnswersWhen (sizeOk r = true ∧ fld (r.cmd.p 0) 63 5 = 0 ∧ fld (r.cmd.p 0) 4 0 ≤ 16) .ctrStatus r s
      (finish r stOk (ctrStatusWords (fld (r.cmd.p 0) 4 0) (idle s)) (idle s)) :=
  answersWhen_of_check (execCtrStatus s) rfl rfl rfl h (by simp [and_assoc])

theorem recoverStatus_answers (h : Has 0x0A03 r s) :
    AnswersWhen (sizeOk r = true) .recoverStatus r s (finish r stOk (recoverStatusWords (idle s)) (idle s)) :=
  answersWhen_of_check (execRecoverStatus s) rfl rfl rfl h (by simp)

theorem identityRead_answers (h : Has 0x0B01 r s) :
    AnswersWhen (sizeOk r = true) .identityRead r s (finish r stOk (identityWords (idle s)) (idle s)) :=
  answersWhen_of_check (execIdentityRead s) rfl rfl rfl h (by simp)

theorem fwStatus_answers (h : Has 0x0B11 r s) :
    AnswersWhen (sizeOk r = true) .fwStatus r s (finish r stOk (fwStatusWords (idle s)) (idle s)) :=
  answersWhen_of_check (execFwStatus s) rfl rfl rfl h (by simp)

theorem dpllStatus_answers (h : Has 0x0605 r s) :
    AnswersWhen (sizeOk r = true) .dpllStatus r s (finish r stOk (chanFStatus (idle s)) (idle s)) :=
  answersWhen_of_check (execDpllStatus s) rfl rfl rfl h (by simp)

theorem frameStatus_answers (h : Has 0x0610 r s) :
    AnswersWhen (sizeOk r = true) .frameStatus r s (later r (idle s)) :=
  answersWhen_of_check (execFrameStatus s) rfl rfl rfl h (by simp)

theorem stateSummary_answers (h : Has 0x0A06 r s) :
    AnswersWhen (sizeOk r = true) .stateSummary r s (later r (idle s)) :=
  answersWhen_of_check (execStateSummary s) rfl rfl rfl h (by simp)

end

/-! ## Record reads: their parameters -/

/-- LENGTH is right and BUF_ADDR page-aligned. -/
def BufferGood (r : Run) : Prop := sizeOk r = true ∧ (r.cmd.p 0).toNat % 4096 = 0

/-- A range of lanes. -/
def LanesGood (w : W64) : Prop := fld w 18 9 ≠ 0 ∧ fld w 8 0 + fld w 18 9 ≤ 512 ∧ fld w 63 19 = 0

/-- The tributary range of PROT_STATUS. -/
def TribsGood (w v : W64) : Prop :=
  fld w 31 0 = 0 ∧ fld w 63 49 = 0 ∧ fld v 63 18 = 0 ∧ fld v 17 0 ≠ 0 ∧ fld w 48 32 + fld v 17 0 ≤ 131072

/-- The range of inputs of REF_STATUS. -/
def InputsGood (w : W64) : Prop := fld w 63 10 = 0 ∧ fld w 9 5 ≠ 0 ∧ fld w 4 0 + fld w 9 5 ≤ 25

/-- The COUNT of F_SAMPLES. -/
def SamplesGood (w : W64) : Prop := fld w 63 9 = 0 ∧ fld w 8 0 ≠ 0 ∧ fld w 8 0 ≤ 256

/-- The TYPE, objects and COUNT of MEAS_READ. -/
def MeasGood (w : W64) : Prop :=
  fld w 63 33 = 0 ∧ fld w 20 11 ≠ 0 ∧
    ((fld w 1 0 = 0 ∧ fld w 10 2 + fld w 20 11 ≤ 25 ∧ fld w 32 22 ≠ 0 ∧ fld w 32 22 ≤ 1024) ∨
     (fld w 1 0 = 1 ∧ fld w 10 2 + fld w 20 11 ≤ 512 ∧ fld w 32 22 = 0))

/-- The class and objects of CONFIG_READ. -/
def ObjectsGood (w : W64) : Prop := fld w 63 41 = 0 ∧ fld w 4 0 ≤ 12 ∧ fld w 22 5 + fld w 40 23 ≤ classSize (fld w 4 0)

/-- The check of the parameters that every record read has. -/
theorem bufferCheck_iff (r : Run) : (!sizeOk r || !bufOk (r.cmd.p 0)) = false ↔ BufferGood r := by
  simp [BufferGood, bufOk]

/-! ## Record reads: what each answers -/

section
variable {r : Run} {s : State} (ok : Bool)

theorem planStatus_answers (h : Has 0x0304 r s) : AnswersWhen (BufferGood r) (.planStatus ok) r s (waiting ok r s) :=
  answersWhen_of_check (execPlanStatus ok s) rfl rfl rfl h (bufferCheck_iff r)

theorem flightStatus_answers (h : Has 0x0801 r s) : AnswersWhen (BufferGood r) (.flightStatus ok) r s (waiting ok r s) :=
  answersWhen_of_check (execFlightStatus ok s) rfl rfl rfl h (bufferCheck_iff r)

theorem matrixStatus_answers (h : Has 0x0A05 r s) :
    AnswersWhen (BufferGood r) (.matrixStatus ok) r s (copied ok r (matrixStatusWords (idle s)) [] (idle s)) :=
  answersWhen_of_check (execMatrixStatus ok s) rfl rfl rfl h (bufferCheck_iff r)

theorem protStatus_answers (h : Has 0x0402 r s) :
    AnswersWhen (BufferGood r ∧ TribsGood (r.cmd.p 1) (r.cmd.p 2)) (.protStatus ok) r s (waiting ok r s) :=
  answersWhen_of_check (execProtStatus ok s) rfl rfl rfl h (by simp [BufferGood, bufOk, TribsGood, and_assoc])

theorem laneStatus_answers (h : Has 0x0503 r s) :
    AnswersWhen (BufferGood r ∧ LanesGood (r.cmd.p 1)) (.laneStatus ok) r s (waiting ok r s) :=
  answersWhen_of_check (execLaneStatus ok s) rfl rfl rfl h (by simp [BufferGood, bufOk, LanesGood, laneRunBad, and_assoc])

theorem laneDefStatus_answers (h : Has 0x0521 r s) :
    AnswersWhen (BufferGood r ∧ LanesGood (r.cmd.p 1)) (.laneDefStatus ok) r s (waiting ok r s) :=
  answersWhen_of_check (execLaneDefStatus ok s) rfl rfl rfl h (by simp [BufferGood, bufOk, LanesGood, laneRunBad, and_assoc])

theorem bwRead_answers (h : Has 0x0906 r s) :
    AnswersWhen (BufferGood r ∧ LanesGood (r.cmd.p 1)) (.bwRead ok) r s (waiting ok r s) :=
  answersWhen_of_check (execBwRead ok s) rfl rfl rfl h (by simp [BufferGood, bufOk, LanesGood, and_assoc, and_comm, and_left_comm])

theorem measRead_answers (h : Has 0x060E r s) :
    AnswersWhen (BufferGood r ∧ MeasGood (r.cmd.p 1)) (.measRead ok) r s (waiting ok r s) := by
  refine answersWhen_of_check (execMeasRead ok s) rfl rfl rfl h ?_
  by_cases tie : fld (r.cmd.p 1) 1 0 = 0
  · simp [BufferGood, bufOk, MeasGood, tie, and_assoc]
  · have lane : fld (r.cmd.p 1) 1 0 ≤ 1 ↔ fld (r.cmd.p 1) 1 0 = 1 := by omega
    simp [BufferGood, bufOk, MeasGood, tie, lane, and_assoc, and_left_comm]

theorem refStatus_answers (h : Has 0x0603 r s) :
    AnswersWhen (BufferGood r ∧ InputsGood (r.cmd.p 1)) (.refStatus ok) r s (copied ok r
      ((List.range (fld (r.cmd.p 1) 9 5)).flatMap (fun j => inputStatus (fld (r.cmd.p 1) 4 0 + j) (idle s))) [] (idle s)) :=
  answersWhen_of_check (execRefStatus ok s) rfl rfl rfl h (by simp [BufferGood, bufOk, InputsGood, and_assoc])

theorem fSamples_answers (h : Has 0x0608 r s) :
    AnswersWhen (BufferGood r ∧ SamplesGood (r.cmd.p 1)) (.fSamples ok) r s (copied ok r
      ((s.f.soft.take (fld (r.cmd.p 1) 8 0)).reverse.flatMap (fun x => [x.w0, x.w1])) [] (idle s)) :=
  answersWhen_of_check (execFSamples ok s) rfl rfl rfl h (by simp [BufferGood, bufOk, SamplesGood, and_assoc])

theorem configRead_answers (h : Has 0x0A07 r s) :
    AnswersWhen (BufferGood r ∧ ObjectsGood (r.cmd.p 1)) (.configRead ok) r s (waiting ok r s) :=
  answersWhen_of_check (execConfigRead ok s) rfl rfl rfl h (by simp [BufferGood, bufOk, ObjectsGood, and_assoc])

theorem btRead_answers (h : Has 0x0B22 r s) :
    AnswersWhen (BufferGood r ∧ fld (r.cmd.p 1) 63 1 = 0) (.btRead ok) r s (copied ok r
      (tableWords ((idle s).btSlot (if bit (r.cmd.p 1) 0 then !s.btInUse else s.btInUse))) [] (idle s)) :=
  answersWhen_of_check (execBtRead ok s) rfl rfl rfl h (by simp [BufferGood, bufOk, and_assoc])

end

/-! ## The row tick -/

section
variable {r : Run} {s : State} {ok : Bool}

/-- Where one sampled command is in progress, the row tick samples that one. -/
theorem sampleTick_one (tie : List (Nat × Int)) (h : s.host.prog.filter (fun x => tickReads.contains x.cmd.opcode) = [r]) :
    sampleTick tie s = sampleStatus tie r s :=
  congrArg (List.foldl (fun s r => sampleStatus tie r s) s) h

theorem frameStatusTick_one (h : s.progOf 0x0610 = [r]) : frameStatusTick s = finish r stOk (frameStatusWords s) s :=
  congrArg (List.foldl (fun s r => finish r stOk (frameStatusWords s) s) s) h

/-- Whether the buffer takes writes, as the command keeps it until the row tick. -/
theorem bufferFlag (h : r.mem = [b2n ok]) : (r.mem.getD 0 0 == 1) = ok := by
  rw [h]; cases ok <;> rfl

theorem throughMatrix_copies (ts : List Nat) (r : Run) (f : State → State) (s : State) :
    Copies ts r s (throughMatrix 1 ts r f s) (f s) := by
  refine ⟨fun h => ?_, fun h => ?_, fun h h' => ?_⟩
  · rw [throughMatrix, if_pos h]
  · have out : s.reaches 1 ts = false := by
      rw [State.masterHeld] at h
      simp [State.reaches, h]
    simp [throughMatrix, out, h]
  · simp [throughMatrix, h, h']

theorem sampleStatus_stateSummary (tie : List (Nat × Int)) (ho : r.cmd.opcode = 0x0A06) :
    sampleStatus tie r s = finish r stOk (stateSummaryWords s) s := by
  simp only [sampleStatus, ho]

theorem sampleStatus_planStatus (tie : List (Nat × Int)) (hm : r.mem = [b2n ok]) (ho : r.cmd.opcode = 0x0304) :
    sampleStatus tie r s = copied ok r (planStatusWords s) ((planStatusWords s).take 4) s := by
  simp only [sampleStatus, ho, bufferFlag hm, copied]

theorem sampleStatus_flightStatus (tie : List (Nat × Int)) (hm : r.mem = [b2n ok]) (ho : r.cmd.opcode = 0x0801) :
    sampleStatus tie r s = copied ok r ((List.range 64).flatMap (fun a => memberWords a s))
      [pack [(6, 0, reachCount s), (7, 7, b2n (bothWays s))]] s := by
  simp only [sampleStatus, ho, bufferFlag hm, copied]

theorem sampleStatus_configRead (tie : List (Nat × Int)) (hm : r.mem = [b2n ok]) (ho : r.cmd.opcode = 0x0A07) :
    sampleStatus tie r s = copied ok r (configWords r s) [] s := by
  simp only [sampleStatus, ho, bufferFlag hm, copied]

theorem sampleStatus_protStatus (tie : List (Nat × Int)) (hm : r.mem = [b2n ok]) (ho : r.cmd.opcode = 0x0402) :
    Copies [1] r s (sampleStatus tie r s) (copied ok r
      ((List.range (fld (r.cmd.p 2) 17 0)).flatMap (fun i => protStatus (fld (r.cmd.p 1) 48 32 + i) s))
      [w64 s.time.frame, w64 s.time.frame] s) := by
  simp only [sampleStatus, ho, bufferFlag hm]
  exact throughMatrix_copies _ _ _ _

/-- The records of a range of lanes, the lanes counted from the first. -/
theorem laneRun_flatMap (w : W64) (f : Nat → List W64) :
    (laneRun w).flatMap f = (List.range (fld w 18 9)).flatMap (fun i => f (fld w 8 0 + i)) :=
  List.flatMap_map ..

theorem sampleStatus_laneStatus (tie : List (Nat × Int)) (hm : r.mem = [b2n ok]) (ho : r.cmd.opcode = 0x0503) :
    Copies [3] r s (sampleStatus tie r s) (copied ok r
      ((List.range (fld (r.cmd.p 1) 18 9)).flatMap (fun i => laneStatus (fld (r.cmd.p 1) 8 0 + i) s)) [] s) := by
  simp only [sampleStatus, ho, bufferFlag hm, laneRun_flatMap]
  exact throughMatrix_copies _ _ _ _

theorem sampleStatus_laneDefStatus (tie : List (Nat × Int)) (hm : r.mem = [b2n ok]) (ho : r.cmd.opcode = 0x0521) :
    Copies [3] r s (sampleStatus tie r s) (copied ok r
      ((List.range (fld (r.cmd.p 1) 18 9)).flatMap (fun i => laneDefStatus (fld (r.cmd.p 1) 8 0 + i) s)) [] s) := by
  simp only [sampleStatus, ho, bufferFlag hm, laneRun_flatMap]
  exact throughMatrix_copies _ _ _ _

theorem sampleStatus_measRead (tie : List (Nat × Int)) (hm : r.mem = [b2n ok]) (ho : r.cmd.opcode = 0x060E) :
    Copies [if fld (r.cmd.p 1) 1 0 = 0 then 4 else 3] r s (sampleStatus tie r s) (measRecords tie r ok s) := by
  simp only [sampleStatus, ho, bufferFlag hm]
  exact throughMatrix_copies _ _ _ _

/-- An effect on each object of a list, if a flag asks for it. -/
theorem ite_foldl_map (b : Bool) (n k : Nat) (g : State → Nat → State) (s : State) :
    (if b then ((List.range n).map (k + ·)).foldl g s else s) =
      (List.range n).foldl (fun t j => if b then g t (k + j) else t) s := by
  cases b with
  | true => simp [List.foldl_map]
  | false => exact (List.foldl_fixed _).symm

theorem measRecords_delay (tie : List (Nat × Int)) (h : fld (r.cmd.p 1) 1 0 = 1) :
    measRecords tie r ok s = (List.range (fld (r.cmd.p 1) 20 11)).foldl
      (fun t j => if bit (r.cmd.p 1) 21 then restartDelay (fld (r.cmd.p 1) 10 2 + j) t else t)
      (copied ok r ((List.range (fld (r.cmd.p 1) 20 11)).flatMap (fun j => delayWords (s.lane (fld (r.cmd.p 1) 10 2 + j)))) [] s) := by
  simp only [measRecords, h, Nat.one_ne_zero, if_false, List.flatMap_map, ite_foldl_map]
  rfl

theorem measRecords_tie (tie : List (Nat × Int)) (h : fld (r.cmd.p 1) 1 0 = 0) :
    measRecords tie r ok s = (List.range (fld (r.cmd.p 1) 20 11)).foldl
      (fun t j => if bit (r.cmd.p 1) 21 then restartTie tie (fld (r.cmd.p 1) 10 2 + j) t else t)
      (copied ok r ((List.range (fld (r.cmd.p 1) 20 11)).flatMap
        (fun j => tieWords (fld (r.cmd.p 1) 10 2 + j) (fld (r.cmd.p 1) 32 22) s)) [] s) := by
  simp only [measRecords, h, if_true, List.flatMap_map, ite_foldl_map]
  rfl

/-- Where a BW_READ is the one read of counts in progress, the row tick copies its records. -/
theorem readStep_bwRead (h : s.host.prog.filter (fun x => [0x0902, 0x0905, 0x0906].contains x.cmd.opcode) = [r])
    (hm : r.mem = [b2n ok]) (ho : r.cmd.opcode = 0x0906) :
    Copies [2] r s (readStep s) (copied ok r (bwReadWords r s) [] s) := by
  simp only [readStep, h, List.foldl_cons, List.foldl_nil, ho, bufferFlag hm]
  exact throughMatrix_copies _ _ _ _

end

/-! ## The statements -/

/-- Settles O17: each status command passes its parameter check, and the row tick samples the one command in progress. -/
theorem statusReadsAnswer : Obligations.StatusReadsAnswer := by
  intro r s
  exact ⟨fun h => (twinStatus_answers h.has).1 h.size,
    fun h keeper => (keeperStatus_answers h.has).1 ⟨h.size, keeper⟩,
    fun h paired => (ckptStatus_answers h.has).1 ⟨h.size, paired⟩,
    fun h => (pStatus_answers h.has).1 h.size,
    fun h rest bank => (ctrStatus_answers h.has).1 ⟨h.size, rest, bank⟩,
    fun h => (recoverStatus_answers h.has).1 h.size,
    fun h => (identityRead_answers h.has).1 h.size,
    fun h => (fwStatus_answers h.has).1 h.size,
    fun h => (dpllStatus_answers h.has).1 h.size,
    fun h => (frameStatus_answers h.has).1 h.size,
    fun h => (stateSummary_answers h.has).1 h.size,
    fun tie ho one => (sampleTick_one tie one).trans (sampleStatus_stateSummary tie ho),
    fun one => frameStatusTick_one one⟩

/-- Settles O18: each record read passes its parameter check or is refused, and the row tick copies the records of the one read in
progress. -/
theorem recordReadsFillTheBuffer : Obligations.RecordReadsFillTheBuffer := by
  intro ok r s w good lanes tribs inputs samples meas objects
  refine ⟨fun h g => (planStatus_answers ok h).1 g, fun h g p => (protStatus_answers ok h).1 ⟨g, p⟩,
    fun h g p => (laneStatus_answers ok h).1 ⟨g, p⟩, fun h g p => (laneDefStatus_answers ok h).1 ⟨g, p⟩,
    fun h g p => (measRead_answers ok h).1 ⟨g, p⟩, fun h g p => (refStatus_answers ok h).1 ⟨g, p⟩,
    fun h g p => (fSamples_answers ok h).1 ⟨g, p⟩, fun h g => (flightStatus_answers ok h).1 g,
    fun h g p => (bwRead_answers ok h).1 ⟨g, p⟩, fun h g p => (configRead_answers ok h).1 ⟨g, p⟩,
    fun h g => (matrixStatus_answers ok h).1 g, fun h g p => (btRead_answers ok h).1 ⟨g, p⟩,
    fun h => (planStatus_answers ok h).2, fun h => (protStatus_answers ok h).2, fun h => (laneStatus_answers ok h).2,
    fun h => (laneDefStatus_answers ok h).2, fun h => (measRead_answers ok h).2, fun h => (refStatus_answers ok h).2,
    fun h => (fSamples_answers ok h).2, fun h => (flightStatus_answers ok h).2, fun h => (bwRead_answers ok h).2,
    fun h => (matrixStatus_answers ok h).2, fun h => (configRead_answers ok h).2, fun h => (btRead_answers ok h).2,
    fun tie one hm => ?_, fun one hm ho => readStep_bwRead one hm ho⟩
  rw [sampleTick_one tie one]
  refine ⟨sampleStatus_planStatus tie hm, sampleStatus_flightStatus tie hm, sampleStatus_configRead tie hm,
    sampleStatus_protStatus tie hm, sampleStatus_laneStatus tie hm, sampleStatus_laneDefStatus tie hm,
    fun ho delay => ?_, fun ho tieType => ?_⟩
  · have copy := sampleStatus_measRead tie (s := s) hm ho
    rwa [delay, if_neg Nat.one_ne_zero, measRecords_delay tie delay] at copy
  · have copy := sampleStatus_measRead tie (s := s) hm ho
    rwa [if_pos tieType, measRecords_tie tie tieType] at copy

end Sys2Proof
end

section
/-! SUPPORT. The frame number, the row and the row ticks counted (R30): after the count of the row that begins is fixed, no work of ROW_TICK
changes them. -/

namespace Sys2Proof.Machine

open Sys2Proof

/-! ## The count of a time base -/

/-- Frame number, row within the frame, row ticks counted. -/
def TimeBase.clock (t : TimeBase) : Nat × Nat × Nat := (t.frame, t.row, t.rows)

@[simp] theorem TimeBase.clock_eta (t : TimeBase) : (t.frame, t.row, t.rows) = t.clock := rfl

@[simp] theorem TimeBase.clock_mk (a b : Nat) (c : Bool) (d e f : Nat) (g h : Int) (i j : Bool) (k : Nat) (l : List Realign)
    (m n : W64) : TimeBase.clock ⟨a, b, c, d, e, f, g, h, i, j, k, l, m, n⟩ = (a, b, d) := rfl

@[simp] theorem ite_clock (c : Prop) [Decidable c] (a b : TimeBase) :
    (if c then a else b).clock = if c then a.clock else b.clock := by split <;> rfl

@[simp] theorem foldl_clock {β : Type} (g : State → β → State) (hg : ∀ s b, (g s b).time.clock = s.time.clock) (l : List β)
    (s : State) : (l.foldl g s).time.clock = s.time.clock := foldl_same (fun s => s.time.clock) g hg l s

/-! ## Commands given up, and roles -/

@[simp] theorem endRun_clock (status : Nat) (r : Run) (s : State) : (endRun status r s).time.clock = s.time.clock := by
  simp [endRun]

@[simp] theorem withdrawRun_clock (r : Run) (s : State) : (withdrawRun r s).time.clock = s.time.clock := by
  simp [withdrawRun]

@[simp] theorem withdrawRoleRuns_clock (s : State) : (withdrawRoleRuns s).time.clock = s.time.clock := by
  unfold withdrawRoleRuns
  (repeat' split) <;> simp

@[simp] theorem setRole_clock (r : Role) (cause : Nat) (s : State) : (setRole r cause s).time.clock = s.time.clock := by
  simp [setRole]

@[simp] theorem beginTaking_clock (t : TakeReg) (s : State) : (beginTaking t s).time.clock = s.time.clock := by
  simp [beginTaking]

@[simp] theorem applyTake_clock (t : TakeReg) (s : State) : (applyTake t s).time.clock = s.time.clock := by
  unfold applyTake
  split <;> simp

@[simp] theorem pendOne_clock (x : Role × Nat) (s : State) : (pendOne x s).time.clock = s.time.clock := by
  unfold pendOne
  split <;> simp

@[simp] theorem noticeTick_clock (s : State) : (noticeTick s).time.clock = s.time.clock := by
  simp [noticeTick]

@[simp] theorem handoverGained_clock (h : Hand) (s : State) : (handoverGained h s).time.clock = s.time.clock := by
  simp [handoverGained]

@[simp] theorem handoverKept_clock (h : Hand) (s : State) : (handoverKept h s).time.clock = s.time.clock := by
  simp [handoverKept]

@[simp] theorem handoverOut_clock (h : Hand) (s : State) : (handoverOut h s).time.clock = s.time.clock := by
  simp [handoverOut]

@[simp] theorem handoverTick_clock (s : State) : (handoverTick s).time.clock = s.time.clock := by
  unfold handoverTick
  split <;> simp

@[simp] theorem warmTick_clock (s : State) : (warmTick s).time.clock = s.time.clock := by
  unfold warmTick
  split <;> simp

@[simp] theorem pendTick_clock (s : State) : (pendTick s).time.clock = s.time.clock := by
  unfold pendTick
  dsimp only
  split <;> simp

@[simp] theorem stepDownTick_clock (why : Nat) (s : State) : (stepDownTick why s).time.clock = s.time.clock := by
  simp [stepDownTick]

@[simp] theorem roleTick_clock (s : State) : (roleTick s).time.clock = s.time.clock := by
  simp [roleTick]

@[simp] theorem applyRevert_clock (r : Run) (s : State) : (applyRevert r s).time.clock = s.time.clock := by
  unfold applyRevert
  split <;> simp

@[simp] theorem revertCmdTick_clock (s : State) : (revertCmdTick s).time.clock = s.time.clock := by
  simp [revertCmdTick]

@[simp] theorem settlePeer_clock (s : State) : (settlePeer s).time.clock = s.time.clock := by
  simp [settlePeer, partnerGone]

/-! ## The matrix and the recovery ladder -/

@[simp] theorem failCommand_clock (q : MReq) (s : State) : (failCommand q s).time.clock = s.time.clock := by
  unfold failCommand
  dsimp only
  (repeat' split) <;> simp

@[simp] theorem refuseWaiting_clock (s : State) : (refuseWaiting s).time.clock = s.time.clock := by
  simp [refuseWaiting, targetError]

@[simp] theorem matrixTick_clock (s : State) : (matrixTick s).time.clock = s.time.clock := by
  simp [matrixTick]

@[simp] theorem discardCkpt_clock (s : State) : (discardCkpt s).time.clock = s.time.clock := by
  simp [discardCkpt]

@[simp] theorem discard_clock (f : Nat) (s : State) : (discard f s).time.clock = s.time.clock := by
  unfold discard
  split <;> simp

@[simp] theorem beginReinit_clock (r : Reinit) (s : State) : (beginReinit r s).time.clock = s.time.clock := by
  simp [beginReinit]

@[simp] theorem recoveryTick_clock (s : State) : (recoveryTick s).time.clock = s.time.clock := by
  simp [recoveryTick]

/-! ## The references and the outputs -/

@[simp] theorem refreshTimeOk_clock (s : State) : (refreshTimeOk s).time.clock = s.time.clock := by
  simp [refreshTimeOk]

@[simp] theorem refTick_clock (s : State) : (refTick s).time.clock = s.time.clock := by
  simp [refTick]

@[simp] theorem settle_execSoftLoopTimeout_time (s : State) : (settle s (execSoftLoopTimeout s)).time = s.time := by
  simp [execSoftLoopTimeout, settle]

@[simp] theorem channelTick_clock (inp : RowInput) (s : State) : (channelTick inp s).time.clock = s.time.clock := by
  simp [channelTick]

@[simp] theorem settle_execSteerDurationEnd_time (s : State) : (settle s (execSteerDurationEnd s)).time = s.time := by
  unfold execSteerDurationEnd
  split <;> simp [settle]

@[simp] theorem outputTick_time (x : Option Realign) (newFrame : Bool) (s : State) :
    (outputTick x newFrame s).time = s.time := by
  cases newFrame <;> simp [outputTick]

/-! ## The re-alignments applied, and the control -/

@[simp] theorem applyRealign_clock (x : Realign) (s : State) : (applyRealign x s).time.clock = s.time.clock := by
  simp [applyRealign]

@[simp] theorem countTick_clock (x : Option Realign) (s : State) : (countTick x s).time.clock = s.time.clock := by
  cases x <;> simp [countTick]

@[simp] theorem settle_execRevertWtrExpiry_clock (s : State) :
    (settle s (execRevertWtrExpiry s)).time.clock = s.time.clock := by
  unfold execRevertWtrExpiry
  split <;> simp [settle]

@[simp] theorem controlTick_clock (s : State) : (controlTick s).time.clock = s.time.clock := by
  simp [controlTick]

/-! ## What falls due at the tick -/

/-- The time base shows this count. -/
def ClockIs (c : Nat × Nat × Nat) (s : State) : Prop := s.time.clock = c

/-- A step that leaves the count, where the count is c. -/
theorem clockIs_next {c : Nat × Nat × Nat} {s t : State} (hs : ClockIs c s) (h : t.time.clock = s.time.clock) :
    AllNext (ClockIs c) (.next t) := allNext_next (h.trans hs)

theorem waitExpiries_clock {c : Nat × Nat × Nat} (s : State) : AllKeep (ClockIs c) (waitExpiries s) :=
  allKeep_flatMap fun _ =>
    allKeep_cons (fun _ hs => clockIs_next hs (by simp)) <|
    allKeep_cons (fun _ hs => clockIs_next hs (by simp)) allKeep_nil

theorem execAttemptTimerExpiry_clock (lane : Nat) {c : Nat × Nat × Nat} (s : State) (hs : ClockIs c s) :
    AllNext (ClockIs c) (execAttemptTimerExpiry lane s) := by
  refine onRunningLane_keeps hs (Eq.trans ?_ hs)
  split <;> simp

theorem laneEnds_clock {c : Nat × Nat × Nat} (lane : Nat) : AllKeep (ClockIs c) (laneEnds lane) :=
  allKeep_cons (execAttemptTimerExpiry_clock lane) <|
  allKeep_cons (fun _ hs => onRunningLane_keeps hs (Eq.trans (by simp) hs)) allKeep_nil

theorem timeEnds_clock {c : Nat × Nat × Nat} : AllKeep (ClockIs c) timeEnds :=
  allKeep_cons (fun _ hs => clockIs_next hs (by simp)) <|
  allKeep_cons (fun _ hs => clockIs_next hs (by simp)) <|
  allKeep_cons (fun _ hs => clockIs_next hs (by simp)) <|
  allKeep_cons (fun _ hs => clockIs_next hs (by simp)) <|
  allKeep_cons (fun _ hs => clockIs_next hs (by simp)) <|
  allKeep_cons (fun _ hs => clockIs_next hs (by simp)) <|
  allKeep_cons (fun _ hs => clockIs_next hs (by simp)) allKeep_nil

theorem execRouteLapse_clock (addr : Nat) (side : Side) {c : Nat × Nat × Nat} (s : State) (hs : ClockIs c s) :
    AllNext (ClockIs c) (execRouteLapse addr side s) := by
  unfold execRouteLapse
  split
  · exact allNext_fault
  · exact clockIs_next hs (by simp)

theorem execMemberUnreachable_clock (addr : Nat) {c : Nat × Nat × Nat} (s : State) (hs : ClockIs c s) :
    AllNext (ClockIs c) (execMemberUnreachable addr s) := by
  unfold execMemberUnreachable
  split
  · exact allNext_fault
  · exact clockIs_next hs (by simp)

theorem memberEnds_clock {c : Nat × Nat × Nat} (a : Nat) : AllKeep (ClockIs c) (memberEnds a) :=
  allKeep_cons (execRouteLapse_clock a .a) <|
  allKeep_cons (execRouteLapse_clock a .b) <|
  allKeep_cons (execMemberUnreachable_clock a) allKeep_nil

theorem execWarmLimitExpiry_clock {c : Nat × Nat × Nat} (s : State) (hs : ClockIs c s) :
    AllNext (ClockIs c) (execWarmLimitExpiry s) := by
  refine clockIs_next hs ?_
  split <;> simp

theorem execHandoverRequestLapse_clock {c : Nat × Nat × Nat} (s : State) (hs : ClockIs c s) :
    AllNext (ClockIs c) (execHandoverRequestLapse s) := by
  refine clockIs_next hs ?_
  dsimp only
  (repeat' split) <;> simp

theorem execStep3Cancel_clock {c : Nat × Nat × Nat} (s : State) (hs : ClockIs c s) :
    AllNext (ClockIs c) (execStep3Cancel s) := by
  refine clockIs_next hs ?_
  split <;> simp

theorem twinEnds_clock {c : Nat × Nat × Nat} : AllKeep (ClockIs c) twinEnds :=
  allKeep_cons (fun s hs => clockIs_next hs (settlePeer_clock s)) <|
  allKeep_cons (fun _ hs => clockIs_next hs (by simp)) <|
  allKeep_cons (fun _ hs => clockIs_next hs (by simp)) <|
  allKeep_cons execWarmLimitExpiry_clock <|
  allKeep_cons execHandoverRequestLapse_clock <|
  allKeep_cons execStep3Cancel_clock allKeep_nil

theorem execKeeperLeaseLapse_clock {c : Nat × Nat × Nat} (s : State) (hs : ClockIs c s) :
    AllNext (ClockIs c) (execKeeperLeaseLapse s) := by
  refine clockIs_next hs ?_
  split <;> simp

theorem execKeeperTakeRepeat_clock {c : Nat × Nat × Nat} (s : State) (hs : ClockIs c s) :
    AllNext (ClockIs c) (execKeeperTakeRepeat s) := by
  refine clockIs_next hs ?_
  split <;> simp

theorem keeperEnds_clock {c : Nat × Nat × Nat} : AllKeep (ClockIs c) keeperEnds :=
  allKeep_cons (fun _ hs => clockIs_next hs (by simp)) <|
  allKeep_cons (fun _ hs => clockIs_next hs (by simp)) <|
  allKeep_cons (fun _ hs => clockIs_next hs (by simp)) <|
  allKeep_cons execKeeperLeaseLapse_clock <|
  allKeep_cons (fun _ hs => clockIs_next hs (by simp)) <|
  allKeep_cons execKeeperTakeRepeat_clock <|
  allKeep_cons (fun _ hs => clockIs_next hs (by simp)) allKeep_nil

theorem dueAtTick_clock {c : Nat × Nat × Nat} (s : State) : AllKeep (ClockIs c) (dueAtTick s) :=
  allKeep_append (allKeep_append (allKeep_append (allKeep_append (allKeep_append (allKeep_append (allKeep_append
    (waitExpiries_clock s) (allKeep_flatMap fun e => laneEnds_clock e.1)) timeEnds_clock)
    (allKeep_flatMap fun e => memberEnds_clock e.1))
    (allKeep_map fun _ _ hs => clockIs_next hs (by simp))) twinEnds_clock) keeperEnds_clock)
    (allKeep_map fun _ _ hs => clockIs_next hs (by simp))

@[simp] theorem expireTick_clock (s : State) : (expireTick s).time.clock = s.time.clock :=
  settleAll_keeps (P := ClockIs s.time.clock) (dueAtTick s) (dueAtTick_clock s) s rfl

/-! ## The tick -/

/-- The row that ROW_TICK begins is the one that the count names once the row that ends is closed and a wait for a SYNC that is over
has numbered the first frame. -/
theorem rowTick_clock (inp : RowInput) (s : State) :
    let x := if s.time.row = 249 then s.realignAt s.time.frame else none
    (rowTick inp s).time.clock = (firstFrame (advance x (closeRow x inp s))).time.clock := by
  simp [rowTick]

end Sys2Proof.Machine
end

section
/-! The row tick and the count (R30, R279, R471): a re-alignment that names frame 0 does not set the count. -/

namespace Sys2Proof

open Sys2Proof.Machine

/-- A re-alignment of the boundary after frame 5 that names frame 0. -/
def toFrameZero : Realign := { k := 5, n := 0, gap := 0, mode1 := false, key := none }

/-- A device in PHASE in row 249 of frame 5, whose wait for a SYNC ends with the row, with that re-alignment fixed. -/
def phaseAtFrameZero : State := { State.reset with
  boot.st := .phase, time.frame := 5, time.row := 249, time.rows := 2000000, time.realigns := [toFrameZero] }

theorem frame_of_clock {b : TimeBase} {x y z : Nat} (h : b.clock = (x, y, z)) : b.frame = x := congrArg Prod.fst h

theorem exec_rowTick (inp : RowInput) {s : State} (h : s.ticking = true) : exec (.rowTick inp) s = .next (rowTick inp s) := by
  simp only [exec, execRowTick, h, if_true]

theorem realignAt_phaseAtFrameZero : phaseAtFrameZero.realignAt phaseAtFrameZero.time.frame = some toFrameZero := by decide

/-- No work of the row that ends is due. -/
theorem closeRow_phaseAtFrameZero : closeRow (some toFrameZero) {} phaseAtFrameZero = phaseAtFrameZero := by
  decide +kernel

/-- The re-alignment sets frame 0, which is the number of a device that still waits: the wait that is over numbers the frame 1. -/
theorem firstFrame_phaseAtFrameZero :
    (firstFrame (advance (some toFrameZero) phaseAtFrameZero)).time.clock = (1, 0, 2000001) := by decide +kernel

theorem rowTick_phaseAtFrameZero : (rowTick {} phaseAtFrameZero).time.clock = (1, 0, 2000001) := by
  rw [rowTick_clock, if_pos (by rfl), realignAt_phaseAtFrameZero, closeRow_phaseAtFrameZero, firstFrame_phaseAtFrameZero]

/-- Refutes O55: the statement is about every state, also one whose re-alignment names frame 0, which the device never numbers (R32) and
no REALIGN fixes (Table 10.9). The model reads frame 0 as a count not yet fixed, so a wait for a SYNC that ends at that tick numbers the
frame 1. -/
theorem not_rowTicksCountRowsAndFrames : ¬ Obligations.RowTicksCountRowsAndFrames := by
  unfold Obligations.RowTicksCountRowsAndFrames
  intro h
  obtain ⟨-, -, ticks, -⟩ := h {} phaseAtFrameZero
  obtain ⟨t, run, -, -, -, -, -, boundary⟩ := ticks rfl
  obtain ⟨-, -, named⟩ := boundary (by decide) rfl
  have frame : t.time.frame = 0 := named toFrameZero realignAt_phaseAtFrameZero
  obtain rfl : rowTick {} phaseAtFrameZero = t := Host.Outcome.next.inj ((exec_rowTick {} rfl).symm.trans run)
  have counted : (rowTick {} phaseAtFrameZero).time.frame = 1 := frame_of_clock rowTick_phaseAtFrameZero
  omega

end Sys2Proof
end

section
/-! SUPPORT. The control matrix (R407 to R420): a request that meets an error, the response to the only request outstanding, a readmission, and a
command that does not reach its objects. -/

namespace Sys2Proof.Machine

open Sys2Proof

theorem sat_eq_min (limit v : Nat) : sat limit v = min limit v := by
  unfold sat
  split <;> omega

theorem exec_matrixRequest {r : MReq} (slot : Bool) {s : State} (hm : r.master < 8) (hi : r.id < 64) (on : s.matrixOn = true) :
    exec (.matrixRequest r slot) s = .next (matrixRequest r slot s) := by
  simp only [exec, execMatrixRequest, if_neg (Nat.not_le.2 hm), if_neg (Nat.not_le.2 hi), on, if_true]

/-! ## Requests that meet an error -/

/-- An error of a request that was made for no command ends none. -/
theorem failCommand_none {q : MReq} (h : q.cmd = none) (s : State) : failCommand q s = s := by
  have found : s.host.prog.find? (fun _ => false) = none := List.find?_eq_none.2 (by simp)
  simp [failCommand, h, found]

/-- An error ends the first command in progress, where the request was made for it and no engine holds one. -/
theorem failCommand_head {q : MReq} {s : State} {x : Run} {xs : List Run} (he : s.host.engine = none)
    (hp : s.host.prog = x :: xs) (hq : q.cmd = some (x.key.q, x.key.session, x.key.seq)) (ho : x.cmd.opcode / 256 ≠ 0x0A) :
    failCommand q s = endRun stFunctionDown x s := by
  simp [failCommand, he, hp, hq, ho]

/-- A declaration leaves all but what the recovery ladder has registered. -/
theorem declareWedged_only (f cause target : Nat) (s : State) :
    declareWedged f cause target s = { s with rcv := (declareWedged f cause target s).rcv } := by
  unfold declareWedged
  split <;> rfl

theorem matrixRequest_undecoded {r : MReq} {s : State} (slot : Bool) (held : s.masterHeld r.master = false)
    (bad : decodeCause { r with orphan := false } ≠ 0) :
    matrixRequest r slot s = decodeError { r with orphan := false } (decodeCause { r with orphan := false }) s := by
  rw [State.masterHeld] at held
  simp [matrixRequest, held, bad]

theorem matrixRequest_wedged {r : MReq} {s : State} (slot : Bool) (held : s.masterHeld r.master = false)
    (good : decodeCause { r with orphan := false } = 0) (wedged : s.mx.wedged.any (fun t => targetOf r.addr == some t) = true) :
    matrixRequest r slot s = failCommand { r with orphan := false }
      { s with mx.tgtErr := min 0xFFFFFFFF (s.mx.tgtErr + 1) } := by
  rw [State.masterHeld] at held
  simp only [matrixRequest, held, good, wedged, targetError, sat_eq_min, ne_eq, not_true_eq_false, Bool.false_eq_true, if_false,
    if_true]

/-! ## Arbitration with nothing to issue -/

theorem bids_of_idle {s : State} (h : s.mx.wait = []) (m t : Nat) : bids m t s = false := by
  simp [bids, offers, headOf, h]

theorem rounds_of_idle {s : State} (h : s.mx.wait = []) (t n : Nat) : rounds t n s = s := by
  cases n with
  | zero => rfl
  | succ n => simp [rounds, bids_of_idle h]

theorem arbitrate_of_idle {s : State} (h : s.mx.wait = []) : arbitrate s = s :=
  List.foldl_fixed' (fun t => rounds_of_idle h t _) _

/-! ## Bytes stored -/

/-- The objects behind the targets are the same. -/
def SameObjects (s t : State) : Prop := s.fab = t.fab ∧ s.ckpt = t.ckpt ∧ s.mx.store = t.mx.store

/-- A byte stored depends on the objects alone. -/
theorem storeByte_sameObjects (a : Nat) (b : BitVec 8) {s t : State} (h : SameObjects s t) :
    SameObjects (storeByte a b s) (storeByte a b t) := by
  obtain ⟨fab, ckpt, store⟩ := h
  unfold storeByte SameObjects
  dsimp only
  split
  · rw [fab]
    split <;> simp [ckpt, store]
  · simp [fab, ckpt, store]
  · split <;> simp [fab, ckpt, store]
  · simp [fab, ckpt, store]
  · exact ⟨fab, ckpt, store⟩

theorem storeBytes_sameObjects (cut : Option Nat) (a : Nat) (ds : List (Option (BitVec 8))) {s t : State} (h : SameObjects s t) :
    SameObjects (storeBytes cut a ds s) (storeBytes cut a ds t) := by
  induction ds generalizing a s t with
  | nil => exact h
  | cons d ds ih =>
    refine ih (a + 1) ?_
    cases d with
    | none => exact h
    | some b =>
      dsimp only
      split
      · exact h
      · exact storeByte_sameObjects a b h

/-- Nothing but the objects differs. -/
def OnlyObjects (s t : State) : Prop := t = { s with fab := t.fab, ckpt := t.ckpt, mx.store := t.mx.store }

theorem storeByte_only (a : Nat) (b : BitVec 8) (s : State) : OnlyObjects s (storeByte a b s) := by
  unfold storeByte OnlyObjects
  dsimp only
  (repeat' split) <;> rfl

theorem OnlyObjects.trans {s t u : State} (h : OnlyObjects s t) (h' : OnlyObjects t u) : OnlyObjects s u := by
  unfold OnlyObjects at *
  rw [h', h]

theorem storeBytes_only (cut : Option Nat) (a : Nat) (ds : List (Option (BitVec 8))) (s : State) :
    OnlyObjects s (storeBytes cut a ds s) := by
  induction ds generalizing a s with
  | nil => exact rfl
  | cons d ds ih =>
    refine OnlyObjects.trans ?_ (ih (a + 1) _)
    cases d with
    | none => exact rfl
    | some b =>
      dsimp only
      split
      · exact rfl
      · exact storeByte_only a b s

/-! ## The response to the only request outstanding -/

/-- The request outstanding is answered: its response slot is free again. -/
def freed (r : MReq) (s : State) : State := modSlots r.addr (· + 1) { s with mx.out := [] }

/-- What a response does, before the marks of the matrix follow: an error is counted, a write stores its bytes, a read brings them. -/
def respond (r : MReq) (err : Bool) (x : MOut) (s : State) : State :=
  let s := freed r s
  if err then { s with mx.tgtErr := min 0xFFFFFFFF (s.mx.tgtErr + 1) }
  else if r.write then storeBytes none r.addr (x.req.data.take r.len) s
  else { s with mx.got := some (r.master, (List.range r.len).map (fun i => loadByte (r.addr + i) s)) }

/-- Only the marks of the matrix differ: targets that work again, and masters on their way back to ordered mode. -/
def OnlyMarks (s t : State) : Prop :=
  t = { s with mx.wedged := t.mx.wedged, mx.cleaned := t.mx.cleaned, mx.taggedEnd := t.mx.taggedEnd, mx.zeroed := t.mx.zeroed }

/-- The request outstanding is the one that the response answers. -/
structure Single (r : MReq) (x : MOut) (s : State) : Prop where
  out : s.mx.out = [x]
  wait : s.mx.wait = []
  answers : answers r x = true
  live : x.req.orphan = false
  cmd : x.req.cmd = none
  whole : x.cut = none
  held : s.masterHeld r.master = false
  reached : s.mx.wedged.any (fun u => targetOf r.addr == some u) = false

theorem Single.answered {r : MReq} {x : MOut} {s : State} (h : Single r x s) : answered r s = some x := by
  have same := h.answers
  simp only [Machine.answers, Bool.and_eq_true, beq_iff_eq] at same
  obtain ⟨⟨⟨⟨master, addr⟩, -⟩, -⟩, -⟩ := same
  simp [Machine.answered, h.out, master, addr, h.answers]

theorem Single.write {r : MReq} {x : MOut} {s : State} (h : Single r x s) : x.req.write = r.write := by
  have same := h.answers
  simp only [Machine.answers, Bool.and_eq_true, beq_iff_eq] at same
  exact same.1.2

theorem respond_wait {r : MReq} {x : MOut} {s : State} (err : Bool) (h : Single r x s) : (respond r err x s).mx.wait = [] := by
  unfold respond
  dsimp only
  split
  · exact h.wait
  · split
    · rw [storeBytes_only none]; exact h.wait
    · exact h.wait

/-- The marks of the matrix follow the response, and arbitration goes on. -/
def closeResponse (s : State) : State :=
  let s := orderMarks (releaseTargets s)
  let zero := ((s.mx.taggedEnd.map (·.1)).filter (fun m => (s.outOf m).isEmpty && !s.mx.zeroed.contains m))
  arbitrate { s with mx.zeroed := s.mx.zeroed ++ zero }

theorem closeResponse_marks {s : State} (h : s.mx.wait = []) : OnlyMarks s (closeResponse s) := by
  unfold closeResponse
  dsimp only
  rw [arbitrate_of_idle (by exact h)]
  rfl

/-- No target of the request is wedged, so none answers for a function that is down. -/
theorem Single.clear {r : MReq} {x : MOut} {s : State} (h : Single r x s) (down : Nat → Bool) :
    s.mx.wedged.any (fun u => targetOf r.addr == some u && down u) = false := by
  have reached := h.reached
  simp only [List.any_eq_false, Bool.and_eq_true, not_and] at reached ⊢
  exact fun u hu at_ => absurd at_ (reached u hu)

theorem matrixResponse_single {r : MReq} {x : MOut} {s : State} (err : Bool) (h : Single r x s) :
    matrixResponse r err s = closeResponse (respond r err x s) := by
  have taken : modSlots r.addr (· + 1) { s with mx.out := dropFirst (fun y => decide (y = x)) s.mx.out } = freed r s := by
    simp [h.out, dropFirst, freed]
  have held : (freed r s).masterHeld r.master = false := h.held
  have clear : (freed r s).mx.wedged.any (fun u => targetOf r.addr == some u && (freed r s).fnDown (targetOwner u r.addr)) = false :=
    h.clear _
  unfold matrixResponse respond
  simp only [h.answered, taken, h.live, held, clear, Bool.or_false, h.write, h.whole, targetError, failCommand_none h.cmd,
    sat_eq_min, Bool.false_eq_true, if_false]
  rfl

theorem respond_read {r : MReq} (x : MOut) (s : State) (h : r.write = false) : respond r false x s =
    { freed r s with mx.got := some (r.master, (List.range r.len).map (fun i => loadByte (r.addr + i) (freed r s))) } := by
  simp [respond, h]

theorem respond_write {r : MReq} (x : MOut) (s : State) (h : r.write = true) :
    respond r false x s = storeBytes none r.addr (x.req.data.take r.len) (freed r s) := by
  simp [respond, h]

/-! ## Readmission -/

/-- An outstanding request once its master m is readmitted. -/
def orphaned (m : Nat) (x : MOut) : MOut := if x.req.master = m then { x with req := { x.req with orphan := true } } else x

theorem readmit_out (m : Nat) (s : State) : (readmit m s).mx.out = s.mx.out.map (orphaned m) := rfl

theorem orphaned_master (m : Nat) (x : MOut) : (orphaned m x).req.master = x.req.master := by
  unfold orphaned
  split <;> rfl

theorem readmit_orphans {m : Nat} {s : State} {y : MOut} (h : y ∈ (readmit m s).outOf m) : y.req.orphan = true := by
  simp only [State.outOf, readmit_out, List.mem_filter, List.mem_map, beq_iff_eq] at h
  obtain ⟨⟨x, -, rfl⟩, master⟩ := h
  rw [orphaned_master] at master
  simp [orphaned, master]

theorem readmit_outOf_other {m k : Nat} (s : State) (h : k ≠ m) : (readmit m s).outOf k = s.outOf k := by
  simp only [State.outOf, readmit_out]
  induction s.mx.out with
  | nil => rfl
  | cons x xs ih =>
    by_cases hx : x.req.master = k
    · have same : orphaned m x = x := if_neg (by omega)
      simp [same, hx, ih]
    · simp [orphaned_master, hx, ih]

/-! ## Commands that do not reach their objects -/

/-- The command c is a meaning on the engine's command of opcode op, which the recovery sequencer does not execute. -/
structure ActsOnEngine (c : Instr) (op : Nat) : Prop where
  other : op / 256 ≠ 0x0A
  acts : ∃ f, ∀ s, exec c s = onEngine op f s

theorem coreAndBootCommands_actOnEngine (ok : Bool) (img : Option FwImage) (buf : Option (List W64)) :
    ∀ p ∈ coreCommands ok ++ bootCommands ok img buf, ActsOnEngine p.1 p.2 := by
  simp only [coreCommands, bootCommands, List.forall_mem_append, List.forall_mem_cons, List.not_mem_nil, false_implies,
    implies_true, and_true]
  and_intros
  all_goals
    refine ⟨by decide, ?_, fun s => ?_⟩
    rotate_left
    · dsimp only [exec]
      rfl

/-- A command of the engine that does not reach its objects waits for its master or is ended by the target error. -/
theorem onEngine_unreached {op : Nat} {f : Run → State → State} {s : State} {x : Run} (he : s.host.engine = some x)
    (ho : x.cmd.opcode = op) (hop : op / 256 ≠ 0x0A) (hr : s.engineReaches op = false) :
    onEngine op f s = .next (if s.engineHeld op then s
      else finish x stFunctionDown [] (idle { s with mx.tgtErr := min 0xFFFFFFFF (s.mx.tgtErr + 1) })) := by
  simp only [onEngine, he, ho, hop, hr, Bool.false_eq_true, or_self, if_true, if_false, sat_eq_min]
  split <;> rfl

end Sys2Proof.Machine

namespace Sys2Proof

open Sys2Proof.Machine

/-! ## The clauses -/

/-- A decode error is counted with its address, master, direction and cause, and the request goes nowhere (R407, R408). -/
theorem matrixRequest_decodeError {r : MReq} {s : State} (slot : Bool) (held : s.masterHeld r.master = false)
    (bad : decodeCause { r with orphan := false } ≠ 0) (cmd : r.cmd = none) :
    let t := matrixRequest r slot s
    t.mx = { s.mx with
      errCount := min 0xFFFFFFFF (s.mx.errCount + 1), errAddr := r.addr % 2 ^ 32, errMaster := r.master, errWrite := r.write,
      errCause := decodeCause { r with orphan := false }, errFrame := s.time.frame, errRow := s.time.row } ∧
    t = { s with mx := t.mx, rcv := t.rcv } := by
  dsimp only
  rw [matrixRequest_undecoded slot held bad, decodeError, failCommand_none (by exact cmd), declareWedged_only, sat_eq_min]
  exact ⟨rfl, rfl⟩

/-- What the response to the only request outstanding leaves (R410, R413; log entry 115). -/
theorem matrixResponse_answers {r : MReq} {x : MOut} {s : State} (err : Bool) (h : Single r x s) :
    let t := matrixResponse r err s
    t.mx.out = [] ∧ t.mx.wait = [] ∧
    t.mx.tgtErr = (if err then min 0xFFFFFFFF (s.mx.tgtErr + 1) else s.mx.tgtErr) ∧
    (err = true → t.mx.store = s.mx.store ∧ t.mx.got = s.mx.got ∧ t = { s with mx := t.mx }) ∧
    (err = false → r.write = false →
      t.mx.got = some (r.master, (List.range r.len).map (fun i => loadByte (r.addr + i) s)) ∧ t = { s with mx := t.mx }) ∧
    (err = false → r.write = true →
      let u := storeBytes none r.addr (x.req.data.take r.len) s
      t.fab = u.fab ∧ t.ckpt = u.ckpt ∧ t.mx.store = u.mx.store ∧ t.mx.got = s.mx.got ∧
      t = { s with mx := t.mx, fab := t.fab, ckpt := t.ckpt }) := by
  dsimp only
  have marks := closeResponse_marks (respond_wait err h)
  rw [matrixResponse_single err h]
  generalize closeResponse (respond r err x s) = t at marks ⊢
  unfold OnlyMarks at marks
  cases err with
  | true =>
    rw [marks]
    exact ⟨rfl, h.wait, rfl, fun _ => ⟨rfl, rfl, rfl⟩, nofun, nofun⟩
  | false =>
    cases hw : r.write with
    | false =>
      rw [respond_read x s hw] at marks
      rw [marks]
      exact ⟨rfl, h.wait, rfl, nofun, fun _ _ => ⟨rfl, rfl⟩, nofun⟩
    | true =>
      have same : SameObjects (storeBytes none r.addr (x.req.data.take r.len) (freed r s))
          (storeBytes none r.addr (x.req.data.take r.len) s) := storeBytes_sameObjects _ _ _ ⟨rfl, rfl, rfl⟩
      obtain ⟨fab, ckpt, store⟩ := same
      rw [respond_write x s hw, storeBytes_only none] at marks
      rw [marks]
      exact ⟨rfl, h.wait, rfl, nofun, nofun, fun _ _ => ⟨fab, ckpt, store, rfl, rfl⟩⟩

/-- A target that has kept a request for WEDGE_TIME is registered as wedged (R412). -/
theorem exec_targetWedged_due {u : Nat} {x : MOut} {s : State} (hu : u < 9) (on : s.matrixOn = true)
    (first : s.mx.out.find? (fun x => targetOf x.req.addr == some u) = some x) (due : x.row + 2 * wedgeTime s ≤ s.time.rows)
    (fresh : s.mx.wedged.contains u = false) (unregistered : s.mx.wedgedReg.contains u = false) :
    exec (.targetWedged u) s =
      .next (declareWedged (targetOwner u x.req.addr) 2 u { s with mx.wedgedReg := s.mx.wedgedReg ++ [u] }) := by
  simp only [exec, execTargetWedged, if_neg (Nat.not_le.2 hu), first, on, due, fresh, unregistered, decide_true, Bool.not_false,
    Bool.and_self, if_true]

/-- A master with nothing outstanding, or in reset for 2 us, is readmitted (R417, R418). -/
theorem exec_masterReadmit_due {m : Nat} {x : Nat × Nat} {s : State} (hm : m < 8)
    (inReset : s.mx.reset.find? (fun x => x.1 == m) = some x) (due : s.outOf m = [] ∨ x.2 + 4 ≤ s.time.rows) :
    exec (.masterReadmit m) s = .next (readmit m s) := by
  simp only [exec, execMasterReadmit, if_neg (Nat.not_le.2 hm), inReset]
  rw [if_pos (by simpa using due)]

/-- MATRIX_CFG in range waits for its row tick (R420). -/
theorem exec_matrixCfg_waits {c : Run} {u : State} (h : Held 0x0A04 c u) (rest : fld (c.cmd.p 1) 63 18 = 0)
    (range : fld (c.cmd.p 1) 17 8 = 0 ∨ 16 ≤ fld (c.cmd.p 1) 17 8) :
    exec .matrixCfg u = .next { idle u with host.prog := u.host.prog ++ [c] } := by
  obtain ⟨engine, op, size, reaches⟩ := h
  have inRange : ¬(1 ≤ fld (c.cmd.p 1) 17 8 ∧ fld (c.cmd.p 1) 17 8 ≤ 15) := by omega
  rw [show exec .matrixCfg u = execMatrixCfg u from rfl, execMatrixCfg, onEngine_held engine op reaches]
  simp only [size, rest, inRange, Bool.not_true, bne_self_eq_false, decide_false, Bool.or_self, Bool.false_eq_true, if_false]
  rfl

/-- Settles O48: each step of the matrix by its own lemma. -/
theorem matrixErrorsAndResponses : Obligations.MatrixErrorsAndResponses := by
  intro r slot s hm hi on
  refine ⟨fun held => ⟨fun bad cmd => ?_, fun good wedged => ⟨fun cmd => ?_, fun x xs engine prog cmd op => ?_⟩⟩,
    fun x err out wait same live cmd whole held reached => ?_, fun u x hu first due fresh unregistered => ?_,
    fun m x hm inReset due => ?_, fun c u h rest range => ⟨exec_matrixCfg_waits h rest range, rfl⟩,
    fun ok img buf c op x u mem engine opcode unreached => ?_⟩
  · obtain ⟨mx, rest⟩ := matrixRequest_decodeError slot held bad cmd
    refine ⟨_, exec_matrixRequest slot hm hi on, ?_⟩
    rw [mx]
    exact ⟨rfl, rfl, rfl, rfl, rfl, rfl, rfl, rfl, rfl, mx ▸ rest⟩
  · rw [exec_matrixRequest slot hm hi on, matrixRequest_wedged slot held good wedged, failCommand_none (by exact cmd)]
  · rw [exec_matrixRequest slot hm hi on, matrixRequest_wedged slot held good wedged]
    exact congrArg _ (failCommand_head engine prog cmd op)
  · have run : exec (.matrixResponse r err) s = .next (matrixResponse r err s) := by
      simp only [exec, execMatrixResponse, if_neg (Nat.not_le.2 hm), on, if_true]
    exact ⟨_, run, matrixResponse_answers err ⟨out, wait, same, live, cmd, whole, held, reached⟩⟩
  · refine ⟨_, exec_targetWedged_due hu on first due fresh unregistered, ?_⟩
    rw [declareWedged_only]
    exact ⟨rfl, rfl⟩
  · exact ⟨_, exec_masterReadmit_due hm inReset due, rfl, rfl, by rw [readmit_out, List.length_map], fun _ => readmit_orphans,
      fun _ => readmit_outOf_other s, rfl⟩
  · obtain ⟨hop, f, hf⟩ : ActsOnEngine c op := coreAndBootCommands_actOnEngine ok img buf _ mem
    exact (hf u).trans (onEngine_unreached engine opcode hop unreached)

end Sys2Proof
end

section
/-! SUPPORT. The count after the operations that write other parts of the time base: each leaves frame, row and row ticks. -/

namespace Sys2Proof.Machine

open Sys2Proof

/-! ## References, re-alignments and the anchor -/

@[simp] theorem monitorSecond_clock (inp : SecondInput) (s : State) : (monitorSecond inp s).time.clock = s.time.clock := by
  simp [monitorSecond]

@[simp] theorem anchorEvent_clock (s : State) : (anchorEvent s).time.clock = s.time.clock := by
  simp [anchorEvent]

@[simp] theorem measureOffset_clock (n : Nat) (o : Int × Int) (s : State) : (measureOffset n o s).time.clock = s.time.clock := by
  simp [measureOffset]

@[simp] theorem fixRealign_clock (r : Run) (n gap : Nat) (mode1 : Bool) (s : State) :
    (fixRealign r n gap mode1 s).time.clock = s.time.clock := by
  simp [fixRealign]

@[simp] theorem withdrawRealign_clock (status : Nat) (x : Realign) (s : State) :
    (withdrawRealign status x s).time.clock = s.time.clock := by
  unfold withdrawRealign
  (repeat' split) <;> simp

@[simp] theorem realignChecks_clock (s : State) : (realignChecks s).time.clock = s.time.clock := by
  simp [realignChecks]

/-! ## Twins, the flight and the matrix -/

@[simp] theorem heartbeatIn_clock (f : WatchFrame) (s : State) : (heartbeatIn f s).time.clock = s.time.clock := by
  simp [heartbeatIn]

@[simp] theorem twinFrame_clock (port : Bool) (f : WatchFrame) (s : State) : (twinFrame port f s).time.clock = s.time.clock := by
  simp [twinFrame]

@[simp] theorem coldStart_clock (b : Bool) (s : State) : (coldStart b s).time.clock = s.time.clock := by
  unfold coldStart
  split <;> simp

@[simp] theorem startRole_clock (s : State) : (startRole s).time.clock = s.time.clock := by
  simp [startRole]

@[simp] theorem admitDone_clock (second first : Bool) (j : FlashJob) (s : State) :
    (admitDone second first j s).time.clock = s.time.clock := by
  unfold admitDone
  dsimp only
  (repeat' split) <;> simp

@[simp] theorem decodeError_clock (r : MReq) (cause : Nat) (s : State) : (decodeError r cause s).time.clock = s.time.clock := by
  simp [decodeError]

@[simp] theorem targetError_clock (q : MReq) (s : State) : (targetError q s).time.clock = s.time.clock := by
  simp [targetError]

@[simp] theorem matrixRequest_clock (r : MReq) (slot : Bool) (s : State) : (matrixRequest r slot s).time.clock = s.time.clock := by
  simp [matrixRequest]

@[simp] theorem matrixResponse_clock (r : MReq) (err : Bool) (s : State) :
    (matrixResponse r err s).time.clock = s.time.clock := by
  unfold matrixResponse
  split <;> simp

/-! ## Counters -/

@[simp] theorem advanceAll_clock (s : State) : (advanceAll s).time.clock = s.time.clock := rfl

@[simp] theorem overflowCounts_clock (n : Nat) (done : List Nat) (s : State) :
    (overflowCounts n done s).time.clock = s.time.clock := by
  induction n generalizing done s with
  | zero => rfl
  | succ n ih =>
    unfold overflowCounts
    dsimp only
    split
    · rfl
    · simp [ih]

@[simp] theorem countStep_clock (s : State) : (countStep s).time.clock = s.time.clock := by
  simp [countStep]

/-! ## Start-up -/

@[simp] theorem loadRec_clock (r : BtRec) (s : State) : (loadRec r s).time.clock = s.time.clock := by
  unfold loadRec
  dsimp only
  split <;> simp

@[simp] theorem btLoad_clock (a b : List W64) (s : State) : (btLoad a b s).time.clock = s.time.clock := by
  unfold btLoad
  dsimp only
  split <;> simp

@[simp] theorem fwLoad_clock (a b : Option FwImage) (s : State) : (fwLoad a b s).time.clock = s.time.clock := by
  simp [fwLoad, loadA, runImage]

@[simp] theorem becomeReady_clock (s : State) : (becomeReady s).time.clock = s.time.clock := by
  simp [becomeReady]

end Sys2Proof.Machine
end

section
/-! SUPPORT. What every step keeps (R30, R345): the row is one of the frame's 250, and the host's memory is listed in canonical form. The
operations that write either keep both; whatever leaves the count and the host's memory keeps both. -/

namespace Sys2Proof

open Sys2Proof.Machine

/-! ## Rules -/

/-- What leaves the count and the host's memory keeps the invariant. -/
theorem Safe.of_same {s t : State} (hs : Safe s) (h : t.time.clock = s.time.clock ∧ t.host.mem = s.host.mem) : Safe t := by
  obtain ⟨clock, mem⟩ := h
  have row : t.time.row = s.time.row := congrArg (·.2.1) clock
  exact ⟨by simpa [RowInFrame, row] using hs.row, by simpa [HostMemoryCanonical, mem] using hs.mem⟩

/-- What leaves the count, and the host's memory in its form, keeps the invariant. -/
theorem Safe.of_wf {s t : State} (hs : Safe s) (clock : t.time.clock = s.time.clock)
    (mem : Memory.wf s.host.mem = true → Memory.wf t.host.mem = true) : Safe t :=
  (show Safe { s with host.mem := t.host.mem } from ⟨hs.row, mem hs.mem⟩).of_same ⟨clock, rfl⟩

/-- A row of the frame set, with the host's memory left, keeps the invariant. -/
theorem Safe.of_row {s t : State} (hs : Safe s) (row : t.time.row < 250) (mem : t.host.mem = s.host.mem) : Safe t :=
  ⟨row, by simpa [HostMemoryCanonical, mem] using hs.mem⟩

theorem Safe.ite {c : Prop} [Decidable c] {a b : State} (ha : Safe a) (hb : Safe b) : Safe (if c then a else b) := by
  split
  · exact ha
  · exact hb

theorem allNext_ite {P : State → Prop} {c : Prop} [Decidable c] {x y : Res} (hx : AllNext P x) (hy : AllNext P y) :
    AllNext P (if c then x else y) := by
  split
  · exact hx
  · exact hy

/-- A meaning on the engine's command keeps the invariant where its effect does. -/
theorem engine_safe {op : Nat} {f : Run → State → State} {s : State} (hs : Safe s) (hf : ∀ r s, Safe s → Safe (f r s)) :
    AllNext Safe (onEngine op f s) :=
  onEngine_keeps hs (fun h => h.of_same ⟨rfl, rfl⟩) (fun r h => h.of_same (by simp [wedgedRun])) hf

theorem finish_safe (r : Run) (st : Nat) (ws : List W64) {s : State} (hs : Safe s) : Safe (finish r st ws s) :=
  hs.of_same (by simp)

/-- What a master does with the objects of its targets, or is kept from. -/
theorem throughMatrix_safe (m : Nat) (ts : List Nat) (r : Run) {f : State → State} (hf : ∀ s, Safe s → Safe (f s)) {s : State}
    (hs : Safe s) : Safe (throughMatrix m ts r f s) := by
  unfold throughMatrix
  split
  · exact hf s hs
  · split
    · exact hs
    · exact hs.of_same (by simp)

/-! ## Buffers of the host (R5, R345, R389) -/

theorem bufWrite_safe (a : Nat) (ws : List W64) {s : State} (hs : Safe s) : Safe (bufWrite a ws s) := hs.of_wf rfl (write_wf _ _)

theorem bufUndefined_safe (a n : Nat) {s : State} (hs : Safe s) : Safe (bufUndefined a n s) := hs.of_wf rfl (write_wf _ _)

theorem bufFailed_safe (r : Run) (a n : Nat) {s : State} (hs : Safe s) : Safe (bufFailed r a n s) :=
  finish_safe r _ _ (bufUndefined_safe a n hs)

theorem bufReply_safe (r : Run) (ok : Bool) (a : Nat) (ws reply : List W64) {s : State} (hs : Safe s) :
    Safe (bufReply r ok a ws reply s) := by
  rcases bufReply_cases r ok a ws reply s with h | ⟨g, h⟩ | h
  · exact h ▸ finish_safe r _ _ (bufWrite_safe a ws hs)
  · exact h ▸ hs.of_same (by simp)
  · exact h ▸ bufFailed_safe r a _ hs

theorem readBuffer_safe {α : Type} (r : Run) (a n : Nat) (buf : α) {f : Run → α → State → State}
    (hf : ∀ s, Safe s → Safe (f r buf s)) {s : State} (hs : Safe s) : Safe (readBuffer r a n buf f s) := by
  unfold readBuffer
  split
  · exact finish_safe _ _ _ hs
  · split
    · exact hf s hs
    · exact hs.of_same (by simp)

theorem endRead_safe (r : Run) {s : State} (hs : Safe s) : Safe (endRead r s) := by
  unfold endRead
  dsimp only
  split
  · exact bufReply_safe _ _ _ _ _ hs
  · exact finish_safe _ _ _ (bufUndefined_safe _ _ hs)

theorem endReads_safe {s : State} (hs : Safe s) : Safe (endReads s) :=
  foldl_keeps Safe _ (fun _ r h => throughMatrix_safe _ _ r (fun _ => endRead_safe r) h) _ _ hs

theorem interruptReads_safe {s : State} (hs : Safe s) : Safe (interruptReads s) := foldl_keeps Safe _ (fun _ r => endRead_safe r) _ _ hs

theorem measRecords_safe (tie : List (Nat × Int)) (r : Run) (ok : Bool) {s : State} (hs : Safe s) : Safe (measRecords tie r ok s) := by
  have copied := fun ws => bufReply_safe r ok (r.cmd.p 0).toNat ws [] hs
  unfold measRecords
  dsimp only
  split
  · refine foldl_keeps Safe _ (fun t i ht => ?_) _ _ (copied _)
    split <;> exact ht.of_same (by simp)
  · exact copied _

theorem sampleStatus_safe (tie : List (Nat × Int)) (r : Run) {s : State} (hs : Safe s) : Safe (sampleStatus tie r s) := by
  have copied := fun a ws reply (s : State) (h : Safe s) => bufReply_safe r (r.mem.getD 0 0 == 1) a ws reply h
  unfold sampleStatus
  dsimp only
  split
  case h_1 | h_5 | h_7 => exact copied _ _ _ _ hs
  case h_2 | h_3 | h_6 => exact throughMatrix_safe _ _ r (copied _ _ _) hs
  case h_4 => exact throughMatrix_safe _ _ r (fun _ => measRecords_safe tie r _) hs
  case h_8 => exact finish_safe _ _ _ hs

theorem sampleTick_safe (tie : List (Nat × Int)) {s : State} (hs : Safe s) : Safe (sampleTick tie s) :=
  foldl_keeps Safe _ (fun _ r => sampleStatus_safe tie r) _ _ hs

theorem readStep_safe {s : State} (hs : Safe s) : Safe (readStep s) :=
  foldl_keeps Safe _ (fun _ r h => throughMatrix_safe _ _ r (fun _ => bufReply_safe r _ _ _ _) h) _ _ hs

/-- Buffers that a member has had written are done (R389). -/
theorem wrTick_safe {s : State} (hs : Safe s) : Safe (wrTick s) := by
  refine foldl_keeps Safe _ (fun t j ht => ?_) _ _ (hs.of_same ⟨rfl, rfl⟩)
  split
  · exact bufFailed_safe _ _ _ ht
  · exact finish_safe _ _ _ ht

/-! ## The towpath -/

/-- What a packet does to the gateway's host memory (R389). -/
theorem dmaWrIn_safe (p : TowPkt) {s : State} (hs : Safe s) : Safe (dmaWrIn p s) := by
  unfold dmaWrIn
  dsimp only
  (repeat' split)
  · exact hs
  · exact bufUndefined_safe _ _ hs
  · exact bufWrite_safe _ _ hs

theorem portForward_safe (side : Side) (p : TowPkt) (back : Option Side) {s : State} (hs : Safe s) :
    Safe (portForward side p back s) := hs.of_same (by simp)

theorem freeBuffer_safe (p : TowPkt) (side : Side) {s : State} (hs : Safe s) : Safe (freeBuffer p side s) :=
  hs.of_same (by simp)

/-- A packet taken in keeps the invariant where its effect does. -/
theorem consume_safe (p : TowPkt) {f : State → State} (hf : ∀ s, Safe s → Safe (f s)) {s : State} (hs : Safe s) :
    Safe (consume p f s) := by
  unfold consume
  dsimp only
  split
  · exact hf s hs
  · have acked : Safe (ackPacket p s) := hs.of_same (by simp)
    split
    · exact acked
    · have taken := hf _ (acked.of_same (t := { ackPacket p s with
        flight.rxSeq := (p.src, towClass p.type, p.tseq) :: (ackPacket p s).flight.rxSeq }) ⟨rfl, rfl⟩)
      exact taken.of_same (by simp)

/-- A packet that arrives keeps the invariant where its effect does. -/
theorem receive_safe (type : Nat) (side : Side) (p : TowPkt) (fwd : TowPkt → TowPkt) {f : State → State}
    (hf : ∀ s, Safe s → Safe (f s)) {s : State} (hs : Safe s) : Safe (receive type side p fwd f s) := by
  have consumed : ∀ mine : Bool, Safe (if mine then consume p f s else s) := fun _ => (consume_safe p hf hs).ite hs
  unfold receive
  dsimp only
  split
  · exact hs
  · split
    · exact hs.of_same (by simp)
    · exact (portForward_safe _ _ _ (consumed _)).ite ((freeBuffer_safe _ _ (consumed _)).ite (consumed _))

end Sys2Proof
end

section
/-! SUPPORT. Every command but ROW_TICK keeps the row within the frame and the form of the host's memory. Most commands leave the count
and that memory; those that do more have a lemma of their own. -/

namespace Sys2Proof

open Sys2Proof.Machine

/-! ## Lanes and plans -/

theorem alignmentMarker_safe (port : MarkerPort) (m : MarkerRx) {s : State} (hs : Safe s) :
    AllNext Safe (execAlignmentMarker port m s) := by
  cases port with
  | pair n => exact onRunningLane_keeps hs (hs.of_same (by simp))
  | twin n => exact allNext_ite (allNext_next (hs.of_same (by simp))) allNext_fault

theorem planningStart_safe {s : State} (hs : Safe s) : AllNext Safe (execPlanningStart s) := by
  unfold execPlanningStart
  split
  · exact allNext_ite (allNext_next (hs.of_same (by simp))) (allNext_next hs)
  · exact allNext_next hs

theorem planningDone_safe (route : Route) {s : State} (hs : Safe s) : AllNext Safe (execPlanningDone route s) := by
  unfold execPlanningDone
  split
  · split
    · split
      · exact allNext_ite (allNext_next (hs.of_same (by simp))) (allNext_next hs)
      · exact allNext_ite (allNext_next hs) (allNext_next (hs.of_same (by simp)))
    · exact allNext_next hs
  · exact allNext_next hs

theorem loadingStart_safe {s : State} (hs : Safe s) : AllNext Safe (execLoadingStart s) := by
  unfold execLoadingStart
  split
  · exact allNext_ite (allNext_next (interruptReads_safe (hs.of_same (by simp)))) (allNext_next hs)
  · split
    · exact allNext_ite (allNext_next (interruptReads_safe (hs.of_same ⟨rfl, rfl⟩))) (allNext_next hs)
    · exact allNext_next hs

theorem loadingDone_safe (faults : List (Nat × BitVec 16)) {s : State} (hs : Safe s) :
    AllNext Safe (execLoadingDone faults s) := by
  unfold execLoadingDone
  dsimp only
  refine allNext_ite (allNext_next hs) ?_
  split
  · exact allNext_ite (allNext_next (hs.of_same (by simp))) (allNext_next (hs.of_same (by simp)))
  · split
    · refine allNext_ite ?_ (allNext_next (hs.of_same ⟨rfl, rfl⟩))
      split
      · exact allNext_next (hs.of_same (by simp))
      · exact allNext_next (hs.of_same ⟨rfl, rfl⟩)
    · exact allNext_next (hs.of_same ⟨rfl, rfl⟩)
    · exact allNext_next hs

theorem deferralLimit_safe {s : State} (hs : Safe s) : AllNext Safe (execDeferralLimit s) := by
  unfold execDeferralLimit
  dsimp only
  split
  · exact allNext_next (hs.of_same (by simp))
  · exact allNext_next hs

/-! ## The host interface -/

theorem commandFetch_safe (q : Nat) (units : List W64) {s : State} (hs : Safe s) :
    AllNext Safe (execCommandFetch q units s) := by
  unfold execCommandFetch
  dsimp only
  split
  · refine allNext_ite ?_ (allNext_next hs)
    split
    · exact allNext_next (hs.of_same (by split <;> simp))
    · exact allNext_next (hs.of_same (by simp))
  · exact allNext_next hs

theorem commandStart_safe (i : Nat) {s : State} (hs : Safe s) : AllNext Safe (execCommandStart i s) := by
  unfold execCommandStart
  dsimp only
  split
  · exact allNext_next hs
  · refine allNext_ite (allNext_ite (allNext_next (hs.of_same (by simp))) ?_) (allNext_next hs)
    split <;> exact allNext_next (hs.of_same (by simp))

theorem queueDmaFault_safe (kind : QKind) (q : Nat) {s : State} (hs : Safe s) : AllNext Safe (execQueueDmaFault kind q s) := by
  unfold execQueueDmaFault
  cases kind <;> dsimp only <;> split <;> exact allNext_next (hs.of_same (by simp))

theorem replyWrite_safe (c : Nat) {s : State} (hs : Safe s) : AllNext Safe (execReplyWrite c s) := by
  unfold execReplyWrite
  dsimp only
  split
  · split
    · refine allNext_ite (allNext_next (hs.of_wf ?_ fun mem => ?_)) (allNext_next hs)
      · (repeat' split) <;> simp
      · (repeat' split) <;> simp [write_wf _ _ mem]
    · exact allNext_next hs
  · exact allNext_next hs

theorem eventWrite_safe (e : Nat) {s : State} (hs : Safe s) : AllNext Safe (execEventWrite e s) := by
  unfold execEventWrite
  dsimp only
  split
  · split
    · exact allNext_ite (allNext_next (hs.of_wf (by simp) fun mem => by simp [write_wf _ _ mem])) (allNext_next hs)
    · exact allNext_next hs
  · exact allNext_next hs

theorem dmaWr_safe (side : Side) (p : DmaWrPkt) {s : State} (hs : Safe s) : AllNext Safe (execDmaWr side p s) :=
  allNext_next (receive_safe _ _ _ _ (fun _ => dmaWrIn_safe p.pkt) (hs.of_same (by simp)))

/-! ## Reset and start-up (R391, R461, R471) -/

/-- A reset begins with row 0, and leaves the host's memory. -/
theorem enterReset_safe (cause : Nat) {s : State} (hs : Safe s) : Safe (enterReset cause s) :=
  hs.of_row (by rw [(enterReset_frame cause s).2.2]; decide) (by simp)

theorem powerDown_safe {s : State} (hs : Safe s) : Safe (powerDown s) :=
  hs.of_row (by rw [(powerDown_frame s).2.2]; decide) (by simp)

theorem internalReset_safe {s : State} (hs : Safe s) : AllNext Safe (execInternalReset s) := by
  refine allNext_next ?_
  split
  · next x _ =>
    have counted : Safe { s with rcv.resets := inc16 s.rcv.resets } := hs.of_same ⟨rfl, rfl⟩
    refine Safe.ite ?_ hs
    exact (enterReset_safe (if x.fn = 127 then 2 else 3) counted).of_same ⟨rfl, rfl⟩
  · exact hs

theorem fixCount_time (frame row : Nat) (anchored : Bool) (s : State) :
    (fixCount frame row anchored s).time = { s.time with frame := frame, row := row, anchored := anchored } := by
  simp [fixCount]

theorem fixCount_safe (frame : Nat) {row : Nat} (anchored : Bool) (h : row < 250) {s : State} (hs : Safe s) :
    Safe (fixCount frame row anchored s) :=
  hs.of_row (by rwa [fixCount_time]) (by simp)

theorem syncCount_row_lt (f : SyncFirst) (s : State) : (syncCount f s).2 < 250 := Nat.mod_lt _ (by decide)

theorem phaseFixed_safe {s : State} (hs : Safe s) : AllNext Safe (execPhaseFixed s) := by
  refine allNext_next (Safe.ite (Safe.ite (hs.of_same (by simp)) ?_) hs)
  split
  · next f _ =>
    exact (fixCount_safe (syncCount f s).1 f.anchored (syncCount_row_lt f s) hs).of_same (by simp)
  · exact hs

theorem phaseSyncTimeout_safe {s : State} (hs : Safe s) : AllNext Safe (execPhaseSyncTimeout s) :=
  allNext_next ((fixCount_safe 1 false (by decide) hs).ite hs)

/-! ## The table of commands -/

/-- The command is ROW_TICK. -/
def Instr.isRowTick : Instr → Bool
  | .rowTick _ => true
  | _ => false

/-- Every command but ROW_TICK, by the shape of its meaning. -/
theorem command_safe (c : Instr) (other : c.isRowTick = false) {s : State} (hs : Safe s) : AllNext Safe (exec c s) := by
  cases c
  case rowTick => cases other
  all_goals dsimp only [exec]
  -- What the engine executes: most completes, or waits as a run in progress.
  case cqCreate | sqCreate | sqDelete | cqDelete | eqCreate | eqDelete | nop | connEdit | tribRead | planSeal | planDiscard |
    planStatus | pageRead | protCmd | protStatus | laneAdmin | laneRestart | laneStatus | laneTest | laneDefCfg |
    laneDefStatus | refCfg | refSelect | dpllCfg | dpllStatus | fSoft | fFreq | pSteer | pStatus | outCfg | outRealign |
    measRead | timeCfg | frameStatus | twinStatus | twinCfg | keeperStatus | ckptStatus | revertCfg | revertLock | handoverAt |
    standbyWarm | flightStatus | admitMember | ctrRead | ctrSnapshot | fixedCfg | fixedRead | bwRead | ctrStatus | recover |
    recoverCfg | recoverStatus | matrixCfg | stateSummary | configRead | identityRead | fwStatus | fwFloor | btApply =>
    exact engine_safe hs fun _ _ h => h.of_same (by simp)
  case tribSet | planWithdraw | lockageAt | realign | ctrCfg =>
    exact engine_safe hs fun _ _ h => h.of_same (by dsimp only; (repeat' split) <;> simp)
  -- A buffer of the host is filled, or read.
  case refStatus | fSamples | matrixStatus | certRead | identChallenge | btRead =>
    exact engine_safe hs fun r _ h => (finish_safe r _ _ h).ite (bufReply_safe r _ _ _ _ h)
  case connLoad | fwWrite | btWrite =>
    exact engine_safe hs fun r _ h => (h.of_same (by simp)).ite ((h.of_same (by simp)).ite
      (readBuffer_safe r _ _ _ (fun _ h => h.of_same (by simp)) h))
  -- A packet comes in on the towpath.
  case towSync | credit | delayReq | delayResp | commit | member | cmd | reply | event | towAck | dmaRd | dmaData =>
    exact allNext_next (receive_safe _ _ _ _ (fun _ h => h.of_same (by simp)) hs)
  -- Events, timers and frames that leave the count and the host's memory.
  case monitorSecond | bwWindowEnd | localoscFault | softLoopTimeout | deadlineExpiry | leadExpiry | adminCtrlWrite |
    windowLowRead | pcieFunctionReset | pciePerst | heartbeat | lease | query | take | notice | hello | handover |
    watchFrameBad | heartbeatSend | renewSend | peerLost | keeperLost | leaseExpiry | coldStartDone | keeperReset |
    keeperLearningEnd | keeperHelloInterval | status | answer | taken | handoverReq | keeperTwinLost | keeperQueryRepeat |
    keeperGrant | fullReq | full | delta | fix | drop | sel | ckptAck | slotFree | syncEnd | twinMessageBad | deltaShip |
    slotRefreshDone | mirrorCopyDone | towResend | towPortDown | towPortUp | backupTimeSource | syncAbsent |
    enumerationTimeout | resetNRise | railRecovery | thermalRelease | romDone | fwLoadDone | btLoadDone | clocksDone |
    memoryDone | servicesDone | startupFailed | startupTimeout | pciePerstRelease | internalResetEnd =>
    exact allNext_next (hs.of_same (by simp))
  case staircaseDwellDone | holdLimitReached | steerDurationEnd | admitDone | fwWriteDone | btWriteDone | firstSwitchedRow |
    takeoverHoldExpiry | revertWtrExpiry | warmLimitExpiry | keeperLeaseLapse | keeperTakeRepeat | step3Cancel | fullCopyEnd |
    snapshotCopiesDone => exact allNext_next (hs.of_same (by split <;> simp))
  case warmingLoadDone | handoverRequestLapse | towPacketBad => exact allNext_next (hs.of_same (by (repeat' split) <;> simp))
  case localoscFaultClear | windowRegisterWrite => exact allNext_ite (allNext_next (hs.of_same (by simp))) (allNext_next hs)
  -- Events that name an object, which stop where it does not exist.
  case periodBoundary | counterOverflow | sqTailDoorbell | cqHeadDoorbell | eqHeadDoorbell | routeLapse | memberUnreachable |
    identityCheck | watchdogExpiry | matrixResponse => exact allNext_ite allNext_fault (allNext_next (hs.of_same (by simp)))
  case targetWedged | reinitBegin | masterReadmit | reinitDone =>
    exact allNext_ite allNext_fault (allNext_next (hs.of_same (by split <;> simp)))
  case todMessageSend => exact allNext_ite (allNext_next (hs.of_same (by simp))) allNext_fault
  case matrixRequest => exact allNext_ite allNext_fault (allNext_ite allNext_fault (allNext_next (hs.of_same (by simp))))
  case degIntervalEnd | losDeclareRun | losClearRun | loraDeclareRun | loraClearRun | frmMissingTimeout | dataBarge |
    holdBarge | frameBarge | testBarge | idleBarge | invalidHeader | adaptationConverged | idFaultExpiry | phaseRowsInPlace |
    signalReportedRun => exact onLane_keeps (hs.of_same (by simp))
  case attemptTimerExpiry => exact onRunningLane_keeps hs (hs.of_same (by split <;> simp))
  case qlMessageAbsent => exact onInput_keeps (hs.of_same (by simp))
  case inputActivityChange | refWtrExpiry | holdoffExpiry => exact onInput_keeps (hs.of_same (by split <;> simp))
  case timeRefEdgeMeasure => exact onInput_keeps (hs.of_same (by dsimp only; (repeat' split) <;> simp))
  case refmsgQl | refmsgTod | refmsgBad => exact onPin_keeps hs (hs.of_same (by simp))
  case sfRowsReached | sfClearRun | holdExpiry | wtrExpiry => exact onTrib_keeps (hs.of_same (by simp))
  -- Commands with a lemma of their own.
  case alignmentMarker => exact alignmentMarker_safe _ _ hs
  case commandFetch => exact commandFetch_safe _ _ hs
  case commandStart => exact commandStart_safe _ hs
  case replyWrite => exact replyWrite_safe _ hs
  case eventWrite => exact eventWrite_safe _ hs
  case queueDmaFault => exact queueDmaFault_safe _ _ hs
  case planningStart => exact planningStart_safe hs
  case planningDone => exact planningDone_safe _ hs
  case loadingStart => exact loadingStart_safe hs
  case loadingDone => exact loadingDone_safe _ hs
  case deferralLimit => exact deferralLimit_safe hs
  case dmaWr => exact dmaWr_safe _ _ hs
  case resetNFall => exact allNext_next (hs.ite (enterReset_safe _ (hs.of_same ⟨rfl, rfl⟩)))
  case internalReset => exact internalReset_safe hs
  case railFailure => exact allNext_next (hs.ite (powerDown_safe (hs.of_same ⟨rfl, rfl⟩)))
  case thermalTrip => exact allNext_next (powerDown_safe (hs.of_same ⟨rfl, rfl⟩))
  case phaseFixed => exact phaseFixed_safe hs
  case phaseSyncTimeout => exact phaseSyncTimeout_safe hs

end Sys2Proof
end

section
/-! SUPPORT. ROW_TICK keeps the row within the frame and the form of the host's memory. -/

namespace Sys2Proof

open Sys2Proof.Machine

/-! ## What falls due -/

/-- Commands that fall due, none of them ROW_TICK, keep the invariant. -/
theorem commands_safe (cs : List Instr) (other : cs.all (fun c => !c.isRowTick) = true) : AllKeep Safe (cs.map exec) :=
  fun f hf s hs => by
    obtain ⟨c, hc, rfl⟩ := List.mem_map.mp hf
    exact command_safe c (by simpa using List.all_eq_true.mp other c hc) hs

theorem laneExpiries_safe (lane : Nat) : AllKeep Safe (laneExpiries lane) :=
  commands_safe [.losDeclareRun lane, .losClearRun lane, .loraDeclareRun lane, .loraClearRun lane, .frmMissingTimeout lane,
    .signalReportedRun lane] rfl

theorem tribExpiries_safe (t : Nat) : AllKeep Safe (tribExpiries t) :=
  commands_safe [.sfRowsReached t false, .sfRowsReached t true, .sfClearRun t false, .sfClearRun t true, .wtrExpiry t,
    .holdExpiry t] rfl

theorem inputExpiries_safe (n : Nat) : AllKeep Safe (inputExpiries n) :=
  commands_safe [.inputActivityChange n .inner, .qlMessageAbsent n, .refWtrExpiry n, .holdoffExpiry n] rfl

theorem rowExpiries_safe : AllKeep Safe rowExpiries :=
  allKeep_append (commands_safe [.localoscFault true, .localoscFaultClear, .takeoverHoldExpiry, .heartbeatSend, .renewSend,
    .keeperHelloInterval] rfl) (allKeep_map fun k _ => command_safe (.targetWedged k) rfl)

theorem registerDue_safe {s : State} (hs : Safe s) : Safe (registerDue s) :=
  settleAll_keeps (dueInRow s) (allKeep_append (allKeep_append (allKeep_append (allKeep_append
    (allKeep_flatMap fun e => laneExpiries_safe e.1) (allKeep_flatMap fun e => tribExpiries_safe e.1))
    (allKeep_flatMap fun e => inputExpiries_safe e.1)) (allKeep_map fun f _ => command_safe (.watchdogExpiry f) rfl))
    rowExpiries_safe) s hs

theorem waitExpiries_safe (s : State) : AllKeep Safe (waitExpiries s) :=
  allKeep_flatMap fun i => commands_safe [.deadlineExpiry i, .leadExpiry i] rfl

theorem laneEnds_safe (lane : Nat) : AllKeep Safe (laneEnds lane) :=
  commands_safe [.attemptTimerExpiry lane, .idFaultExpiry lane] rfl

theorem timeEnds_safe : AllKeep Safe timeEnds :=
  commands_safe [.syncAbsent, .backupTimeSource, .enumerationTimeout, .towPortDown .a, .towPortDown .b, .towPortUp .a,
    .towPortUp .b] rfl

theorem memberEnds_safe (a : Nat) : AllKeep Safe (memberEnds a) :=
  commands_safe [.routeLapse a .a, .routeLapse a .b, .memberUnreachable a] rfl

theorem twinEnds_safe : AllKeep Safe twinEnds :=
  commands_safe [.peerLost, .keeperLost, .leaseExpiry, .warmLimitExpiry, .handoverRequestLapse, .step3Cancel] rfl

theorem keeperEnds_safe : AllKeep Safe keeperEnds :=
  commands_safe [.keeperLearningEnd, .keeperTwinLost false, .keeperTwinLost true, .keeperLeaseLapse, .keeperQueryRepeat,
    .keeperTakeRepeat, .keeperGrant] rfl

theorem expireTick_safe {s : State} (hs : Safe s) : Safe (expireTick s) :=
  settleAll_keeps (dueAtTick s) (allKeep_append (allKeep_append (allKeep_append (allKeep_append (allKeep_append (allKeep_append
    (allKeep_append (waitExpiries_safe s) (allKeep_flatMap fun e => laneEnds_safe e.1)) timeEnds_safe)
    (allKeep_flatMap fun e => memberEnds_safe e.1)) (allKeep_map fun n _ => command_safe (.towResend n) rfl)) twinEnds_safe)
    keeperEnds_safe) (allKeep_map fun _ _ hs => allNext_next (hs.of_same (by simp)))) s hs

/-! ## The parts of the tick -/

theorem endFrame_safe {s : State} (hs : Safe s) : Safe (endFrame s) := by
  unfold endFrame
  dsimp only
  have checked : Safe (commitRealigns (realignChecks (endIntervals s))) := hs.of_same (by simp)
  refine checked.ite ?_
  have judged : Safe (settle _ (execDeferralLimit _)) := settle_keeps checked (deferralLimit_safe checked)
  exact judged.of_same (by simp)

@[simp] theorem twinReceive_mem (rx : List TwinRx) (phase : Nat) (s : State) : (twinReceive rx phase s).host.mem = s.host.mem := by
  simp only [twinReceive, twinBlocks_frame, joinLanes_frame]
  exact foldl_same (fun s : State => s.host.mem) _ (by intros; rfl) _ s

theorem closeRow_safe (x : Option Realign) (inp : RowInput) {s : State} (hs : Safe s) : Safe (closeRow x inp s) := by
  have received : Safe (fecTick inp (twinRowSend (laneSend ((x.map (·.gap)).getD 0) (progressTick inp.stuck
      (twinReceive inp.twin inp.twinPhase (todRow (syncSend (rowSample inp.phase { roleEvent s with out := {} })))))))) :=
    hs.of_same (by simp)
  have starting : ∀ {t}, Safe t → Safe (startTick { t with lanes := kmap {} (fun _ (l : Lane) => l.sfTick) t.lanes }) :=
    fun ht => ht.of_same (by simp)
  have started := starting (registerDue_safe received)
  have counting : ∀ {t}, Safe t → Safe (countStep (weirStep inp.weirs t)) := fun ht => ht.of_same (by simp)
  exact counting ((endFrame_safe started).ite started)

/-- The row that begins is one of the frame's 250 (R30, R279). -/
theorem advance_safe (x : Option Realign) {s : State} (hs : Safe s) : Safe (advance x s) := by
  have rows : Safe { s with time.rows := s.time.rows + 1 } := ⟨hs.row, hs.mem⟩
  unfold advance
  dsimp only
  refine rows.ite ?_
  split
  · next h => exact rows.of_row (Nat.succ_lt_succ h) rfl
  · split <;> exact rows.of_row (show 0 < 250 by decide) rfl

theorem firstFrame_safe {s : State} (hs : Safe s) : Safe (firstFrame s) :=
  settle_keeps hs (phaseSyncTimeout_safe hs)

theorem countTick_safe (x : Option Realign) {s : State} (hs : Safe s) : Safe (countTick x s) := by
  have applied : ∀ rs : List Realign, Safe (readStep (rs.foldl (fun s r => applyRealign r s) s)) :=
    fun rs => readStep_safe (foldl_keeps Safe _ (fun _ r h => h.of_same (by simp)) rs s hs)
  unfold countTick
  cases x with
  | none => exact (applied []).of_same (by simp)
  | some r => exact (applied (s.realignsAt r.k)).of_same (by simp)

theorem btTick_safe {s : State} (hs : Safe s) : Safe (btTick s) :=
  foldl_keeps Safe _ (fun _ r h => throughMatrix_safe _ _ r (fun _ h => h.of_same (by simp)) h) _ _ hs

@[simp] theorem settle_execRevertWtrExpiry_mem (s : State) :
    (settle s (execRevertWtrExpiry s)).host.mem = s.host.mem := by
  unfold execRevertWtrExpiry
  split <;> simp [settle]

@[simp] theorem controlTick_mem (s : State) : (controlTick s).host.mem = s.host.mem := by
  simp [controlTick]

@[simp] theorem settle_execSoftLoopTimeout_mem (s : State) : (settle s (execSoftLoopTimeout s)).host.mem = s.host.mem := by
  simp [execSoftLoopTimeout, settle]

@[simp] theorem channelTick_mem (inp : RowInput) (s : State) : (channelTick inp s).host.mem = s.host.mem := by
  simp [channelTick]

@[simp] theorem settle_execSteerDurationEnd_mem (s : State) : (settle s (execSteerDurationEnd s)).host.mem = s.host.mem := by
  unfold execSteerDurationEnd
  split <;> simp [settle]

@[simp] theorem outputTick_mem (x : Option Realign) (newFrame : Bool) (s : State) :
    (outputTick x newFrame s).host.mem = s.host.mem := by
  cases newFrame <;> simp [outputTick]

/-- ROW_TICK, stretch by stretch. -/
theorem rowTick_safe (inp : RowInput) {s : State} (hs : Safe s) : Safe (rowTick inp s) := by
  have interrupts : ∀ {t}, Safe t → Safe (irqTick (pcieTick inp.pcie t)) := fun ht => ht.of_same (by simp)
  have lockage : ∀ {t}, Safe t → Safe (laneCmdTick (towReports inp.tow (lockageDone (lockageStart t)))) :=
    fun ht => ht.of_same (by simp)
  have switching : ∀ x newFrame {t}, Safe t → Safe (frameStatusTick (outputTick x newFrame (channelTick inp (laneEvents
      (switchTick (controlTick (laneInputs inp (laneTick newFrame t)))))))) := fun _ _ _ ht => ht.of_same (by simp)
  have fetched : ∀ {t}, Safe t → Safe (dmaTick t) := fun ht => ht.of_same (by simp)
  have closing : ∀ {t}, Safe t → Safe (closedEvent (twinEvents (watchReplies (towTick t)))) := fun ht => ht.of_same (by simp)
  unfold rowTick
  dsimp only
  have begun := fun x => firstFrame_safe (advance_safe x (closeRow_safe x inp hs))
  have counted := fun x => lockage (expireTick_safe (countTick_safe x (interrupts (begun x))))
  exact closing (wrTick_safe (fetched (endReads_safe (sampleTick_safe inp.tie (switching _ _ (btTick_safe (counted _)))))))

theorem pinTick_safe {s : State} (hs : Safe s) : Safe (pinTick s) := by
  have sent : Safe (twinRowSend (laneSend 0 { s with out := {} })) := hs.of_same (by simp)
  have begun := advance_safe none sent
  exact begun.of_same ⟨by simp only [pinTick, edgeTick_frame], by simp only [pinTick, edgeTick_frame]⟩

theorem execRowTick_safe (inp : RowInput) {s : State} (hs : Safe s) : AllNext Safe (execRowTick inp s) :=
  allNext_next ((rowTick_safe inp hs).ite ((pinTick_safe hs).ite hs))

theorem exec_safe (c : Instr) {s : State} (hs : Safe s) : AllNext Safe (exec c s) := by
  cases hc : c.isRowTick with
  | false => exact command_safe c hc hs
  | true =>
    cases c with
    | rowTick inp => exact execRowTick_safe inp hs
    | _ => cases hc

/-- Settles O59: the step takes a command from the queue, and every command keeps the row within the frame and the form of the host's
memory. That form is the model's own (log entry 4). -/
theorem stepKeepsSafe : Obligations.StepKeepsSafe := by
  intro s t hs run
  unfold step at run
  split at run
  · cases run
    exact hs
  · next c cs _ =>
    have popped : Safe { s with pending := cs } := ⟨hs.row, hs.mem⟩
    exact exec_safe c popped t run

end Sys2Proof
end

section
/-! SUPPORT. What a command engine does with a work queue entry (R38, R359, R362), and what becomes of one that waits too long (R39,
R41). -/

namespace Sys2Proof.Machine

open Sys2Proof

/-! ## The store of waiting commands -/

/-- Entry i taken out of the work queue, which is filled up from the staging store. -/
def takeOut (i : Nat) (s : State) : State := refill { s with host.work := removeAt i s.host.work }

theorem removeAt_append_left {α : Type} {i : Nat} {xs ys : List α} (h : i < xs.length) :
    removeAt i (xs ++ ys) = removeAt i xs ++ ys := by
  simp only [removeAt, List.take_append_of_le_length h.le, List.drop_append_of_le_length h, List.append_assoc]

theorem removeAt_append_right {α : Type} {i : Nat} {xs ys : List α} (h : xs.length ≤ i) :
    removeAt i (xs ++ ys) = xs ++ removeAt (i - xs.length) ys := by
  have next : i + 1 - xs.length = i - xs.length + 1 := by omega
  simp [removeAt, List.take_append, List.drop_append, List.take_of_length_le h, List.drop_eq_nil_of_le (Nat.le_succ_of_le h), next]

/-- Filling up the work queue keeps what waits, and its order. -/
theorem refill_waiting (s : State) : (refill s).host.work ++ (refill s).host.staging = s.host.work ++ s.host.staging := by
  simp [refill]

/-- Filling up the work queue changes nothing else. -/
theorem refill_only (s : State) :
    refill s = { s with host.work := (refill s).host.work, host.staging := (refill s).host.staging } := rfl

theorem dropWaiting_waiting (i : Nat) (s : State) :
    (dropWaiting i s).host.work ++ (dropWaiting i s).host.staging = removeAt i (s.host.work ++ s.host.staging) := by
  rw [dropWaiting, refill_waiting]
  split
  · next h => rw [removeAt_append_left h]
  · next h => rw [removeAt_append_right (Nat.le_of_not_lt h)]

theorem dropWaiting_only (i : Nat) (s : State) : dropWaiting i s =
    { s with host.work := (dropWaiting i s).host.work, host.staging := (dropWaiting i s).host.staging } := by
  rw [dropWaiting, refill_only]
  split <;> rfl

/-- Whether a command is overdue does not depend on what else waits. -/
theorem overdue_dropWaiting (w : Work) (i : Nat) (s : State) : overdue w (dropWaiting i s) = overdue w s := by
  rw [dropWaiting_only]
  rfl

/-! ## The engine takes an entry -/

section
variable {i : Nat} {w : Work} {s : State}

theorem exec_commandStart_absent (h : s.host.work[i]? = none) : exec (.commandStart i) s = .next s := by
  simp only [exec, execCommandStart, h]

theorem exec_commandStart_waits (h : s.host.work[i]? = some w) (wait : canStart i w s = false) :
    exec (.commandStart i) s = .next s := by
  simp only [exec, execCommandStart, h, wait, Bool.false_eq_true, if_false]

theorem completeOverdue_of_overdue {st f : Nat} (h : overdue w s = some (st, f)) :
    completeOverdue w s = sendReply w.key (mkReply w.key w.cmd s.flight.addr st f 249 []) s := by
  simp only [completeOverdue, h]

section
variable (h : s.host.work[i]? = some w) (free : canStart i w s = true)
include h free

theorem exec_commandStart_overdue {st f : Nat} (late : overdue w (takeOut i s) = some (st, f)) : exec (.commandStart i) s =
    .next (sendReply w.key (mkReply w.key w.cmd s.flight.addr st f 249 []) (takeOut i s)) := by
  have run : exec (.commandStart i) s = .next (completeOverdue w (takeOut i s)) := by
    simp only [exec, execCommandStart, h, free, if_true]
    exact if_pos (by simpa [takeOut] using Option.isSome_of_eq_some late)
  rw [run, completeOverdue_of_overdue late]
  rfl

variable (timely : overdue w (takeOut i s) = none)
include timely

theorem exec_commandStart_new (new : judgeSeq w.key (takeOut i s) = .new) :
    exec (.commandStart i) s = .next (startNew w (takeOut i s)) := by
  simp only [takeOut] at timely new
  simp [exec, execCommandStart, h, free, timely, new, takeOut]

theorem exec_commandStart_dup (dup : judgeSeq w.key (takeOut i s) = .dup) :
    exec (.commandStart i) s = .next (answerDup w (takeOut i s)) := by
  simp only [takeOut] at timely dup
  simp [exec, execCommandStart, h, free, timely, dup, takeOut]

theorem exec_commandStart_stale (stale : judgeSeq w.key (takeOut i s) = .stale) : exec (.commandStart i) s =
    .next (sendReply w.key (mkReply w.key w.cmd s.flight.addr stSeqStale s.time.frame s.time.row []) (takeOut i s)) := by
  simp only [takeOut] at timely stale
  simp [exec, execCommandStart, h, free, timely, stale, takeOut]

end
end

/-! ## A new command -/

/-- What the engine holds of a command started now. -/
def startedRun (w : Work) (s : State) : Run :=
  { key := w.key, cmd := w.cmd, row := s.time.rows, frame := s.time.frame, rowIn := s.time.row, at_ := w.cmd.atFrame, mem := [] }

section
variable {w : Work} {s : State}

theorem startNew_started (pass : startCheck w.cmd (raiseHigh w.key s) = none) : startNew w s = { raiseHigh w.key s with
    host.engine := some (startedRun w s), host.starts := s.host.starts ++ [(w.key, w.cmd.opcode)] } := by
  simp only [startNew, pass]
  rfl

theorem startNew_refused {st : Nat} (fail : startCheck w.cmd (raiseHigh w.key s) = some st) (early : st ≠ stTooLate) :
    startNew w s = completeAt w.key w.cmd st s.time.frame s.time.row [] (raiseHigh w.key s) := by
  simp [startNew, fail, early]

theorem startNew_engine_of_fail {st : Nat} (fail : startCheck w.cmd (raiseHigh w.key s) = some st) :
    (startNew w s).host.engine = s.host.engine := by
  simp only [startNew, fail]
  split <;> simp

end

theorem raiseHigh_seqSt_high (k : Key) (s : State) : ((raiseHigh k s).seqSt k).high = some k.seq := by
  simp [raiseHigh, State.seqSt]

theorem raiseHigh_seqSt_other {k l : Key} (s : State) (h : l.seqAt ≠ k.seqAt) : (raiseHigh k s).seqSt l = s.seqSt l := by
  simp [raiseHigh, State.seqSt, kget_kset_other _ _ _ h]

/-! ## Expiry of a waiting command -/

section
variable {i : Nat} {w : Work} {s : State}

theorem expire_overdue {st f : Nat} (h : waiting i s = some w) (late : overdue w s = some (st, f)) :
    expire st i s = sendReply w.key (mkReply w.key w.cmd s.flight.addr st f 249 []) (dropWaiting i s) := by
  have late' : overdue w (dropWaiting i s) = some (st, f) := (overdue_dropWaiting w i s).trans late
  simp [expire, h, late, completeOverdue_of_overdue late']

theorem expire_timely (st : Nat) (h : waiting i s = some w) (timely : overdue w s = none) : expire st i s = s := by
  simp only [expire, h, timely]

/-- The deadline frame has passed (R39). -/
theorem overdue_deadline {d : Nat} (first : isDup w.key s = false) (hd : w.cmd.deadline = d) (given : d ≠ 0)
    (passed : d < s.time.frame) (untimed : w.cmd.atFrame = 0) : overdue w s = some (stExpired, d) := by
  simp [overdue, first, hd, given, passed, untimed]

/-- The frame before which the opcode's lead begins has passed (R41). -/
theorem overdue_lead {a : Nat} (first : isDup w.key s = false) (ha : w.cmd.atFrame = a) (given : a ≠ 0)
    (scheduled : scheduledOp w.cmd.opcode = true) (open_ : w.cmd.deadline = 0) (passed : a - leadOf w.cmd.opcode < s.time.frame) :
    overdue w s = some (stTooLate, a - leadOf w.cmd.opcode) := by
  simp [overdue, first, ha, given, scheduled, open_, passed]

end

end Sys2Proof.Machine

namespace Sys2Proof

open Sys2Proof.Machine

/-- Settles O8: of what COMMAND_START can do with an entry, only the start of a new command puts one on a free engine. -/
theorem onlyCheckedCommandsStart : Obligations.OnlyCheckedCommandsStart := by
  intro i s t r idle run held
  have freed : (takeOut i s).host.engine = none := by simpa [takeOut] using idle
  have kept : ∀ {u}, exec (.commandStart i) s = .next u → u.host.engine = none → False := fun h gone => by
    obtain rfl := Host.Outcome.next.inj (h.symm.trans run)
    exact Option.some_ne_none r (held.symm.trans gone)
  cases hw : s.host.work[i]? with
  | none => exact (kept (exec_commandStart_absent hw) idle).elim
  | some w =>
    cases free : canStart i w s with
    | false => exact (kept (exec_commandStart_waits hw free) idle).elim
    | true =>
      cases late : overdue w (takeOut i s) with
      | some x => exact (kept (exec_commandStart_overdue hw free late) (by simpa using freed)).elim
      | none =>
        cases judged : judgeSeq w.key (takeOut i s) with
        | dup => exact (kept (exec_commandStart_dup hw free late judged) (by simpa using freed)).elim
        | stale => exact (kept (exec_commandStart_stale hw free late judged) (by simpa using freed)).elim
        | new =>
          have start := exec_commandStart_new hw free late judged
          cases check : startCheck w.cmd (raiseHigh w.key (takeOut i s)) with
          | some st =>
            have failed := startNew_engine_of_fail check
            exact (kept start (failed.trans freed)).elim
          | none =>
            rw [startNew_started check] at start
            obtain rfl := Host.Outcome.next.inj (start.symm.trans run)
            obtain rfl : startedRun w (takeOut i s) = r := Option.some.inj held
            exact ⟨w, rfl, free, rfl, rfl, late, judged, check⟩

/-- Settles O7: each way of an entry by its own lemma. -/
theorem commandStartChecks : Obligations.CommandStartChecks := by
  refine ⟨fun i w s hw free => ?_, fun i w s hw wait => exec_commandStart_waits hw wait, fun i w s hw => ?_⟩
  · refine ⟨fun timely new pass => ⟨_, (exec_commandStart_new hw free timely new).trans (congrArg _ (startNew_started pass)), ?_⟩,
      fun st timely new fail early => (exec_commandStart_new hw free timely new).trans (congrArg _ (startNew_refused fail early)),
      fun timely stale => exec_commandStart_stale hw free timely stale,
      fun st f late => exec_commandStart_overdue hw free late⟩
    refine ⟨rfl, raiseHigh_seqSt_high _ _, fun k other => raiseHigh_seqSt_other _ other, rfl, rfl, rfl, rfl⟩
  · refine ⟨⟨dropWaiting_waiting i s, ?_, ?_⟩, fun st f late => ⟨?_, ?_⟩, fun timely => ⟨?_, ?_⟩,
      fun d => overdue_deadline, fun a => overdue_lead⟩
    · rw [dropWaiting_only]; rfl
    · rw [dropWaiting_only]; rfl
    · rintro rfl
      exact congrArg _ (expire_overdue hw late)
    · rintro rfl
      exact congrArg _ (expire_overdue hw late)
    · exact congrArg _ (expire_timely _ hw timely)
    · exact congrArg _ (expire_timely _ hw timely)

end Sys2Proof
end

section
/-! The values at reset (R32, R104, R254, R344, R442, R461), and the invariant of every step there. -/

namespace Sys2Proof

open Sys2Proof.Machine

/-- A device right after reset has no queue and no MSI-X configuration. -/
theorem reset_queuesGone : QueuesGone State.reset := ⟨fun _ => rfl, fun _ => rfl, fun _ => rfl, rfl, rfl, rfl⟩

theorem reset_safe : Safe State.reset := ⟨(Nat.zero_lt_succ 249 : RowInFrame State.reset), (rfl : HostMemoryCanonical State.reset)⟩

/-- Settles O56: the fields of the state after reset, read one by one. That no command waits, that the host's memory is listed in canonical
form and that RESET_N is low are the model's choices (log entries 1, 4 and 33). -/
theorem resetLeavesTheStatedValues : Obligations.ResetLeavesTheStatedValues :=
  ⟨rfl, rfl, rfl, rfl, rfl, rfl, rfl, reset_queuesGone, rfl, rfl, fun _ => rfl, rfl, rfl, rfl, rfl, rfl, reset_safe⟩

end Sys2Proof
end

section
/-! SUPPORT. Commands that only a serving device executes (R83, R110, R136, R366): what each answers off such a device, and what the
planner's commands with good parameters do on one (R84 to R94, R118, R389). -/

namespace Sys2Proof

open Sys2Proof.Machine

/-! ## The check of the role -/

section
variable {op : Nat} {c : Instr} {f : Run → State → State} {r : Run} {s u t : State} (m : Res)
  (hc : exec c s = m) (hm : m = onEngine op f s) (hf : f r (idle s) = if !(idle s).isActive then u else t)
include hc hm hf

/-- Off a serving device a command whose meaning checks the role answers u. -/
theorem exec_notServing (off : s.isActive = false) (h : Has op r s) : exec c s = .next u := by
  obtain ⟨engine, opcode, reaches⟩ := h
  have off' : (!(idle s).isActive) = true := congrArg (!·) off
  exact (hc.trans (hm.trans (onEngine_held engine opcode reaches))).trans (congrArg _ (hf.trans (if_pos off')))

/-- On a serving device it answers t. -/
theorem exec_serving (on : s.isActive = true) (h : Has op r s) : exec c s = .next t := by
  obtain ⟨engine, opcode, reaches⟩ := h
  have on' : (!(idle s).isActive) = false := congrArg (!·) on
  exact (hc.trans (hm.trans (onEngine_held engine opcode reaches))).trans (congrArg _ (hf.trans (if_neg (ne_true_of_eq_false on'))))

end

/-- Settles O13: each of these commands checks the role first, before its parameters are judged, which is the model's choice (log
entry 62). -/
theorem activeOnlyCommandsRefused : Obligations.ActiveOnlyCommandsRefused := by
  refine ⟨fun c op r s off h which => ?_, fun r s off h => exec_notServing (execPlanSeal s) rfl rfl rfl off h⟩
  obtain ⟨rfl, rfl⟩ | ⟨⟨b, rfl⟩, rfl⟩ | ⟨rfl, rfl⟩ | ⟨rfl, rfl⟩ | ⟨rfl, rfl⟩ | ⟨rfl, rfl⟩ | ⟨rfl, rfl⟩ := which
  · exact exec_notServing (execConnEdit s) rfl rfl rfl off h
  · exact exec_notServing (execConnLoad b s) rfl rfl rfl off h
  · exact exec_notServing (execTribSet s) rfl rfl rfl off h
  · exact exec_notServing (execPlanDiscard s) rfl rfl rfl off h
  · exact exec_notServing (execPlanWithdraw s) rfl rfl rfl off h
  · exact exec_notServing (execLockageAt s) rfl rfl rfl off h
  · exact exec_notServing (execProtCmd s) rfl rfl rfl off h

/-! ## The buffer of a CONN_LOAD -/

/-- The edits that n lanes from lane `first` on take from a buffer (R85). -/
def runEdits (first n : Nat) (ws : List W64) : List (Nat × BitVec 32) :=
  ((loadEntries (ws ++ List.replicate (3072 * n - ws.length) 0)).take (n * 6144)).mapIdx (fun i e => (first * 6144 + i, e))

/-- Where every edit is good, all of them join the open plan (R84, R87). -/
theorem loadRun_good {r : Run} {ws : List W64} {s : State} {es : List (Nat × BitVec 32)}
    (run : es = runEdits (fld (r.cmd.p 1) 8 0) (fld (r.cmd.p 1) 18 9) ws)
    (good : ∀ e ∈ es, entryBad e.2 = false ∧ (projected s).entryFits (e.1 / 6144) (e.1 % 6144) e.2 = true) :
    loadRun r (some ws) s = finish r stOk [] (addEdits es [] (es.map (·.1)) s) := by
  have unmarred : es.find? (fun e => entryBad e.2 || !(projected s).entryFits (e.1 / 6144) (e.1 % 6144) e.2) = none := by
    simpa using good
  subst run
  simp only [runEdits] at unmarred
  simp only [loadRun, unmarred, runEdits]

section
variable {α : Type} (r : Run) (a n : Nat) (buf : α) (f : Run → α → State → State) {s : State}

theorem readBuffer_gateway (own : s.isGateway = true) (up : s.hostUp = true) : readBuffer r a n buf f s = f r buf s := by
  simp [readBuffer, hostReach_of_hostUp up, own]

theorem readBuffer_unreached (reach : s.hostReach = false) : readBuffer r a n buf f s = finish r stDmaError [] s := by
  simp [readBuffer, reach]

theorem readBuffer_member (other : s.isGateway = false) (reach : s.hostReach = true) :
    readBuffer r a n buf f s = later r (dmaAsk r.key a n s) := by
  simp [readBuffer, reach, other]

end

/-! ## A seal and the at-frames of the sealed plans -/

/-- The plan that a PLAN_SEAL makes of the open plan (R88 to R90, R104). -/
def sealedPlan (r : Run) (s : State) : Plan :=
  { gen := genAdd s.basePage.gen (s.planner.sealed.length + 1),
    large := bit (r.cmd.p 0) 0 || decide (256 < s.planner.named.length), replan := bit (r.cmd.p 0) 0, hold := bit (r.cmd.p 0) 1,
    limit := if fld (r.cmd.p 0) 31 16 = 0 then 8000 else fld (r.cmd.p 0) 31 16, atFrame := r.cmd.atFrame, lock := r.cmd.atFrame,
    first := r.cmd.atFrame, entries := s.planner.entries, tribs := s.planner.tribs, slots := s.planner.named.length,
    sealFrame := s.time.frame, cmd := r.key }

/-- A flag that rules an at-frame out (R90). -/
theorem untimed {b : Bool} {a : Nat} (h : b = true → a = 0) : (b && a != 0) = false := by
  cases b with
  | false => rfl
  | true => simp [h rfl]

/-- No sealed plan keeps the at-frame of a seal from it (R109). -/
theorem noConflict {a : Nat} {ps : List Plan} (clear : a ≠ 0 → ∀ p ∈ ps, p.lock = 0 ∨ p.lock + 2 ≤ a) :
    ¬ (a ≠ 0 ∧ ps.any (fun p => decide (p.lock ≠ 0 ∧ a < p.lock + 2)) = true) := by
  rintro ⟨given, conflict⟩
  obtain ⟨p, hp, meets⟩ := List.any_eq_true.mp conflict
  obtain ⟨locked, close⟩ := of_decide_eq_true meets
  exact (clear given p hp).elim locked (by omega)

/-! ## Edits of the open plan -/

section
variable {r : Run} {s : State} (on : s.isActive = true)
include on

theorem exec_connEdit (h : Held 0x0201 r s) (good : connEditBad r (idle s) = false) :
    exec .connEdit s = .next (finish r stOk [] (addEdits ((r.cmd.params.drop 1).map editOf) []
      (((r.cmd.params.drop 1).map editOf).map (·.1)) (idle s))) := by
  rw [exec_serving (c := .connEdit) (execConnEdit s) rfl rfl rfl on h.has]
  exact congrArg _ (if_neg (ne_true_of_eq_false good))

/-- A CONN_LOAD with good parameters reads its buffer. -/
theorem exec_connLoad (buf : Option (List W64)) (h : Held 0x0202 r s) (aligned : (r.cmd.p 0).toNat % 4096 = 0)
    (rest : fld (r.cmd.p 1) 63 19 = 0) (lanes : fld (r.cmd.p 1) 18 9 ≠ 0)
    (fit : fld (r.cmd.p 1) 8 0 + fld (r.cmd.p 1) 18 9 ≤ 512) : exec (.connLoad buf) s =
      .next (readBuffer r (r.cmd.p 0).toNat (24576 * fld (r.cmd.p 1) 18 9) buf loadRun (idle s)) := by
  rw [exec_serving (c := .connLoad buf) (execConnLoad buf s) rfl rfl rfl on h.has]
  exact congrArg _ (if_neg (by simp [h.size, bufOk, aligned, rest, lanes, fit]))

theorem exec_tribSet {new : Page} (h : Held 0x0203 r s) (least : 1 ≤ fld (r.cmd.p 0) 5 0) (most : fld (r.cmd.p 0) 5 0 ≤ 32)
    (rest : fld (r.cmd.p 0) 63 6 = 0) (size : r.cmd.length = 8 * (9 * fld (r.cmd.p 0) 5 0 + 1))
    (records : ∀ j < fld (r.cmd.p 0) 5 0, fld (wd r.cmd.params (9 * j + 1)) 63 17 = 0)
    (once : hasDup (((List.range (fld (r.cmd.p 0) 5 0)).map (tribEdit r.cmd.params)).map (·.1)) = false)
    (applied : tribApply (projected (idle s)) ((List.range (fld (r.cmd.p 0) 5 0)).map (tribEdit r.cmd.params)) = some new) :
    exec .tribSet s = .next (finish r stOk [] (addEdits [] ((List.range (fld (r.cmd.p 0) 5 0)).map (tribEdit r.cmd.params))
      (copyBChanged (projected (idle s)) new ((List.range (fld (r.cmd.p 0) 5 0)).map (tribEdit r.cmd.params))) (idle s))) := by
  rw [exec_serving (c := .tribSet) (execTribSet s) rfl rfl rfl on h.has]
  refine congrArg _ ((if_neg ?_).trans ?_)
  · have judged : (List.range (fld (r.cmd.p 0) 5 0)).any (fun j => fld (wd r.cmd.params (9 * j + 1)) 63 17 != 0) = false := by
      simpa using records
    simp [-List.map_map, Nat.ne_of_gt least, most, rest, size, judged, once]
  · rw [applied]

/-! ## Seal, discard and withdrawal -/

theorem exec_planSeal (h : Held 0x0301 r s) (rest : fld (r.cmd.p 0) 15 2 = 0) (high : fld (r.cmd.p 0) 63 32 = 0)
    (held : bit (r.cmd.p 0) 1 = true → r.cmd.atFrame = 0)
    (large : (bit (r.cmd.p 0) 0 || decide (256 < s.planner.named.length)) = true → r.cmd.atFrame = 0)
    (clear : r.cmd.atFrame ≠ 0 → ∀ p ∈ s.planner.sealed, p.lock = 0 ∨ p.lock + 2 ≤ r.cmd.atFrame)
    (fits : (projected (idle s)).tribsFit = true) :
    exec .planSeal s = .next (later r (discardOpen { idle s with planner.sealed := s.planner.sealed ++ [sealedPlan r (idle s)] })) := by
  rw [exec_serving (c := .planSeal) (execPlanSeal s) rfl rfl rfl on h.has]
  have large' : ((bit (r.cmd.p 0) 0 || decide (256 < (idle s).planner.named.length)) && r.cmd.atFrame != 0) = false :=
    untimed large
  exact congrArg _ ((if_neg (by simp only [h.size, rest, high, untimed held, large']; decide)).trans
    ((if_neg (noConflict clear)).trans (if_neg (by simp [fits]))))

theorem exec_planDiscard (h : Held 0x0302 r s) :
    exec .planDiscard s = .next (finish r stOk [] (discardOpen (idle s))) := by
  rw [exec_serving (c := .planDiscard) (execPlanDiscard s) rfl rfl rfl on h.has]
  exact congrArg _ (if_neg (by simp [h.size]))

theorem exec_planWithdraw {n : Nat} (h : Held 0x0303 r s) (high : fld (r.cmd.p 0) 63 32 = 0)
    (found : findPlan (fun p => p.gen == fld (r.cmd.p 0) 31 0) s = some n)
    (early : ∀ p ∈ s.planner.sealed, p.gen = fld (r.cmd.p 0) 31 0 → p.st ≠ .swapping) :
    exec .planWithdraw s = .next (finish r stOk [] (withdrawFrom n stWithdrawn (idle s))) := by
  have found' : findPlan (fun p => p.gen == fld (r.cmd.p 0) 31 0) (idle s) = some n := found
  have early' : ¬ (idle s).planner.sealed.any (fun p => p.gen == fld (r.cmd.p 0) 31 0 && p.st == .swapping) = true := by
    simpa [idle] using early
  rw [exec_serving (c := .planWithdraw) (execPlanWithdraw s) rfl rfl rfl on h.has]
  refine congrArg _ ((if_neg (by simp [h.size, high])).trans ?_)
  rw [found']
  exact if_neg early'

end

/-- Settles O12, command by command. Words beyond the operand of CONN_LOAD are zero, the records of a TRIB_SET are checked one after the
other, and a seal checks R116 and R117 again, all by the model's choice (log entries 97, 16 and 82). -/
theorem planEditsAndSealsAct : Obligations.PlanEditsAndSealsAct := by
  intro r s on
  refine ⟨exec_connEdit on, fun buf h aligned rest lanes fit => ?_,
    fun new h least most rest size records once applied => exec_tribSet on h least most rest size records once applied,
    fun h rest high held large clear fits => exec_planSeal on h rest high held large clear fits,
    exec_planDiscard on, fun n h high found early => exec_planWithdraw on h high found early⟩
  rw [exec_connLoad on buf h aligned rest lanes fit]
  refine ⟨fun ws own up given good => ?_, fun own failed => ?_,
    fun other reach => congrArg _ (readBuffer_member _ _ _ _ _ other reach),
    fun _ reach => congrArg _ (readBuffer_unreached _ _ _ _ _ reach)⟩
  · subst given
    exact congrArg _ ((readBuffer_gateway _ _ _ _ _ (s := idle s) own up).trans (loadRun_good rfl good))
  · subst failed
    cases reach : s.hostReach with
    | false => exact congrArg _ (readBuffer_unreached _ _ _ _ _ reach)
    | true =>
      have up : s.hostUp = true := by rwa [State.hostReach, if_pos own] at reach
      exact congrArg _ (readBuffer_gateway _ _ _ _ _ (s := idle s) own up)

end Sys2Proof
end

section
/-! SUPPORT. The barges that a lane sends (R56, R159, R163 to R171): what a barge sent adds to the record of the row, and which barge a
position carries. -/

namespace Sys2Proof.Machine

open Sys2Proof

/-! ## One barge sent -/

/-- The record of a barge sent on a lane in state s. -/
def sentBarge (lane : Nat) (hdr : W64) (ws : List W64) (s : State) : TxBarge :=
  { lane := lane, at_ := (s.lane lane).txNext / 257, hdr := hdr, words := ws }

theorem sendBarge_barges (lane : Nat) (hdr : W64) (ws : List W64) (s : State) :
    (sendBarge lane hdr ws s).out.barges = s.out.barges ++ [sentBarge lane hdr ws s] := rfl

/-! Bits and markers put on the line leave the number of the next TEST barge. The number of bits is a variable here: for the 8,256 of a
barge, comparing the lanes field by field would scramble them. -/

theorem putBits_testSeq (k v lfTime txNext : Nat) (l : Lane) :
    ({ l.putBits k v with lfTime := lfTime, txNext := txNext } : Lane).testSeq = l.testSeq := rfl

theorem putMarker_testSeq (lane : Nat) (h : Hunter) (s : State) (l : Lane) :
    (l.putMarker lane h s).1.testSeq = l.testSeq := rfl

theorem putBits_putMarker_testSeq (k v lane : Nat) (h : Hunter) (s : State) (l : Lane) :
    ((l.putBits k v).putMarker lane h s).1.testSeq = l.testSeq := rfl

@[simp] theorem putBarge_testSeq (lane v : Nat) (s : State) (l : Lane) : (l.putBarge lane v s).1.testSeq = l.testSeq := by
  unfold Lane.putBarge
  dsimp only
  split
  · exact (putBits_testSeq ..).trans (putMarker_testSeq ..)
  · split
    · exact putBits_testSeq ..
    · split
      · exact putBits_testSeq ..
      · exact (putBits_testSeq ..).trans (putBits_putMarker_testSeq ..)

@[simp] theorem takeWords_testSeq (n : Nat) (l : Lane) : (l.takeWords n).1.testSeq = l.testSeq := by
  induction n generalizing l with
  | zero => rfl
  | succ n ih =>
    unfold Lane.takeWords
    split
    · rfl
    · exact ih _

@[simp] theorem sendBarge_testSeq (lane : Nat) (hdr : W64) (ws : List W64) (s : State) :
    ((sendBarge lane hdr ws s).lane lane).testSeq = (s.lane lane).testSeq := by
  simp only [sendBarge, State.lane, State.modLane, kget_kset_same, takeWords_testSeq, putBarge_testSeq]

/-- The event counters see a barge, the lanes and what is sent do not change. -/
@[simp] theorem countEvent_lane (code obj n lane : Nat) (s : State) : (countEvent code obj n s).lane lane = s.lane lane := rfl

@[simp] theorem countEvent_out (code obj n : Nat) (s : State) : (countEvent code obj n s).out = s.out := rfl

/-! ## The four kinds of position -/

section
variable (lane : Nat) (s : State)

theorem sendFrame_barges : (sendFrame lane s).out.barges = s.out.barges ++
    [sentBarge lane (bargeHeader 3 (fillRow lane (s.lane lane).txNext s) 0 0 (s.time.frame % 256) s)
      (framePayload lane (departure (s.lane lane).txNext) s) s] := rfl

theorem sendFrame_frameDue : ((sendFrame lane s).lane lane).frameDue = false := by
  simp [sendFrame]

theorem sendTest_barges : (sendTest lane s).out.barges = s.out.barges ++
    [sentBarge lane (bargeHeader 5 (fillRow lane (s.lane lane).txNext s) 0 0 (s.lane lane).testSeq s)
      (testPayload (s.lane lane).testSeq) s] := rfl

theorem sendTest_testSeq : ((sendTest lane s).lane lane).testSeq = ((s.lane lane).testSeq + 1) % 256 := by
  simp [sendTest]

theorem sendIdle_barges : (sendIdle lane s).out.barges = s.out.barges ++
    [sentBarge lane (bargeHeader 2 (fillRow lane (s.lane lane).txNext s) 0 0 0 s) (List.replicate 128 0) s] := rfl

theorem sendRowBarge_hold (i : Nat) (hold : s.fab.kind = .hold) : (sendRowBarge lane i s).out.barges = s.out.barges ++
    [sentBarge lane (bargeHeader 4 s.nrn i 0 0 s) (List.replicate 128 0) s] := by
  rw [sendRowBarge, if_pos hold]
  rfl

theorem sendRowBarge_data (i : Nat) (switched : s.fab.kind ≠ .hold) : (sendRowBarge lane i s).out.barges = s.out.barges ++
    [sentBarge lane (bargeHeader 1 s.nrn i (b2n (!(s.fab.kind == .ones || s.fab.badBarge.contains (lane, i)))) 0 s)
      (dataPayload lane i s) s] := by
  rw [sendRowBarge, if_neg switched]
  rfl

/-! ## Which barge a position carries (R163, R164) -/

variable {lane s} {i : Nat}

theorem sendPosition_row (rows : carriesRows lane s = true) (hi : i < 24) : sendPosition lane i s = sendRowBarge lane i s := by
  simp [sendPosition, rows, hi]

/-- A position that no barge of the row takes. -/
theorem sendPosition_fill (free : carriesRows lane s = false ∨ 24 ≤ i) : sendPosition lane i s =
    if (s.lane lane).frameDue then sendFrame lane s else if (s.lane lane).testOn then sendTest lane s else sendIdle lane s := by
  have taken : (carriesRows lane s && decide (i < 24)) = false := by
    simpa [Bool.and_eq_false_imp, or_iff_not_imp_left] using free
  rw [sendPosition, if_neg (ne_true_of_eq_false taken)]

end

/-! ## The payload of a DATA barge (R56) -/

theorem dataPayload_length (lane i : Nat) (s : State) : (dataPayload lane i s).length = 128 := by
  simp [dataPayload]

/-- Word j of barge i carries slots 256 i + 2 j and the next. -/
theorem wd_dataPayload (lane i : Nat) {s : State} {j : Nat} (data : s.fab.kind = .data) (hj : j < 128) :
    wd (dataPayload lane i s) j = w64 ((kget 0 s.fab.words (6144 * lane + 256 * i + 2 * j)).toNat * 2 ^ 32 +
      (kget 0 s.fab.words (6144 * lane + 256 * i + 2 * j + 1)).toNat) := by
  have even : entryIndex lane (256 * i + 2 * j) = 6144 * lane + 256 * i + 2 * j := by simp only [entryIndex]; omega
  have odd : entryIndex lane (256 * i + (2 * j + 1)) = 6144 * lane + 256 * i + 2 * j + 1 := by simp only [entryIndex]; omega
  simp [wd, dataPayload, data, hj, even, odd]

end Sys2Proof.Machine
end

section
/-! SUPPORT. The barges that a lane receives (R155, R156, R166 to R172, R186): what a header does to its lane, and what each fill barge
does beyond it. -/

namespace Sys2Proof.Machine

open Sys2Proof

/-! ## Nothing differs but lanes -/

/-- Nothing outside the lanes differs. -/
def OnlyLanes (s t : State) : Prop := t = { s with lanes := t.lanes }

theorem OnlyLanes.refl (s : State) : OnlyLanes s s := rfl

theorem OnlyLanes.modLane {s t : State} (h : OnlyLanes s t) (lane : Nat) (f : Lane → Lane) : OnlyLanes s (t.modLane lane f) :=
  (congrArg (fun u : State => { u with lanes := (t.modLane lane f).lanes }) h :)

/-- An event counted besides. -/
theorem OnlyLanes.counted {s t : State} (h : OnlyLanes s t) (code obj n : Nat) :
    countEvent code obj n t = { s with lanes := (countEvent code obj n t).lanes, ctr := (countEvent code obj n t).ctr } :=
  congrArg (fun u : State => { u with ctr := (countEvent code obj n t).ctr }) h

/-! ## The header -/

/-- A running lane that a header at a bit position meets: delineation steps, and the SEL and TERM_LO of a header that fits are
registered (R156, R186, Table 8.7). -/
def Lane.meets (pos : Nat) (hdr : W64) (l : Lane) : Lane :=
  let r := l.delin.step pos hdr
  let m : Lane := { (l.count 3 (b2n r.2.2.1)).count 4 (b2n r.2.2.2) with delin := r.1 }
  let m := if m.bring = .delineate ∧ r.1.sync = true then { m with bring := .phase, inRun := 0, outRun := 0 } else m
  match l.delin.fitting pos hdr with
  | some w => { m with sel := hSel w, termLo := hTerm w,
                       hdrOther := if hSel w = 2 ∧ m.hdrOther.contains (hTerm w) = false then hTerm w :: m.hdrOther else m.hdrOther }
  | none => m

theorem header_running {lane : Nat} {b : BargeRx} {s : State} (aligned : (s.lane lane).hunter.aligned = true)
    (hunts : (s.lane lane).bring.hunts = true) : header lane b s =
      (s.modLane lane (Lane.meets b.pos (received lane b s).hdr),
        ((s.lane lane).delin.step b.pos (received lane b s).hdr).2.1.map (fun w => (w, received lane b s))) := by
  rw [header, if_pos (by rw [aligned, hunts]; rfl)]
  rfl

theorem Lane.count_only (i n : Nat) (l : Lane) : ∃ c, l.count i n = { l with counts := c } := by
  unfold Lane.count
  split <;> exact ⟨_, rfl⟩

/-- A header changes the counts of its lane, the delineation, the step of bring-up that SYNC brings and what is registered of it. -/
theorem Lane.meets_only (pos : Nat) (hdr : W64) (l : Lane) : ∃ counts bring inRun outRun sel termLo hdrOther,
    l.meets pos hdr = { l with counts := counts, delin := (l.delin.step pos hdr).1, bring := bring, inRun := inRun,
                               outRun := outRun, sel := sel, termLo := termLo, hdrOther := hdrOther } := by
  obtain ⟨c, corrected⟩ := l.count_only 3 (b2n (l.delin.step pos hdr).2.2.1)
  obtain ⟨c', invalid⟩ := Lane.count_only 4 (b2n (l.delin.step pos hdr).2.2.2) { l with counts := c }
  unfold Lane.meets
  dsimp only
  rw [corrected, invalid]
  (repeat' split) <;> exact ⟨_, _, _, _, _, _, _, rfl⟩

@[simp] theorem Lane.meets_frame (pos : Nat) (hdr : W64) (l : Lane) :
    (l.meets pos hdr).delin = (l.delin.step pos hdr).1 ∧ (l.meets pos hdr).basin = l.basin ∧
    (l.meets pos hdr).frmRow = l.frmRow ∧ (l.meets pos hdr).echoFrame = l.echoFrame ∧
    (l.meets pos hdr).testChecked = l.testChecked ∧ (l.meets pos hdr).testBits = l.testBits := by
  obtain ⟨_, _, _, _, _, _, _, only⟩ := l.meets_only pos hdr
  rw [only]
  exact ⟨rfl, rfl, rfl, rfl, rfl, rfl⟩

/-! ## The header in SYNC (Table 6.5) -/

section
variable {d : Delin} {pos : Nat} {hdr : W64} (sync : d.sync = true) (place : pos = d.pos)
include sync place

theorem step_fits (fits : headerFits hdr = true) : d.step pos hdr = ({ d with bad := 0 }, some hdr, false, false) := by
  simp [Delin.step, sync, place, fits]

section
variable (fits : headerFits hdr = false) (fix : headerFix hdr = none)
include fits fix

theorem step_invalid (few : d.bad < 6) : d.step pos hdr = ({ d with bad := d.bad + 1 }, none, false, true) := by
  simp [Delin.step, sync, place, fits, fix, few]

theorem step_loses (many : 6 ≤ d.bad) : d.step pos hdr = (d.lose, none, false, true) := by
  simp [Delin.step, sync, place, fits, fix, Nat.not_lt.mpr many]

end
end

/-! ## A barge received -/

theorem onRunningLane_next {lane : Nat} {s t : State} (h : lane < 512) (ticking : s.ticking = true) :
    onRunningLane lane s t = .next t := by
  rw [onRunningLane, onLane, if_pos h, if_pos ticking]

/-- The state once the lane has read the header of a barge. -/
def afterHeader (lane : Nat) (b : BargeRx) (s : State) : State := s.modLane lane (Lane.meets b.pos (received lane b s).hdr)

section
variable {lane : Nat} {b : BargeRx} {s : State}

theorem afterHeader_lane : (afterHeader lane b s).lane lane = (s.lane lane).meets b.pos (received lane b s).hdr :=
  (lane_modLane ..).trans (if_pos rfl)

theorem afterHeader_onlyLanes : OnlyLanes s (afterHeader lane b s) := (OnlyLanes.refl s).modLane lane _

theorem afterHeader_other {j : Nat} (other : j ≠ lane) : (afterHeader lane b s).lane j = s.lane j :=
  (lane_modLane ..).trans (if_neg other)

section
variable (h : Receives lane b s)
include h

theorem header_receives : header lane b s = (afterHeader lane b s, some ((received lane b s).hdr, received lane b s)) := by
  obtain ⟨-, -, aligned, hunts, sync, place, fits⟩ := h
  rw [header_running aligned hunts, step_fits sync place fits]
  rfl

theorem delin_afterHeader : ((afterHeader lane b s).lane lane).delin = { (s.lane lane).delin with bad := 0 } := by
  obtain ⟨-, -, -, -, sync, place, fits⟩ := h
  rw [afterHeader_lane, (Lane.meets_frame ..).1, step_fits sync place fits]

theorem frameBarge_good (type : hType (received lane b s).hdr = 3) (good : frameGood (received lane b s).words = true) :
    frameBarge lane b s = goodFrame lane (received lane b s).words b.arrival (afterHeader lane b s) := by
  simp [frameBarge, header_receives h, type, good]

theorem frameBarge_bad (type : hType (received lane b s).hdr = 3) (bad : frameGood (received lane b s).words = false) :
    frameBarge lane b s = (afterHeader lane b s).modLane lane (fun l => l.count 10 1) := by
  simp [frameBarge, header_receives h, type, bad]

theorem idleBarge_counts (type : hType (received lane b s).hdr = 2) :
    idleBarge lane b s = countEvent 3 lane 1 (afterHeader lane b s) := by
  simp [idleBarge, header_receives h, type]

end
end

/-! ## FRAME barges (R169, R170, R186) -/

/-- A count leaves what FRAME barges register. -/
@[simp] theorem Lane.count_frame (i n : Nat) (l : Lane) :
    (l.count i n).frmRow = l.frmRow ∧ (l.count i n).echoFrame = l.echoFrame := by
  obtain ⟨_, only⟩ := l.count_only i n
  rw [only]
  exact ⟨rfl, rfl⟩

@[simp] theorem Lane.delay_basin (ws : List W64) (at_ frame : Nat) (l : Lane) : (l.delay ws at_ frame).basin = l.basin := by
  unfold Lane.delay
  (repeat' split) <;> rfl

section
variable (lane : Nat) (ws : List W64) (s : State)

@[simp] theorem qlMessage_keeps (n ssm essm : Nat) :
    (qlMessage n ssm essm s).fab = s.fab ∧ (qlMessage n ssm essm s).sels = s.sels := by
  simp [qlMessage, State.modInput]

@[simp] theorem frameQl_keeps : (frameQl lane ws s).fab = s.fab ∧ (frameQl lane ws s).sels = s.sels := by
  simp [frameQl]

@[simp] theorem showTerm_keeps (t why : Nat) : (showTerm t why s).fab = s.fab ∧ (showTerm t why s).sels = s.sels := ⟨rfl, rfl⟩

variable (arrival : Int)

theorem goodFrame_keeps : (goodFrame lane ws arrival s).fab = s.fab ∧ (goodFrame lane ws arrival s).sels = s.sels := by
  simp [goodFrame, State.modLane]

theorem goodFrame_lane : ((goodFrame lane ws arrival s).lane lane).echoFrame = fld (wd ws 0) 47 0 ∧
    ((goodFrame lane ws arrival s).lane lane).fSel = fld (wd ws 4) 63 62 ∧
    ((goodFrame lane ws arrival s).lane lane).fSelTerm = fld (wd ws 4) 31 0 ∧
    ((goodFrame lane ws arrival s).lane lane).rxState = fld (wd ws 7) 2 0 ∧
    ((goodFrame lane ws arrival s).lane lane).frmRow = s.time.rows ∧
    ((goodFrame lane ws arrival s).lane lane).basin = (s.lane lane).basin := by
  simp [goodFrame, State.lane, State.modLane]

theorem goodFrame_other {j : Nat} (other : j ≠ lane) : (goodFrame lane ws arrival s).lane j = s.lane j := by
  simp [goodFrame, State.lane, State.modLane, kget_kset_other _ _ _ other]

end

/-! ## TEST barges (R172) -/

theorem onesOf_xor_self (w : W64) : onesOf (w ^^^ w) = 0 := by
  simp [onesOf, bit]

/-- A payload that is the one sent differs in no bit. -/
theorem noDifference (ws : List W64) : (List.zipWith (fun p q => onesOf (p ^^^ q)) ws ws).foldl (· + ·) 0 = 0 := by
  induction ws with
  | nil => rfl
  | cons w ws ih =>
    rw [List.zipWith_cons_cons, List.foldl_cons, onesOf_xor_self]
    exact ih

/-- The counts of a TEST barge that differs in n bits. -/
def Lane.tested (n : Nat) (l : Lane) : Lane :=
  { l with testChecked := sat (2 ^ 48 - 1) (l.testChecked + 1), testBits := sat (2 ^ 48 - 1) (l.testBits + n) }

theorem testBarge_counts {lane : Nat} {b : BargeRx} {s : State} (h : Receives lane b s)
    (type : hType (received lane b s).hdr = 5) : testBarge lane b s = (afterHeader lane b s).modLane lane
      (Lane.tested ((List.zipWith (fun p q => onesOf (p ^^^ q)) (testPayload (hTypeData (received lane b s).hdr))
        (received lane b s).words).foldl (· + ·) 0)) := by
  rw [testBarge, header_receives h]
  exact if_neg (not_not_intro type)

end Sys2Proof.Machine
end

section
/-! What a lane sends and receives besides its rows (R156, R164 to R172). -/

namespace Sys2Proof

open Sys2Proof.Machine

/-- The effect of a barge that a lane receives takes place: the lane exists and row ticks run. -/
theorem Receives.runs {lane : Nat} {b : BargeRx} {s : State} (h : Receives lane b s) (t : State) :
    onRunningLane lane s t = .next t := by
  obtain ⟨inRange, ticking, -⟩ := h
  exact onRunningLane_next inRange ticking

/-- A position of which only the header is read does what a header does to its lane. -/
theorem exec_invalidHeader {lane : Nat} {b : BargeRx} {s : State} (inRange : lane < 512) (ticking : s.ticking = true)
    (aligned : (s.lane lane).hunter.aligned = true) (hunts : (s.lane lane).bring.hunts = true) :
    exec (.invalidHeader lane b.pos { first := b.first, off := b.off, words := b.words }) s = .next (afterHeader lane b s) := by
  refine (onRunningLane_next inRange ticking).trans (congrArg _ ?_)
  rw [header_running aligned hunts]
  rfl

/-- Settles O26: the barge of each position by its kind, and each barge received by what its header and its type do to the lane. -/
theorem fillBargesAct : Obligations.FillBargesAct := by
  refine ⟨fun lane i s free => ?_, fun lane i s rows hi => ?_, fun lane b s => ⟨fun h type good => ?_, fun h type bad => ?_,
    fun h type => ?_, fun h type => ?_, fun inRange ticking aligned hunts sync place fits fix => ?_⟩⟩
  · rw [sendPosition_fill free]
    cases due : (s.lane lane).frameDue with
    | true =>
      exact ⟨_, sendFrame_barges lane s, rfl, rfl, fun _ => ⟨rfl, rfl, sendFrame_frameDue lane s⟩,
        fun off _ => absurd off (by simp [due]), fun off _ => absurd off (by simp [due])⟩
    | false =>
      cases test : (s.lane lane).testOn with
      | true => exact ⟨_, sendTest_barges lane s, rfl, rfl, fun on => absurd on (by simp [due]),
          fun _ _ => ⟨rfl, rfl, sendTest_testSeq lane s⟩, fun _ off => absurd off (by simp [test])⟩
      | false =>
        exact ⟨_, sendIdle_barges lane s, rfl, rfl, fun on => absurd on (by simp [due]),
          fun _ on => absurd on (by simp [test]), fun _ _ => ⟨rfl, rfl⟩⟩
  · rw [sendPosition_row rows hi]
    by_cases hold : s.fab.kind = .hold
    · exact ⟨_, sendRowBarge_hold lane s i hold, rfl, rfl, fun _ => ⟨rfl, rfl⟩, fun switched => absurd hold switched,
        fun j data => absurd (hold.symm.trans data) nofun⟩
    · exact ⟨_, sendRowBarge_data lane s i hold, rfl, rfl, fun held => absurd held hold,
        fun _ => ⟨rfl, dataPayload_length lane i s⟩, fun j data hj => wd_dataPayload lane i data hj⟩
  · refine ⟨_, h.runs (frameBarge lane b s), ?_⟩
    rw [frameBarge_good h type good]
    obtain ⟨frame, sel, term, rx, row, basin⟩ := goodFrame_lane lane (received lane b s).words (afterHeader lane b s) b.arrival
    obtain ⟨fab, sels⟩ := goodFrame_keeps lane (received lane b s).words (afterHeader lane b s) b.arrival
    refine ⟨frame, sel, term, rx, row, ?_, fun j other => ?_, fab, sels, ?_, ?_⟩
    · rw [basin, afterHeader_lane]
      simp
    · rw [goodFrame_other _ _ _ _ other, afterHeader_other other]
    · simp [afterHeader]
    · simp [afterHeader]
  · refine ⟨_, h.runs (frameBarge lane b s), ?_⟩
    rw [frameBarge_bad h type bad]
    refine ⟨?_, ?_, fun j other => ?_, afterHeader_onlyLanes.modLane ..⟩
    · simp [afterHeader_lane]
    · simp [afterHeader_lane]
    · simp [other, afterHeader_other other]
  · refine ⟨_, h.runs (testBarge lane b s), ?_⟩
    rw [testBarge_counts h type]
    refine ⟨?_, fun same small => ?_, fun j other => ?_, afterHeader_onlyLanes.modLane ..⟩
    · simp [afterHeader_lane, Lane.tested, sat_eq_min]
    · rw [same, noDifference]
      simpa [afterHeader_lane, Lane.tested, sat_eq_min] using Nat.le_sub_one_of_lt small
    · simp [other, afterHeader_other other]
  · refine ⟨_, h.runs (idleBarge lane b s), ?_⟩
    rw [idleBarge_counts h type]
    refine ⟨?_, ?_, fun j other => (countEvent_lane ..).trans (afterHeader_other other),
      afterHeader_onlyLanes.counted ..⟩
    · rw [countEvent_lane, delin_afterHeader h]
      obtain ⟨-, -, -, -, sync, -⟩ := h
      exact sync
    · rw [countEvent_lane, afterHeader_lane]
      simp
  · refine ⟨_, exec_invalidHeader inRange ticking aligned hunts, fun few => ?_, fun many => ?_,
      fun j other => afterHeader_other other, afterHeader_onlyLanes⟩
    · rw [afterHeader_lane, (Lane.meets_frame ..).1, step_invalid sync place fits fix few]
      exact ⟨sync, rfl⟩
    · rw [afterHeader_lane, (Lane.meets_frame ..).1, step_loses sync place fits fix many]
      exact ⟨rfl, by simp [Delin.lose, sync]⟩

end Sys2Proof
end

section
/-! The numbering of generations (R104). -/

namespace Sys2Proof

open Sys2Proof.Machine

/-! ## Steps on the circle of 2^32 − 1 generations -/

theorem genAdd_pos (g n : Nat) : 1 ≤ genAdd g n := Nat.le_add_left ..

theorem genAdd_lt (g n : Nat) : genAdd g n < 2 ^ 32 := by
  have := Nat.mod_lt (g + n - 1) (show 0 < 2 ^ 32 - 1 by decide)
  rw [genAdd]
  omega

section
variable {g : Nat} (pos : 1 ≤ g)
include pos

theorem genAdd_zero (lt : g < 2 ^ 32) : genAdd g 0 = g := by
  rw [genAdd, Nat.add_zero, Nat.mod_eq_of_lt (by omega)]
  omega

/-- The generation after the last one is 1. -/
theorem genAdd_one (lt : g < 2 ^ 32) : genAdd g 1 = if g = 2 ^ 32 - 1 then 1 else g + 1 := by
  rw [genAdd, Nat.add_sub_cancel]
  split
  · next last => rw [last, Nat.mod_self]
  · next before => rw [Nat.mod_eq_of_lt (by omega)]

theorem genAdd_genAdd (n m : Nat) : genAdd (genAdd g n) m = genAdd g (n + m) := by
  have shift : (g + n - 1) % (2 ^ 32 - 1) + 1 + m - 1 = (g + n - 1) % (2 ^ 32 - 1) + m := by omega
  have sum : g + n - 1 + m = g + (n + m) - 1 := by omega
  simp only [genAdd]
  rw [shift, Nat.mod_add_mod, sum]

end

/-- Settles O15, by arithmetic modulo 2^32 − 1. -/
theorem generationsWrapToOne : Obligations.GenerationsWrapToOne :=
  fun g n m pos lt => ⟨genAdd_pos g n, genAdd_lt g n, genAdd_zero pos lt, genAdd_one pos lt, genAdd_genAdd pos n m⟩

end Sys2Proof
end

section
/-! The events of a plan's life (R93 to R100, R111) and the lockage (R101, R105, Table 4.2). -/

namespace Sys2Proof

open Sys2Proof.Machine

/-! ## Planning and loading -/

section
variable {n : Nat} {s : State}

theorem exec_planningStart (found : findPlan (fun p => p.st == .queued) s = some n)
    (before : n = 0 ∨ ∃ p, s.planner.sealed[n - 1]? = some p ∧ p.copied = true) (started : s.starting = false)
    (own : s.followsLockage = false) : exec .planningStart s =
      .next (modPlan n (fun p => { p with st := .planning, startRow := s.time.rows }) s) := by
  have copied : n = 0 ∨ ((s.planner.sealed[n - 1]?).map Plan.copied).getD false = true :=
    before.imp_right fun ⟨p, hp, hc⟩ => by rw [hp]; exact hc
  rw [show exec .planningStart s = execPlanningStart s from rfl, execPlanningStart, found]
  exact if_pos ⟨copied, started, own⟩

/-- The words that the delta of a plan carries: those that its routing changes, on a device of a pair (R324). -/
def deltaWrites (pg : Page) (s : State) : List SlotWrite := if s.twinOn then pageDiff s.fab.image pg else []

/-- The time that a plan was in PLANNING. -/
def planningUs (p : Plan) (s : State) : Nat :=
  let rows := s.time.rows - p.startRow
  if Config.roundUp rows 2 then (rows + 1) / 2 else rows / 2

/-- A delta put behind the others, on a device of a pair (R324). -/
def queueDelta (d : Delta) (s : State) : State :=
  if s.twinOn then passDeltas { s with planner.deltas := s.planner.deltas ++ [d] } else s

/-- Plan n routed: its delta is queued, and the routed page is the planner's image. -/
def planRouted (n : Nat) (p : Plan) (pg : Page) (s : State) : State :=
  { modPlan n (fun p' => { p' with st := .planned, moved := movedLegs s.fab.image pg, planUs := planningUs p s,
                                   writes := deltaWrites pg s })
      (queueDelta { gen := p.gen, frame := p.lock, writes := deltaWrites pg s } s) with fab.image := pg }

theorem queueDelta_frame (d : Delta) (s : State) :
    (queueDelta d s).planner.sealed = s.planner.sealed ∧ (queueDelta d s).lanes = s.lanes ∧ (queueDelta d s).twin = s.twin ∧
    (queueDelta d s).host = s.host ∧ (queueDelta d s).fab = s.fab := by
  unfold queueDelta
  split <;> exact ⟨rfl, rfl, rfl, rfl, rfl⟩

theorem planRouted_frame (n : Nat) (p : Plan) (pg : Page) (s : State) :
    (planRouted n p pg s).lanes = s.lanes ∧ (planRouted n p pg s).twin = s.twin ∧ (planRouted n p pg s).host = s.host ∧
    (planRouted n p pg s).fab.act = s.fab.act ∧ (planRouted n p pg s).fab.stby = s.fab.stby := by
  simp [planRouted, modPlan, queueDelta_frame]

theorem planRouted_sealed (n : Nat) (p : Plan) (pg : Page) (s : State) : (planRouted n p pg s).planner.sealed =
    (modPlan n (fun p' => { p' with st := .planned, moved := movedLegs s.fab.image pg, planUs := planningUs p s,
                                    writes := deltaWrites pg s }) s).planner.sealed := by
  simp [planRouted, modPlan, queueDelta_frame]

/-- A route that keeps R70 and R78 plans the plan. -/
theorem exec_planningDone_found {p : Plan} (stage : KMap (BitVec 16))
    (found : findPlan (fun p => p.st == .planning) s = some n) (is : s.planner.sealed[n]? = some p)
    (keeps : (routedPage p stage s).check = true)
    (covers : p.replan = true ∨ movedLegs s.fab.image (routedPage p stage s) = 0 ∨
      r74Covers s.fab.image (routedPage p stage s) = false) :
    exec (.planningDone (.found stage)) s = .next (planRouted n p (routedPage p stage s) s) := by
  have accepted : ((routedPage p stage s).check && (p.replan || movedLegs s.fab.image (routedPage p stage s) == 0 ||
      !r74Covers s.fab.image (routedPage p stage s))) = true := by
    simpa [keeps, or_assoc] using covers
  rw [show exec (.planningDone (.found stage)) s = execPlanningDone (.found stage) s from rfl, execPlanningDone, found]
  dsimp only
  rw [is]
  exact if_pos accepted

theorem exec_planningDone_none {p : Plan} (found : findPlan (fun p => p.st == .planning) s = some n)
    (is : s.planner.sealed[n]? = some p) (beyond : (routedPage p [] s).budgetOk = false)
    (unrouted : r74Covers s.fab.image (routedPage p [] s) = false) :
    exec (.planningDone .none) s = .next (withdrawFrom n stNoRoute s) := by
  rw [show exec (.planningDone .none) s = execPlanningDone .none s from rfl, execPlanningDone, found]
  dsimp only
  rw [is]
  exact if_neg (by simp [beyond, unrouted])

theorem exec_loadingStart (found : findPlan (fun p => p.st == .planned) s = some n) (credit : s.planner.credit = true)
    (unheld : pageHeld s = false) (works : s.fnDown 4 = false) (reach : s.reaches 4 [0, 1] = true) :
    exec .loadingStart s = .next (interruptReads
      { modPlan n (fun p => { p with st := .loading }) s with planner.credit := false, fab.stby := {} }) := by
  rw [show exec .loadingStart s = execLoadingStart s from rfl, execLoadingStart, found]
  exact if_pos (by simp [credit, unheld, works, reach])

/-- The page that the loader has copied, with the stage memory words that a fault of the device has changed. -/
def loadedPage (faults : List (Nat × BitVec 16)) (s : State) : Page :=
  { s.fab.image with stage := putStage faults s.fab.image.stage }

theorem exec_loadingDone (faults : List (Nat × BitVec 16)) (reach : s.reaches 4 [0, 1] = true)
    (found : findPlan (fun p => p.st == .loading) s = some n) : exec (.loadingDone faults) s =
      if (loadedPage faults s).check
      then .next (armReady { modPlan n (fun p => { p with st := .loaded }) s with fab.stby := loadedPage faults s })
      else .next (withdrawFrom n stPageCheck s) := by
  rw [show exec (.loadingDone faults) s = execLoadingDone faults s from rfl, execLoadingDone, found]
  exact if_neg (by simp [reach])

/-! ## LOCKAGE_AT and the deferral limit -/

/-- The frame `a` fixed for a HELD plan (R111). -/
def armedAt (a : Nat) (p : Plan) : Plan := { p with st := .armed, hold := false, atFrame := a, lock := a, first := a }

theorem modPlan_getElem? (f : Plan → Plan) {p : Plan} (is : s.planner.sealed[n]? = some p) :
    (modPlan n f s).planner.sealed[n]? = some (f p) := by
  simp [modPlan, is]

theorem exec_lockageAt {r : Run} {p : Plan} (on : s.isActive = true) (h : Held 0x0306 r s) (high : fld (r.cmd.p 0) 63 32 = 0)
    (found : findPlan (fun p => p.gen == fld (r.cmd.p 0) 31 0 && p.st == .held) s = some n)
    (is : s.planner.sealed[n]? = some p)
    (clear : ∀ q ∈ s.planner.sealed.take n, q.lock = 0 ∨ q.lock + 2 ≤ r.cmd.atFrame) :
    exec .lockageAt s = .next (finish r stOk [pack [(47, 0, r.cmd.atFrame)]]
      (sendFix (armedAt r.cmd.atFrame p) (modPlan n (armedAt r.cmd.atFrame) (idle s)))) := by
  have found' : findPlan (fun p => p.gen == fld (r.cmd.p 0) 31 0 && p.st == .held) (idle s) = some n := found
  have armed : (modPlan n (armedAt r.cmd.atFrame) (idle s)).planner.sealed[n]? = some (armedAt r.cmd.atFrame p) :=
    modPlan_getElem? (s := idle s) _ is
  have clear' : ¬ (s.planner.sealed.take n).any (fun p => decide (p.lock ≠ 0 ∧ r.cmd.atFrame < p.lock + 2)) = true := by
    intro conflict
    obtain ⟨q, hq, meets⟩ := List.any_eq_true.mp conflict
    obtain ⟨locked, close⟩ := of_decide_eq_true meets
    exact (clear q hq).elim locked (by omega)
  rw [exec_serving (c := .lockageAt) (execLockageAt s) rfl rfl rfl on h.has]
  refine congrArg _ ((if_neg (by simp [h.size, high])).trans ?_)
  rw [found']
  refine (if_neg clear').trans (congrArg (finish r stOk _) ?_)
  split
  · next q is' => rw [Option.some.inj (is'.symm.trans armed)]; rfl
  · next none => exact absurd (none.symm.trans armed) nofun

theorem exec_deferralLimit (found : findPlan (fun p => p.lock == s.time.frame + 1 && p.st != .swapping &&
      decide (p.first + p.limit ≤ s.time.frame + 1) && armFails p (s.time.frame + 1) s != 0) s = some n)
    (last : s.time.row = 249) : exec .deferralLimit s = .next (withdrawFrom n stLockageTimeout s) := by
  simp only [show exec .deferralLimit s = execDeferralLimit s from rfl, execDeferralLimit, found, if_pos last]

end

/-! ## The lockage -/

section
variable {s : State}

theorem spacePage_before (h : s.time.row = 0) : spacePage s = s.fab.act :=
  if_neg fun ⟨_, begun, _⟩ => by omega

theorem readoutPage_before (h : s.time.row < 2) : readoutPage s = s.fab.act :=
  if_neg fun ⟨_, begun, _⟩ => by omega

theorem spacePage_swapped {k : Nat} (swap : s.fab.swap = some k) (since : 1 ≤ s.time.row) (until_ : s.time.row < 249) :
    spacePage s = s.fab.stby :=
  if_pos ⟨by simp [swap], since, until_⟩

theorem readoutPage_swapped {k : Nat} (swap : s.fab.swap = some k) (since : 2 ≤ s.time.row) (until_ : s.time.row < 249) :
    readoutPage s = s.fab.stby :=
  if_pos ⟨by simp [swap], since, until_⟩

theorem lockageDone_other (other : s.time.row ≠ 3) : lockageDone s = s :=
  if_neg (by simp [other])

/-- What becomes of the delta of a plan that is done leaves the pages, the sealed plans, the credit and what was done last. -/
theorem settleDelta_keeps (p : Plan) (s : State) :
    (settleDelta p s).fab = s.fab ∧ (settleDelta p s).planner.sealed = s.planner.sealed ∧
    (settleDelta p s).planner.credit = s.planner.credit ∧ (settleDelta p s).planner.lastDone = s.planner.lastDone := by
  unfold settleDelta
  split <;> exact ⟨rfl, rfl, rfl, rfl⟩

/-- The pages have changed their places (R98, R105). -/
def swapPages (s : State) : State :=
  { s with fab.swap := none, fab.act := s.fab.stby, fab.stby := s.fab.act, fab.half := !s.fab.half }

/-- The plan p is done: it is no longer sealed, and its page credit is back. -/
def planDone (p : Plan) (s : State) : State :=
  { s with planner.sealed := s.planner.sealed.filter (fun x => x.st != .swapping), planner.credit := true, planner.lastDone := p.gen }

theorem lockageDone_swaps {k : Nat} {p : Plan} (swap : s.fab.swap = some k) (row : s.time.row = 3) (held : s.fab.stby.gen ≠ 0)
    (found : s.planner.sealed.find? (fun p => p.st == .swapping) = some p) : lockageDone s =
      finishKey p.cmd stOk (p.words p.lock) (settleDelta p (planDone p (countEvent 0x47 0 1 (swapPages s)))) := by
  have counted : (countEvent 0x47 0 1 (swapPages s)).planner = s.planner := by simp [swapPages]
  have due : (s.fab.swap.isSome && s.time.row == 3) = true := by simp [swap, row]
  rw [← counted] at found
  unfold lockageDone
  rw [if_pos due, if_neg held]
  dsimp only
  split
  · next q found' => rw [Option.some.inj (found'.symm.trans found)]; rfl
  · next none => exact absurd (none.symm.trans found) nofun

end

/-- Settles O14, event by event. -/
theorem plansMoveThroughTheirStates : Obligations.PlansMoveThroughTheirStates := by
  refine fun n s => ⟨exec_planningStart, fun p stage found is => ?_, fun p => exec_planningDone_none, exec_loadingStart,
    fun faults reach found => ?_, fun r p h on high found is clear => exec_lockageAt on h high found is clear,
    exec_deferralLimit, fun k swap => ⟨spacePage_before, readoutPage_before, spacePage_swapped swap, readoutPage_swapped swap,
      lockageDone_other, fun p row held found => ?_⟩⟩
  · intro pg keeps covers
    obtain ⟨lanes, twin, host, act, stby⟩ := planRouted_frame n p pg s
    exact ⟨_, _, _, exec_planningDone_found stage found is keeps covers, rfl, planRouted_sealed n p pg s, lanes, twin, host, act,
      stby⟩
  · have done := exec_loadingDone faults reach found
    exact ⟨fun ok => done.trans (if_pos ok), fun bad => done.trans (if_neg (ne_true_of_eq_false bad))⟩
  · refine ⟨_, lockageDone_swaps swap row held found, ?_⟩
    obtain ⟨fab, plans, credit, last⟩ := settleDelta_keeps p (planDone p (countEvent 0x47 0 1 (swapPages s)))
    rw [fab, plans, credit, last]
    simp [planDone, swapPages]

end Sys2Proof
end

section
/-! Reads that end at the row tick, and the identity's copies (R113, R402, R430). -/

namespace Sys2Proof

open Sys2Proof.Machine

/-! ## The parameters of the reads -/

/-- The area, offset and length of a PAGE_READ. -/
def PageAreaGood (w1 w2 : W64) : Prop :=
  fld w1 63 33 = 0 ∧ fld w2 63 48 = 0 ∧ fld w2 23 0 % 4096 = 0 ∧ fld w2 47 24 % 4096 = 0 ∧ fld w2 47 24 ≠ 0 ∧
    fld w2 23 0 + fld w2 47 24 ≤ 12582912

/-- The tributary range of TRIB_READ. -/
def TribRangeGood (w1 w2 : W64) : Prop :=
  fld w1 63 49 = 0 ∧ fld w2 63 18 = 0 ∧ fld w2 17 0 ≠ 0 ∧ fld w1 48 32 + fld w2 17 0 ≤ 131072

/-- The source and the range of counters of CTR_READ. -/
def CountersGood (r : Run) : Prop :=
  fld (r.cmd.p 1) 63 28 = 0 ∧ crCount r ≠ 0 ∧ crFirst r + crCount r ≤ 256 ∧ crSource r ≠ 3

/-- The source, the kind and the range of objects of FIXED_READ. -/
def FixedGood (r : Run) : Prop :=
  fld (r.cmd.p 1) 63 42 = 0 ∧ frCount r ≠ 0 ∧ frFirst r + frCount r ≤ (if frKind r then 131072 else 512) ∧ frSource r ≠ 3 ∧
    (frKind r = true → frInterval r = 0)

/-! ## What each read answers -/

section
variable {r : Run} {s : State} (ok : Bool)

theorem beginRead_placed {g : Nat} {p : Page} (r : Run) (placed : pageNamed g s = some p) :
    beginRead r g ok (idle s) = later { r with mem := [p.gen, b2n ok] } (idle s) := by
  simp only [beginRead, show pageNamed g (idle s) = some p from placed]

theorem beginRead_absent {g : Nat} (r : Run) (absent : pageNamed g s = none) :
    beginRead r g ok (idle s) = finish r stNoPage [] (idle s) := by
  simp only [beginRead, show pageNamed g (idle s) = none from absent]

theorem pageRead_answers (h : Has 0x0305 r s) :
    AnswersWhen (BufferGood r ∧ PageAreaGood (r.cmd.p 1) (r.cmd.p 2)) (.pageRead ok) r s
      (beginRead r (fld (r.cmd.p 1) 31 0) ok (idle s)) :=
  answersWhen_of_check (execPageRead ok s) rfl rfl rfl h (by simp [BufferGood, bufOk, PageAreaGood, and_assoc])

theorem tribRead_answers (h : Has 0x0204 r s) :
    AnswersWhen (BufferGood r ∧ TribRangeGood (r.cmd.p 1) (r.cmd.p 2)) (.tribRead ok) r s
      (beginRead r (fld (r.cmd.p 1) 31 0) ok (idle s)) :=
  answersWhen_of_check (execTribRead ok s) rfl rfl rfl h (by simp [BufferGood, bufOk, TribRangeGood, and_assoc])

/-- A bank that observers may not read answers OBSERVER and KEEPER queues ST_PRIVILEGE (R438). -/
theorem ctrRead_answers (h : Has 0x0902 r s) :
    AnswersWhen (BufferGood r ∧ CountersGood r) (.ctrRead ok) r s
      (if !bit ((idle s).bank (crBank r)).w 30 && (privOf r.key (idle s) == 0 || privOf r.key (idle s) == 3)
       then finish r stPrivilege [] (idle s) else waiting ok r s) :=
  answersWhen_of_check (execCtrRead ok s) rfl rfl rfl h (by simp [BufferGood, bufOk, CountersGood, and_assoc])

theorem fixedRead_answers (h : Has 0x0905 r s) :
    AnswersWhen (BufferGood r ∧ FixedGood r) (.fixedRead ok) r s (waiting ok r s) :=
  answersWhen_of_check (execFixedRead ok s) rfl rfl rfl h (by simp [BufferGood, bufOk, FixedGood, and_assoc])

/-- The words of the certificate's buffer (R402). -/
def certWords : List W64 :=
  (List.range 128).map (fun i => w64 ((List.range 8).foldl (fun a j =>
    a + (if 8 * i + j < Config.certLength.val then (Config.certByte (8 * i + j)).toNat else 0) * 2 ^ (8 * j)) 0))

/-- The words of the signature over nonce, UID and starting frame (Table 14.8). -/
def signatureWords (r : Run) (s : State) : List W64 :=
  (List.range 8).map (fun i => w64 ((List.range 8).foldl (fun a j => a + (Config.sigByte
    (wordBytes (r.cmd.params.drop 1) ++ leBytes 16 s.boot.uid.toNat ++ leBytes 8 s.time.frame) (8 * i + j)).toNat *
      2 ^ (8 * j)) 0))

theorem certRead_answers (h : Has 0x0B02 r s) :
    AnswersWhen (BufferGood r) (.certRead ok) r s
      (bufReply r ok (r.cmd.p 0).toNat certWords [w64 Config.certLength.val] (idle s)) :=
  answersWhen_of_check (execCertRead ok s) rfl rfl rfl h (bufferCheck_iff r)

theorem identChallenge_answers (h : Has 0x0B03 r s) :
    AnswersWhen (BufferGood r) (.identChallenge ok) r s
      (bufReply r ok (r.cmd.p 0).toNat (signatureWords r s) [w64 s.time.frame] (idle s)) :=
  answersWhen_of_check (execIdentChallenge ok s) rfl rfl rfl h (bufferCheck_iff r)

end

/-! ## The row tick -/

section
variable {r : Run} {s : State} {g : Nat}

/-- Where one page read is in progress and M1 reaches the page, the row tick ends that one. -/
theorem endReads_one (one : s.host.prog.filter (fun x => x.cmd.opcode == 0x0305 || x.cmd.opcode == 0x0204) = [r])
    (reach : s.reaches 1 [if r.cmd.opcode = 0x0305 then 0 else 1] = true) : endReads s = endRead r s := by
  rw [endReads, one]
  exact (throughMatrix_copies _ r (endRead r) s).1 reach

theorem endRead_placed {p : Page} (started : r.mem = [g, 1]) (placed : pageNamed g s = some p) :
    endRead r s = bufReply r true (r.cmd.p 0).toNat (readWords r p) [w64 g] s := by
  simp [endRead, started, placed]

theorem endRead_changed (started : r.mem = [g, 1]) (changed : pageNamed g s = none) :
    endRead r s = finish r stPageChanged [w64 g] (bufUndefined (r.cmd.p 0).toNat (8 * (readWords r {}).length) s) := by
  simp [endRead, started, changed]

end

/-- Settles O19: each read passes its parameter check, and the row tick ends the one page read in progress. -/
theorem delayedReadsEndAtTheTick : Obligations.DelayedReadsEndAtTheTick := by
  intro ok r s aligned w1 w2
  refine ⟨fun h rest rest' off len nonempty fits => ?_, fun h rest rest' nonempty fits => ?_, fun g one started reach => ?_,
    fun h rest nonempty fits source may => ?_,
    fun h rest nonempty fits source kind => (fixedRead_answers ok h.has).1 ⟨⟨h.size, aligned⟩, rest, nonempty, fits, source, kind⟩,
    fun h => ⟨certWords, by simp [certWords], (certRead_answers ok h.has).1 ⟨h.size, aligned⟩⟩,
    fun h => ⟨signatureWords r s, by simp [signatureWords], (identChallenge_answers ok h.has).1 ⟨h.size, aligned⟩⟩⟩
  · have run := (pageRead_answers ok h.has).1 ⟨⟨h.size, aligned⟩, rest, rest', off, len, nonempty, fits⟩
    exact ⟨fun p placed => run.trans (congrArg _ (beginRead_placed ok r placed)),
      fun absent => run.trans (congrArg _ (beginRead_absent ok r absent))⟩
  · have run := (tribRead_answers ok h.has).1 ⟨⟨h.size, aligned⟩, rest, rest', nonempty, fits⟩
    exact ⟨fun p placed => run.trans (congrArg _ (beginRead_placed ok r placed)),
      fun absent => run.trans (congrArg _ (beginRead_absent ok r absent))⟩
  · rw [endReads_one one reach]
    exact ⟨fun p placed => endRead_placed started placed, endRead_changed started⟩
  · refine ((ctrRead_answers ok h.has).1 ⟨⟨h.size, aligned⟩, rest, nonempty, fits, source⟩).trans (congrArg _ (if_neg ?_))
    obtain observers | ⟨observer, keeper⟩ := may
    · simp [show bit ((idle s).bank (crBank r)).w 30 = true from observers]
    · simp [observer, keeper]

end Sys2Proof
end

section
/-! SUPPORT. What the checkpoint's operations on the active leave as it was: the pages, the selectors, the matrix, and the parts of the
checkpoint engine that they are not about. -/

namespace Sys2Proof.Machine

open Sys2Proof

/-- A message sent waits in its stream, and nothing else differs. -/
theorem sendTwin_only (type gen frame acked : Nat) (ws : List SlotWrite) (s : State) : sendTwin type gen frame acked ws s =
    { s with ckpt.bulk := (sendTwin type gen frame acked ws s).ckpt.bulk,
             ckpt.urgent := (sendTwin type gen frame acked ws s).ckpt.urgent } := by
  unfold sendTwin
  (repeat' split) <;> rfl

/-- The pages, the selectors and the matrix are as they were. -/
def SameSwitch (s t : State) : Prop := t.fab = s.fab ∧ t.sels = s.sels ∧ t.mx = s.mx

/-- Only what waits in the streams of the twin lanes differs in the checkpoint engine, and the pages, the selectors and the matrix
are as they were. -/
def OnlyStreams (s t : State) : Prop :=
  SameSwitch s t ∧ t.ckpt = { s.ckpt with bulk := t.ckpt.bulk, urgent := t.ckpt.urgent }

theorem OnlyStreams.refl (s : State) : OnlyStreams s s := ⟨⟨rfl, rfl, rfl⟩, rfl⟩

theorem SameSwitch.trans {s t u : State} (h : SameSwitch s t) (h' : SameSwitch t u) : SameSwitch s u := by
  obtain ⟨fab, sels, mx⟩ := h
  obtain ⟨fab', sels', mx'⟩ := h'
  exact ⟨fab'.trans fab, sels'.trans sels, mx'.trans mx⟩

theorem OnlyStreams.trans {s t u : State} (h : OnlyStreams s t) (h' : OnlyStreams t u) : OnlyStreams s u := by
  refine ⟨h.1.trans h'.1, ?_⟩
  rw [h'.2, h.2]

theorem sendTwin_streams (type gen frame acked : Nat) (ws : List SlotWrite) (s : State) :
    OnlyStreams s (sendTwin type gen frame acked ws s) := by
  rw [sendTwin_only]
  exact ⟨⟨rfl, rfl, rfl⟩, rfl⟩

theorem sendFix_streams (p : Plan) (s : State) : OnlyStreams s (sendFix p s) := by
  unfold sendFix
  split
  · exact sendTwin_streams ..
  · exact OnlyStreams.refl s

theorem modPlan_streams (n : Nat) (f : Plan → Plan) (s : State) : OnlyStreams s (modPlan n f s) := ⟨⟨rfl, rfl, rfl⟩, rfl⟩

theorem armReady_streams (s : State) : OnlyStreams s (armReady s) := by
  unfold armReady
  split
  · split
    · dsimp only
      (repeat' split)
      · exact OnlyStreams.refl s
      · exact modPlan_streams ..
      · exact (modPlan_streams ..).trans (sendFix_streams ..)
      · exact modPlan_streams ..
    · exact OnlyStreams.refl s
  · exact OnlyStreams.refl s

theorem finishKey_streams (k : Key) (status : Nat) (ws : List W64) (s : State) : OnlyStreams s (finishKey k status ws s) := by
  refine ⟨⟨?_, ?_, ?_⟩, ?_⟩ <;> simp

theorem releaseDrops_streams (c : DropWait → Bool) (s : State) : OnlyStreams s (releaseDrops c s) := by
  refine foldl_keeps (OnlyStreams s) _ (fun t w h => h.trans (OnlyStreams.trans ?_ (finishKey_streams ..))) _ _ ⟨⟨rfl, rfl, rfl⟩, rfl⟩
  split
  · exact ⟨⟨rfl, rfl, rfl⟩, rfl⟩
  · exact OnlyStreams.refl t

/-- The partner's checkpoint is no longer registered as synchronised (R107). -/
theorem peerLost_keeps (cause : Nat) (s : State) :
    SameSwitch s (peerLost cause s) ∧ (peerLost cause s).ckpt.peer = false := by
  unfold peerLost
  split
  · obtain ⟨same, only⟩ := (releaseDrops_streams (fun _ => true)
      (forgetAcks { s with ckpt.peer := false, ckpt.ev := some (false, cause) })).trans (armReady_streams _)
    exact ⟨same, by rw [only]; rfl⟩
  · next lost => exact ⟨⟨rfl, rfl, rfl⟩, eq_false_of_ne_true lost⟩

/-! ## A FULL (R322) -/

/-- The FULL of the generation in service begins. -/
theorem beginFull_reached {s : State} (reach : s.reaches 3 [0, 1] = true) :
    SameSwitch s (beginFull s) ∧ (beginFull s).ckpt.sending = some { gen := s.fab.act.gen, row := s.time.rows } ∧
    (beginFull s).ckpt.fullDue = false ∧ (beginFull s).ckpt.endGen = s.ckpt.endGen ∧ (beginFull s).ckpt.peer = s.ckpt.peer := by
  rw [beginFull, if_pos reach, sendTwin_only]
  exact ⟨⟨rfl, rfl, rfl⟩, rfl, rfl, rfl, rfl⟩

theorem beginFull_unreached {s : State} (reach : s.reaches 3 [0, 1] = false) : beginFull s = { s with ckpt.fullDue := true } :=
  if_neg (ne_true_of_eq_false reach)

/-- The state in which the FULL that has been asked for begins: nothing of an earlier one is left. -/
def fullAsked (s : State) : State :=
  { forgetAcks (peerLost 7 s) with ckpt.sending := none, ckpt.endGen := none, ckpt.freeGen := none }

theorem fullReq_eq (s : State) : fullReq s = beginFull (fullAsked s) := rfl

theorem fullAsked_keeps (s : State) : SameSwitch s (fullAsked s) ∧ (fullAsked s).ckpt.sending = none ∧
    (fullAsked s).ckpt.endGen = none ∧ (fullAsked s).ckpt.peer = false ∧ (fullAsked s).time = s.time := by
  obtain ⟨same, peer⟩ := peerLost_keeps 7 s
  exact ⟨same, rfl, rfl, peer, (peerLost_frame 7 s).1⟩

theorem SameSwitch.reaches {s t : State} (h : SameSwitch s t) (m : Nat) (ts : List Nat) : t.reaches m ts = s.reaches m ts := by
  obtain ⟨-, -, mx⟩ := h
  rw [State.reaches, mx, State.reaches]

/-- A FULL_REQ while the checkpoint engine does not reach the pages: the FULL waits. -/
theorem fullReq_unreached {s : State} (reach : s.reaches 3 [0, 1] = false) :
    SameSwitch s (fullReq s) ∧ (fullReq s).ckpt.fullDue = true ∧ (fullReq s).ckpt.sending = none ∧ (fullReq s).ckpt.peer = false := by
  obtain ⟨same, sending, -, peer, -⟩ := fullAsked_keeps s
  rw [fullReq_eq, beginFull_unreached ((same.reaches 3 _).trans reach)]
  exact ⟨same, rfl, sending, peer⟩

/-- A FULL_REQ while it does: the FULL of the generation in service begins. -/
theorem fullReq_reached {s : State} (reach : s.reaches 3 [0, 1] = true) :
    SameSwitch s (fullReq s) ∧ (fullReq s).ckpt.sending = some { gen := s.fab.act.gen, row := s.time.rows } ∧
    (fullReq s).ckpt.endGen = none ∧ (fullReq s).ckpt.peer = false := by
  obtain ⟨same, -, ended, peer, time⟩ := fullAsked_keeps s
  obtain ⟨same', sending, -, ended', peer'⟩ := beginFull_reached ((same.reaches 3 _).trans reach)
  have fab : (fullAsked s).fab = s.fab := same.1
  rw [fab, time] at sending
  rw [fullReq_eq]
  exact ⟨same.trans same', sending, ended'.trans ended, peer'.trans peer⟩

/-- The catch-up deltas sent after a FULL. -/
theorem sendDeltas_streams (ds : List Delta) (s : State) :
    OnlyStreams s (ds.foldl (fun s d => sendTwin 0x3 d.gen d.frame 0 d.writes s) s) :=
  foldl_keeps (OnlyStreams s) _ (fun _ _ h => h.trans (sendTwin_streams ..)) ds s (OnlyStreams.refl s)

/-- The generation that SYNC_END names: that of the last delta done meanwhile, or that of the FULL (R323). -/
def lastShipped (f : FullSend) (s : State) : Nat :=
  ((((s.ckpt.queue ++ s.planner.deltas).filter (fun d => d.done s)).getLast?).map (·.gen)).getD f.gen

theorem fullCopyEnd_keeps (f : FullSend) (s : State) : SameSwitch s (fullCopyEnd f s) ∧ (fullCopyEnd f s).ckpt.sending = none ∧
    (fullCopyEnd f s).ckpt.endGen = some (lastShipped f s) := by
  obtain ⟨same, -⟩ := sendDeltas_streams ((s.ckpt.queue ++ s.planner.deltas).filter (fun d => d.done s))
    (dropDeltas (fun d => d.done s) s)
  rw [fullCopyEnd, sendTwin_only]
  exact ⟨same, rfl, rfl⟩

end Sys2Proof.Machine
end

section
/-! The active's side of the checkpoint (R321 to R327, R335, R500). -/

namespace Sys2Proof

open Sys2Proof.Machine

/-! ## The blocks of a command -/

/-- Which of the ten rows brings the blocks makes no difference (log entry 87). -/
theorem exec_bringsBlocks {bs : List (List W64)} {c : Instr} (h : BringsBlocks bs c) (s : State) :
    exec c s = .next (twinBlocks bs s) := by
  rcases h with rfl | rfl | rfl | rfl | rfl | rfl | rfl | rfl | rfl | rfl <;> rfl

section
variable {s : State}

theorem role_of_activeTwin (h : s.activeTwin = true) : s.twin.role = .active := by
  simp only [State.activeTwin, Bool.and_eq_true, beq_iff_eq] at h
  exact h.1.2

theorem runs_of_activeTwin (h : s.activeTwin = true) : (s.twinUp && !s.fnDown 3) = true := by
  simp only [State.activeTwin, Bool.and_eq_true] at h
  simp only [Bool.and_eq_true]
  exact ⟨h.1.1, h.2⟩

/-- The active stands by for nobody. -/
theorem standbyTwin_of_role (h : s.twin.role = .active) : s.standbyTwin = false := by
  simp [State.standbyTwin, h, Role.standsBy]

theorem beginWrite_other (h : s.standbyTwin = false) : beginWrite s = s := by
  simp [beginWrite, h]

/-- No message of its partner takes the active out of its role at once. -/
theorem handleMsg_active_twin (ws : List W64) (on : s.activeTwin = true) : (handleMsg ws s).twin = s.twin := by
  have off : s.standbyTwin = false := standbyTwin_of_role (role_of_activeTwin on)
  unfold handleMsg
  split
  · dsimp only
    split <;> simp [on, off]
  · simp [discardMsg, State.standbyTwin, role_of_activeTwin on, Role.standsBy]

/-- On the active, a command whose blocks end one message does what this message does. -/
theorem exec_bringsOne {bs : List (List W64)} {ws : List W64} {c : Instr} (h : BringsBlocks bs c) (one : Brings bs ws s)
    (on : s.activeTwin = true) : exec c s = .next (handleMsg ws s) := by
  obtain ⟨taken, -⟩ := one
  have role : (handleMsg ws s).twin.role = .active := by rw [handleMsg_active_twin ws on]; exact role_of_activeTwin on
  have run : twinBlocks bs s = beginWrite (handleMsg ws s) := by
    rw [twinBlocks, if_pos (runs_of_activeTwin on), taken]
    rfl
  rw [exec_bringsBlocks h, run, beginWrite_other (standbyTwin_of_role role)]

/-! ## The message by its type -/

variable {ws : List W64} (on : s.activeTwin = true)
include on

theorem handleMsg_fullReq (good : msgGood ws = true) (type : (readMsg ws).type = 1) (cert : s.twin.certOk = true) :
    handleMsg ws s = fullReq s := by
  simp [handleMsg, good, type, on, cert]

theorem handleMsg_ack (good : msgGood ws = true) (type : (readMsg ws).type = 7) :
    handleMsg ws s = ckptAck (readMsg ws) s := by
  simp [handleMsg, good, type, on]

theorem handleMsg_slotFree (good : msgGood ws = true) (type : (readMsg ws).type = 8) :
    handleMsg ws s = { s with ckpt.freeGen := some (readMsg ws).gen } := by
  simp [handleMsg, good, type, on]

theorem handleMsg_bad (bad : msgGood ws = false) :
    handleMsg ws s = { s with ckpt.bad := min 0xFFFFFFFF (s.ckpt.bad + 1) } := by
  simp [handleMsg, bad, discardMsg, State.standbyTwin, role_of_activeTwin on, Role.standsBy, sat_eq_min]

omit on

/-! ## An ACK by what it acknowledges -/

theorem ckptAck_synced {m : TwinMsg} (acked : m.acked = 2) (gen : m.gen = s.fab.act.gen) (ended : s.ckpt.endGen ≠ none) :
    ckptAck m s = peerSynced s := by
  have waits : (s.ckpt.endGen.isSome && m.gen == s.fab.act.gen) = true := by
    simp [gen, Option.isSome_iff_ne_none.mpr ended]
  simp only [ckptAck, acked, waits, if_true]

theorem ckptAck_plan {m : TwinMsg} {n : Nat} (acked : m.acked = 3)
    (found : findPlan (fun p => p.gen == m.gen && p.shipped) s = some n) : ckptAck m s =
      dropDeltas (fun d => d.gen == m.gen) (armReady (modPlan n (fun p => { p with acked := true, ackFrame := m.frame }) s)) := by
  simp only [ckptAck, acked, found]

/-! ## The checkpoint engine's own events -/

theorem fullTick_due (on : s.activeTwin = true) (due : s.ckpt.fullDue = true) : fullTick s = beginFull s :=
  if_pos (by simp [on, due])

theorem exec_fullCopyEnd {f : FullSend} (on : s.activeTwin = true) (sending : s.ckpt.sending = some f)
    (reach : s.reaches 3 [0, 1] = true) : exec .fullCopyEnd s = .next (fullCopyEnd f s) := by
  rw [show exec .fullCopyEnd s = execFullCopyEnd s from rfl, execFullCopyEnd, sending]
  exact congrArg _ (if_pos (by simp [on, reach]))

theorem exec_deltaShip {d : Delta} {n : Nat} {p : Plan} (on : s.activeTwin = true) (next : nextDelta s = some d)
    (given : s.ckpt.freeGen ≠ none) (before : ∀ g, s.ckpt.freeGen = some g → genAdd g 1 = d.gen) (peer : s.ckpt.peer = true)
    (free : s.ckpt.sending = none) (found : findPlan (fun p => p.gen == d.gen) s = some n)
    (is : s.planner.sealed[n]? = some p) :
    exec .deltaShip s = .next (sendTwin 0x3 d.gen p.lock 0 d.writes (modPlan n (fun p => { p with shipped := true })
      { s with ckpt.freeGen := none,
               ckpt.queue := s.ckpt.queue.map (fun x => if x.gen = d.gen then { x with sent := true } else x) })) := by
  obtain ⟨g, freeGen⟩ := Option.ne_none_iff_exists'.mp given
  have may : ((s.ckpt.peer || s.ckpt.endGen.isSome) && s.ckpt.sending.isNone && genAdd g 1 == d.gen) = true := by
    simp [peer, free, before g freeGen]
  rw [show exec .deltaShip s = execDeltaShip s from rfl, execDeltaShip, if_pos on, deltaShip, next, freeGen]
  refine congrArg _ ((if_pos may).trans ?_)
  dsimp only
  split
  · next m found' =>
    obtain rfl : m = n := Option.some.inj (found'.symm.trans found)
    rw [is]
    rfl
  · next none => exact absurd (none.symm.trans found) nofun

theorem exec_mirrorCopyDone (on : s.activeTwin = true) (mirror : s.ckpt.mirror = true) (hand : s.twin.hand ≠ none)
    (empty : s.serviceSlot = none) (reach : s.reaches 3 [0, 1, 6] = true) : exec .mirrorCopyDone s = .next (mirrorCopy s) := by
  refine congrArg _ (if_pos ?_)
  simp [on, mirror, empty, reach, Option.isSome_iff_ne_none.mpr hand]

theorem exec_slotRefreshDone_waits (reach : s.reaches 3 [6] = false) : exec .slotRefreshDone s = .next s := by
  refine congrArg Host.Outcome.next ?_
  unfold refreshDone
  split
  · exact if_neg (by simp [reach])
  · rfl

theorem exec_slotRefreshDone {p : Nat} (promo : s.ckpt.promo = some p) (due : p + 3 ≤ s.time.rows) (reach : s.reaches 3 [6] = true) :
    exec .slotRefreshDone s = .next (freeOther { s with ckpt.promo := none, ckpt.before := none }) := by
  rw [show exec .slotRefreshDone s = .next (refreshDone s) from rfl, refreshDone, promo]
  exact congrArg _ (if_pos ⟨due, reach⟩)

/-- With slot X in service, slot Y becomes a FREE copy of it. -/
theorem freeOther_x (x : s.ckpt.x.st = .inService) : (freeOther s).ckpt.promo = s.ckpt.promo ∧ (freeOther s).ckpt.x = s.ckpt.x ∧
    (freeOther s).ckpt.y = { s.ckpt.x with st := .free, frame := 0 } ∧ (freeOther s).lanes = s.lanes ∧
    (freeOther s).fab = s.fab := by
  rw [freeOther, if_pos x]
  split
  · exact ⟨rfl, rfl, rfl, rfl, rfl⟩
  · rw [sendTwin_only]
    exact ⟨rfl, rfl, rfl, rfl, rfl⟩

end

/-- Settles O38: each message by what it does on the active, and each event of the checkpoint engine. -/
theorem checkpointActiveSide : Obligations.CheckpointActiveSide := by
  refine fun bs c s => ⟨fun h => exec_bringsBlocks h s, fun ws h one on => ?_, fun on => ⟨fun f sending reach => ?_,
    fun d n p next given before peer free found is => exec_deltaShip on next given before peer free found is,
    fun mirror hand empty reach => ⟨_, exec_mirrorCopyDone on mirror hand empty reach, rfl, rfl, rfl, rfl⟩⟩,
    fun p _ reach => exec_slotRefreshDone_waits reach, fun p promo due x reach =>
      ⟨_, exec_slotRefreshDone promo due reach, freeOther_x x⟩⟩
  · rw [exec_bringsOne h one on]
    refine ⟨fun good => ⟨fun type cert reach => ?_, fun due reach => ?_, fun type cert reach => ?_, fun type acked gen ended => ?_,
      fun n type acked found => ?_, fun type => ?_⟩, fun bad => congrArg _ (handleMsg_bad on bad)⟩
    · obtain ⟨⟨fab, sels, -⟩, due, sending, peer⟩ := fullReq_unreached reach
      rw [handleMsg_fullReq on good type cert]
      exact ⟨_, rfl, due, sending, peer, by simp, fab, sels⟩
    · obtain ⟨-, sending, due', -⟩ := beginFull_reached reach
      rw [fullTick_due on due]
      exact ⟨sending, due'⟩
    · obtain ⟨⟨fab, sels, -⟩, sending, ended, peer⟩ := fullReq_reached reach
      rw [handleMsg_fullReq on good type cert]
      exact ⟨_, rfl, sending, ended, peer, by simp, fab, sels⟩
    · rw [handleMsg_ack on good type, ckptAck_synced acked gen ended]
      rfl
    · rw [handleMsg_ack on good type, ckptAck_plan acked found]
    · rw [handleMsg_slotFree on good type]
  · obtain ⟨⟨fab, sels, -⟩, ended, last⟩ := fullCopyEnd_keeps f s
    exact ⟨_, exec_fullCopyEnd on sending reach, ended, by simp, fab, sels, last⟩

end Sys2Proof
end

section
/-! SUPPORT. The events and the decision of a selector (R126 to R135, Tables 5.2 and 5.3), and the words of a lane's readout (R65, R123 to
R126). -/

namespace Sys2Proof.Machine

open Sys2Proof

/-! ## The events of a selector -/

section
variable {n : Nat} {s : State} (lt : n < 131072)
include lt

theorem onTrib_next (t : State) : onTrib n t = .next t := if_pos lt

theorem exec_holdExpiry {d : Nat} (due : (s.sel n).holdDue = some d) (late : d ≤ s.time.rows) (first : (s.sel n).expired = false)
    (busy : (s.sel n).idle = false) : exec (.holdExpiry n) s =
      .next (s.modSel n (fun x => { x with expired := true, expChanged := some true })) := by
  rw [show exec (.holdExpiry n) s = onTrib n (s.modSel n (·.holdEnd s.time.rows)) from rfl, onTrib_next lt]
  simp [State.modSel, Sel.holdEnd, due, late, first, busy]

/-- Where the device does not follow its partner's selectors (R332), a due WTR timer is noted for the next tick. -/
theorem exec_wtrExpiry {d : Nat} (own : s.twin.role ≠ .warming ∧ s.twin.role ≠ .warm) (wtr : (s.sel n).st = .wtr)
    (due : (s.sel n).wtrDue = some d) (late : d ≤ s.time.rows) : exec (.wtrExpiry n) s =
      .next (s.modSel n (fun x => { x with wtrHit := true })) := by
  rw [show exec (.wtrExpiry n) s = onTrib n (if s.twin.role == .warming || s.twin.role == .warm then s
    else s.modSel n (·.wtrEnd s.time.rows)) from rfl, onTrib_next lt, if_neg (by simp [own])]
  simp [State.modSel, Sel.wtrEnd, wtr, due, late]

section
variable (on : s.switches = true) (prot : isProtected n s = true)
include on prot

theorem exec_sfRowsReached (copyB : Bool) : exec (.sfRowsReached n copyB) s =
    .next (s.modSel n (·.sfReached copyB (tSfRows ((readoutPage s).tribRec n)))) :=
  (onTrib_next lt _).trans (congrArg _ (if_pos (by simp [on, prot])))

theorem exec_sfClearRun (copyB : Bool) : exec (.sfClearRun n copyB) s =
    .next (s.modSel n (·.sfCleared copyB (s.lane (if copyB then tBLane ((readoutPage s).tribRec n)
      else tALane ((readoutPage s).tribRec n))).sfTrigger)) :=
  (onTrib_next lt _).trans (congrArg _ (if_pos (by simp [on, prot])))

end

end

/-! ## The decision at a row tick -/

section
variable {x : Sel} {ws : List W64} {now : Nat}

/-- A request of priority 1 to 6 decides alone. -/
theorem decideSel_of_strong {r : SelState} (req : x.strong (tSdSw ws) = some r) :
    (x.decideSel ws now).st = r ∧ (x.decideSel ws now).sel = r.copyB := by
  rw [show x.decideSel ws now = x.goTo r by simp [Sel.decideSel, Sel.top, req]]
  exact ⟨rfl, rfl⟩

theorem decideSel_of_ms {b : Bool} (weak : x.strong (tSdSw ws) = none) (ms : x.ms = some b) :
    x.decideSel ws now = x.goTo (if b then .msB else .msA) := by
  simp [Sel.decideSel, Sel.top, weak, ms]

theorem decideSel_of_none (weak : x.strong (tSdSw ws) = none) (ms : x.ms = none) :
    x.decideSel ws now = x.rest (tRev ws) (tWtrRows ws) now := by
  simp [Sel.decideSel, Sel.top, weak, ms]

end

/-! ## The word of a member slot (R123, R124, R126) -/

/-- A selected copy that is valid is sent. The other one replaces an invalid copy unless substitution is off or LO is in force; the held
word, or all-ones after hold expiry, stands in where it does not. -/
theorem pickProtected_word (selB noSubst lo expired : Bool) (a b : BitVec 32 × Bool) (held : BitVec 32) :
    let mine := if selB then b else a
    let other := if selB then a else b
    let spare := other.2 = true ∧ noSubst = false ∧ lo = false
    let word := (pickProtected selB noSubst lo expired a b held).1
    (mine.2 = true → word = mine.1) ∧ (mine.2 = false → spare → word = other.1) ∧
      (mine.2 = false → ¬ spare → word = if expired then 0xFFFFFFFF#32 else held) := by
  intro mine other spare word
  have word_eq : word = if mine.2 then mine.1 else if other.2 && !noSubst && !lo then other.1
      else if expired then 0xFFFFFFFF#32 else held := by
    simp only [word, pickProtected, apply_ite Prod.fst, mine, other]
  have spare_iff : (other.2 && !noSubst && !lo) = true ↔ spare := by simp [spare, and_assoc]
  rw [word_eq]
  exact ⟨fun valid => if_pos valid, fun bad yes => (if_neg (by simp [bad])).trans (if_pos (spare_iff.mpr yes)),
    fun bad no => (if_neg (by simp [bad])).trans (if_neg (mt spare_iff.mp no))⟩

/-- Outside protection there is no other copy. -/
theorem pickPlain_word (expired : Bool) (a : BitVec 32 × Bool) (held : BitVec 32) :
    (a.2 = true → (pickPlain expired a held).1 = a.1) ∧
      (a.2 = false → (pickPlain expired a held).1 = if expired then 0xFFFFFFFF#32 else held) := by
  have word_eq : (pickPlain expired a held).1 = if a.2 then a.1 else if expired then 0xFFFFFFFF#32 else held := by
    simp only [pickPlain, apply_ite Prod.fst]
  rw [word_eq]
  exact ⟨fun valid => if_pos valid, fun bad => if_neg (by simp [bad])⟩

/-! ## One slot -/

/-- The first tributary among `tribs` that has the egress slot as a member. -/
def slotTrib (tribs : List (Nat × List W64)) (slot : Nat) : Option (Nat × List W64) :=
  tribs.find? (fun t => (memberOf (tRanges t.2) slot).isSome)

theorem slotOut_slot (tribs : List (Nat × List W64)) (lane : Nat) (s : State) (e : Nat × BitVec 32) :
    (slotOut tribs lane s e).slot = e.1 % 6144 := by
  simp only [slotOut]
  split
  · split <;> rfl
  · split
    · rfl
    · split <;> rfl

section
variable {tribs : List (Nat × List W64)} {lane slot : Nat} {s : State} {e : Nat × BitVec 32} {x : Nat × List W64}
  (isSlot : e.1 % 6144 = slot)
include isSlot

theorem slotOut_untributed (free : slotTrib tribs slot = none) : (slotOut tribs lane s e).word =
    if eLeg e.2 then (half s.fab.read lane slot).1 else constWord e.2 (s.lane lane).testWord := by
  subst isSlot
  rw [slotTrib] at free
  simp only [slotOut, free]
  split <;> rfl

theorem slotOut_protected (found : slotTrib tribs slot = some x) (prot : tProt x.2 = true) :
    (slotOut tribs lane s e).word = (pickProtected (s.sel x.1).sel (tNoSubst x.2) ((s.sel x.1).st == .lo) (s.sel x.1).expired
      (half s.fab.read lane slot) (half s.fab.read lane (6144 + slot)) (heldWord lane slot s)).1 := by
  subst isSlot
  rw [slotTrib] at found
  simp only [slotOut, found, prot, if_true]

theorem slotOut_unprotected (found : slotTrib tribs slot = some x) (plain : tProt x.2 = false) :
    (slotOut tribs lane s e).word = if eLeg e.2 then (pickPlain (s.sel x.1).expired (half s.fab.read lane slot) (heldWord lane slot s)).1
      else constWord e.2 (s.lane lane).testWord := by
  subst isSlot
  rw [slotTrib] at found
  simp only [slotOut, found, plain, Bool.false_eq_true, if_false]
  split <;> rfl

end

/-! ## The words of a lane -/

/-- Of several writes at one key the last one is read. -/
theorem kget_foldl_kset {α β : Type} [DecidableEq α] {d : α} {key : β → Nat} {val : β → α} {i : Nat} (xs : List β) (m : KMap α)
    (listed : ∃ o ∈ xs, key o = i) :
    ∃ o ∈ xs, key o = i ∧ kget d (xs.foldl (fun m o => kset d m (key o) (val o)) m) i = val o := by
  induction xs using List.reverseRecOn with
  | nil => exact absurd listed (by simp)
  | append_singleton xs x ih =>
    rw [List.foldl_concat]
    by_cases last : key x = i
    · exact ⟨x, by simp, last, by rw [← last, kget_kset_same]⟩
    · obtain ⟨o, mem, index, read⟩ := ih (by simpa [last, or_and_right, exists_or] using listed)
      exact ⟨o, by simp [mem], index, by rw [kget_kset_other _ _ _ (Ne.symm last), read]⟩

/-- What a lane sends on a slot comes from an entry of the slot. -/
theorem mem_laneOut_slot_iff {pg : Page} {lane slot : Nat} {s : State} (lt : slot < 6144) (o : SlotOut) :
    (o ∈ laneOut pg lane s ∧ entryIndex lane o.slot = 6144 * lane + slot) ↔
      ∃ w, (6144 * lane + slot, w) ∈ pg.entries ∧ slotOut (laneTribs pg lane) lane s (6144 * lane + slot, w) = o := by
  simp only [laneOut, List.mem_map, List.mem_filter, beq_iff_eq]
  constructor
  · rintro ⟨⟨⟨i, w⟩, ⟨mem, onLane⟩, rfl⟩, index⟩
    rw [slotOut_slot, entryIndex] at index
    obtain rfl : i = 6144 * lane + slot := by dsimp only at onLane index; omega
    exact ⟨w, mem, rfl⟩
  · rintro ⟨w, mem, rfl⟩
    refine ⟨⟨_, ⟨mem, by dsimp only; omega⟩, rfl⟩, ?_⟩
    rw [slotOut_slot, entryIndex]
    dsimp only
    omega

/-- A slot with an entry sends what one entry of the slot says. -/
theorem readoutLane_word {lane slot : Nat} {s : State} (lt : slot < 6144)
    (listed : ∃ w, (6144 * lane + slot, w) ∈ (readoutPage s).entries) :
    ∃ w, (6144 * lane + slot, w) ∈ (readoutPage s).entries ∧
      kget 0 (readoutLane lane s).fab.words (6144 * lane + slot) =
        (slotOut (laneTribs (readoutPage s) lane) lane s (6144 * lane + slot, w)).word := by
  obtain ⟨w, mem⟩ := listed
  obtain ⟨o, out, index, read⟩ := kget_foldl_kset (d := 0) (key := fun o : SlotOut => entryIndex lane o.slot) (val := SlotOut.word)
    (laneOut (readoutPage s) lane s) _ ⟨_, (mem_laneOut_slot_iff lt _).mpr ⟨w, mem, rfl⟩⟩
  obtain ⟨w', mem', rfl⟩ := (mem_laneOut_slot_iff lt o).mp ⟨out, index⟩
  exact ⟨w', mem', read⟩

end Sys2Proof.Machine
end

section
/-! Selectors, PROT_CMD and the readout of a row (R122 to R138). -/

namespace Sys2Proof

open Sys2Proof.Machine

/-- A PROT_CMD of a protected tributary waits for its row tick. -/
theorem exec_protCmd {r : Run} {s : State} (h : Held 0x0401 r s) (on : s.isActive = true) (high : fld (r.cmd.p 0) 63 20 = 0)
    (request : protReq r ≤ 4) (prot : isProtected (protTrib r) s = true) : exec .protCmd s = .next (later r (idle s)) := by
  rw [exec_serving (c := .protCmd) (execProtCmd s) rfl rfl rfl on h.has]
  have prot' : isProtected (protTrib r) (idle s) = true := prot
  exact congrArg _ (if_neg (by simp [h.size, high, request, prot']))

/-- Settles O20: the events of a selector, PROT_CMD, the priorities of the decision, and the word of a slot by its tributary. -/
theorem selectorEventsAct : Obligations.SelectorEventsAct := by
  refine ⟨fun n s lt => ⟨fun d due late first busy => exec_holdExpiry lt due late first busy, fun on prot run => ?_,
    fun on prot run => ?_, fun on prot trig run => ?_, fun on prot trig run => ?_,
    fun d warming warm wtr due late => exec_wtrExpiry lt ⟨warming, warm⟩ wtr due late⟩,
    fun r s h on high request prot => exec_protCmd h on high request prot, ?_, fun s lane slot lt listed => ?_⟩
  · rw [exec_sfRowsReached lt on prot]
    simp [State.modSel, Sel.sfReached, run]
  · rw [exec_sfRowsReached lt on prot]
    simp [State.modSel, Sel.sfReached, run]
  · rw [exec_sfClearRun lt on prot]
    simp [State.modSel, Sel.sfCleared, trig, run]
  · rw [exec_sfClearRun lt on prot]
    simp [State.modSel, Sel.sfCleared, trig, run]
  · intro x ws now y sd
    refine ⟨fun lo => decideSel_of_strong (by simp [Sel.strong, lo]),
      fun lo sfB => decideSel_of_strong (by simp [Sel.strong, lo, sfB]),
      fun lo sfB fs => decideSel_of_strong (by simp [Sel.strong, lo, sfB, fs]),
      fun lo sfB fs sfA => decideSel_of_strong (by simp [Sel.strong, lo, sfB, fs, sfA]),
      fun lo sfB fs sfA sw sdB => decideSel_of_strong (by simp [Sel.strong, lo, sfB, fs, sfA, show tSdSw ws = true from sw, sdB]),
      fun lo sfB fs sfA sw sdB sdA => decideSel_of_strong (by simp [Sel.strong, lo, sfB, fs, sfA, show tSdSw ws = true from sw, sdB, sdA]),
      fun weak ms => ?_, fun weak ms => ?_, fun weak ms st rev => ?_, fun weak ms st hit => ?_, fun weak ms st => ?_⟩
    · rw [show y = _ from decideSel_of_ms weak ms]
      exact ⟨rfl, rfl⟩
    · rw [show y = _ from decideSel_of_ms weak ms]
      exact ⟨rfl, rfl⟩
    · rw [show y = _ from decideSel_of_none weak ms, Sel.rest, st, rev]
      exact ⟨rfl, rfl, rfl⟩
    · rw [show y = _ from decideSel_of_none weak ms, Sel.rest, st, hit]
      exact ⟨rfl, rfl⟩
    · rw [show y = _ from decideSel_of_none weak ms, Sel.rest, st]
  · obtain ⟨w, mem, read⟩ := readoutLane_word lt listed
    have isSlot : (6144 * lane + slot, w).1 % 6144 = slot := by dsimp only; omega
    refine ⟨w, mem, fun free leg => ?_, fun x found prot => ?_, fun x found plain leg => ?_, fun outside const => ?_⟩
    · rw [read, slotOut_untributed isSlot free, if_pos leg]
    · rw [read, slotOut_protected isSlot found prot]
      simpa only [beq_eq_false_iff_ne] using pickProtected_word (s.sel x.1).sel (tNoSubst x.2) ((s.sel x.1).st == .lo)
        (s.sel x.1).expired (half s.fab.read lane slot) (half s.fab.read lane (6144 + slot)) (heldWord lane slot s)
    · rw [read, slotOut_unprotected isSlot found plain, if_pos leg]
      exact pickPlain_word _ _ _
    · obtain free | ⟨x, found, plain⟩ := outside
      · rw [read, slotOut_untributed isSlot free, if_neg (by simp [const])]
      · rw [read, slotOut_unprotected isSlot found plain, if_neg (by simp [const])]

end Sys2Proof
end

section
/-! SUPPORT. The marker hunter (R149 to R153, Table 6.4): what one examined position does to it, and that the marker a transmitter sends is
the marker that a receiver reads (R142 to R146). -/

namespace Sys2Proof.Machine

open Sys2Proof

/-! ## One examined position (Table 6.4) -/

section
variable {h : Hunter} {m : MarkerRx}

/-- The identity and the seed of the lane frame that begins leave the alignment as it is. -/
@[simp] theorem Hunter.seedStep_alignment (h : Hunter) (m : MarkerRx) :
    (h.seedStep m).aligned = h.aligned ∧ (h.seedStep m).pos = h.pos ∧ (h.seedStep m).inv = h.inv ∧
    (h.seedStep m).miss = h.miss := ⟨rfl, rfl, rfl, rfl⟩

theorem Hunter.seedStep_good (good : checkGood m h.inv = true) : (h.seedStep m).cur = markerId m h.inv ∧
    (h.seedStep m).good = some (markerId m h.inv) ∧ (h.seedStep m).seed = seedOf (markerId m h.inv) := by
  simp [Hunter.seedStep, good]

theorem Hunter.seedStep_bad (bad : checkGood m h.inv = false) : (h.seedStep m).cur = nextIdentity h.cur ∧
    (h.seedStep m).good = h.good ∧ (h.seedStep m).seed = seedOf (nextIdentity h.cur) := by
  simp [Hunter.seedStep, bad]

section
variable {i : Bool} (hunting : h.aligned = false) (matched : matchForm (markerBits m) = some i)
include hunting matched

theorem Hunter.step_opens (free : h.cands.find? (fun c => c.1 == m.pos) = none) (few : h.cands.length < 8) :
    h.step m = { h with cands := h.cands ++ [(m.pos, i)] } := by
  simp [Hunter.step, hunting, matched, free, few]

theorem Hunter.step_aligns (second : h.cands.find? (fun c => c.1 == m.pos) = some (m.pos, i)) : h.step m =
    ({ h with aligned := true, cands := [], pos := m.pos, inv := i, miss := 0 } : Hunter).seedStep m := by
  simp [Hunter.step, hunting, matched, second]

end

section
variable (aligned : h.aligned = true)
include aligned

theorem Hunter.step_elsewhere (off : m.pos ≠ h.pos) : h.step m = h := by
  simp [Hunter.step, aligned, off]

variable (here : m.pos = h.pos)
include here

theorem Hunter.step_match (matched : matchForm (markerBits m) = some h.inv) :
    h.step m = ({ h with miss := 0 } : Hunter).seedStep m := by
  simp [Hunter.step, aligned, here, matched]

variable (missed : matchForm (markerBits m) ≠ some h.inv)
include missed

theorem Hunter.step_miss (few : h.miss < 3) : h.step m = ({ h with miss := h.miss + 1 } : Hunter).seedStep m := by
  simp [Hunter.step, aligned, here, missed, few]

theorem Hunter.step_loses (many : 3 ≤ h.miss) :
    h.step m = { h with aligned := false, cands := [], miss := 0, left := true, heard := some h.inv } := by
  simp [Hunter.step, aligned, here, missed, Nat.not_lt.mpr many]

end
end

/-! ## A position at a lane and at a twin lane -/

/-- A lane after a marker position that leaves its hunter as k, without what a fresh good identity brings. -/
def Lane.hunted (m : MarkerRx) (k : Hunter) (l : Lane) : Lane :=
  let n : Lane := { l.count 2 (b2n (l.hunter.missed m)) with hunter := k }
  if l.hunter.aligned && !k.aligned then
    { n with delin := n.delin.lose, bring := if n.bring.trying then .align else n.bring, goodFrame0 := false }
  else n

theorem pairMarker_stale {n : Nat} {m : MarkerRx} {s : State} {l : Lane} {k : Hunter} (own : s.lane (logicalLane n s) = l)
    (step : l.hunter.step m = k) (hunts : l.bring.hunts = true)
    (stale : (k.aligned && m.pos == k.pos && checkGood m k.inv) = false) :
    pairMarker n m s = s.modLane (logicalLane n s) (Lane.hunted m k) := by
  subst own step
  simp only [pairMarker, hunts, stale, if_true, Bool.false_eq_true, if_false]
  rfl

/-- R223: the first good marker of a lane in ALIGN. -/
theorem goodMarker_identifies {lane : Nat} {i : W64} {s : State} (align : (s.lane lane).bring = .align) :
    ((goodMarker lane i s).lane lane).bring = .identify := by
  simp [goodMarker, align]

/-! ## The marker on the line (R142 to R146, R154) -/

/-- The first k symbols sent carry the upper bit pairs of a word. -/
theorem lineBits_take_linePams {n k w : Nat} (le : k ≤ n) (lt : w < 4 ^ n) :
    lineBits ((linePams n w).take k) = w >>> (2 * (n - k)) := by
  have upper : (linePams n w).take k = linePams k (w >>> (2 * (n - k))) := by
    simp only [linePams, ← List.map_take, List.take_range, Nat.min_eq_left le]
    refine List.map_congr_left fun i hi => ?_
    have hi := List.mem_range.mp hi
    rw [← Nat.shiftRight_add, show 2 * (n - k) + 2 * (k - 1 - i) = 2 * (n - 1 - i) by omega]
  rw [upper]
  refine lineBits_linePams k _ ?_
  rw [Nat.shiftRight_eq_div_pow, Nat.pow_mul]
  refine Nat.div_lt_of_lt_mul ?_
  rwa [← Nat.pow_add, Nat.sub_add_cancel le]

theorem turn_lt {w : Nat} (inv : Bool) (lt : w < 4 ^ 2720) : turn inv w < 4 ^ 2720 := by
  cases inv with
  | false => exact lt
  | true =>
    have binary : (4 : Nat) ^ 2720 = 2 ^ 5440 := (Nat.pow_mul 2 2 2720).symm
    rw [binary] at lt ⊢
    exact Nat.xor_lt_two_pow lt (by decide +kernel)

theorem toNat_markerWord (id : W64) :
    (markerWord id).toNat = pattern.toNat * 2 ^ 80 + id.toNat * 2 ^ 16 + (crc16 64 id.toNat).toNat := by
  have := pattern.isLt
  have := id.isLt
  have := (crc16 64 id.toNat).isLt
  exact Nat.mod_eq_of_lt (by omega)

/-- The information bits of codeword 0 of a lane frame: the marker, then the rest. -/
def frameStart (id : W64) (rest : Nat) : Nat := (markerWord id).toNat * 2 ^ 4980 + rest

/-- A marker position in a form that carries what the transmitter sends. -/
def sentMarker (id : W64) (rest pos : Nat) (inv : Bool) : MarkerRx :=
  { pos := pos, word := linePams 2720 (turn inv (rsEncode (frameStart id rest))) }

section
variable (id : W64) {rest : Nat} (inv : Bool) (lt : rest < 2 ^ 4980)
include lt

theorem frameStart_lt : frameStart id rest < 2 ^ 5140 := by
  have := (markerWord id).isLt
  calc (markerWord id).toNat * 2 ^ 4980 + rest < ((markerWord id).toNat + 1) * 2 ^ 4980 := by rw [Nat.add_mul]; omega
    _ ≤ 2 ^ 160 * 2 ^ 4980 := Nat.mul_le_mul_right _ this
    _ = 2 ^ 5140 := by rw [← Nat.pow_add]

theorem frameStart_marker : frameStart id rest >>> 4980 = (markerWord id).toNat := by
  rw [frameStart, Nat.shiftRight_eq_div_pow, Nat.mul_comm, Nat.mul_add_div (Nat.two_pow_pos _), Nat.div_eq_of_lt lt, Nat.add_zero]

/-- PATTERN heads the codeword. -/
theorem rsEncode_pattern : rsEncode (frameStart id rest) >>> 5360 = pattern.toNat := by
  have marker : rsEncode (frameStart id rest) >>> 300 >>> 4980 = (markerWord id).toNat := by
    rw [rsEncode_info, frameStart_marker id lt]
  have top : (markerWord id).toNat >>> 80 = pattern.toNat := by
    have := id.isLt
    have := (crc16 64 id.toNat).isLt
    rw [toNat_markerWord, Nat.shiftRight_eq_div_pow]
    omega
  rw [← top, ← marker]
  simp only [← Nat.shiftRight_add]

theorem lineBits_sentMarker (pos : Nat) :
    lineBits (sentMarker id rest pos inv).word = turn inv (rsEncode (frameStart id rest)) := by
  rw [sentMarker, lineBits_linePams _ _ (turn_lt inv (rsEncode_lt _ (frameStart_lt id lt)))]

/-- PATTERN in the form sent: the inversion of the first bit of each pair gives PATTERN_INV (R151). -/
theorem markerBits_sentMarker (pos : Nat) :
    markerBits (sentMarker id rest pos inv) = if inv then patternInv else pattern := by
  rw [markerBits, sentMarker, lineBits_take_linePams (by decide) (turn_lt inv (rsEncode_lt _ (frameStart_lt id lt)))]
  cases inv with
  | false => simp [turn, rsEncode_pattern id lt]
  | true =>
    have ones : firstBits 2720 >>> 5360 = firstBits 40 := by decide +kernel
    simp only [turn, if_true, Nat.shiftRight_xor_distrib, rsEncode_pattern id lt, ones]
    decide

theorem matchForm_sentMarker (pos : Nat) : matchForm (markerBits (sentMarker id rest pos inv)) = some inv := by
  rw [markerBits_sentMarker id inv lt]
  cases inv <;> decide +kernel

theorem markerOf_sentMarker (pos : Nat) : markerOf (sentMarker id rest pos inv) inv = (markerWord id).toNat := by
  rw [markerOf, lineBits_sentMarker id inv lt, turn_turn, rsDecode_rsEncode, frameStart_marker id lt]

theorem markerId_sentMarker (pos : Nat) : markerId (sentMarker id rest pos inv) inv = id := by
  rw [markerId, markerOf_sentMarker id inv lt, toNat_markerWord, Nat.shiftRight_eq_div_pow]
  refine BitVec.eq_of_toNat_eq ?_
  have := id.isLt
  have := (crc16 64 id.toNat).isLt
  rw [BitVec.toNat_ofNat]
  omega

theorem checkGood_sentMarker (pos : Nat) : checkGood (sentMarker id rest pos inv) inv = true := by
  rw [checkGood, markerId_sentMarker id inv lt, markerCheck, markerOf_sentMarker id inv lt, toNat_markerWord, beq_iff_eq]
  refine BitVec.eq_of_toNat_eq ?_
  have := (crc16 64 id.toNat).isLt
  rw [BitVec.toNat_ofNat]
  omega

end

end Sys2Proof.Machine
end

section
/-! Alignment markers (R142 to R154, R222, R223, R321, Table 6.4). -/

namespace Sys2Proof

open Sys2Proof.Machine

theorem exec_alignmentMarker_pair {n : Nat} {s : State} (m : MarkerRx) (inRange : n < 512) (ticking : s.ticking = true) :
    exec (.alignmentMarker (.pair n) m) s = .next (pairMarker n m s) :=
  onRunningLane_next inRange ticking

theorem exec_alignmentMarker_twin {n : Nat} {s : State} (m : MarkerRx) (inRange : n < 4) (ticking : s.ticking = true) :
    exec (.alignmentMarker (.twin n) m) s = .next (twinMarker n m s) := by
  simp [exec, execAlignmentMarker, inRange, ticking]

/-- Settles O24: the hunter by the rows of Table 6.4, its lane or twin lane around it, and the marker sent by the code that carries it. -/
theorem markersMoveTheHunter : Obligations.MarkersMoveTheHunter := by
  refine ⟨fun n m s lt ticking => ?_, fun n m s lt ticking => ?_, fun h m i hunting matched => ⟨fun free few => ?_, fun second => ?_⟩,
    fun h m aligned => ⟨Hunter.step_elsewhere aligned, fun here matched => ?_, fun here missed few => ?_,
      fun here missed many => ?_, fun here matched good => ?_, fun here matched bad => ?_⟩,
    fun lane i s align => goodMarker_identifies align, fun id rest pos inv lt => ⟨matchForm_sentMarker id inv lt pos,
      markerId_sentMarker id inv lt pos, checkGood_sentMarker id inv lt pos⟩⟩
  · intro lane h k hunts
    refine ⟨fun stale => ?_, _, exec_alignmentMarker_pair m lt ticking⟩
    rw [exec_alignmentMarker_pair m lt ticking, pairMarker_stale rfl rfl hunts stale]
    simp [State.modLane, Lane.hunted, lane, h, k]
  · intro h u
    rw [exec_alignmentMarker_twin m lt ticking]
    simp [twinMarker, h, u]
  · simp [Hunter.step_opens hunting matched free few, hunting]
  · simp [Hunter.step_aligns hunting matched second]
  · simp [Hunter.step_match aligned here matched, aligned]
  · simp [Hunter.step_miss aligned here missed few, aligned]
  · simp [Hunter.step_loses aligned here missed many]
  · rw [Hunter.step_match aligned here matched]
    exact Hunter.seedStep_good (h := { h with miss := 0 }) good
  · rw [Hunter.step_match aligned here matched]
    exact Hunter.seedStep_bad (h := { h with miss := 0 }) bad

end Sys2Proof
end

section
/-! SUPPORT. The barges of rows that a lane receives (R24, R155 to R161, R175): where a barge is placed, which row it discards, and
what of it joins the row being released; the header of a barge sent, and the release of a row. -/

namespace Sys2Proof.Machine

open Sys2Proof

/-! ## Parts of a keyed store -/

/-- A part of a store chosen by key answers its keys as the store does, and no other key. -/
theorem kget_filter {α : Type} (d : α) (p : Nat → Bool) (m : KMap α) (k : Nat) :
    kget d (m.filter (fun e => p e.1)) k = if p k then kget d m k else d := by
  induction m with
  | nil => simp
  | cons e m ih =>
    by_cases same : e.1 = k
    · cases keep : p k <;> simp [kget, same, keep, ih]
    · cases keep : p e.1 <;> simp [kget, same, keep, ih]

theorem mem_kmap {α : Type} [DecidableEq α] {d : α} {f : Nat → α → α} {m : KMap α} {k : Nat} {x : α} :
    (k, x) ∈ kmap d f m ↔ ∃ v, (k, v) ∈ m ∧ f k v = x ∧ x ≠ d := by
  unfold kmap
  rw [List.mem_filterMap]
  constructor
  · rintro ⟨⟨k', v⟩, mem, some_⟩
    dsimp only at some_
    split at some_
    · exact absurd some_ nofun
    · next listed =>
      obtain ⟨rfl, rfl⟩ := Prod.mk.inj (Option.some.inj some_)
      exact ⟨v, mem, rfl, listed⟩
  · rintro ⟨v, mem, rfl, listed⟩
    exact ⟨(k, v), mem, if_neg listed⟩

/-! ## What a lane holds of rows -/

/-- The places of a lane for the barges of rows, the rows that it has discarded, and its bring-up state. -/
structure LaneRows where
  bring : Bring
  basin : KMap (Option BargeW)
  prevRow : KMap (Option BargeW)
  discards : List Nat
  discarded : Bool

/-- What a lane holds of rows. -/
def Lane.rows (l : Lane) : LaneRows :=
  { bring := l.bring, basin := l.basin, prevRow := l.prevRow, discards := l.discards, discarded := l.discarded }

@[simp] theorem Lane.count_rows (i n : Nat) (l : Lane) : (l.count i n).rows = l.rows := by
  obtain ⟨_, only⟩ := l.count_only i n
  rw [only]
  rfl

@[simp] theorem Lane.noteData_rows (y at_ : Int) (l : Lane) : (l.noteData y at_).rows = l.rows := by
  unfold Lane.noteData
  split <;> rfl

@[simp] theorem Lane.measure_rows (y : Int) (i : Nat) (phase : Int) (l : Lane) : (l.measure y i phase).rows = l.rows := by
  unfold Lane.measure
  split <;> rfl

/-- A header leaves what its lane holds of rows. -/
@[simp] theorem Lane.meets_rows (pos : Nat) (hdr : W64) (l : Lane) :
    (l.meets pos hdr).prevRow = l.prevRow ∧ (l.meets pos hdr).olderRow = l.olderRow ∧
    (l.meets pos hdr).discards = l.discards ∧ (l.meets pos hdr).got = l.got ∧ (l.meets pos hdr).arrivals = l.arrivals := by
  obtain ⟨_, _, _, _, _, _, _, only⟩ := l.meets_only pos hdr
  rw [only]
  exact ⟨rfl, rfl, rfl, rfl, rfl⟩

/-- A header may end bring-up's DELINEATE, but not bring a lane into service. -/
theorem Lane.meets_inService (pos : Nat) (hdr : W64) (l : Lane) :
    (l.meets pos hdr).bring = .inService ↔ l.bring = .inService := by
  have counted : ((l.count 3 (b2n (l.delin.step pos hdr).2.2.1)).count 4 (b2n (l.delin.step pos hdr).2.2.2)).bring = l.bring :=
    congrArg LaneRows.bring ((Lane.count_rows ..).trans (Lane.count_rows ..))
  unfold Lane.meets
  dsimp only
  rw [counted]
  by_cases synced : l.bring = .delineate ∧ (l.delin.step pos hdr).1.sync = true
  · rw [if_pos synced]
    split <;> simp [synced.1]
  · rw [if_neg synced]
    split <;> exact counted ▸ Iff.rfl

@[simp] theorem Lane.meets_rowPhase (pos : Nat) (hdr : W64) (l : Lane) (n : Nat) (y : Int) (i : Nat) (arrival : Int) :
    (l.meets pos hdr).rowPhase n y i arrival = l.rowPhase n y i arrival := by
  simp [Lane.rowPhase]

@[simp] theorem Lane.meets_held (pos : Nat) (hdr : W64) (l : Lane) (y i n : Nat) :
    (l.meets pos hdr).held y i n = l.held y i n := by
  simp [Lane.held]

/-! ## A barge placed (R24, R161) -/

theorem Lane.discard_rows {l : Lane} {y : Nat} (open_ : l.discards.contains y = false) : (l.discard y).rows =
    { l.rows with discards := y :: l.discards, discarded := true, basin := l.basin.filter (fun e => e.1 / 24 != y) } := by
  obtain ⟨_, only⟩ := l.count_only 9 1
  rw [Lane.discard, if_neg (ne_true_of_eq_false open_), only]
  rfl

/-- The lane with a barge's row and index on record, and the arrival phase that it gives. -/
def Lane.noted (l : Lane) (y : Int) (i : Nat) (phase : Int) : Lane :=
  { l with got := (24 * y.toNat + i) :: l.got }.measure y i phase

@[simp] theorem Lane.noted_rows (l : Lane) (y : Int) (i : Nat) (phase : Int) : (l.noted y i phase).rows = l.rows :=
  Lane.measure_rows ..

section
variable {l : Lane} {n : Nat} {y : Int} {i : Nat} {arrival phase : Int} (b : BargeW)

theorem place_known (known : l.got.contains (24 * y.toNat + i) = true) :
    (l.place n y i arrival phase b).2 = false ∧ (l.place n y i arrival phase b).1.rows = l.rows := by
  rw [Lane.place, if_pos known]
  exact ⟨rfl, l.count_rows 5 1⟩

section
variable (new : l.got.contains (24 * y.toNat + i) = false) (open_ : l.discards.contains y.toNat = false)
include new open_

/-- The row of a barge that comes too early or too late is discarded; of the row being released what has been placed as well. -/
theorem place_discards (lost : (tooEarly n y phase || tooLate n y i arrival) = true) :
    (l.place n y i arrival phase b).2 = false ∧ (l.place n y i arrival phase b).1.rows =
      { l.rows with discards := y.toNat :: l.discards, discarded := true,
                    basin := l.basin.filter (fun e => e.1 / 24 != y.toNat),
                    prevRow := if y = (n : Int) then [] else l.prevRow } := by
  have noted := l.noted_rows y i phase
  have discards : (l.noted y i phase).discards = l.discards := congrArg LaneRows.discards noted
  have basin : (l.noted y i phase).basin = l.basin := congrArg LaneRows.basin noted
  have prevRow : (l.noted y i phase).prevRow = l.prevRow := congrArg LaneRows.prevRow noted
  have discard := Lane.discard_rows (l := l.noted y i phase) (y := y.toNat) (by rw [discards, open_])
  have placed : l.place n y i arrival phase b =
      ({ (l.noted y i phase).discard y.toNat with prevRow := if y = (n : Int) then [] else (l.noted y i phase).prevRow }, false) := by
    rw [Lane.place, if_neg (ne_true_of_eq_false new)]
    exact if_pos lost
  rw [placed, ← discards, ← basin, ← prevRow, ← noted]
  exact ⟨rfl, congrArg (fun r : LaneRows => { r with prevRow := if y = (n : Int) then [] else (l.noted y i phase).prevRow }) discard⟩

variable (inTime : (tooEarly n y phase || tooLate n y i arrival) = false)
include inTime

/-- A barge in time is kept: of the row being released where HOLD barges read it, of a later row in the basin. -/
theorem place_keeps : l.place n y i arrival phase b =
    if y ≤ (n : Int) then ({ l.noted y i phase with prevRow := kset none (l.noted y i phase).prevRow i (some b) }, true)
    else ({ l.noted y i phase with basin := kset none (l.noted y i phase).basin (24 * y.toNat + i) (some b) }, true) := by
  have noted : (l.noted y i phase).discards.contains y.toNat = false :=
    (congrArg (fun r : LaneRows => r.discards.contains y.toNat) (l.noted_rows y i phase)).trans open_
  rw [Lane.place, if_neg (ne_true_of_eq_false new)]
  exact (if_neg (ne_true_of_eq_false inTime)).trans (if_neg (ne_true_of_eq_false noted))

theorem place_released (released : y ≤ (n : Int)) :
    (l.place n y i arrival phase b).2 = true ∧
    (l.place n y i arrival phase b).1.rows = { l.rows with prevRow := kset none l.prevRow i (some b) } := by
  rw [place_keeps b new open_ inTime, if_pos released]
  exact ⟨rfl, congrArg (fun r : LaneRows => { r with prevRow := kset none r.prevRow i (some b) }) (l.noted_rows y i phase)⟩

theorem place_ahead (ahead : (n : Int) < y) :
    (l.place n y i arrival phase b).2 = true ∧
    (l.place n y i arrival phase b).1.rows = { l.rows with basin := kset none l.basin (24 * y.toNat + i) (some b) } := by
  rw [place_keeps b new open_ inTime, if_neg (Int.not_le.mpr ahead)]
  exact ⟨rfl, congrArg (fun r : LaneRows => { r with basin := kset none r.basin (24 * y.toNat + i) (some b) })
    (l.noted_rows y i phase)⟩

end
end

/-! ## In time, early and late (R24) -/

section
variable {n : Nat} {y : Int} {i : Nat} {arrival phase : Int}

theorem inTime_ahead (least : -1500000 ≤ phase) (ahead : (n : Int) < y) (near : y ≤ (n : Int) + 3) :
    (tooEarly n y phase || tooLate n y i arrival) = false := by
  simp only [tooEarly, tooLate, Bool.or_eq_false_iff, Bool.and_eq_false_iff, decide_eq_false_iff_not]
  omega

theorem inTime_released (least : -1500000 ≤ phase) (released : y = (n : Int)) (late : tooLate n y i arrival = false) :
    (tooEarly n y phase || tooLate n y i arrival) = false := by
  rw [late, Bool.or_false]
  simp only [tooEarly, Bool.or_eq_false_iff, decide_eq_false_iff_not]
  omega

theorem lost_early (early : phase < -1500000 ∨ (n : Int) + 3 < y) : (tooEarly n y phase || tooLate n y i arrival) = true := by
  simp [tooEarly, early]

theorem lost_late (late : tooLate n y i arrival = true) : (tooEarly n y phase || tooLate n y i arrival) = true := by
  rw [late, Bool.or_true]

end

/-! ## A barge of the row being released in the switching core (R18) -/

section
variable {lane : Nat} {y : Int} {i : Nat} {w : BargeW} {s : State}

theorem joinRow_only (kept : Bool) :
    joinRow lane y i w kept s = { s with fab.ingress := (joinRow lane y i w kept s).fab.ingress } := by
  unfold joinRow
  (repeat' split) <;> rfl

theorem joinRow_other (kept : Bool) (other : ¬ (y = (s.nrn : Int) ∧ s.inService lane = true)) :
    joinRow lane y i w kept s = s := if_neg other

theorem joinRow_otherRow {kept : Bool} {n : Nat} (row : s.nrn = n) (other : y ≠ (n : Int)) : joinRow lane y i w kept s = s :=
  joinRow_other kept (fun both => other (row ▸ both.1))

theorem joinRow_passed (open_ : (s.lane lane).discards.contains y.toNat = false) : joinRow lane y i w false s = s := by
  unfold joinRow
  split
  · exact if_neg (ne_true_of_eq_false open_)
  · rfl

variable (released : y = (s.nrn : Int)) (serves : s.inService lane = true)
include released serves

theorem joinRow_kept : (joinRow lane y i w true s).fab.ingress = kset none s.fab.ingress (24 * lane + i) (some w) := by
  rw [joinRow, if_pos ⟨released, serves⟩]
  rfl

theorem joinRow_emptied (gone : (s.lane lane).discards.contains y.toNat = true) :
    (joinRow lane y i w false s).fab.ingress = s.fab.ingress.filter (fun e => e.1 / 24 != lane) := by
  rw [joinRow, if_pos ⟨released, serves⟩]
  exact congrArg (fun t : State => t.fab.ingress) (if_pos gone)

end

/-! ## A barge at its lane -/

/-- The row in progress is told by the count alone. -/
theorem nrn_of_time {s t : State} (time : t.time = s.time) : t.nrn = s.nrn := by
  rw [State.nrn, time, State.nrn]

section
variable (lane : Nat) (b : BargeRx) (s : State)

/-- The row that the stamp of a barge names (R158). -/
def bargeRow : Int := resolveRow s.nrn (hRow (received lane b s).hdr)

def bargeIndex : Nat := hIndex (received lane b s).hdr

def bargePhase : Int := (s.lane lane).rowPhase s.nrn (bargeRow lane b s) (bargeIndex lane b s) b.arrival

/-- The lane once it has read the header and placed the words. -/
def placed (w : BargeW) : Lane × Bool :=
  ((s.lane lane).meets b.pos (received lane b s).hdr).place s.nrn (bargeRow lane b s) (bargeIndex lane b s) b.arrival
    (bargePhase lane b s) w

/-- The words of a DATA barge, with the tag of R187. -/
def dataWords : BargeW :=
  { words := (received lane b s).slots,
    tag := decide ((s.lane lane).bring = .inService) && !(received lane b s).uncorr && hSrcValid (received lane b s).hdr &&
      decide (bargePhase lane b s ≤ -450000) }

/-- What a lane counts of a DATA barge. -/
def Lane.tallied (src ok : Bool) (y at_ : Int) (l : Lane) : Lane :=
  let l := (l.count 6 (b2n (!src))).noteData y at_
  if ok then { l with bwRx := l.bwRx + 8192 } else l

@[simp] theorem Lane.tallied_rows (src ok : Bool) (y at_ : Int) (l : Lane) : (l.tallied src ok y at_).rows = l.rows := by
  have rows : ((l.count 6 (b2n (!src))).noteData y at_).rows = l.rows := by simp
  unfold Lane.tallied
  dsimp only
  split <;> exact rows

/-- A DATA barge that counts as good. -/
def dataOk : Bool := (placed lane b s (dataWords lane b s)).2 && (dataWords lane b s).tag

/-- The state with a DATA barge placed at its lane. -/
def afterData : State := (afterHeader lane b s).modLane lane (fun _ =>
  (placed lane b s (dataWords lane b s)).1.tallied (hSrcValid (received lane b s).hdr) (dataOk lane b s) (bargeRow lane b s)
    (((s.nrn : Int) - bargeRow lane b s) * 500000 + b.arrival))

theorem afterData_onlyLanes : OnlyLanes s (afterData lane b s) := afterHeader_onlyLanes.modLane ..

theorem afterHeader_nrn : (afterHeader lane b s).nrn = s.nrn := nrn_of_time (by simp [afterHeader])

theorem afterData_nrn : (afterData lane b s).nrn = s.nrn := nrn_of_time (by simp [afterData, afterHeader])

theorem afterData_rows : ((afterData lane b s).lane lane).rows = (placed lane b s (dataWords lane b s)).1.rows := by
  simp [afterData]

variable {lane b s}

theorem afterData_other {j : Nat} (other : j ≠ lane) : (afterData lane b s).lane j = s.lane j := by
  rw [afterData, lane_modLane, if_neg other, afterHeader_other other]

/-- Placing a barge neither brings a lane into service nor takes it out. -/
theorem afterData_inService {r : LaneRows} (rows : (placed lane b s (dataWords lane b s)).1.rows = r)
    (own : r.bring = ((s.lane lane).meets b.pos (received lane b s).hdr).bring) :
    (afterData lane b s).inService lane = true ↔ (s.lane lane).bring = .inService := by
  have bring : ((afterData lane b s).lane lane).bring = r.bring := congrArg LaneRows.bring ((afterData_rows lane b s).trans rows)
  rw [State.inService, beq_iff_eq, bring, own, Lane.meets_inService]

/-- A barge of a row ahead, in time, with the words given. -/
theorem placed_ahead (w : BargeW)
    (new : (s.lane lane).got.contains (24 * (bargeRow lane b s).toNat + bargeIndex lane b s) = false)
    (open_ : (s.lane lane).discards.contains (bargeRow lane b s).toNat = false) (least : -1500000 ≤ bargePhase lane b s)
    (ahead : (s.nrn : Int) < bargeRow lane b s) (near : bargeRow lane b s ≤ (s.nrn : Int) + 3) :
    (placed lane b s w).1.basin =
      kset none (s.lane lane).basin (24 * (bargeRow lane b s).toNat + bargeIndex lane b s) (some w) := by
  obtain ⟨-, rows⟩ : _ ∧ (placed lane b s w).1.rows = _ := place_ahead w (by simpa using new) (by simpa using open_)
    (inTime_ahead least ahead near) ahead
  exact (congrArg LaneRows.basin rows).trans (by simp)

section
variable (h : Receives lane b s)
include h

theorem dataBarge_joins (type : hType (received lane b s).hdr = 1) : dataBarge lane b s =
    countEvent (if dataOk lane b s then 1 else 2) lane 1
      (joinRow lane (bargeRow lane b s) (bargeIndex lane b s) (dataWords lane b s)
        (placed lane b s (dataWords lane b s)).2 (afterData lane b s)) := by
  have serves : (((s.lane lane).meets b.pos (received lane b s).hdr).bring == .inService) =
      decide ((s.lane lane).bring = .inService) := decide_eq_decide.mpr (Lane.meets_inService ..)
  rw [dataBarge, header_receives h]
  dsimp only
  rw [if_neg (not_not_intro type), afterHeader_lane, Lane.meets_rowPhase, serves]
  rfl

/-- A HOLD barge of a row ahead, where the basin holds the barge of the row before. -/
theorem holdBarge_repeats {z : BargeW} (type : hType (received lane b s).hdr = 4)
    (held : (s.lane lane).held ((bargeRow lane b s).toNat - 1) (bargeIndex lane b s) s.nrn = some z)
    (ahead : (s.nrn : Int) < bargeRow lane b s) : holdBarge lane b s =
      { (afterHeader lane b s).modLane lane (fun _ => (placed lane b s { words := z.words, tag := false }).1.count 7 1) with
        free := (afterHeader lane b s).free + 256 } := by
  have found : ((s.lane lane).meets b.pos (received lane b s).hdr).held
      ((resolveRow s.nrn (hRow (received lane b s).hdr)).toNat - 1) (hIndex (received lane b s).hdr) s.nrn = some z :=
    (Lane.meets_held ..).trans held
  rw [holdBarge, header_receives h]
  dsimp only
  rw [if_neg (not_not_intro type), afterHeader_lane, Lane.meets_rowPhase, afterHeader_nrn, found]
  dsimp only
  refine (joinRow_otherRow (y := bargeRow lane b s) (n := s.nrn) ?_ (Int.ne_of_gt ahead)).trans ?_
  · exact nrn_of_time (by simp [afterHeader])
  · simp only [placed, bargeRow, bargeIndex, bargePhase]

/-- What a HOLD barge placed ahead changes: one place of the basin, besides lanes and the free values taken. -/
theorem holdBarge_ahead {z : BargeW} (type : hType (received lane b s).hdr = 4)
    (held : (s.lane lane).held ((bargeRow lane b s).toNat - 1) (bargeIndex lane b s) s.nrn = some z)
    (new : (s.lane lane).got.contains (24 * (bargeRow lane b s).toNat + bargeIndex lane b s) = false)
    (open_ : (s.lane lane).discards.contains (bargeRow lane b s).toNat = false) (least : -1500000 ≤ bargePhase lane b s)
    (ahead : (s.nrn : Int) < bargeRow lane b s) (near : bargeRow lane b s ≤ (s.nrn : Int) + 3) :
    ((holdBarge lane b s).lane lane).basin = kset none (s.lane lane).basin
      (24 * (bargeRow lane b s).toNat + bargeIndex lane b s) (some { words := z.words, tag := false }) ∧
    (∀ j, j ≠ lane → (holdBarge lane b s).lane j = s.lane j) ∧
    holdBarge lane b s = { s with lanes := (holdBarge lane b s).lanes, free := (holdBarge lane b s).free } := by
  have counted : ((placed lane b s { words := z.words, tag := false }).1.count 7 1).basin = _ :=
    (congrArg LaneRows.basin (Lane.count_rows ..)).trans (placed_ahead _ new open_ least ahead near)
  rw [holdBarge_repeats h type held ahead]
  generalize (placed lane b s { words := z.words, tag := false }).1.count 7 1 = m at counted
  have own : ((afterHeader lane b s).modLane lane (fun _ => m)).lane lane = m := (lane_modLane ..).trans (if_pos rfl)
  have others : ∀ j, j ≠ lane → ((afterHeader lane b s).modLane lane (fun _ => m)).lane j = s.lane j :=
    fun j other => (lane_modLane ..).trans ((if_neg other).trans (afterHeader_other other))
  have only : OnlyLanes s ((afterHeader lane b s).modLane lane (fun _ => m)) := afterHeader_onlyLanes.modLane lane _
  generalize (afterHeader lane b s).modLane lane (fun _ => m) = u at own others only
  exact ⟨(congrArg Lane.basin own).trans counted, others,
    congrArg (fun v : State => { v with free := (afterHeader lane b s).free + 256 }) only⟩

section
variable (type : hType (received lane b s).hdr = 1)
include type

theorem dataBarge_rows : ((dataBarge lane b s).lane lane).rows = (placed lane b s (dataWords lane b s)).1.rows := by
  rw [dataBarge_joins h type, ← afterData_rows]
  simp [State.lane]

theorem dataBarge_other {j : Nat} (other : j ≠ lane) : (dataBarge lane b s).lane j = s.lane j := by
  refine Eq.trans ?_ (afterData_other (b := b) other)
  rw [dataBarge_joins h type]
  simp [State.lane]

/-- Nothing outside the lanes, the counters and the row being released differs. -/
theorem dataBarge_only : dataBarge lane b s = { s with
    lanes := (dataBarge lane b s).lanes, ctr := (dataBarge lane b s).ctr, fab.ingress := (dataBarge lane b s).fab.ingress } := by
  rw [dataBarge_joins h type]
  generalize (if dataOk lane b s then 1 else 2) = code
  have joined := joinRow_only (lane := lane) (y := bargeRow lane b s) (i := bargeIndex lane b s) (w := dataWords lane b s)
    (s := afterData lane b s) (placed lane b s (dataWords lane b s)).2
  generalize joinRow lane (bargeRow lane b s) (bargeIndex lane b s) (dataWords lane b s)
    (placed lane b s (dataWords lane b s)).2 (afterData lane b s) = j at joined ⊢
  have lanes : j.lanes = (afterData lane b s).lanes := (congrArg State.lanes joined :)
  have only : j = { s with lanes := j.lanes, fab.ingress := j.fab.ingress } := by
    rw [lanes]
    exact joined.trans (congrArg (fun v : State => { v with fab.ingress := j.fab.ingress }) (afterData_onlyLanes lane b s))
  exact congrArg (fun v : State => { v with ctr := (countEvent code lane 1 j).ctr }) only

theorem dataBarge_ingress {kept : Bool} (eq : (placed lane b s (dataWords lane b s)).2 = kept) :
    (dataBarge lane b s).fab.ingress = (joinRow lane (bargeRow lane b s) (bargeIndex lane b s) (dataWords lane b s) kept
      (afterData lane b s)).fab.ingress := by
  rw [dataBarge_joins h type, ← eq]
  rfl

/-- A barge that does not join the row being released changes lanes and counters alone. -/
theorem dataBarge_apart (other : ¬ (bargeRow lane b s = (s.nrn : Int) ∧ (afterData lane b s).inService lane = true)) :
    dataBarge lane b s = { s with lanes := (dataBarge lane b s).lanes, ctr := (dataBarge lane b s).ctr } := by
  rw [dataBarge_joins h type, joinRow_other (s := afterData lane b s) _ (by rwa [afterData_nrn])]
  exact (afterData_onlyLanes lane b s).counted ..

/-- R161: a second barge of a row and index. -/
theorem dataBarge_known
    (known : (s.lane lane).got.contains (24 * (bargeRow lane b s).toNat + bargeIndex lane b s) = true) :
    ((dataBarge lane b s).lane lane).basin = (s.lane lane).basin ∧
    ((dataBarge lane b s).lane lane).discards = (s.lane lane).discards ∧
    ((s.lane lane).discards.contains (bargeRow lane b s).toNat = false → (dataBarge lane b s).fab.ingress = s.fab.ingress) := by
  obtain ⟨kept, rows⟩ : _ ∧ (placed lane b s (dataWords lane b s)).1.rows = _ := place_known _ (by simpa using known)
  have after := (dataBarge_rows h type).trans rows
  refine ⟨(congrArg LaneRows.basin after).trans (by simp [Lane.rows]),
    (congrArg LaneRows.discards after).trans (by simp [Lane.rows]), fun open_ => ?_⟩
  have discards : ((afterData lane b s).lane lane).discards = (s.lane lane).discards :=
    (congrArg LaneRows.discards ((afterData_rows lane b s).trans rows)).trans (by simp [Lane.rows])
  rw [dataBarge_ingress h type kept, joinRow_passed (by rw [discards, open_])]
  rfl

section
variable (new : (s.lane lane).got.contains (24 * (bargeRow lane b s).toNat + bargeIndex lane b s) = false)
  (open_ : (s.lane lane).discards.contains (bargeRow lane b s).toNat = false)
include new open_

/-- R24: the row of a barge that comes too early or too late. -/
theorem dataBarge_discards (lost : (tooEarly s.nrn (bargeRow lane b s) (bargePhase lane b s) ||
      tooLate s.nrn (bargeRow lane b s) (bargeIndex lane b s) b.arrival) = true) :
    ((dataBarge lane b s).lane lane).discarded = true ∧
    ((dataBarge lane b s).lane lane).discards = (bargeRow lane b s).toNat :: (s.lane lane).discards ∧
    (∀ j < 24, kget none ((dataBarge lane b s).lane lane).basin (24 * (bargeRow lane b s).toNat + j) = none) ∧
    (bargeRow lane b s = (s.nrn : Int) → (s.lane lane).bring = .inService → ((dataBarge lane b s).lane lane).prevRow = [] ∧
      (dataBarge lane b s).fab.ingress = s.fab.ingress.filter (fun e => e.1 / 24 != lane)) := by
  obtain ⟨kept, rows⟩ : _ ∧ (placed lane b s (dataWords lane b s)).1.rows = _ :=
    place_discards _ (by simpa using new) (by simpa using open_) lost
  have after := (dataBarge_rows h type).trans rows
  refine ⟨(congrArg LaneRows.discarded after :), (congrArg LaneRows.discards after).trans (by simp), fun j hj => ?_,
    fun released serves => ⟨?_, ?_⟩⟩
  · have basin : ((dataBarge lane b s).lane lane).basin = _ := congrArg LaneRows.basin after
    rw [basin]
    exact (kget_filter none (fun k => k / 24 != (bargeRow lane b s).toNat) _ _).trans (if_neg (by simp; omega))
  · exact (congrArg LaneRows.prevRow after :).trans (if_pos released)
  · have gone : ((afterData lane b s).lane lane).discards = _ :=
      congrArg LaneRows.discards ((afterData_rows lane b s).trans rows)
    have row : bargeRow lane b s = ((afterData lane b s).nrn : Int) := by rw [afterData_nrn, released]
    rw [dataBarge_ingress h type kept, joinRow_emptied row ((afterData_inService rows rfl).mpr serves) (by simp [gone])]
    rfl

/-- A barge of the row being released, in time. -/
theorem dataBarge_released (released : bargeRow lane b s = (s.nrn : Int)) (least : -1500000 ≤ bargePhase lane b s)
    (late : tooLate s.nrn (bargeRow lane b s) (bargeIndex lane b s) b.arrival = false) :
    ((dataBarge lane b s).lane lane).basin = (s.lane lane).basin ∧
    ((dataBarge lane b s).lane lane).discards = (s.lane lane).discards ∧
    kget none ((dataBarge lane b s).lane lane).prevRow (bargeIndex lane b s) = some (dataWords lane b s) ∧
    (dataBarge lane b s).fab.ingress = if (s.lane lane).bring = .inService then
      kset none s.fab.ingress (24 * lane + bargeIndex lane b s) (some (dataWords lane b s)) else s.fab.ingress := by
  obtain ⟨kept, rows⟩ : _ ∧ (placed lane b s (dataWords lane b s)).1.rows = _ := place_released _ (by simpa using new)
    (by simpa using open_) (inTime_released least released late) (Int.le_of_eq released)
  have after := (dataBarge_rows h type).trans rows
  have prevRow : ((dataBarge lane b s).lane lane).prevRow = _ := congrArg LaneRows.prevRow after
  have serves := afterData_inService rows rfl
  refine ⟨(congrArg LaneRows.basin after).trans (by simp [Lane.rows]),
    (congrArg LaneRows.discards after).trans (by simp [Lane.rows]), by simp [prevRow], ?_⟩
  rw [dataBarge_ingress h type kept]
  split
  · next on =>
    have row : bargeRow lane b s = ((afterData lane b s).nrn : Int) := by rw [afterData_nrn, released]
    exact joinRow_kept row (serves.mpr on)
  · next off =>
    rw [joinRow_other _ (fun both => off (serves.mp both.2))]
    rfl

/-- A barge of a row ahead, in time. -/
theorem dataBarge_ahead (least : -1500000 ≤ bargePhase lane b s) (ahead : (s.nrn : Int) < bargeRow lane b s)
    (near : bargeRow lane b s ≤ (s.nrn : Int) + 3) :
    ((dataBarge lane b s).lane lane).basin = kset none (s.lane lane).basin
      (24 * (bargeRow lane b s).toNat + bargeIndex lane b s) (some (dataWords lane b s)) ∧
    dataBarge lane b s = { s with lanes := (dataBarge lane b s).lanes, ctr := (dataBarge lane b s).ctr } :=
  ⟨(congrArg LaneRows.basin (dataBarge_rows h type)).trans (placed_ahead _ new open_ least ahead near),
    dataBarge_apart h type (fun both => Int.ne_of_gt ahead both.1)⟩

end
end
end
end

/-! ## The header of a barge sent (Table 6.6) -/

/-- The fields of a word, added to a number. -/
def packFrom (a : Nat) (fs : List (Nat × Nat × Nat)) : Nat :=
  fs.foldl (fun a f => a + f.2.2 % 2 ^ (f.1 + 1 - f.2.1) * 2 ^ f.2.1) a

theorem toNat_pack (fs : List (Nat × Nat × Nat)) : (pack fs).toNat = packFrom 0 fs % 2 ^ 64 := BitVec.toNat_ofNat ..

theorem packFrom_nil (a : Nat) : packFrom a [] = a := rfl

theorem packFrom_cons (a hi lo v : Nat) (fs : List (Nat × Nat × Nat)) :
    packFrom a ((hi, lo, v) :: fs) = packFrom (a + v % 2 ^ (hi + 1 - lo) * 2 ^ lo) fs := rfl

theorem adv_lt (r : Role) : r.adv < 4 := by
  cases r <;> decide

/-- The fields of a header, without its HEC. -/
def headerFields (type row index src data : Nat) (s : State) : List (Nat × Nat × Nat) :=
  [(63, 60, type), (59, 48, row % 4096), (47, 43, index), (42, 42, src), (41, 40, s.twin.role.adv),
   (39, 24, s.advTerm % 65536), (23, 16, data)]

/-- The 48 bits of a header that its HEC covers. -/
def headerBits (type row index src data : Nat) (s : State) : Nat :=
  type * 2 ^ 44 + row % 4096 * 2 ^ 32 + index * 2 ^ 27 + src * 2 ^ 26 + s.twin.role.adv * 2 ^ 24 + s.advTerm % 65536 * 2 ^ 8 + data

theorem bargeHeader_hec (type row index src data : Nat) (s : State) : bargeHeader type row index src data s =
    pack (headerFields type row index src data s) |||
      w64 (crc16 48 (fld (pack (headerFields type row index src data s)) 63 16)).toNat := rfl

section
variable {type row index src data : Nat} {s : State} (type_le : type ≤ 5) (index_lt : index < 24)
  (src_lt : src < 2) (data_lt : data < 256)
include type_le index_lt src_lt data_lt

/-- The fields do not overlap. -/
theorem pack_headerFields : (pack (headerFields type row index src data s)).toNat = 2 ^ 16 * headerBits type row index src data s := by
  have adv := adv_lt s.twin.role
  rw [toNat_pack, headerFields, packFrom_cons, packFrom_cons, packFrom_cons, packFrom_cons, packFrom_cons, packFrom_cons,
    packFrom_cons, packFrom_nil, headerBits]
  omega

theorem headerBits_lt : headerBits type row index src data s < 2 ^ 48 := by
  have adv := adv_lt s.twin.role
  rw [headerBits]
  omega

/-- The HEC takes the lowest 16 bits. -/
theorem toNat_bargeHeader : (bargeHeader type row index src data s).toNat =
    2 ^ 16 * headerBits type row index src data s + (crc16 48 (headerBits type row index src data s)).toNat := by
  have packed := pack_headerFields (row := row) (s := s) type_le index_lt src_lt data_lt
  have lt := headerBits_lt (row := row) (s := s) type_le index_lt src_lt data_lt
  have covered : fld (pack (headerFields type row index src data s)) 63 16 = headerBits type row index src data s := by
    rw [fld, packed, Nat.shiftRight_eq_div_pow, Nat.mul_div_cancel_left _ (Nat.two_pow_pos 16)]
    exact Nat.mod_eq_of_lt lt
  have crc := (crc16 48 (headerBits type row index src data s)).isLt
  have small : (w64 (crc16 48 (headerBits type row index src data s)).toNat).toNat =
      (crc16 48 (headerBits type row index src data s)).toNat := by
    rw [w64, BitVec.toNat_ofNat, Nat.mod_eq_of_lt (by omega)]
  rw [bargeHeader_hec, covered, BitVec.toNat_or, packed, small, Nat.two_pow_add_eq_or_of_lt crc]

/-- A header gives back what it was formed of. -/
theorem bargeHeader_fields : hType (bargeHeader type row index src data s) = type ∧
    hRow (bargeHeader type row index src data s) = row % 4096 ∧ hIndex (bargeHeader type row index src data s) = index ∧
    hSrcValid (bargeHeader type row index src data s) = decide (src = 1) ∧
    hSel (bargeHeader type row index src data s) = s.twin.role.adv % 4 ∧
    hTerm (bargeHeader type row index src data s) = s.advTerm % 65536 ∧
    hTypeData (bargeHeader type row index src data s) = data := by
  have adv := adv_lt s.twin.role
  have whole := toNat_bargeHeader (row := row) (s := s) type_le index_lt src_lt data_lt
  have crc := (crc16 48 (headerBits type row index src data s)).isLt
  generalize (crc16 48 (headerBits type row index src data s)).toNat = c at whole crc
  rw [headerBits] at whole
  simp only [hType, hRow, hIndex, hSrcValid, hSel, hTerm, hTypeData, fld, bit, ← BitVec.testBit_toNat,
    Nat.testBit_eq_decide_div_mod_eq, Nat.shiftRight_eq_div_pow, whole, decide_eq_decide]
  refine ⟨?_, ?_, ?_, ?_, ?_, ?_, ?_⟩ <;> omega

theorem headerFits_bargeHeader (least : 1 ≤ type) : headerFits (bargeHeader type row index src data s) = true := by
  obtain ⟨typed, -, indexed, -⟩ := bargeHeader_fields (row := row) (s := s) type_le index_lt src_lt data_lt
  have whole := toNat_bargeHeader (row := row) (s := s) type_le index_lt src_lt data_lt
  have crc := (crc16 48 (headerBits type row index src data s)).isLt
  have lt := headerBits_lt (row := row) (s := s) type_le index_lt src_lt data_lt
  have covered : fld (bargeHeader type row index src data s) 63 16 = headerBits type row index src data s := by
    rw [fld, whole, Nat.shiftRight_eq_div_pow]
    omega
  have hec : fld (bargeHeader type row index src data s) 15 0 = (crc16 48 (headerBits type row index src data s)).toNat := by
    rw [fld, whole]
    simp only [Nat.shiftRight_zero]
    omega
  rw [headerFits, covered, hec, typed, indexed]
  simp [least, type_le, Nat.le_of_lt_succ index_lt]

end

/-! ## The release of a row (R160, R175) -/

theorem mem_releasedRow {s : State} {lane i : Nat} {b : Option BargeW} (hi : i < 24) : (24 * lane + i, b) ∈ releasedRow s ↔
    ∃ l, (lane, l) ∈ s.lanes ∧ l.bring = .inService ∧ kget none l.basin (24 * s.nrn + i) = b ∧ b ≠ none := by
  unfold releasedRow
  rw [List.mem_flatMap]
  constructor
  · rintro ⟨⟨j, l⟩, listed, mem⟩
    dsimp only at mem
    split at mem
    · next serves =>
      obtain ⟨k, hk, eq⟩ := List.mem_filterMap.mp mem
      obtain ⟨w, held, same⟩ := Option.map_eq_some_iff.mp eq
      obtain ⟨key, rfl⟩ := Prod.mk.inj same
      have hk := List.mem_range.mp hk
      obtain ⟨rfl, rfl⟩ : j = lane ∧ k = i := by omega
      exact ⟨l, listed, serves, held, nofun⟩
    · exact absurd mem List.not_mem_nil
  · rintro ⟨l, listed, serves, held, some_⟩
    obtain ⟨w, rfl⟩ := Option.ne_none_iff_exists'.mp some_
    refine ⟨(lane, l), listed, ?_⟩
    rw [if_pos serves]
    exact List.mem_filterMap.mpr ⟨i, List.mem_range.mpr hi, by rw [held]; rfl⟩

/-- The barges of one row taken out of a basin, by index. -/
theorem kget_row (m : KMap (Option BargeW)) (n : Nat) {i : Nat} (hi : i < 24) :
    kget none ((m.filter (fun e => e.1 / 24 == n)).map (fun e => (e.1 % 24, e.2))) i = kget none m (24 * n + i) := by
  induction m with
  | nil => rfl
  | cons e m ih =>
    by_cases key : e.1 = 24 * n + i
    · simp [kget, key, show (24 * n + i) / 24 = n by omega, show (24 * n + i) % 24 = i by omega]
    · by_cases row : e.1 / 24 = n
      · simp [kget, key, row, show e.1 % 24 ≠ i by omega, ih]
      · simp [kget, key, row, ih]

theorem coreStep_ingress {s : State} (running : s.fab.running = true) : (coreStep s).fab.ingress = releasedRow s := by
  rw [coreStep, if_pos running]

theorem mem_coreStep_lanes {s : State} {lane : Nat} {l' : Lane} :
    (lane, l') ∈ (coreStep s).lanes ↔ ∃ l, (lane, l) ∈ s.lanes ∧ l.release s.nrn = l' ∧ l' ≠ {} := by
  have lanes : (coreStep s).lanes = kmap {} (fun _ (l : Lane) => l.release s.nrn) s.lanes := by
    unfold coreStep
    split <;> rfl
  rw [lanes, mem_kmap]

theorem release_rows (n : Nat) (l : Lane) {i : Nat} (hi : i < 24) :
    kget none (l.release n).prevRow i = kget none l.basin (24 * n + i) ∧ (l.release n).olderRow = l.prevRow ∧
    (∀ y, n < y → kget none (l.release n).basin (24 * y + i) = kget none l.basin (24 * y + i)) ∧
    ∀ y, y ≤ n → kget none (l.release n).basin (24 * y + i) = none := by
  refine ⟨kget_row _ _ hi, rfl, fun y later => ?_, fun y gone => ?_⟩
  · exact (kget_filter none (fun k => decide (n < k / 24)) _ _).trans (if_pos (by simp; omega))
  · exact (kget_filter none (fun k => decide (n < k / 24)) _ _).trans (if_neg (by simp; omega))

end Sys2Proof.Machine
end

section
/-! DATA and HOLD barges (R24, R155 to R161, R175, R188). -/

namespace Sys2Proof

open Sys2Proof.Machine

/-- Settles O25: each barge by where its row stands to the row being released, the header by its fields, and the release by lane. -/
theorem dataRowsArePlaced : Obligations.DataRowsArePlaced := by
  refine ⟨fun lane b s h => ?_, fun type row index src data s least most hi hs hd => ?_, fun s i running hi => ?_, fun info inv => ?_⟩
  · intro x y i l phase
    refine ⟨fun least ahead near open_ new => ⟨fun type => ?_, fun z type held => ?_⟩, fun early open_ new type => ?_,
      fun late open_ new type => ?_, fun least released late open_ new type => ?_, fun known type => ?_⟩
    · obtain ⟨basin, only⟩ := dataBarge_ahead h type new open_ least ahead near
      refine ⟨_, h.runs (dataBarge lane b s), ?_, fun k other => ?_, fun j other => dataBarge_other h type other, only⟩
      · rw [basin]
        exact kget_kset_same ..
      · rw [basin]
        exact kget_kset_other _ _ _ other
    · obtain ⟨basin, others, only⟩ := holdBarge_ahead h type held new open_ least ahead near
      refine ⟨_, h.runs (holdBarge lane b s), ?_, fun k other => ?_, others, only⟩
      · rw [basin]
        exact kget_kset_same ..
      · rw [basin]
        exact kget_kset_other _ _ _ other
    · obtain ⟨discarded, discards, emptied, -⟩ := dataBarge_discards h type new open_ (lost_early early)
      exact ⟨_, h.runs (dataBarge lane b s), discarded, discards, emptied, fun j other => dataBarge_other h type other⟩
    · obtain ⟨discarded, discards, -, left⟩ := dataBarge_discards h type new open_ (lost_late late)
      refine ⟨_, h.runs (dataBarge lane b s), discarded, discards, fun j other => dataBarge_other h type other,
        fun released serves => ?_⟩
      obtain ⟨prevRow, ingress⟩ := left released serves
      refine ⟨prevRow, fun k own => ?_, fun k other => ?_⟩ <;> rw [ingress, kget_filter none (fun k => k / 24 != lane)]
      · simp [own]
      · simp [other]
    · obtain ⟨basin, discards, prevRow, ingress⟩ := dataBarge_released h type new open_ released least late
      refine ⟨_, h.runs (dataBarge lane b s), basin, discards, prevRow, fun serves => ?_, fun k other => ?_,
        fun j other => dataBarge_other h type other, dataBarge_only h type⟩
      · rw [ingress, if_pos serves]
        exact kget_kset_same ..
      · rw [ingress]
        split
        · exact kget_kset_other _ _ _ other
        · rfl
    · obtain ⟨basin, discards, ingress⟩ := dataBarge_known h type known
      exact ⟨_, h.runs _, basin, discards, fun j other => dataBarge_other h type other, dataBarge_only h type, ingress⟩
  · exact ⟨headerFits_bargeHeader most hi hs hd least, bargeHeader_fields most hi hs hd⟩
  · intro t
    refine ⟨fun lane l b listed serves held => ?_, fun lane b mem => ?_, fun lane l listed serves => ?_, fun lane l' mem => ?_⟩
    · rw [coreStep_ingress running]
      exact (mem_releasedRow hi).mpr ⟨l, listed, serves, held, nofun⟩
    · rw [coreStep_ingress running] at mem
      exact (mem_releasedRow hi).mp mem
    · refine ⟨_, mem_coreStep_lanes.mpr ⟨l, listed, rfl, fun empty => ?_⟩⟩
      exact absurd (serves.symm.trans (congrArg Lane.bring empty :)) nofun
    · obtain ⟨l, listed, rfl, -⟩ := mem_coreStep_lanes.mp mem
      exact ⟨l, listed, rfl, release_rows s.nrn l hi⟩
  · rw [turn_turn, rsDecode_rsEncode]

end Sys2Proof
end

section
/-! SUPPORT. The defects of a lane (R189 to R191): what a run registers on a running lane, how a DEG interval is classed, and what the
tick makes of what was registered. -/

namespace Sys2Proof.Machine

open Sys2Proof

/-- An effect under a condition that the lane meets. -/
theorem modLane_guarded {s : State} {lane : Nat} {p : Lane → Prop} [DecidablePred p] {f : Lane → Lane} (h : p (s.lane lane)) :
    s.modLane lane (fun l => if p l then f l else l) = s.modLane lane f := by
  simp [State.modLane, h]

/-- An event with an effect on a running lane under a condition that the lane meets. -/
theorem exec_guarded {c : Instr} {lane : Nat} {s : State} {p : Lane → Prop} [DecidablePred p] {f : Lane → Lane}
    (hc : exec c s = onRunningLane lane s (s.modLane lane (fun l => if p l then f l else l)))
    (inRange : lane < 512) (ticking : s.ticking = true) (h : p (s.lane lane)) : exec c s = .next (s.modLane lane f) := by
  rw [hc, onRunningLane_next inRange ticking, modLane_guarded h]

theorem losDeclare_inService {s : State} {lane : Nat} (serves : (s.lane lane).bring = .inService)
    (run : 2 ≤ (s.lane lane).noSigRun) : losDeclare lane s = s.modLane lane (fun l =>
      { l with losReg := some true, hunter := l.hunter.lose, delin := l.delin.lose }) := by
  simp [losDeclare, serves, Nat.not_lt.mpr run]

/-! ## DEG intervals (R191) -/

/-- A listed value that the map takes to x, not the default, is x in the store mapped. -/
theorem kget_kmap {α : Type} [DecidableEq α] {d x : α} {f : Nat → α → α} {m : KMap α} {i : Nat} (listed : kget d m i ≠ d)
    (mapped : f i (kget d m i) = x) (kept : x ≠ d) : kget d (kmap d f m) i = x := by
  induction m with
  | nil => exact absurd rfl listed
  | cons e m ih =>
    obtain ⟨k, v⟩ := e
    by_cases same : k = i
    · subst same
      have here : f k v = x := by simpa [kget] using mapped
      simp [kmap, kget, here, kept]
    · have tail : kget d ((k, v) :: m) i = kget d m i := if_neg same
      rw [tail] at listed mapped
      rw [← ih listed mapped]
      by_cases gone : f k v = d
      · simp [kmap, gone]
      · simp [kmap, kget, gone, same]

theorem Lane.classDeg_bring (l : Lane) : l.classDeg.bring = l.bring := by
  obtain ⟨_, counted⟩ := l.count_only 12 1
  unfold Lane.classDeg
  rw [counted]
  dsimp only
  (repeat' split) <;> rfl

/-- A lane in service is listed. -/
theorem inService_ne_default {l : Lane} (serves : l.bring = .inService) : l ≠ {} :=
  fun empty => absurd (serves.symm.trans (congrArg Lane.bring empty :)) nofun

theorem endIntervals_lane {s : State} {lane : Nat} (serves : (s.lane lane).bring = .inService)
    (opened : (s.lane lane).degOpen = true)
    (ends : (s.lane lane).degEnd = true ∨ s.nextFrame % degInt (s.lane lane) = 0) :
    (endIntervals s).lane lane = (s.lane lane).classDeg := by
  simp only [State.lane, endIntervals]
  exact kget_kmap (inService_ne_default serves) (if_pos ⟨serves, opened, ends⟩)
    (inService_ne_default ((s.lane lane).classDeg_bring.trans serves))

section
variable {l : Lane} (before : l.degSf = false) (now : l.sfNow = false)
include before now

theorem classDeg_declares (bad : degBad l = true) (reached : degM l ≤ l.badRun + 1) (below : l.badRun < 10)
    (clear : l.deg = false) :
    l.classDeg.degReg = some true ∧ l.classDeg.badRun = l.badRun + 1 ∧ l.classDeg.goodRun = 0 := by
  obtain ⟨_, counted⟩ := l.count_only 12 1
  have run : min 10 (l.badRun + 1) = l.badRun + 1 := Nat.min_eq_right below
  rw [degM] at reached
  simp [Lane.classDeg, before, now, bad, counted, run, degM, reached, clear]

theorem classDeg_clears (good : degBad l = false) (reached : degM l ≤ l.goodRun + 1) (below : l.goodRun < 10)
    (declared : l.deg = true) :
    l.classDeg.degReg = some false ∧ l.classDeg.goodRun = l.goodRun + 1 ∧ l.classDeg.badRun = 0 := by
  have run : min 10 (l.goodRun + 1) = l.goodRun + 1 := Nat.min_eq_right below
  rw [degM] at reached
  simp [Lane.classDeg, before, now, good, run, degM, reached, declared]

end

/-! ## The tick that ends the row (R189) -/

section
variable {l : Lane} {b : Bool}

theorem applyDefects_los (h : l.losReg = some b) : l.applyDefects.los = b := by
  simp [Lane.applyDefects, h]

theorem applyDefects_deg (h : l.degReg = some b) : l.applyDefects.deg = b := by
  simp [Lane.applyDefects, h]

theorem applyDefects_frm (h : l.frmReg = some b) : l.applyDefects.frm = b := by
  simp [Lane.applyDefects, h]

/-- LOS declared cascades, and empties the run of rows in place. -/
theorem applyDefects_cascade (h : l.losReg = some true) : l.applyDefects.loa = true ∧ l.applyDefects.lod = true ∧
    l.applyDefects.lora = true ∧ l.applyDefects.inRun = 0 := by
  simp [Lane.applyDefects, cascade, h]

theorem applyDefects_lora (h : l.loraReg = some true) : l.applyDefects.lora = true := by
  simp [Lane.applyDefects, cascade, h]

end

end Sys2Proof.Machine
end

section
/-! The defects of a lane (R189 to R191). -/

namespace Sys2Proof

open Sys2Proof.Machine

/-- Settles O21: each run registers its defect, an interval at its end is classed by R191, and the tick applies what was registered. -/
theorem laneDefectsRegister : Obligations.LaneDefectsRegister := by
  refine ⟨fun lane s inRange ticking serves => ⟨fun run => ?_, fun los run => ?_, fun run => ?_, fun lora run los loa lod => ?_,
      fun clear late => ?_, fun opened row ends => ?_, endIntervals_lane serves⟩,
    fun l before now => classDeg_declares before now, fun l before now => classDeg_clears before now,
    fun l b => ⟨applyDefects_los, applyDefects_deg, applyDefects_frm, applyDefects_cascade, applyDefects_lora⟩⟩
  · exact (onRunningLane_next inRange ticking).trans (congrArg _ (losDeclare_inService serves run))
  · exact exec_guarded rfl inRange ticking ⟨serves, los, run⟩
  · exact exec_guarded rfl inRange ticking ⟨serves, run⟩
  · exact exec_guarded rfl inRange ticking ⟨serves, lora, run, by simp [los, loa, lod]⟩
  · exact exec_guarded rfl inRange ticking ⟨serves, clear, late⟩
  · exact exec_guarded rfl inRange ticking ⟨serves, opened, row, ends⟩

end Sys2Proof
end

section
/-! SUPPORT. The commands on lanes (R193, R226): the lanes of a run, what the change of one lane leaves of the others, and the three
effects at the row tick. -/

namespace Sys2Proof.Machine

open Sys2Proof

/-! ## The lanes of a run -/

theorem mem_laneRun {w : W64} {i : Nat} : i ∈ laneRun w ↔ fld w 8 0 ≤ i ∧ i < fld w 8 0 + fld w 18 9 := by
  rw [laneRun, List.mem_map]
  constructor
  · rintro ⟨j, hj, rfl⟩
    have := List.mem_range.mp hj
    omega
  · rintro ⟨least, most⟩
    exact ⟨i - fld w 8 0, List.mem_range.mpr (by omega), by omega⟩

theorem laneRun_nodup (w : W64) : (laneRun w).Nodup := List.nodup_range.map (add_right_injective _)

/-- What one element's effect establishes and every element's effect keeps holds after a fold. -/
theorem foldl_establishes {σ β : Type} (P : σ → Prop) (f : σ → β → σ) (keeps : ∀ s b, P s → P (f s b)) {b : β}
    (establishes : ∀ s, P (f s b)) {l : List β} (mem : b ∈ l) (s : σ) : P (l.foldl f s) := by
  obtain ⟨before, after, rfl⟩ := List.append_of_mem mem
  rw [List.foldl_append, List.foldl_cons]
  exact foldl_keeps P f keeps after _ (establishes _)

/-- An effect that is the same once and twice, on every lane of a list. -/
theorem lane_foldl_modLane (g : Lane → Lane) (idem : ∀ l, g (g l) = g l) (ls : List Nat) (s : State) (i : Nat) :
    (ls.foldl (fun s i => s.modLane i g) s).lane i = if i ∈ ls then g (s.lane i) else s.lane i := by
  induction ls generalizing s with
  | nil => rfl
  | cons j ls ih =>
    rw [List.foldl_cons, ih, lane_modLane]
    by_cases here : i = j
    · subst here
      simp [idem]
    · simp [here]

theorem foldl_modLane_onlyLanes (g : Lane → Lane) (ls : List Nat) (s : State) :
    OnlyLanes s (ls.foldl (fun s i => s.modLane i g) s) :=
  foldl_keeps (OnlyLanes s) _ (fun _ i only => only.modLane i g) ls s (.refl s)

theorem lane_free (s : State) (n j : Nat) : ({ s with free := n } : State).lane j = s.lane j := rfl

/-! ## An octet settled (R217, R221) -/

@[simp] theorem lane_modOctet (s : State) (k j : Nat) (f : Octet → Octet) : (s.modOctet k f).lane j = s.lane j := rfl

@[simp] theorem lane_dropVotes (i j : Nat) (s : State) : (dropVotes i s).lane j = s.lane j := rfl

section
variable {P : Lane → Prop} (swaps : ∀ a b : Lane, P a → P (a.swapWith b)) {s : State} {j : Nat} (h : P (s.lane j))
include swaps h

/-- What a lane keeps as it takes another lane's receive pair, it keeps as its octet turns round. -/
theorem swapRx_keepsLane (k : Nat) : P ((swapRx k s).lane j) := by
  refine foldl_keeps (fun t : State => P (t.lane j)) _ (fun t p ht => ?_) _ s h
  rw [lane_modLane]
  split
  · next here =>
    rw [here] at ht
    exact swaps _ _ ht
  · exact ht

theorem setOctet_keepsLane (k : Nat) (f : Octet → Octet) : P ((setOctet k f s).lane j) := by
  unfold setOctet
  dsimp only
  split
  · exact h
  · exact swapRx_keepsLane swaps (s := s.modOctet k f) h k

theorem ite_setOctet_keepsLane (c : Prop) [Decidable c] (k : Nat) (f : Octet → Octet) :
    P ((if c then setOctet k f s else s).lane j) := by
  split
  · exact setOctet_keepsLane swaps h k f
  · exact h

theorem settleOctet_keepsLane (k : Nat) : P ((settleOctet k s).lane j) := by
  refine ite_setOctet_keepsLane swaps ?_ _ k Octet.undecided
  split
  · exact h
  · split
    · exact setOctet_keepsLane swaps h k _
    · exact h

end

/-! ## LANE_ADMIN -/

theorem Lane.toOff_admin (l : Lane) : l.toOff.admin = l.admin := by
  unfold Lane.toOff Lane.leave Lane.takeRecord
  (repeat' split) <;> rfl

theorem Lane.swapWith_admin (a b : Lane) : (a.swapWith b).admin = a.admin := by
  unfold Lane.swapWith
  (repeat' split) <;> rfl

theorem settleOctet_admin (k j : Nat) (s : State) : ((settleOctet k s).lane j).admin = (s.lane j).admin :=
  settleOctet_keepsLane (P := fun l => l.admin = (s.lane j).admin) (fun a b same => (a.swapWith_admin b).trans same) rfl k

/-- Presence and admin state decide what a lane enters, not what its admin state is. -/
theorem admitLane_admin (i j : Nat) (s : State) : ((admitLane i s).lane j).admin = (s.lane j).admin := by
  unfold admitLane
  dsimp only
  split
  · split
    · rw [lane_free, lane_modLane]
      split
      · next here => rw [here]
      · rfl
    · rfl
  · split
    · rfl
    · rw [settleOctet_admin, lane_dropVotes, lane_modLane]
      split
      · next here => rw [Lane.toOff_admin, here]
      · rfl

/-! ## LANE_RESTART -/

theorem Lane.swapWith_off (a b : Lane) (off : a.bring = .off) : (a.swapWith b).bring = .off := by
  rw [Lane.swapWith, if_pos off]
  exact off

/-- A lane in OFF stays there as its octet is settled. -/
theorem settleOctet_off {j : Nat} {s : State} (off : (s.lane j).bring = .off) (k : Nat) :
    ((settleOctet k s).lane j).bring = .off :=
  settleOctet_keepsLane (P := fun l => l.bring = .off) Lane.swapWith_off off k

/-- Lanes taken to OFF one after the other are all OFF at the end. -/
theorem allToOff_off {ls : List Nat} {i : Nat} (mem : i ∈ ls) (s : State) :
    ((ls.foldl (fun s i => settleOctet (i / 8) (dropVotes i (s.modLane i Lane.toOff))) s).lane i).bring = .off := by
  refine foldl_establishes (fun t => (t.lane i).bring = .off) _ (fun t j off => settleOctet_off ?_ _)
    (fun t => settleOctet_off ?_ _) mem s
  · rw [lane_dropVotes, lane_modLane]
    split
    · rfl
    · exact off
  · rw [lane_dropVotes, lane_modLane, if_pos rfl]
    rfl

/-- A lane in OFF is admitted to SIGNAL_WAIT or stays, and no other lane changes. -/
theorem admitLane_of_off {i : Nat} {s : State} (off : (s.lane i).bring = .off) :
    (((admitLane i s).lane i).bring = .off ∨ ((admitLane i s).lane i).bring = .signalWait) ∧
    ∀ j, j ≠ i → (admitLane i s).lane j = s.lane j := by
  unfold admitLane
  dsimp only
  rw [if_pos off, if_pos off]
  split
  · refine ⟨.inr ?_, fun j other => ?_⟩
    · rw [lane_free, lane_modLane, if_pos rfl]
    · rw [lane_free, lane_modLane, if_neg other]
  · exact ⟨.inl off, fun _ _ => rfl⟩

/-- Lanes in OFF, each admitted once: each ends in OFF or SIGNAL_WAIT, and every other lane stays. -/
theorem admitAll_of_off {ls : List Nat} (once : ls.Nodup) {s : State} (off : ∀ j ∈ ls, (s.lane j).bring = .off) (i : Nat) :
    (i ∈ ls → ((ls.foldl (fun s i => admitLane i s) s).lane i).bring = .off ∨
      ((ls.foldl (fun s i => admitLane i s) s).lane i).bring = .signalWait) ∧
    (i ∉ ls → (ls.foldl (fun s i => admitLane i s) s).lane i = s.lane i) := by
  induction ls generalizing s with
  | nil => exact ⟨fun mem => absurd mem List.not_mem_nil, fun _ => rfl⟩
  | cons j ls ih =>
    obtain ⟨fresh, once⟩ := List.nodup_cons.mp once
    obtain ⟨admitted, others⟩ := admitLane_of_off (off j List.mem_cons_self)
    obtain ⟨inside, outside⟩ := ih once (s := admitLane j s) fun k mem => by
      rw [others k (ne_of_mem_of_not_mem mem fresh)]
      exact off k (List.mem_cons_of_mem _ mem)
    rw [List.foldl_cons]
    refine ⟨fun mem => ?_, fun out => ?_⟩
    · obtain rfl | mem := List.mem_cons.mp mem
      · rwa [outside fresh]
      · exact inside mem
    · obtain ⟨other, out⟩ := not_or.mp (List.mem_cons.not.mp out)
      rw [outside out, others i other]

/-! ## The row tick -/

/-- Where one command on lanes waits, the row tick gives it its effect. -/
theorem laneCmdTick_one {r : Run} {s : State}
    (one : s.host.prog.filter (fun x => [0x0501, 0x0502, 0x0504].contains x.cmd.opcode) = [r]) :
    laneCmdTick s = applyLaneCmd r s :=
  congrArg (List.foldl (fun s r => applyLaneCmd r s) s) one

/-- A command on lanes changes no command, no time and no member before it completes. -/
theorem applyLaneCmd_completes (r : Run) (s : State) :
    ∃ u, applyLaneCmd r s = finish r stOk [] u ∧ u.host = s.host ∧ u.time = s.time ∧ u.flight = s.flight := by
  unfold applyLaneCmd
  refine ⟨_, rfl, ?_⟩
  split <;> simp

section
variable {r : Run} {s : State} {i : Nat} (mem : i ∈ laneRun (r.cmd.p 0))
include mem

theorem applyLaneCmd_test (op : r.cmd.opcode = 0x0504) : ((applyLaneCmd r s).lane i).testOn = bit (r.cmd.p 0) 19 := by
  simp only [applyLaneCmd, op, State.lane, finish_frame]
  exact congrArg Lane.testOn ((lane_foldl_modLane (fun l => { l with testOn := bit (r.cmd.p 0) 19 }) (fun _ => rfl) _ s i).trans
    (if_pos mem))

theorem applyLaneCmd_admin (op : r.cmd.opcode = 0x0501) : ((applyLaneCmd r s).lane i).admin = bit (r.cmd.p 0) 19 := by
  simp only [applyLaneCmd, op, State.lane, finish_frame]
  refine foldl_establishes (fun t : State => (t.lane i).admin = bit (r.cmd.p 0) 19) _ (fun t j set => ?_) (fun t => ?_) mem s
  · rw [admitLane_admin, lane_modLane]
    split
    · rfl
    · exact set
  · rw [admitLane_admin, lane_modLane, if_pos rfl]

theorem applyLaneCmd_restart (op : r.cmd.opcode = 0x0502) :
    ((applyLaneCmd r s).lane i).bring = .off ∨ ((applyLaneCmd r s).lane i).bring = .signalWait := by
  simp only [applyLaneCmd, op, State.lane, finish_frame]
  exact (admitAll_of_off (laneRun_nodup _) (fun j mem => allToOff_off mem s) i).1 mem

end

end Sys2Proof.Machine
end

section
/-! The commands on lanes (R193, R226). -/

namespace Sys2Proof

open Sys2Proof.Machine

/-- The lanes of a command exist, and its word holds nothing from bit `top` on (Table 8.9). -/
def LanesGoodTo (top : Nat) (w : W64) : Prop := fld w 18 9 ≠ 0 ∧ fld w 8 0 + fld w 18 9 ≤ 512 ∧ fld w 63 top = 0

section
variable {op top : Nat} {r : Run} {s : State}

/-- The check of the parameters that LANE_ADMIN, LANE_RESTART and LANE_TEST have. -/
theorem laneCheck_iff (size : sizeOk r = true) :
    (!sizeOk r || laneRunBad (r.cmd.p 0) || fld (r.cmd.p 0) 63 top != 0) = false ↔ LanesGoodTo top (r.cmd.p 0) := by
  simp [size, laneRunBad, LanesGoodTo, and_assoc]

/-- LANE_ADMIN, LANE_RESTART and LANE_TEST wait for the row tick, or are refused. -/
theorem laneCmd_answers {c : Instr} (h : Held op r s)
    (which : (c = .laneAdmin ∧ op = 0x0501 ∧ top = 20) ∨ (c = .laneRestart ∧ op = 0x0502 ∧ top = 19) ∨
      (c = .laneTest ∧ op = 0x0504 ∧ top = 20)) :
    AnswersWhen (LanesGoodTo top (r.cmd.p 0)) c r s (later r (idle s)) := by
  obtain ⟨rfl, rfl, rfl⟩ | ⟨rfl, rfl, rfl⟩ | ⟨rfl, rfl, rfl⟩ := which
  · exact answersWhen_of_check (execLaneAdmin s) rfl rfl rfl h.has (laneCheck_iff h.size)
  · exact answersWhen_of_check (execLaneRestart s) rfl rfl rfl h.has (laneCheck_iff h.size)
  · exact answersWhen_of_check (execLaneTest s) rfl rfl rfl h.has (laneCheck_iff h.size)

/-- The lanes of a LANE_DEF_CFG with its record waiting for the frame boundary (R193). -/
def degConfigured (r : Run) (s : State) : State :=
  (laneRun (r.cmd.p 0)).foldl (fun s i => s.modLane i (fun l => { l with degNext := some (r.cmd.p 1, r.cmd.p 2) })) s

theorem laneDefCfg_answers (h : Held 0x0520 r s) :
    AnswersWhen (LanesGoodTo 19 (r.cmd.p 0) ∧ degRecOk (r.cmd.p 1) (r.cmd.p 2) = true) .laneDefCfg r s
      (finish r stOk [] (degConfigured r (idle s))) :=
  answersWhen_of_check (execLaneDefCfg s) rfl rfl rfl h.has (by rw [Bool.or_eq_false_iff, laneCheck_iff h.size]; simp)

end

/-- Settles O22: each command checks its lanes at its start, the three of R226 wait for the row tick, and there the change of each lane
of the run outlasts the changes of the lanes after it. -/
theorem laneCommandsAct : Obligations.LaneCommandsAct := by
  refine ⟨fun c op top r s h which => ⟨fun lanes fit rest => ?_, fun bad => ?_⟩, fun r s h lanes fit rest record => ?_,
    fun r s one => ⟨laneCmdTick_one one, applyLaneCmd_completes r s⟩, fun r s i least most => ?_⟩
  · exact (laneCmd_answers h which).1 ⟨lanes, fit, rest⟩
  · refine (laneCmd_answers h which).2 fun ⟨lanes, fit, rest⟩ => ?_
    exact bad.elim lanes (·.elim (Nat.not_lt.mpr fit) (absurd rest))
  · refine ⟨_, (laneDefCfg_answers h).1 ⟨⟨lanes, fit, rest⟩, record⟩, foldl_modLane_onlyLanes .., fun i => ?_⟩
    exact (lane_foldl_modLane (fun l => { l with degNext := some (r.cmd.p 1, r.cmd.p 2) }) (fun _ => rfl) _ (idle s) i).trans
      (if_congr mem_laneRun rfl rfl)
  · have mem := mem_laneRun.mpr ⟨least, most⟩
    exact ⟨applyLaneCmd_test mem, applyLaneCmd_admin mem, applyLaneCmd_restart mem⟩

end Sys2Proof
end

section
/-! SUPPORT. The bring-up of a lane (Table 8.7): what the end of an attempt and the entry to service leave of the lane and of the
other lanes. -/

namespace Sys2Proof.Machine

open Sys2Proof

/-! ## The end of an attempt (R222) -/

theorem failAttempt_lane (lane j : Nat) (s : State) : (failAttempt lane s).lane j =
    if j = lane then { (s.lane lane).toSignalWait with fails := inc16 (s.lane lane).fails } else s.lane j := by
  rw [failAttempt, lane_dropVotes, lane_modLane]

theorem Hunter.fresh_aligned (h : Hunter) : h.fresh.aligned = false := rfl

theorem exec_attemptTimerExpiry {lane d : Nat} {s : State} (inRange : lane < 512) (ticking : s.ticking = true)
    (due : (s.lane lane).attemptDue = some d) (late : d < s.time.rows) (trying : (s.lane lane).bring.trying = true) :
    exec (.attemptTimerExpiry lane) s = .next (failAttempt lane s) := by
  refine (onRunningLane_next inRange ticking).trans (congrArg _ ?_)
  simp only [due]
  exact if_pos ⟨late, trying⟩

/-! ## The first row of a lane in service (R58) -/

@[simp] theorem tribRow_switch (out : List SlotOut) (t : Nat × List W64) (s : State) :
    (tribRow out t s).octets = s.octets ∧ (tribRow out t s).refs = s.refs ∧ (tribRow out t s).fab = s.fab := by
  simp [tribRow, State.modSel]

@[simp] theorem readoutLane_switch (lane : Nat) (s : State) : (readoutLane lane s).octets = s.octets ∧
    (readoutLane lane s).refs = s.refs ∧ (readoutLane lane s).fab.act = s.fab.act := by
  simp [readoutLane, State.modLane]

/-- A lane whose count of what it has sent is n. -/
def Lane.sending (n : Nat) (l : Lane) : Lane := { l with bwTx := n }

/-- Between the two states lane i has sent something at most, and no other lane differs. -/
def OnlySends (i : Nat) (s t : State) : Prop := ∃ n, ∀ j, t.lane j = if j = i then (s.lane i).sending n else s.lane j

theorem onlySends_of_same {i : Nat} {s t : State} (same : ∀ j, t.lane j = s.lane j) : OnlySends i s t :=
  ⟨(s.lane i).bwTx, fun j => (same j).trans (by
    split
    · next here => rw [here]; rfl
    · rfl)⟩

theorem onlySends_modLane {i : Nat} {s t : State} (same : ∀ j, t.lane j = s.lane j) (k : Nat) :
    OnlySends i s (t.modLane i (fun l => { l with bwTx := l.bwTx + k })) :=
  ⟨(t.lane i).bwTx + k, fun j => by rw [lane_modLane, same i, same j]; rfl⟩

theorem readoutLane_lane (lane : Nat) (s : State) : OnlySends lane s (readoutLane lane s) := by
  have tribs (out : List SlotOut) (ts : List (Nat × List W64)) (j : Nat) :
      (ts.foldl (fun s t => tribRow out t s) s).lane j = s.lane j := by simp [State.lane]
  unfold readoutLane
  dsimp only
  split
  · exact onlySends_modLane (tribs _ _) _
  · exact onlySends_of_same (tribs _ _)

@[simp] theorem startRows_switch (lane : Nat) (s : State) : (startRows lane s).octets = s.octets ∧
    (startRows lane s).refs = s.refs ∧ (startRows lane s).fab.act = s.fab.act := by
  unfold startRows
  dsimp only
  split
  · simp
  · exact ⟨rfl, rfl, rfl⟩

theorem startRows_lane (lane : Nat) (s : State) : OnlySends lane s (startRows lane s) := by
  unfold startRows
  dsimp only
  split
  · exact readoutLane_lane lane _
  · exact onlySends_of_same fun _ => rfl

/-- The state in which a lane has just entered service, with the row that it begins to send. -/
def inServiceFrom (lane : Nat) (s : State) : State :=
  startRows lane (s.modLane lane (fun l => l.enterService s.time.frame))

theorem exec_phaseRowsInPlace {lane : Nat} {s : State} (inRange : lane < 512) (ticking : s.ticking = true)
    (phase : (s.lane lane).bring = .phase) (frame : (s.lane lane).goodFrame0 = true) (run : 250 ≤ (s.lane lane).inRun) :
    exec (.phaseRowsInPlace lane) s = .next (inServiceFrom lane s) :=
  (onRunningLane_next inRange ticking).trans (congrArg _ (if_pos ⟨phase, frame, run⟩))

theorem inServiceFrom_lane (lane : Nat) (s : State) : ∃ n, ∀ j, (inServiceFrom lane s).lane j =
    if j = lane then ((s.lane lane).enterService s.time.frame).sending n else s.lane j := by
  obtain ⟨n, lanes⟩ := startRows_lane lane (s.modLane lane (fun l => l.enterService s.time.frame))
  refine ⟨n, fun j => (lanes j).trans ?_⟩
  split
  · rw [lane_modLane, if_pos rfl]
  · next other => rw [lane_modLane, if_neg other]

theorem inServiceFrom_same (lane : Nat) (s : State) : (inServiceFrom lane s).octets = s.octets ∧
    (inServiceFrom lane s).host = s.host ∧ (inServiceFrom lane s).refs = s.refs ∧
    (inServiceFrom lane s).planner = s.planner ∧ (inServiceFrom lane s).fab.act = s.fab.act := by
  simp [inServiceFrom, State.modLane]

/-- A lane that enters service shows no defect (R196). -/
theorem Lane.enterService_bits (l : Lane) (frame n : Nat) : ((l.enterService frame).sending n).bits = 0 := rfl

end Sys2Proof.Machine
end

section
/-! The bring-up of a lane (R222, Table 8.7). -/

namespace Sys2Proof

open Sys2Proof.Machine

/-- Settles O23: each event acts on a lane in its own state; the end of an attempt and the entry to service change their own lane. -/
theorem bringUpFollowsItsTable : Obligations.BringUpFollowsItsTable := by
  intro lane s inRange ticking
  refine ⟨fun wait run => exec_guarded rfl inRange ticking ⟨wait, run⟩, fun v h n adapt margin lv lh ln => ?_,
    fun d due late trying => ?_, fun fault late => exec_guarded rfl inRange ticking ⟨fault, late⟩, fun phase frame run => ?_⟩
  · have eff := exec_guarded (c := .adaptationConverged lane v h n) rfl inRange ticking ⟨adapt, margin⟩
    rwa [Nat.mod_eq_of_lt lv, Nat.mod_eq_of_lt lh, Nat.mod_eq_of_lt ln] at eff
  · refine ⟨_, exec_attemptTimerExpiry inRange ticking due late trying, ?_⟩
    have own := (failAttempt_lane lane lane s).trans (if_pos rfl)
    rw [own]
    exact ⟨rfl, sat_eq_min .., rfl, Hunter.fresh_aligned _, fun j other => (failAttempt_lane lane j s).trans (if_neg other), rfl⟩
  · refine ⟨_, exec_phaseRowsInPlace inRange ticking phase frame run, ?_⟩
    obtain ⟨n, lanes⟩ := inServiceFrom_lane lane s
    rw [(lanes lane).trans (if_pos rfl)]
    exact ⟨rfl, Lane.enterService_bits _ _ n, rfl, rfl, rfl, fun j other => (lanes j).trans (if_neg other), inServiceFrom_same lane s⟩

end Sys2Proof
end

section
/-! SUPPORT. The admission record and the admission (R399, R401): the operations that complete a command, withdraw one or start a role
leave them. -/

namespace Sys2Proof.Machine

open Sys2Proof

/-- Both copies of the admission record, and whether the device is admitted. -/
def State.admission (s : State) : BitVec 512 × BitVec 512 × Bool := (s.flight.adm0, s.flight.adm1, s.flight.admitted)

theorem admission_of_flight {s t : State} (same : t.flight = s.flight) : t.admission = s.admission := by
  rw [State.admission, same, State.admission]

@[simp] theorem portSend_admission (sd : Side) (p : TowPkt) (s : State) : (portSend sd p s).admission = s.admission := by
  unfold portSend portForward
  dsimp only
  cases sd <;> (repeat' split) <;> rfl

@[simp] theorem towSend_admission (type dst : Nat) (payload : List W64) (s : State) :
    (towSend type dst payload s).admission = s.admission := by
  unfold towSend
  dsimp only
  (repeat' split) <;> simp <;> rfl

@[simp] theorem sendReply_admission (k : Key) (r : Reply) (s : State) : (sendReply k r s).admission = s.admission := by
  unfold sendReply
  split
  · exact admission_of_flight (by simp)
  · simp

@[simp] theorem flushDups_admission (k : Key) (r : Reply) (s : State) : (flushDups k r s).admission = s.admission :=
  foldl_same State.admission _ (fun _ _ => sendReply_admission ..) _ _

@[simp] theorem finish_admission (r : Run) (status : Nat) (ws : List W64) (s : State) :
    (finish r status ws s).admission = s.admission := by
  unfold finish completeAt
  rw [flushDups_admission, sendReply_admission]
  exact admission_of_flight (by simp)

@[simp] theorem finishKey_admission (k : Key) (status : Nat) (ws : List W64) (s : State) :
    (finishKey k status ws s).admission = s.admission := by
  unfold finishKey
  split
  · exact finish_admission ..
  · rfl

@[simp] theorem withdrawRun_admission (r : Run) (s : State) : (withdrawRun r s).admission = s.admission :=
  finish_admission ..

@[simp] theorem withdrawRoleRuns_admission (s : State) : (withdrawRoleRuns s).admission = s.admission := by
  refine (foldl_same State.admission _ (fun _ _ => withdrawRun_admission ..) _ _).trans ?_
  split
  · split
    · exact withdrawRun_admission ..
    · rfl
  · rfl

@[simp] theorem startRole_admission (s : State) : (startRole s).admission = s.admission := by
  refine (withdrawRoleRuns_admission _).trans (admission_of_flight ?_)
  (repeat' split) <;> simp

end Sys2Proof.Machine
end

section
/-! SUPPORT. The commands that write the flash or the fuses (R216, R217, R401, R475, R476): what each answers on the engine, and how
each write of the flash ends. -/

namespace Sys2Proof

open Sys2Proof.Machine

/-- A command of the boot engine that the command engine holds finds the flash within reach. -/
theorem flash_reached {op : Nat} {r : Run} {s : State} (h : Held op r s) (boot : bootTargets op = [7])
    (other : op / 256 ≠ 0x0A) : (idle s).reaches 7 [7] = true := by
  obtain ⟨_, _, _, recovery | reach⟩ := h
  · exact absurd recovery other
  · rw [State.engineReaches, boot] at reach
    exact (Bool.and_eq_true_iff.mp reach).2

/-! ## On the engine -/

section
variable {r : Run} {s : State}

theorem fwFloor_answers (h : Held 0x0B12 r s) : AnswersWhen (fld (r.cmd.p 0) 63 6 = 0) .fwFloor r s
    (if s.boot.fwLevel < fld (r.cmd.p 0) 5 0 then finish r stFwCheck [] (idle s)
     else if fld (r.cmd.p 0) 5 0 ≤ s.boot.secFloor then finish r stOk [] (idle s)
     else finish r stOk [] { idle s with boot.secFloor := fld (r.cmd.p 0) 5 0 }) :=
  answersWhen_of_check (execFwFloor s) rfl rfl rfl h.has (by simp [h.size])

theorem fwWrite_answers (img : Option FwImage) (h : Held 0x0B10 r s) :
    AnswersWhen (bufOk (r.cmd.p 0) = true ∧ fld (r.cmd.p 1) 63 24 = 0) (.fwWrite img) r s
      (if s.boot.flash.isSome then finish r stBusy [] (idle s)
       else readBuffer r (r.cmd.p 0).toNat (fld (r.cmd.p 1) 23 0) img beginImage (idle s)) :=
  answersWhen_of_check (execFwWrite img s) rfl rfl rfl h.has (by simp [h.size])

theorem btWrite_answers (buf : Option (List W64)) (h : Held 0x0B20 r s) :
    AnswersWhen (bufOk (r.cmd.p 0) = true) (.btWrite buf) r s
      (if s.boot.flash.isSome then finish r stBusy [] (idle s)
       else readBuffer r (r.cmd.p 0).toNat 262144 buf beginTable (idle s)) :=
  answersWhen_of_check (execBtWrite buf s) rfl rfl rfl h.has (by simp [h.size])

/-- A slot holds an accepted table whose SEQUENCE is above that of the table in use (R216, R217). -/
def Supersedes (ws : List W64) (s : State) : Prop := (s.btGood ws).isSome = true ∧ s.btSeq < btSequence ws

/-- The check of BT_WRITE and of BT_APPLY. -/
theorem tableCheck_iff (ws : List W64) (s : State) :
    ((s.btGood ws).isNone || decide (btSequence ws ≤ s.btSeq)) = false ↔ Supersedes ws s := by
  simp [Supersedes, Option.isNone_eq_false_iff]

theorem not_supersedes {ws : List W64} {s : State} (bad : s.btGood ws = none ∨ btSequence ws ≤ s.btSeq) : ¬ Supersedes ws s := by
  rintro ⟨good, above⟩
  obtain none | below := bad
  · rw [none] at good
    exact absurd good nofun
  · exact absurd above (Nat.not_lt.mpr below)

theorem btApply_answers (h : Held 0x0B21 r s) : AnswersWhen True .btApply r s
    (if (s.btGood (s.btSlot (!s.btInUse))).isNone || decide (btSequence (s.btSlot (!s.btInUse)) ≤ s.btSeq) then
       finish r stBtCheck [] (idle s) else later r (idle s)) :=
  answersWhen_of_check (execBtApply s) rfl rfl rfl h.has (by simp [h.size])

theorem admitMember_answers (h : Held 0x0802 r s) :
    AnswersWhen ((r.cmd.p 0).toNat + 2 ^ 64 * (r.cmd.p 1).toNat = s.boot.uid.toNat) .admitMember r s
      (if s.flight.admitted then finish r stOk [] (idle s)
       else if s.boot.flash.isSome then finish r stBusy [] (idle s)
       else later r { idle s with boot.flash := some { kind := 2, key := r.key } }) :=
  answersWhen_of_check (execAdmit s) rfl rfl rfl h.has (by simp [h.size, idle])

end

/-! ## The slot not in use -/

/-- The slot not in use holds these words; an erased one holds the word 0, which is no table (R216). -/
def slotWritten (ws : List W64) (s : State) : State := if s.btInUse then { s with boot.btA := ws } else { s with boot.btB := ws }

theorem slotWritten_spec (ws : List W64) (s : State) : (slotWritten ws s).boot.flash = s.boot.flash ∧
    (slotWritten ws s).boot.btUse = s.boot.btUse ∧ (slotWritten ws s).btSlot s.btInUse = s.btSlot s.btInUse ∧
    (slotWritten ws s).btSlot (!s.btInUse) = ws ∧ slotWritten ws s = { s with boot := (slotWritten ws s).boot } := by
  unfold slotWritten
  split
  · next used => rw [used]; exact ⟨rfl, rfl, rfl, rfl, rfl⟩
  · next used => rw [eq_false_of_ne_true used]; exact ⟨rfl, rfl, rfl, rfl, rfl⟩

/-! ## The write begins -/

section
variable {r : Run} {s : State} (free : s.boot.flash = none) (reach : s.reaches 7 [7] = true)
include free reach

theorem beginImage_checked (i : FwImage) : beginImage r (some i) s =
    if fwAccepted i s.boot.secFloor && fld (r.cmd.p 1) 23 0 == 128 + fwLength i then
      later r { s with boot.fwB := some badImage, boot.bOk := false, boot.flash := some { kind := 0, key := r.key, img := some i } }
    else finish r stFwCheck [] s := by
  simp [beginImage, free, reach]

theorem beginTable_checked (ws : List W64) : beginTable r (some ws) s =
    if (s.btGood ws).isNone || decide (btSequence ws ≤ s.btSeq) then finish r stBtCheck [] s
    else later r { slotWritten [0] s with boot.flash := some { kind := 1, key := r.key, words := btWords ws } } := by
  simp [beginTable, free, reach, slotWritten]

end

/-! ## The write ends -/

/-- The state in which no write of the flash is in progress. -/
def flashFree (s : State) : State := { s with boot.flash := none }

section
variable {s : State} {j : FlashJob} (job : s.boot.flash = some j)
include job

theorem exec_fwWriteDone (kind : j.kind = 0) (ok : Bool) : exec (.fwWriteDone ok) s = .next (fwWritten ok j s) := by
  change execFwWriteDone ok s = _
  simp [execFwWriteDone, job, kind]

theorem exec_btWriteDone (kind : j.kind = 1) (ok : Bool) : exec (.btWriteDone ok) s = .next (btWritten ok j s) := by
  change execBtWriteDone ok s = _
  simp [execBtWriteDone, job, kind]

theorem exec_admitDone (kind : j.kind = 2) (b : AdmReadback) : exec (.admitDone b) s = .next (admitDone b.second b.first j s) := by
  change execAdmitDone b s = _
  simp [execAdmitDone, job, kind]

end

/-- The flash is within reach once its write is over as it was before. -/
theorem reach_not {s : State} (reach : s.reaches 7 [7] = true) : ¬ (!(flashFree s).reaches 7 [7]) = true :=
  ne_true_of_eq_false (congrArg (!·) reach :)

/-- Both copies hold record a, and the device is admitted (R401). -/
def copiesWritten (a : BitVec 512) (s : State) : State := { s with
  flight.adm0 := a, flight.adm1 := a, flight.admitted := true,
  boot.flash := none, boot.replaced := false, boot.alert := s.boot.st == .failed || s.boot.pwrCycle }

/-- The copy written first holds record a, and the other one, which reads back wrongly, b (R401). -/
def firstFailed (a b : BitVec 512) (s : State) : State :=
  { flashFree s with flight.adm1 := a, flight.adm0 := b, free := s.free + 8 }

/-- The copy written first, which reads back wrongly, holds a, and the other one is not written (R401). -/
def secondFailed (a : BitVec 512) (s : State) : State := { flashFree s with flight.adm1 := a, free := s.free + 8 }

section
variable {s : State} (j : FlashJob) (reach : s.reaches 7 [7] = true)
include reach

theorem fwWritten_reached (ok : Bool) : fwWritten ok j s = finishKey j.key (if ok then stOk else stFwCheck) []
    (if ok then { s with boot.flash := none, boot.fwB := j.img, boot.bOk := true } else { s with boot.flash := none }) := by
  cases ok <;> exact if_neg (reach_not reach)

theorem btWritten_reached (ok : Bool) : btWritten ok j s = finishKey j.key (if ok then stOk else stBtCheck) []
    (if ok then slotWritten j.words (flashFree s) else flashFree s) := by
  cases ok <;> exact if_neg (reach_not reach)

theorem admitDone_written : admitDone true true j s =
    finishKey j.key stOk [] (startRole (copiesWritten (admRecord s.boot.uid s.time.frame) s)) :=
  if_neg (reach_not reach)

theorem admitDone_firstFailed : admitDone true false j s =
    finishKey j.key stBtCheck [] (firstFailed (admRecord s.boot.uid s.time.frame) (freeRecord s) s) :=
  if_neg (reach_not reach)

theorem admitDone_secondFailed (first : Bool) :
    admitDone false first j s = finishKey j.key stBtCheck [] (secondFailed (freeRecord s) s) :=
  if_neg (reach_not reach)

end

section
variable {s : State} (j : FlashJob) (out : s.reaches 7 [7] = false)
include out

theorem fwWritten_unreached (ok : Bool) :
    fwWritten ok j s = finishKey j.key stFunctionDown [] (notReached 7 (flashFree s)) :=
  if_pos (congrArg (!·) out :)

theorem btWritten_unreached (ok : Bool) :
    btWritten ok j s = finishKey j.key stFunctionDown [] (notReached 7 (flashFree s)) :=
  if_pos (congrArg (!·) out :)

theorem admitDone_unreached (second first : Bool) : admitDone second first j s = finishKey j.key stFunctionDown []
    { notReached 7 (flashFree s) with flight.adm1 := freeRecord s, free := s.free + 8 } :=
  if_pos (congrArg (!·) out :)

end

/-! The records are variables here: comparing the record of this device with a field of a state would compute it. -/

/-- The role that follows, and the reply, leave the copies and the admission as they have been written. -/
theorem copiesWritten_end (a : BitVec 512) (s : State) (k : Key) :
    let u := finishKey k stOk [] (startRole (copiesWritten a s))
    u.flight.adm0 = a ∧ u.flight.adm1 = a ∧ u.flight.admitted = true ∧ u.boot.flash = none ∧ u.boot.replaced = false ∧
      u.boot.alert = (s.boot.st == .failed || s.boot.pwrCycle) ∧ u.lanes = s.lanes := by
  intro u
  have kept : u.admission = (copiesWritten a s).admission := by
    rw [finishKey_admission, startRole_admission]
  obtain ⟨boot, lanes⟩ : u.boot = (copiesWritten a s).boot ∧ u.lanes = (copiesWritten a s).lanes := by simp [u]
  simp only [State.admission, Prod.mk.injEq] at kept
  obtain ⟨first, second, admitted⟩ := kept
  rw [boot]
  exact ⟨first, second, admitted, rfl, rfl, rfl, lanes⟩

theorem firstFailed_spec (a b : BitVec 512) (s : State) : (firstFailed a b s).boot.flash = none ∧
    (firstFailed a b s).flight.admitted = s.flight.admitted ∧ (firstFailed a b s).flight.adm1 = a ∧
    (firstFailed a b s).lanes = s.lanes :=
  ⟨rfl, rfl, rfl, rfl⟩

theorem secondFailed_spec (a : BitVec 512) (s : State) : (secondFailed a s).boot.flash = none ∧
    (secondFailed a s).flight.admitted = s.flight.admitted ∧ (secondFailed a s).flight.adm0 = s.flight.adm0 ∧
    (secondFailed a s).lanes = s.lanes :=
  ⟨rfl, rfl, rfl, rfl⟩

end Sys2Proof
end

section
/-! The commands that write the flash or the fuses (R216, R217, R401, R475, R476). -/

namespace Sys2Proof

open Sys2Proof.Machine

section
variable {r : Run} {s : State}

/-- A FW_WRITE that finds the flash free reads its image, on the gateway at once. -/
theorem exec_fwWrite_free {img : Option FwImage} (h : Held 0x0B10 r s) (aligned : bufOk (r.cmd.p 0) = true)
    (rest : fld (r.cmd.p 1) 63 24 = 0) (free : s.boot.flash = none) (own : s.isGateway = true) (up : s.hostUp = true) :
    exec (.fwWrite img) s = .next (beginImage r img (idle s)) := by
  rw [(fwWrite_answers img h).1 ⟨aligned, rest⟩, if_neg (by simp [free]), readBuffer_gateway (s := idle s) _ _ _ _ _ own up]

/-- A BT_WRITE that finds the flash free reads its table, on the gateway at once. -/
theorem exec_btWrite_free {buf : Option (List W64)} (h : Held 0x0B20 r s) (aligned : bufOk (r.cmd.p 0) = true)
    (free : s.boot.flash = none) (own : s.isGateway = true) (up : s.hostUp = true) :
    exec (.btWrite buf) s = .next (beginTable r buf (idle s)) := by
  rw [(btWrite_answers buf h).1 aligned, if_neg (by simp [free]), readBuffer_gateway (s := idle s) _ _ _ _ _ own up]

theorem fwFloor_acts (h : Held 0x0B12 r s) (rest : fld (r.cmd.p 0) 63 6 = 0) : exec .fwFloor s =
    .next (finish r (if s.boot.fwLevel < fld (r.cmd.p 0) 5 0 then stFwCheck else stOk) []
      (if s.boot.fwLevel < fld (r.cmd.p 0) 5 0 ∨ fld (r.cmd.p 0) 5 0 ≤ s.boot.secFloor then idle s
       else { idle s with boot.secFloor := fld (r.cmd.p 0) 5 0 })) := by
  rw [(fwFloor_answers h).1 rest]
  by_cases above : s.boot.fwLevel < fld (r.cmd.p 0) 5 0
  · simp only [above, if_true, true_or]
  · by_cases reached : fld (r.cmd.p 0) 5 0 ≤ s.boot.secFloor <;> simp only [above, reached, if_false, if_true, false_or]

end

/-- A table that does not supersede the one in use by then is not applied (R217). -/
theorem applyTable_refused (x : Run) {u : State} (bad : ¬ Supersedes (u.btSlot (!u.btInUse)) u) :
    applyTable x u = finish x stBtCheck [] u := by
  have none : (u.btGood (u.btSlot (!u.btInUse))).filter
      (fun _ => decide (u.btSeq < btSequence (u.btSlot (!u.btInUse)))) = none := by
    rw [Option.filter_eq_none_iff]
    intro recs good above
    exact bad ⟨Option.isSome_iff_exists.mpr ⟨recs, good⟩, of_decide_eq_true above⟩
  simp only [applyTable, none]

/-- A FW_WRITE of a refused image writes nothing, one of an accepted image begins to write slot B (R475). -/
theorem fwWrite_acts {r : Run} {s : State} {i : FwImage} (h : Held 0x0B10 r s) (aligned : bufOk (r.cmd.p 0) = true)
    (rest : fld (r.cmd.p 1) 63 24 = 0) (free : s.boot.flash = none) (own : s.isGateway = true) (up : s.hostUp = true) :
    (fwAccepted i s.boot.secFloor = false → exec (.fwWrite (some i)) s = .next (finish r stFwCheck [] (idle s))) ∧
    (fwAccepted i s.boot.secFloor = true → fld (r.cmd.p 1) 23 0 = 128 + fwLength i →
      exec (.fwWrite (some i)) s = .next (later r { idle s with
        boot.fwB := some badImage, boot.bOk := false, boot.flash := some { kind := 0, key := r.key, img := some i } })) := by
  rw [exec_fwWrite_free h aligned rest free own up,
    beginImage_checked (s := idle s) free (flash_reached h rfl (by decide))]
  refine ⟨fun bad => ?_, fun good size => ?_⟩
  · rw [if_neg (by simp [idle, bad])]
  · rw [if_pos (by simp [idle, good, size])]

/-- A BT_WRITE of a table that does not supersede the one in use writes nothing, another one begins to write the slot not in use
(R216). -/
theorem btWrite_acts {r : Run} {s : State} {ws : List W64} (h : Held 0x0B20 r s) (aligned : bufOk (r.cmd.p 0) = true)
    (free : s.boot.flash = none) (own : s.isGateway = true) (up : s.hostUp = true) :
    (¬ Supersedes ws s → exec (.btWrite (some ws)) s = .next (finish r stBtCheck [] (idle s))) ∧
    (Supersedes ws s → exec (.btWrite (some ws)) s = .next (later r { slotWritten [0] (idle s) with
      boot.flash := some { kind := 1, key := r.key, words := btWords ws } })) := by
  have check := tableCheck_iff ws (idle s)
  rw [exec_btWrite_free h aligned free own up, beginTable_checked (s := idle s) free (flash_reached h rfl (by decide))]
  refine ⟨fun bad => ?_, fun above => ?_⟩
  · rw [if_pos ((Bool.not_eq_false _).mp fun good => bad (check.mp good))]
  · rw [if_neg (ne_true_of_eq_false (check.mpr above))]

/-- A BT_APPLY of a table that supersedes the one in use waits for the tick (R217). -/
theorem btApply_acts {r : Run} {s : State} (h : Held 0x0B21 r s) :
    (¬ Supersedes (s.btSlot (!s.btInUse)) s → exec .btApply s = .next (finish r stBtCheck [] (idle s))) ∧
    (Supersedes (s.btSlot (!s.btInUse)) s → exec .btApply s = .next (later r (idle s))) := by
  have check := tableCheck_iff (s.btSlot (!s.btInUse)) s
  rw [(btApply_answers h).1 trivial]
  refine ⟨fun bad => ?_, fun above => ?_⟩
  · rw [if_pos ((Bool.not_eq_false _).mp fun good => bad (check.mp good))]
  · rw [if_neg (ne_true_of_eq_false (check.mpr above))]

/-- Settles O52: each command passes its checks in their order and begins its write, of the slot not in use (log entry 26), and each
write ends as its readback says, or with ST_FUNCTION_DOWN out of reach (log entry 116). -/
theorem flashCommandsAct : Obligations.FlashCommandsAct := by
  intro r s
  refine ⟨fwFloor_acts, fun img h aligned rest => ⟨fun busy => ?_, fun i given free own up => ?_⟩, fun ok j job kind reach => ?_,
    fun buf h aligned => ⟨fun busy => ?_, fun ws given free own up => ?_⟩, fun ok j job kind reach => ?_,
    fun h => ⟨fun good above => (btApply_acts h).2 ⟨good, above⟩, fun bad => (btApply_acts h).1 (not_supersedes bad)⟩,
    fun x u bad => applyTable_refused x (not_supersedes bad), fun h names => ?_, fun j job kind reach => ⟨?_, ?_, fun first => ?_⟩,
    fun ok b j job out => ⟨fun kind => ?_, fun kind => ?_, fun kind => ?_⟩⟩
  · rw [(fwWrite_answers img h).1 ⟨aligned, rest⟩, if_pos busy]
  · obtain ⟨refused, written⟩ := fwWrite_acts (i := i) h aligned rest free own up
    rw [given]
    exact ⟨refused, fun good size => ⟨_, written good size, rfl, rfl, rfl, rfl, rfl⟩⟩
  · rw [exec_fwWriteDone job kind, fwWritten_reached j reach]
  · rw [(btWrite_answers buf h).1 aligned, if_pos busy]
  · obtain ⟨refused, written⟩ := btWrite_acts (ws := ws) h aligned free own up
    obtain ⟨_, use, used, _, only⟩ := slotWritten_spec [0] (idle s)
    rw [given]
    refine ⟨fun bad => refused (not_supersedes bad), fun good above => ⟨_, written ⟨good, above⟩, rfl, used, use, ?_⟩⟩
    rw [only]
    exact ⟨rfl, rfl⟩
  · obtain ⟨flash, _, used, other, only⟩ := slotWritten_spec j.words (flashFree s)
    refine ⟨_, (exec_btWriteDone job kind ok).trans (congrArg _ (btWritten_reached j reach ok)), ?_⟩
    cases ok
    · exact ⟨rfl, rfl, rfl, rfl⟩
    · exact ⟨flash, used, other, only⟩
  · rw [(admitMember_answers h).1 names]
    refine ⟨fun admitted => ?_, fun out busy => ?_, fun out free => ?_⟩
    · rw [if_pos admitted]
    · rw [if_neg (by simp [out]), if_pos busy]
    · rw [if_neg (by simp [out]), if_neg (by simp [free])]
      rfl
  · exact ⟨_, (exec_admitDone job kind _).trans (congrArg _ (admitDone_written j reach)), copiesWritten_end _ s j.key⟩
  · exact ⟨_, (exec_admitDone job kind _).trans (congrArg _ (admitDone_firstFailed j reach)), firstFailed_spec _ _ s⟩
  · exact ⟨_, (exec_admitDone job kind _).trans (congrArg _ (admitDone_secondFailed j reach first)), secondFailed_spec _ s⟩
  · exact ⟨_, (exec_fwWriteDone job kind ok).trans (congrArg _ (fwWritten_unreached j out ok)), by simp [flashFree]⟩
  · exact ⟨_, (exec_btWriteDone job kind ok).trans (congrArg _ (btWritten_unreached j out ok)), by simp [flashFree]⟩
  · exact ⟨_, (exec_admitDone job kind b).trans (congrArg _ (admitDone_unreached j out ..)), by simp [flashFree]⟩

end Sys2Proof
end

section
/-! SUPPORT. The start of SERVICES (Table 18.6) on a device one of whose lanes is in bring-up already. -/

namespace Sys2Proof

open Sys2Proof.Machine

/-- A key that a store does not list reads as the default. -/
theorem kget_unlisted {α : Type} {d : α} {m : KMap α} {i : Nat} (unlisted : ∀ e ∈ m, e.1 ≠ i) : kget d m i = d := by
  induction m with
  | nil => rfl
  | cons e m ih =>
    rw [kget, if_neg (unlisted e List.mem_cons_self)]
    exact ih fun x mem => unlisted x (List.mem_cons_of_mem _ mem)

/-- A lane that is in OFF and is not to be brought up stays as it is (Table 8.7). -/
theorem admitLane_absent {i : Nat} {s : State} (absent : (s.lane i).present = false) (off : (s.lane i).bring = .off) :
    admitLane i s = s := by
  simp [admitLane, absent, off]

/-- Elements that have no effect on a state leave it. -/
theorem foldl_stays {σ β : Type} {f : σ → β → σ} {s : σ} {l : List β} (stays : ∀ b ∈ l, f s b = s) : l.foldl f s = s := by
  induction l with
  | nil => rfl
  | cons b l ih =>
    rw [List.foldl_cons, stays b List.mem_cons_self]
    exact ih fun x mem => stays x (List.mem_cons_of_mem _ mem)

/-- A device in PHASE whose octet 0 has found its receive order reversed (R219). Lane 0, present and admitted, is in ALIGN; lane 7, whose
receive pair lane 0 takes when the order is given up, is in ADAPT and not present. -/
def reversedOctet : State := { State.reset with
  boot.st := .phase, time.frame := 1, octets := [(0, { cfg := 2, rxOrder := some true })],
  lanes := [(0, { recW1 := 1, admin := true, bring := .align, offSeen := true }), (7, { bring := .adapt, offSeen := true })] }

/-- The device once each lane of octet 0 has been admitted or taken to OFF. -/
def octetAdmitted : State :=
  (List.range 8).foldl (fun s i => admitLane i s) (adminDefault { reversedOctet with boot.st := .services })

theorem octetAdmitted_lanes : ∀ e ∈ octetAdmitted.lanes, e.1 < 8 := by decide

/-- Lane 7 has gone to OFF, so that the octet has given its order up and lane 0 waits for a signal on the pair that was lane 7's (R221). -/
theorem octetAdmitted_lane : (octetAdmitted.lane 0).bring = .signalWait := by decide

theorem beginServices_reversedOctet : beginServices reversedOctet = octetAdmitted := by
  rw [beginServices, show (512 : Nat) = 8 + 504 from rfl, List.range_add, List.foldl_append]
  refine foldl_stays fun i mem => ?_
  obtain ⟨j, _, rfl⟩ := List.mem_map.mp mem
  have unlisted : octetAdmitted.lane (8 + j) = {} := kget_unlisted fun e listed => by
    have := octetAdmitted_lanes e listed
    omega
  exact admitLane_absent (s := octetAdmitted) (congrArg Lane.present unlisted) (congrArg Lane.bring unlisted)

theorem exec_phaseFixed_reversedOctet : exec .phaseFixed reversedOctet = .next octetAdmitted := by
  rw [← beginServices_reversedOctet]
  rfl

end Sys2Proof
end

section
/-! The start of SERVICES brings up the lanes of a device (R471, Table 18.6). -/

namespace Sys2Proof

open Sys2Proof.Machine

/-- Refutes O54: its clause on PHASE_FIXED has no premise that the lanes are in OFF before SERVICES begins, and claims that a lane already
in bring-up keeps its state. Lane 0 of `reversedOctet` does not: as lane 7 goes to OFF, the octet gives up its reversed receive order, and
lane 0 goes from ALIGN to SIGNAL_WAIT on its other pair. -/
theorem not_startUpRunsThroughItsStates : ¬ Obligations.StartUpRunsThroughItsStates := by
  intro h
  obtain ⟨_, _, _, _, _, _, fixed, _⟩ := h reversedOctet
  obtain ⟨t, next, admitted, _⟩ := fixed rfl (by decide)
  rw [exec_phaseFixed_reversedOctet] at next
  obtain rfl : octetAdmitted = t := Host.Outcome.next.inj next
  obtain ⟨kept, _⟩ := admitted 0 (by decide)
  have align : (octetAdmitted.lane 0).bring = .align := kept (by decide) (.inr (by decide)) (by decide)
  exact absurd (octetAdmitted_lane.symm.trans align) nofun

end Sys2Proof
end

section
/-! SUPPORT. The commands of the references and of the timing functions (R248, R260, R271, R275, R278, R280, R281, R285): what each answers
where the command engine holds it. -/

namespace Sys2Proof

open Sys2Proof.Machine

/-! ## Their parameters -/

/-- A REF_CFG names one to 25 existing inputs and has a record for each, whose ranges it keeps (Table 9.9). -/
def RefCfgGood (r : Run) : Prop :=
  fld (r.cmd.p 0) 63 10 = 0 ∧ fld (r.cmd.p 0) 9 5 ≠ 0 ∧ fld (r.cmd.p 0) 4 0 + fld (r.cmd.p 0) 9 5 ≤ 25 ∧
  r.cmd.length = 8 * (1 + 2 * fld (r.cmd.p 0) 9 5) ∧ ∀ x ∈ refRecords r, inputRecOk x.1 x.2.1 x.2.2 = true

/-- The configuration records of the inputs as they will be with a REF_CFG behind those that wait (R260). -/
def refsWith (r : Run) (s : State) : List (Nat × W64) :=
  (projectedRefs s).map (fun x => match (refRecords r).find? (fun y => y.1 == x.1) with | some y => (y.1, y.2.1) | none => x)

/-- A REF_SELECT holds a known operation and an existing input, 0 for AUTO (Table 9.9). -/
def RefSelectGood (w : W64) : Prop := fld w 63 8 = 0 ∧ fld w 2 0 ≤ 4 ∧ fld w 7 3 ≤ 24 ∧ (fld w 2 0 = 0 → fld w 7 3 = 0)

/-- A P_STEER holds two frequencies of the range of p (Table 10.6). -/
def SteerGood (w v : W64) : Prop := fld w 63 32 = 0 ∧ pOk (fld w 31 0) = true ∧ pOk (fld v 31 0) = true

/-- An OUT_REALIGN of MODE 1 names an input, or 31, and no amount; one of MODE 0 names no input (R281). -/
def OutRealignGood (w v : W64) : Prop :=
  fld w 63 6 = 0 ∧ (bit w 0 = true → v = 0 ∧ (fld w 5 1 < 25 ∨ fld w 5 1 = 31)) ∧ (bit w 0 = false → fld w 5 1 = 0)

/-- An OUT_CFG names an output, and its record keeps the ranges and the links (R285). -/
def OutCfgGood (w v u : W64) (s : State) : Prop :=
  fld w 63 5 = 0 ∧ fld w 4 0 ≤ 21 ∧ outRecOk (fld w 4 0) v u = true ∧ outLinksOk (fld w 4 0) v u s = true

/-- A REALIGN of MODE 0 holds a frame number and a gap (Table 10.9). -/
def RealignTo (w v u : W64) : Prop :=
  fld w 63 6 = 0 ∧ bit w 0 = false ∧ fld w 5 1 = 0 ∧ fld v 63 48 = 0 ∧ fld v 47 0 ≠ 0 ∧ fld u 63 27 = 0 ∧ fld u 26 0 ≤ 124999999

/-! ## What each answers -/

section
variable {r : Run} {s : State}

theorem refCfg_answers (h : Held 0x0601 r s) :
    AnswersWhen (RefCfgGood r ∧ lanesClash (refsWith r s) = false) .refCfg r s (later r (idle s)) :=
  answersWhen_of_check (execRefCfg s) rfl rfl rfl h.has (by
    change (_ || lanesClash (refsWith r s)) = false ↔ _
    simp [RefCfgGood, and_assoc])

theorem refSelect_answers (h : Held 0x0602 r s) :
    AnswersWhen (RefSelectGood (r.cmd.p 0)) .refSelect r s
      (if (fld (r.cmd.p 0) 2 0 = 1 ∧ eligible (fld (r.cmd.p 0) 7 3) (idle s) = false) ∨
          (fld (r.cmd.p 0) 2 0 = 2 ∧ forcible (fld (r.cmd.p 0) 7 3) (idle s) = false)
        then finish r stRefRefused [] (idle s) else later r (idle s)) :=
  answersWhen_of_check (execRefSelect s) rfl rfl rfl h.has (by simp [RefSelectGood, h.size, and_assoc])

theorem dpllCfg_answers (h : Held 0x0604 r s) :
    AnswersWhen (chanFRecOk (r.cmd.p 0) (r.cmd.p 1) = true ∧ localoscKhz (r.cmd.p 1) = localoscKhz s.f.recW1) .dpllCfg r s
      (later r (idle s)) :=
  answersWhen_of_check (execDpllCfg s) rfl rfl rfl h.has (by simp [h.size, idle])

theorem fSoft_answers (h : Held 0x0606 r s) :
    AnswersWhen (fld (r.cmd.p 0) 63 1 = 0) .fSoft r s (later r (idle s)) :=
  answersWhen_of_check (execFSoft s) rfl rfl rfl h.has (by simp [h.size])

theorem fFreq_answers (h : Held 0x0607 r s) :
    AnswersWhen (fld (r.cmd.p 0) 63 32 = 0 ∧ -10000000 ≤ sgn 32 (fld (r.cmd.p 0) 31 0) ∧
        sgn 32 (fld (r.cmd.p 0) 31 0) ≤ 10000000 ∧ s.f.software = true) .fFreq r s
      (later r { idle s with f.ffreqRow := s.time.rows }) :=
  answersWhen_of_check (execFFreq s) rfl rfl rfl h.has (by simp [h.size, idle, and_assoc])

theorem pSteer_answers (h : Held 0x0609 r s) :
    AnswersWhen (SteerGood (r.cmd.p 0) (r.cmd.p 1)) .pSteer r s (later r (idle s)) :=
  answersWhen_of_check (execPSteer s) rfl rfl rfl h.has (by simp [SteerGood, h.size, and_assoc])

theorem outRealign_answers (h : Held 0x060D r s) :
    AnswersWhen (OutRealignGood (r.cmd.p 0) (r.cmd.p 1)) .outRealign r s (later r (idle s)) :=
  answersWhen_of_check (execOutRealign s) rfl rfl rfl h.has (by
    cases mode : bit (r.cmd.p 0) 0 <;> simp [OutRealignGood, h.size, mode, or_iff_not_imp_left])

theorem outCfg_answers (h : Held 0x060B r s) :
    AnswersWhen (OutCfgGood (r.cmd.p 0) (r.cmd.p 1) (r.cmd.p 2) s) .outCfg r s
      (finish r stOk [] { idle s with outs.next :=
        (fld (r.cmd.p 0) 4 0, r.cmd.p 1, r.cmd.p 2) :: s.outs.next.filter (fun x => x.1 != fld (r.cmd.p 0) 4 0) }) :=
  answersWhen_of_check (execOutCfg s) rfl rfl rfl h.has (by
    have links : outLinksOk (fld (r.cmd.p 0) 4 0) (r.cmd.p 1) (r.cmd.p 2) (idle s) =
      outLinksOk (fld (r.cmd.p 0) 4 0) (r.cmd.p 1) (r.cmd.p 2) s := rfl
    simp [OutCfgGood, h.size, links, and_assoc])

theorem timeCfg_answers (h : Held 0x060F r s) :
    AnswersWhen (timeRecOk (r.cmd.p 0) (r.cmd.p 1) = true) .timeCfg r s
      (finish r stOk [] { idle s with time.timeW0 := r.cmd.p 0, time.timeW1 := r.cmd.p 1 }) :=
  answersWhen_of_check (execTimeCfg s) rfl rfl rfl h.has (by simp [h.size])

/-- A REALIGN of MODE 0 fixes the number and the gap that it holds (R278). -/
theorem realign_fixes (h : Held 0x060C r s) (good : RealignTo (r.cmd.p 0) (r.cmd.p 1) (r.cmd.p 2)) :
    exec .realign s = .next (fixRealign r (fld (r.cmd.p 1) 47 0) (fld (r.cmd.p 2) 26 0) false (idle s)) := by
  obtain ⟨rest, mode, ref, high, number, top, gap⟩ := good
  obtain ⟨held, op, reach⟩ := h.has
  rw [exec, execRealign, onEngine_held held op reach]
  simp [h.size, rest, mode, ref, high, number, top, Nat.not_lt.mpr gap, idle]

end

end Sys2Proof
end

section
/-! The commands of the timing functions, and their effect at the tick (R248, R260, R271, R275, R281, R285). -/

namespace Sys2Proof

open Sys2Proof.Machine

section
variable {r : Run} {s : State}

/-- The effect of a REF_SELECT MANUAL (R248 step 1). -/
theorem applyRef_manual (op : r.cmd.opcode = 0x0602) (manual : fld (r.cmd.p 0) 2 0 = 1) :
    applyRef r s = finish r stOk [] { s with f.mode := .manual, f.named := fld (r.cmd.p 0) 7 3 } := by
  simp [applyRef, op, manual]

/-- The effect of a DPLL_CFG (R248 step 1). -/
theorem applyRef_dpllCfg (op : r.cmd.opcode = 0x0604) :
    applyRef r s = finish r stOk [] { s with f.recW0 := r.cmd.p 0, f.recW1 := r.cmd.p 1 } := by
  simp [applyRef, op]

/-- The effect of a P_STEER that ends (R271). -/
theorem applySteer_ends (lasts : fld (r.cmd.p 1) 63 32 ≠ 0) : applySteer r s = finish r stOk [] { s with
    p.freq := sgn 32 (fld (r.cmd.p 0) 31 0), p.after := sgn 32 (fld (r.cmd.p 1) 31 0),
    p.steerDue := some (s.time.rows + 250 * fld (r.cmd.p 1) 63 32) } := by
  simp [applySteer, lasts]

/-- The effect of an F_FREQ while the loop is open (R275). -/
theorem applySoft_fFreq (op : r.cmd.opcode = 0x0607) (open_ : s.f.software = true) : applySoft r s =
    finish r stOk [] { s with f.target := 10 * sgn 32 (fld (r.cmd.p 0) 31 0), f.ffreqRow := r.row } := by
  simp [applySoft, op, open_]

end

/-- Settles O30: each command checks its parameters at its start and joins those in progress; what it does at the tick is what the lemma
on its application says. -/
theorem timingCommandsWaitForTheTick : Obligations.TimingCommandsWaitForTheTick := by
  intro r s w wait
  refine ⟨fun h rest some_ fit length records clash => ?_, fun h rest op input auto => ⟨fun manual forced => ?_, fun manual bad => ?_⟩,
    fun h record osc => ?_, fun h rest => ?_, fun h rest least most open_ => ?_, fun h rest now after => ?_,
    fun h rest named amount => ?_, applyRef_manual, applyRef_dpllCfg, applySteer_ends, applySoft_fFreq⟩
  · exact (refCfg_answers h).1 ⟨⟨rest, some_, fit, length, records⟩, clash⟩
  · rw [(refSelect_answers h).1 ⟨rest, op, input, auto⟩, if_neg]
    · rfl
    · rintro (⟨one, bad⟩ | ⟨two, bad⟩)
      · exact absurd ((manual one).symm.trans bad) nofun
      · exact absurd ((forced two).symm.trans bad) nofun
  · rw [(refSelect_answers h).1 ⟨rest, op, input, auto⟩, if_pos (.inl ⟨manual, bad⟩)]
  · exact (dpllCfg_answers h).1 ⟨record, osc⟩
  · exact (fSoft_answers h).1 rest
  · exact (fFreq_answers h).1 ⟨rest, least, most, open_⟩
  · exact (pSteer_answers h).1 ⟨rest, now, after⟩
  · exact (outRealign_answers h).1 ⟨rest, named, amount⟩

end Sys2Proof
end

section
/-! Channel F's own events (R254 to R258, R276): the end of an open software loop by its timeout. -/

namespace Sys2Proof

open Sys2Proof.Machine

/-- A software loop closed leaves channel F in its state: the transition follows with the row tick (R276, log entry 22). -/
theorem closeSoft_state (cause : Nat) (s : State) : (closeSoft cause s).f.state = s.f.state := by
  simp only [closeSoft]
  (repeat' split) <;> simp

theorem exec_softLoopTimeout {s : State} (open_ : s.f.software = true) (late : s.f.ffreqRow + swTimeoutRows s < s.time.rows) :
    exec .softLoopTimeout s = .next (closeSoft 1 s) := by
  have due : (s.f.software && decide (s.f.ffreqRow + swTimeoutRows s < s.time.rows)) = true := by simp [open_, late]
  exact congrArg _ (if_pos due)

/-- Software closes the loop on lane input 8 while channel F is in FREE_RUN, and has given no frequency for a row more than the reset
value of SW_TIMEOUT. -/
def staleLoop : State := { State.reset with f.software := true, f.selected := some 8, time.rows := 4000001 }

/-- Refutes O28: its last clause takes channel F to ACQUIRING in SOFT_LOOP_TIMEOUT itself, where an input is selected. The command only
closes the loop, and the row tick that follows makes the transition: `staleLoop` is in FREE_RUN before the command and after it. -/
theorem not_channelFMoves : ¬ Obligations.ChannelFMoves := by
  intro h
  obtain ⟨_, _, _, _, _, _, timeout⟩ := h staleLoop
  obtain ⟨t, next, _, _, acquires, _⟩ := timeout rfl (by decide)
  rw [exec_softLoopTimeout rfl (by decide)] at next
  obtain rfl : closeSoft 1 staleLoop = t := Host.Outcome.next.inj next
  have acquiring : (closeSoft 1 staleLoop).f.state = .acquiring := acquires nofun
  exact absurd ((closeSoft_state 1 staleLoop).symm.trans acquiring) nofun

end Sys2Proof
end

section
/-! SUPPORT. The events of an input (R235 to R243): what each registers, and what the tick that ends the row makes of it. -/

namespace Sys2Proof.Machine

open Sys2Proof

/-! ## Messages (R235, R237, R238) -/

section
variable {n : Nat} {m : RefMsg} {p : List (BitVec 8)} {s : State}

/-- Whichever of the three commands brings a message, what it proves to be counts. -/
theorem exec_refmsg {c : Instr} (pin : n < 8) (ticking : s.ticking = true)
    (which : c = .refmsgQl n m ∨ c = .refmsgTod n m ∨ c = .refmsgBad n m) : exec c s = .next (refMessage n m s) := by
  have onPin_next : onPin n s (refMessage n m s) = .next (refMessage n m s) := by simp [onPin, pin, ticking]
  obtain rfl | rfl | rfl := which <;> exact onPin_next

theorem refMessage_ql (good : refMsg m = some (1, p)) (live : (s.input n).q ≠ .off) (takes : (s.input n).msgMode ≠ 0) :
    refMessage n m s = s.modInput n (fun i =>
      { i with qlNew := some (fld (p.getD 0 0) 3 0, (p.getD 1 0).toNat), qlSeen := true, qlRow := s.time.rows,
               absentHit := false }) := by
  simp [refMessage, good, qlMessage, live, takes]

theorem refMessage_tod (good : refMsg m = some (2, p)) (live : (s.input n).q ≠ .off) (takes : (s.input n).msgMode = 2) :
    refMessage n m s = s.modInput n (fun i =>
      i.addTod { sec := ofBeBytes (p.take 6), valid := bit (p.getD 6 0) 0, row := s.time.rows }) := by
  simp [refMessage, good, live, takes]

theorem refMessage_bad (bad : refMsg m = none) :
    refMessage n m s = s.modInput n (fun i => { i with msgBad := min 65535 (i.msgBad + 1) }) := by
  simp [refMessage, bad, msgBad, inc16, sat_eq_min]

end

/-! ## Timers and activity (R236, R240, R243) -/

section
variable {n : Nat} {s : State}

theorem onInput_next (inRange : n < 25) (t : State) : onInput n t = .next t := if_pos inRange

theorem exec_qlMessageAbsent (inRange : n < 25) (live : (s.input n).q ≠ .off) (takes : (s.input n).msgMode ≠ 0)
    (good : (s.input n).qlFailed = false) (none_ : (s.input n).qlNew = none) (due : (s.input n).qlRow + 10000000 ≤ s.time.rows) :
    exec (.qlMessageAbsent n) s = .next (s.modInput n (fun i => { i with absentHit := true })) :=
  (onInput_next inRange _).trans (congrArg _ (if_pos ⟨live, takes, good, none_, due⟩))

theorem exec_inputActivityChange {obs : ActivityObs} {a : Bool} (inRange : n < 25) (shown : observed n obs s = some a)
    (live : (s.input n).q ≠ .off) (first : (s.input n).actNew = none) (change : (s.input n).active = !a) :
    exec (.inputActivityChange n obs) s =
      .next (s.modInput n (fun i => { i with actNew := some a, dirtySec := i.dirtySec || !a })) := by
  refine (onInput_next inRange _).trans (congrArg _ ?_)
  simp [shown, live, first, change]

theorem exec_refWtrExpiry {d : Nat} (inRange : n < 25) (timer : (s.input n).wtrDue = some d) (due : d ≤ s.time.rows)
    (restoring : (s.input n).q = .restoring) :
    exec (.refWtrExpiry n) s = .next (s.modInput n (fun i => { i with wtrHit := true })) := by
  refine (onInput_next inRange _).trans (congrArg _ ?_)
  simp [timer, due, restoring]

theorem exec_holdoffExpiry {d : Nat} (inRange : n < 25) (timer : (s.input n).holdoffDue = some d) (due : d ≤ s.time.rows)
    (holds : (s.input n).q = .holdoff) :
    exec (.holdoffExpiry n) s = .next (s.modInput n (fun i => { i with holdHit := true })) := by
  refine (onInput_next inRange _).trans (congrArg _ ?_)
  simp [timer, due, holds]

end

/-! ## The tick that ends the row (R248 step 2) -/

/-- The codes of an input and its QL-FAILED (R235, R236). -/
def Input.codes (i : Input) : Nat × Nat × Bool := (i.ssm, i.essm, i.qlFailed)

section
variable {i : Input} {n now : Nat} {sel : Bool}

/-- An activity change leaves the codes. -/
theorem Input.activity_codes (act : Bool) : (i.activity n act sel now).codes = i.codes := by
  unfold Input.activity
  cases act <;> (dsimp only [Bool.false_eq_true, if_true, if_false]; (repeat' split) <;> rfl)

theorem Input.actTick_codes : (i.actTick n sel now).codes = i.codes := by
  unfold Input.actTick
  (repeat' split) <;> simp [Input.activity_codes]

/-- Only the messages of the row and the lack of one change the codes. -/
theorem Input.tick_codes (fault : Bool) : (i.tick n fault sel now).codes = i.qlTick.codes := by
  cases fault
  case true => rfl
  case false =>
    refine Eq.trans ?_ (Input.actTick_codes (n := n) (sel := sel) (now := now))
    simp only [Input.tick, Bool.false_eq_true, if_false]
    (repeat' split) <;> rfl

theorem Input.qlTick_message {q : Nat × Nat} (message : i.qlNew = some q) : i.qlTick.codes = (q.1, q.2, false) := by
  simp [Input.qlTick, message, Input.codes]

theorem Input.qlTick_absent (none_ : i.qlNew = none) (absent : i.absentHit = true) :
    i.qlTick.codes = (i.ssm, i.essm, true) := by
  simp [Input.qlTick, none_, absent, Input.codes]

/-- The messages of the row leave the rest of an input. -/
theorem Input.qlTick_only : i.qlTick = { i with ssm := i.qlTick.ssm, essm := i.qlTick.essm, qlFailed := i.qlTick.qlFailed } := by
  unfold Input.qlTick
  (repeat' split) <;> rfl

/-- A LOCALOSC fault leaves the state of an input (R256). -/
theorem Input.tick_fault : (i.tick n true sel now).q = i.q := by
  simp only [Input.tick, if_true]
  rw [Input.qlTick_only]

theorem Input.tick_holdoff (first : i.actNew = none) (inactive : i.active = false) (holds : i.q = .holdoff)
    (hit : i.holdHit = true) : (i.tick n false sel now).q = .failed ∧ (i.tick n false sel now).holdoffDue = none := by
  have quiet : i.qlTick.actTick n sel now = i.qlTick := by
    rw [Input.qlTick_only]
    simp [Input.actTick, first, inactive, holds]
  simp only [Input.tick, Bool.false_eq_true, if_false, quiet]
  rw [Input.qlTick_only]
  simp [holds, hit, Input.enter]

theorem Input.tick_restored (first : i.actNew = none) (active : i.active = true) (restoring : i.q = .restoring)
    (hit : i.wtrHit = true) : (i.tick n false sel now).q = .qualified ∧ (i.tick n false sel now).wtrDue = none := by
  have quiet : i.qlTick.actTick n sel now = i.qlTick := by
    rw [Input.qlTick_only]
    simp [Input.actTick, first, active, restoring]
  simp only [Input.tick, Bool.false_eq_true, if_false, quiet]
  rw [Input.qlTick_only]
  simp [restoring, hit, Input.enter]

end

end Sys2Proof.Machine
end

section
/-! Messages, activity and timers of the reference inputs (R235 to R243, R248). -/

namespace Sys2Proof

open Sys2Proof.Machine

/-- Settles O27: each event registers its own part of its own input, and the tick applies what was registered, codes before states. -/
theorem inputEventsAct : Obligations.InputEventsAct := by
  refine ⟨fun c n m s pin ticking which => ?_, fun n s inRange => ?_, fun i n now fault sel first => ?_⟩
  · rw [exec_refmsg pin ticking which]
    exact ⟨fun p good live takes => congrArg _ (refMessage_ql good live takes),
      fun p good live takes => congrArg _ (refMessage_tod good live takes), fun bad => congrArg _ (refMessage_bad bad)⟩
  · exact ⟨exec_qlMessageAbsent inRange, fun obs a => exec_inputActivityChange inRange, fun d => exec_refWtrExpiry inRange,
      fun d => exec_holdoffExpiry inRange⟩
  · have codes := Input.tick_codes (i := i) (n := n) (now := now) (sel := sel) fault
    refine ⟨fun q message => ?_, fun none_ absent => ?_, ?_, ?_, ?_⟩
    · rw [Input.qlTick_message message] at codes
      simpa [Input.codes] using codes
    · rw [Input.qlTick_absent none_ absent] at codes
      exact congrArg (fun c => c.2.2) codes
    · rintro rfl
      exact Input.tick_fault
    · rintro rfl inactive holds hit
      exact Input.tick_holdoff first inactive holds hit
    · rintro rfl active restoring hit
      exact Input.tick_restored first active restoring hit

end Sys2Proof
end

section
/-! SUPPORT. The inputs after a change of every live input (R248, R261). -/

namespace Sys2Proof.Machine

open Sys2Proof

theorem input_of_refs {s t : State} (same : t.refs = s.refs) (n : Nat) : t.input n = s.input n := by
  rw [State.input, same, State.input]

/-- A fold over distinct inputs, each step of which changes its own input alone: what a step makes of its input stands after the fold. -/
theorem input_foldl_each {g : State → Nat → State} {R : Nat → Input → Input → Prop}
    (own : ∀ s n, R n (s.input n) ((g s n).input n)) (others : ∀ s n k, k ≠ n → (g s n).input k = s.input k) {l : List Nat}
    (once : l.Nodup) (s : State) (n : Nat) :
    (n ∈ l → R n (s.input n) ((l.foldl g s).input n)) ∧ (n ∉ l → (l.foldl g s).input n = s.input n) := by
  induction l generalizing s with
  | nil => exact ⟨nofun, fun _ => rfl⟩
  | cons a l ih =>
    obtain ⟨fresh, once⟩ := List.nodup_cons.mp once
    obtain ⟨inside, outside⟩ := ih once (g s a)
    rw [List.foldl_cons]
    by_cases same : n = a
    · subst same
      exact ⟨fun _ => by rw [outside fresh]; exact own s n, fun out => absurd List.mem_cons_self out⟩
    · rw [others s a n same] at inside outside
      exact ⟨fun mem => inside ((List.mem_cons.mp mem).resolve_left same), fun out => outside fun mem => out (List.mem_cons_of_mem _ mem)⟩

/-- An input after a change of every live input. -/
theorem input_modInputs (f : Nat → Input → Input) (s : State) (n : Nat) : (modInputs f s).input n =
    if n < 25 ∧ (s.input n).q ≠ .off then f n (s.input n) else s.input n := by
  have each := input_foldl_each (g := fun s n => if (s.input n).q = .off then s else s.modInput n (f n))
    (R := fun n i j => j = if i.q = .off then i else f n i)
    (fun s n => by split <;> simp_all) (fun s n k other => by split <;> simp [other]) List.nodup_range (l := List.range 25) s n
  by_cases inRange : n < 25
  · refine (each.1 (List.mem_range.mpr inRange)).trans ?_
    simp [inRange]
  · refine (each.2 (by simpa using inRange)).trans ?_
    simp [inRange]

/-- A part of an input that the change leaves, a change of every live input leaves. -/
theorem modInputs_keeps {β : Type} {f : Nat → Input → Input} (g : Input → β) (same : ∀ n i, g (f n i) = g i) (n : Nat) (s : State) :
    g ((modInputs f s).input n) = g (s.input n) := by
  rw [input_modInputs]
  split
  · exact same ..
  · rfl

end Sys2Proof.Machine
end

section
/-! SUPPORT. What the operations of the references and of channel F (R235 to R258) leave of the rest of the device: the pages, the
selectors, the outputs, channel P, the functions in recovery, the queues; and, where they are no operations on inputs, the inputs. -/

namespace Sys2Proof.Machine

open Sys2Proof

@[simp] theorem foldl_host_sqs {β : Type} (g : State → β → State) (hg : ∀ s b, (g s b).host.sqs = s.host.sqs) (l : List β) (s : State) :
    (l.foldl g s).host.sqs = s.host.sqs := foldl_same (fun s => s.host.sqs) g hg l s

@[simp] theorem ite_sqs (c : Prop) [Decidable c] (a b : HostIf) : (if c then a else b).sqs = if c then a.sqs else b.sqs := by
  split <;> rfl

@[simp] theorem raise_sqs (code : Nat) (payload : List W64) (s : State) : (raise code payload s).host.sqs = s.host.sqs := by
  simp only [raise, deliverEvent, keepEvent]
  (repeat' split) <;> simp

@[simp] theorem input_raise (code : Nat) (payload : List W64) (s : State) (n : Nat) : (raise code payload s).input n = s.input n :=
  input_of_refs (by simp) n

@[simp] theorem raiseSummary_sqs (code : Nat) (objs : List Nat) (detail w5 : Nat) (s : State) :
    (raiseSummary code objs detail w5 s).host.sqs = s.host.sqs := by
  unfold raiseSummary
  split <;> simp

@[simp] theorem setFState_apart (n : FState) (s : State) :
    (setFState n s).refs = s.refs ∧ (setFState n s).f.secRow = s.f.secRow ∧ (setFState n s).f.secFar = s.f.secFar ∧
    (setFState n s).fab = s.fab ∧ (setFState n s).sels = s.sels ∧ (setFState n s).outs = s.outs ∧ (setFState n s).p = s.p ∧
    (setFState n s).rcv = s.rcv ∧ (setFState n s).host.sqs = s.host.sqs := by
  simp only [setFState]
  (repeat' split) <;> simp

@[simp] theorem takeBw_apart (s : State) :
    (takeBw s).refs = s.refs ∧ (takeBw s).f.secRow = s.f.secRow ∧ (takeBw s).f.secFar = s.f.secFar ∧ (takeBw s).fab = s.fab ∧
    (takeBw s).sels = s.sels ∧ (takeBw s).outs = s.outs ∧ (takeBw s).p = s.p ∧ (takeBw s).rcv = s.rcv ∧
    (takeBw s).host.sqs = s.host.sqs := by
  unfold takeBw
  split <;> simp

@[simp] theorem acquire_apart (build : Bool) (s : State) :
    (acquire build s).refs = s.refs ∧ (acquire build s).f.secRow = s.f.secRow ∧ (acquire build s).f.secFar = s.f.secFar ∧
    (acquire build s).fab = s.fab ∧ (acquire build s).sels = s.sels ∧ (acquire build s).outs = s.outs ∧ (acquire build s).p = s.p ∧
    (acquire build s).rcv = s.rcv ∧ (acquire build s).host.sqs = s.host.sqs := by
  simp [acquire]

@[simp] theorem onDie_apart (s : State) :
    (onDie s).refs = s.refs ∧ (onDie s).f.secRow = s.f.secRow ∧ (onDie s).f.secFar = s.f.secFar ∧ (onDie s).fab = s.fab ∧
    (onDie s).sels = s.sels ∧ (onDie s).outs = s.outs ∧ (onDie s).p = s.p ∧ (onDie s).rcv = s.rcv ∧ (onDie s).host.sqs = s.host.sqs := by
  simp [onDie]

@[simp] theorem loseReference_apart (s : State) :
    (loseReference s).refs = s.refs ∧ (loseReference s).f.secRow = s.f.secRow ∧ (loseReference s).f.secFar = s.f.secFar ∧
    (loseReference s).fab = s.fab ∧ (loseReference s).sels = s.sels ∧ (loseReference s).outs = s.outs ∧ (loseReference s).p = s.p ∧
    (loseReference s).rcv = s.rcv ∧ (loseReference s).host.sqs = s.host.sqs := by
  simp only [loseReference]
  (repeat' split) <;> simp

@[simp] theorem closeSoft_apart (cause : Nat) (s : State) :
    (closeSoft cause s).refs = s.refs ∧ (closeSoft cause s).f.secRow = s.f.secRow ∧ (closeSoft cause s).f.secFar = s.f.secFar ∧
    (closeSoft cause s).fab = s.fab ∧ (closeSoft cause s).sels = s.sels ∧ (closeSoft cause s).outs = s.outs ∧
    (closeSoft cause s).p = s.p ∧ (closeSoft cause s).rcv = s.rcv ∧ (closeSoft cause s).host.sqs = s.host.sqs := by
  simp only [closeSoft]
  (repeat' split) <;> simp

@[simp] theorem closeF_apart (s : State) :
    (closeF s).refs = s.refs ∧ (closeF s).f.secRow = s.f.secRow ∧ (closeF s).f.secFar = s.f.secFar ∧ (closeF s).fab = s.fab ∧
    (closeF s).sels = s.sels ∧ (closeF s).outs = s.outs ∧ (closeF s).p = s.p ∧ (closeF s).rcv = s.rcv ∧
    (closeF s).host.sqs = s.host.sqs := by
  simp only [closeF]
  (repeat' split) <;> simp

@[simp] theorem oscLost_apart (s : State) :
    (oscLost s).refs = s.refs ∧ (oscLost s).f.secRow = s.f.secRow ∧ (oscLost s).f.secFar = s.f.secFar ∧ (oscLost s).fab = s.fab ∧
    (oscLost s).sels = s.sels ∧ (oscLost s).outs = s.outs ∧ (oscLost s).p = s.p ∧ (oscLost s).rcv = s.rcv ∧
    (oscLost s).host.sqs = s.host.sqs := by
  simp only [oscLost]
  split <;> simp

@[simp] theorem channelF_apart (s : State) :
    (channelF s).refs = s.refs ∧ (channelF s).f.secRow = s.f.secRow ∧ (channelF s).f.secFar = s.f.secFar ∧
    (channelF s).fab = s.fab ∧ (channelF s).sels = s.sels ∧ (channelF s).outs = s.outs ∧ (channelF s).p = s.p ∧
    (channelF s).rcv = s.rcv ∧ (channelF s).host.sqs = s.host.sqs := by
  simp only [channelF]
  (repeat' split) <;> simp

@[simp] theorem switchInput_apart (n : Option Nat) (cause : Nat) (s : State) :
    (switchInput n cause s).refs = s.refs ∧ (switchInput n cause s).f.secRow = s.f.secRow ∧
    (switchInput n cause s).f.secFar = s.f.secFar ∧ (switchInput n cause s).fab = s.fab ∧ (switchInput n cause s).sels = s.sels ∧
    (switchInput n cause s).outs = s.outs ∧ (switchInput n cause s).p = s.p ∧ (switchInput n cause s).rcv = s.rcv ∧
    (switchInput n cause s).host.sqs = s.host.sqs := by
  simp only [switchInput]
  split <;> simp

@[simp] theorem select_apart (s : State) :
    (select s).refs = s.refs ∧ (select s).f.secRow = s.f.secRow ∧ (select s).f.secFar = s.f.secFar ∧ (select s).fab = s.fab ∧
    (select s).sels = s.sels ∧ (select s).outs = s.outs ∧ (select s).p = s.p ∧ (select s).rcv = s.rcv ∧
    (select s).host.sqs = s.host.sqs := by
  simp only [select]
  (repeat' split) <;> simp

@[simp] theorem channelEnds_apart (was : FState) (s : State) :
    (channelEnds was s).refs = s.refs ∧ (channelEnds was s).f.secRow = s.f.secRow ∧ (channelEnds was s).f.secFar = s.f.secFar ∧
    (channelEnds was s).fab = s.fab ∧ (channelEnds was s).sels = s.sels ∧ (channelEnds was s).outs = s.outs ∧
    (channelEnds was s).p = s.p ∧ (channelEnds was s).rcv = s.rcv ∧ (channelEnds was s).host.sqs = s.host.sqs := by
  simp only [channelEnds, settle, execStaircaseDwellDone, execHoldLimitReached]
  (repeat' split) <;> simp

@[simp] theorem averages_apart (chanF : Int) (s : State) :
    (averages chanF s).refs = s.refs ∧ (averages chanF s).f.secRow = s.f.secRow ∧ (averages chanF s).f.secFar = s.f.secFar ∧
    (averages chanF s).fab = s.fab ∧ (averages chanF s).sels = s.sels ∧ (averages chanF s).outs = s.outs ∧
    (averages chanF s).p = s.p ∧ (averages chanF s).rcv = s.rcv ∧ (averages chanF s).host.sqs = s.host.sqs := by
  simp only [averages]
  split <;> simp

@[simp] theorem disagree_apart (a b : Nat) (s : State) :
    (disagree a b s).refs = s.refs ∧ (disagree a b s).fab = s.fab ∧ (disagree a b s).sels = s.sels ∧
    (disagree a b s).outs = s.outs ∧ (disagree a b s).p = s.p ∧ (disagree a b s).rcv = s.rcv ∧
    (disagree a b s).host.sqs = s.host.sqs := by
  simp only [disagree]
  (repeat' split) <;> simp

@[simp] theorem disagreeAbove_apart (a : Nat) (s : State) :
    (disagreeAbove a s).refs = s.refs ∧ (disagreeAbove a s).fab = s.fab ∧ (disagreeAbove a s).sels = s.sels ∧
    (disagreeAbove a s).outs = s.outs ∧ (disagreeAbove a s).p = s.p ∧ (disagreeAbove a s).rcv = s.rcv ∧
    (disagreeAbove a s).host.sqs = s.host.sqs := by
  simp [disagreeAbove]

@[simp] theorem modInputs_apart (f : Nat → Input → Input) (s : State) :
    (modInputs f s).f = s.f ∧ (modInputs f s).fab = s.fab ∧ (modInputs f s).sels = s.sels ∧ (modInputs f s).outs = s.outs ∧
    (modInputs f s).p = s.p ∧ (modInputs f s).rcv = s.rcv ∧ (modInputs f s).host.sqs = s.host.sqs := by
  simp [modInputs]

@[simp] theorem releaseSuspects_apart (before : State) (s : State) :
    (releaseSuspects before s).f = s.f ∧ (releaseSuspects before s).fab = s.fab ∧ (releaseSuspects before s).sels = s.sels ∧
    (releaseSuspects before s).outs = s.outs ∧ (releaseSuspects before s).p = s.p ∧ (releaseSuspects before s).rcv = s.rcv ∧
    (releaseSuspects before s).host.sqs = s.host.sqs := by
  simp [releaseSuspects]

@[simp] theorem refEvents_apart (s : State) :
    (refEvents s).f.secRow = s.f.secRow ∧ (refEvents s).f.secFar = s.f.secFar ∧ (refEvents s).fab = s.fab ∧
    (refEvents s).sels = s.sels ∧ (refEvents s).outs = s.outs ∧ (refEvents s).p = s.p ∧ (refEvents s).rcv = s.rcv ∧
    (refEvents s).host.sqs = s.host.sqs := by
  simp [refEvents]

@[simp] theorem refreshTimeOk_apart (s : State) :
    (refreshTimeOk s).f.secRow = s.f.secRow ∧ (refreshTimeOk s).f.secFar = s.f.secFar ∧ (refreshTimeOk s).fab = s.fab ∧
    (refreshTimeOk s).sels = s.sels ∧ (refreshTimeOk s).outs = s.outs ∧ (refreshTimeOk s).p = s.p ∧ (refreshTimeOk s).rcv = s.rcv ∧
    (refreshTimeOk s).host.sqs = s.host.sqs := by
  simp only [refreshTimeOk]
  (repeat' split) <;> simp

@[simp] theorem tieRecord_apart (n : Nat) (x : Option SecondSample) (s : State) :
    (tieRecord n x s).f = s.f ∧ (tieRecord n x s).fab = s.fab ∧ (tieRecord n x s).sels = s.sels ∧ (tieRecord n x s).outs = s.outs ∧
    (tieRecord n x s).p = s.p ∧ (tieRecord n x s).rcv = s.rcv ∧ (tieRecord n x s).host.sqs = s.host.sqs := by
  unfold tieRecord
  dsimp only
  split <;> simp

end Sys2Proof.Machine
end

section
/-! SUPPORT. The time messages of the outputs and the offset to TAI (R36, R237, R238, R268, R280): the levels of a byte on the line, the
edge that a message belongs to, and what an edge of the time reference measures. -/

namespace Sys2Proof.Machine

open Sys2Proof

/-! ## The levels of the line (R237) -/

/-- The levels of one byte. -/
def byteLevels (b : BitVec 8) : List Bool := false :: (List.range 8).map (fun i => b.toNat.testBit i) ++ [true]

theorem serialLevels_cons (b : BitVec 8) (m : List (BitVec 8)) : serialLevels (b :: m) = byteLevels b ++ serialLevels m := rfl

theorem byteLevels_length (b : BitVec 8) : (byteLevels b).length = 10 := by simp [byteLevels]

theorem serialLevels_length (m : List (BitVec 8)) : (serialLevels m).length = 10 * m.length := by
  induction m with
  | nil => rfl
  | cons b m ih =>
    rw [serialLevels_cons, List.length_append, byteLevels_length, ih, List.length_cons]
    omega

/-- The levels of byte i stand at places 10 i to 10 i + 9. -/
theorem serialLevels_getElem? {m : List (BitVec 8)} {i : Nat} {b : BitVec 8} (at_ : m[i]? = some b) {j : Nat} (hj : j < 10) :
    (serialLevels m)[10 * i + j]? = (byteLevels b)[j]? := by
  induction m generalizing i with
  | nil => simp at at_
  | cons c m ih =>
    rw [serialLevels_cons]
    cases i with
    | zero =>
      obtain rfl : c = b := by simpa using at_
      rw [List.getElem?_append_left (by rw [byteLevels_length]; omega)]
      simp
    | succ i =>
      rw [List.getElem?_append_right (by rw [byteLevels_length]; omega), byteLevels_length]
      rw [show 10 * (i + 1) + j - 10 = 10 * i + j by omega]
      exact ih (by simpa using at_)

theorem byteLevels_start (b : BitVec 8) : (byteLevels b)[0]? = some false := rfl

theorem byteLevels_stop (b : BitVec 8) : (byteLevels b)[9]? = some true := rfl

theorem byteLevels_bit (b : BitVec 8) {k : Nat} (hk : k < 8) : (byteLevels b)[1 + k]? = some (b.getLsbD k) := by
  rw [Nat.add_comm, byteLevels, List.cons_append, List.getElem?_cons_succ, List.getElem?_append_left (by simpa using hk)]
  simp [hk, BitVec.getLsbD]

/-! ## One element of a list changed -/

/-- A part that the change leaves, the list keeps. -/
theorem map_modFirst {α β : Type} {f : α → α} (g : α → β) (same : ∀ x, g (f x) = g x) (p : α → Bool) (l : List α) :
    (modFirst p f l).map g = l.map g := by
  induction l with
  | nil => rfl
  | cons x l ih =>
    unfold modFirst
    split
    · rw [List.map_cons, List.map_cons, same]
    · rw [List.map_cons, List.map_cons, ih]

/-- A number that the change of an element adds one to, summed over a list that has such an element. -/
theorem sum_modFirst {α : Type} {f : α → α} (g : α → Nat) (one : ∀ x, g (f x) = g x + 1) {p : α → Bool} {l : List α}
    (has : l.any p = true) : ((modFirst p f l).map g).sum = (l.map g).sum + 1 := by
  induction l with
  | nil => exact absurd has nofun
  | cons x l ih =>
    unfold modFirst
    split
    · rw [List.map_cons, List.map_cons, List.sum_cons, List.sum_cons, one]
      omega
    next other =>
      rw [List.any_cons, Bool.or_eq_true_iff] at has
      rw [List.map_cons, List.map_cons, List.sum_cons, List.sum_cons, ih (has.resolve_left other)]
      omega

/-! ## Time messages (R268) -/

section
variable {out : Nat} {ql : Bool} {s : State}

/-- The record of time-of-day output `out`. -/
def todRecord (out : Nat) (s : State) : W64 := (kget (0, 0) s.outs.recs (20 + out)).1

/-- An edge of the linked pulse output whose message of this kind is due in the row (R268). -/
def dueEdge (out : Nat) (ql : Bool) (s : State) (e : EdgeMark) : Bool := e.out == fld (todRecord out s) 2 1 && e.due out ql s

/-- The message that the output sends (Table 9.4). -/
def todMessage (out : Nat) (ql : Bool) (s : State) : List (BitVec 8) :=
  if ql then refMessageBytes 1 [BitVec.ofNat 8 (advQl s).1, BitVec.ofNat 8 (advQl s).2]
  else refMessageBytes 2 (beBytes 6 (twos 48 ((sourceTime (bit (kget (0, 0) s.outs.recs (16 + fld (todRecord out s) 2 1)).1 1) s).1 /
    oneSecond + 1)) ++ [BitVec.ofNat 8 (b2n (timeValid s))])

/-- The state in which the message has been sent, for the first edge that it is due for. -/
def todSent (out : Nat) (ql : Bool) (s : State) : State :=
  { s with
    out.tod := s.out.tod ++ [{ out := out, bytes := todMessage out ql s, levels := serialLevels (todMessage out ql s) }],
    outs.edges := modFirst (dueEdge out ql s) (fun e => { e with sent := (out, ql) :: e.sent }) s.outs.edges }

theorem exec_todMessageSend (output : out < 2) (ticking : s.ticking = true) : exec (.todMessageSend out ql) s =
    .next (if !bit (todRecord out s) 0 || !(if ql then bit (todRecord out s) 3 else bit (todRecord out s) 4) ||
      !s.outs.edges.any (dueEdge out ql s) then s else todSent out ql s) :=
  (if_pos output).trans (congrArg _ (if_pos ticking))

/-- A message due is sent, and marked at its edge. -/
theorem exec_todMessageSend_due (output : out < 2) (ticking : s.ticking = true) (enabled : bit (todRecord out s) 0 = true)
    (sends : (if ql then bit (todRecord out s) 3 else bit (todRecord out s) 4) = true)
    (due : s.outs.edges.any (dueEdge out ql s) = true) : exec (.todMessageSend out ql) s = .next (todSent out ql s) := by
  simp [exec_todMessageSend output ticking, enabled, sends, due]

/-- Nothing is sent in another row, nor by an output whose record does not send such messages. -/
theorem exec_todMessageSend_idle (output : out < 2) (ticking : s.ticking = true)
    (idle : bit (todRecord out s) 0 = false ∨ (if ql then bit (todRecord out s) 3 else bit (todRecord out s) 4) = false ∨
      s.outs.edges.any (dueEdge out ql s) = false) : exec (.todMessageSend out ql) s = .next s := by
  rw [exec_todMessageSend output ticking, if_pos]
  obtain h | h | h := idle <;> simp [h]

/-- The marks of the edges after a message: none comes, none goes, and one has one more message. -/
theorem todSent_edges (due : s.outs.edges.any (dueEdge out ql s) = true) :
    (todSent out ql s).outs.edges.map (fun e => (e.out, e.ps)) = s.outs.edges.map (fun e => (e.out, e.ps)) ∧
    ((todSent out ql s).outs.edges.map (fun e => e.sent.length)).sum = (s.outs.edges.map (fun e => e.sent.length)).sum + 1 :=
  ⟨map_modFirst _ (fun _ => by rfl) .., sum_modFirst (fun e : EdgeMark => e.sent.length) (fun _ => by rfl) due⟩

end

/-! ## The timing source that the flight shows (R393) -/

/-- The direction of the SYNC packets that count, and what they have shown. -/
def State.syncs (s : State) : Option Bool × List SyncSeen := (s.flight.syncDir, s.flight.syncSeen)

@[simp] theorem portSend_syncs (sd : Side) (p : TowPkt) (s : State) : (portSend sd p s).syncs = s.syncs := by
  unfold portSend portForward
  dsimp only
  cases sd <;> (repeat' split) <;> rfl

@[simp] theorem towSend_syncs (type dst : Nat) (payload : List W64) (s : State) : (towSend type dst payload s).syncs = s.syncs := by
  unfold towSend
  dsimp only
  (repeat' split) <;> simp <;> rfl

theorem syncs_of_flight {s t : State} (same : t.flight = s.flight) : t.syncs = s.syncs := by
  rw [State.syncs, same, State.syncs]

@[simp] theorem raise_syncs (code : Nat) (payload : List W64) (s : State) : (raise code payload s).syncs = s.syncs := by
  unfold raise
  dsimp only
  (repeat' split)
  · exact syncs_of_flight (by simp)
  · exact (towSend_syncs ..).trans (syncs_of_flight (by simp))
  · exact syncs_of_flight (by simp)
  · exact syncs_of_flight (by simp)

/-- What holds once the time references are marked and is kept by an event and by the offset not being valid, holds after the time
references have been found (R239). -/
theorem refreshTimeOk_keeps {P : State → Prop} {s : State}
    (marked : P (modInputs (fun n i => { i with timeOk := timeOkNow n s }) s))
    (raised : ∀ code payload t, P t → P (raise code payload t))
    (invalid : ∀ t : State, P t → P { t with time.offValid := false }) : P (refreshTimeOk s) := by
  unfold refreshTimeOk
  have found {c : Prop} [Decidable c] {code : Nat} {payload : List W64} : P (if c then _ else raise code payload _) :=
    iteInduction (fun _ => marked) (fun _ => raised code payload _ marked)
  exact iteInduction (motive := P) (fun _ => invalid _ found) (fun _ => found)

@[simp] theorem refreshTimeOk_syncs (s : State) : (refreshTimeOk s).syncs = s.syncs :=
  refreshTimeOk_keeps (P := fun t => t.syncs = s.syncs) (syncs_of_flight (by simp)) (fun _ _ _ h => (raise_syncs ..).trans h)
    (fun _ h => h)

/-- Time references found or lost leave the seconds that an input's edges show. -/
theorem refreshTimeOk_todSec (n : Nat) (s : State) : ((refreshTimeOk s).input n).todSec = (s.input n).todSec := by
  refine refreshTimeOk_keeps (P := fun t => (t.input n).todSec = (s.input n).todSec) ?_ (fun code payload t kept => ?_)
    fun t kept => kept
  · exact modInputs_keeps Input.todSec (fun _ _ => by rfl) n s
  · rwa [input_raise]

/-! ## An edge of the time reference (R36, R280) -/

/-- The offsets o measured at an edge of input n take s to t: the time base and channel P's error tell them, and the offset of channel P,
the frame, the lanes and the pages stay. -/
def OffsetTaken (n : Nat) (o : Int × Int) (s t : State) : Prop :=
  t.time.offFrames = o.1 ∧ t.time.offPhase = o.2 ∧ t.time.offValid = true ∧ t.p.errRef = n ∧ t.p.errFrame = s.time.frame ∧
  t.p.phi = s.p.phi ∧ t.time.frame = s.time.frame ∧ t.lanes = s.lanes ∧ t.fab = s.fab

@[simp] theorem anchorEvent_apart (s : State) : (anchorEvent s).p = s.p ∧ (anchorEvent s).fab = s.fab ∧
    (anchorEvent s).time.offFrames = s.time.offFrames ∧ (anchorEvent s).time.offPhase = s.time.offPhase ∧
    (anchorEvent s).time.offValid = s.time.offValid := by
  simp only [anchorEvent]
  split <;> simp

theorem measureP_spec (n : Nat) (s : State) : (measureP n s).p.errRef = n ∧ (measureP n s).p.errFrame = s.time.frame ∧
    (measureP n s).p.phi = s.p.phi ∧ (measureP n s).fab = s.fab := by
  simp only [measureP]
  split <;> simp

theorem frame_of_sameClock {b c : TimeBase} (h : b.clock = c.clock) : b.frame = c.frame := congrArg Prod.fst h

theorem row_of_sameClock {b c : TimeBase} (h : b.clock = c.clock) : b.row = c.row := congrArg (fun x => x.2.1) h

theorem measureOffset_takes (n : Nat) (o : Int × Int) (s : State) : OffsetTaken n o s (measureOffset n o s) := by
  have frame : ∀ u : State, (anchorEvent u).time.frame = u.time.frame := fun u => frame_of_sameClock (anchorEvent_clock u)
  obtain ⟨ref, at_, phi, fab⟩ := measureP_spec n
    (anchorEvent { s with time.offFrames := o.1, time.offPhase := o.2, time.offValid := true })
  refine ⟨?_, ?_, ?_, ref, at_.trans (frame _), phi.trans ?_, ?_, ?_, fab.trans ?_⟩ <;> simp [measureOffset, frame]

/-- Finding the time references comes before, and changes nothing that the measurement leaves. -/
theorem OffsetTaken.of_refreshed {n : Nat} {o : Int × Int} {s t : State} {refs : KMap Input}
    (taken : OffsetTaken n o (refreshTimeOk { s with refs := refs }) t) : OffsetTaken n o s t := by
  have frame := frame_of_sameClock (refreshTimeOk_clock { s with refs := refs })
  simpa [OffsetTaken, frame] using taken

section
variable {n ns ps : Nat} {s : State}

/-- The state in which an edge of a PPS input with TOD messages has taken its message (R238). -/
def edgeTaken (n : Nat) (s : State) : State := s.modInput n (fun i => i.edge s.time.rows)

/-- The state whose time reference an edge of input n can be: a PPS input has taken its message. -/
def edgeState (n : Nat) (s : State) : State :=
  refreshTimeOk (if n < 8 ∧ (s.input n).freqHz = 1 ∧ (s.input n).msgMode = 2 then edgeTaken n s else s)

theorem exec_timeRefEdgeMeasure {o : Int × Int} (inRange : n < 25) (ticking : s.ticking = true) (live : (s.input n).q ≠ .off)
    (first : timeRef (edgeState n s) = some n) (shows : edgeOffset n (1000 * ns + ps) (edgeState n s) = some o) :
    exec (.timeRefEdgeMeasure n ns ps) s = .next (measureOffset n o (edgeState n s)) := by
  have counts : (s.ticking && (s.input n).q != .off) = true := by simp [ticking, live]
  refine (if_pos inRange).trans (congrArg _ ((if_pos counts).trans ?_))
  have shown : (if timeRef (edgeState n s) = some n then edgeOffset n (1000 * ns + ps) (edgeState n s) else none) = some o := by
    rw [if_pos first, shows]
  change (match (if timeRef (edgeState n s) = some n then edgeOffset n (1000 * ns + ps) (edgeState n s) else none) with
    | some o => measureOffset n o (edgeState n s) | none => edgeState n s) = _
  rw [shown]

/-- An edge of a PPS input shows the second of its message against the row in progress. -/
theorem edgeOffset_pps (pin : n < 8) (ps : Nat) : edgeOffset n ps (refreshTimeOk (edgeTaken n s)) =
    some (offsetOf (((s.input n).edge s.time.rows).todSec * 8000) ((s.time.row * 500000 + ps : Nat) : Int) s) := by
  have clock : (refreshTimeOk (edgeTaken n s)).time.clock = s.time.clock := refreshTimeOk_clock _
  have second : ((refreshTimeOk (edgeTaken n s)).input n).todSec = ((s.input n).edge s.time.rows).todSec := by
    rw [refreshTimeOk_todSec, edgeTaken, input_modInput, if_pos rfl]
  rw [edgeOffset, if_neg (by omega), second]
  simp only [offsetOf, frame_of_sameClock clock, row_of_sameClock clock]

/-- A SYNC of the flight shows the boundary of the frame that it names. -/
theorem edgeOffset_flight {y : SyncSeen} (ps : Nat)
    (seen : s.flight.syncSeen.find? (fun z => s.flight.syncDir == some z.dirB) = some y) :
    edgeOffset 24 ps (refreshTimeOk s) = some (offsetOf y.frame (-y.sample) s) := by
  obtain ⟨dir, list⟩ := Prod.mk.inj (refreshTimeOk_syncs s)
  rw [edgeOffset, if_pos rfl, dir, list, seen]
  simp only [Option.map_some, offsetOf, frame_of_sameClock (refreshTimeOk_clock s)]

end

end Sys2Proof.Machine
end

section
/-! Output and time configuration, time messages, edges of the time reference and re-alignments fixed (R237, R268 to R285). -/

namespace Sys2Proof

open Sys2Proof.Machine

/-- A steer that ends in the row (R271). -/
theorem exec_steerDurationEnd {d : Nat} {s : State} (timer : s.p.steerDue = some d) (due : d ≤ s.time.rows) :
    exec .steerDurationEnd s = .next { s with p.freq := s.p.after, p.steerDue := none } := by
  rw [exec, execSteerDurationEnd, timer]
  exact congrArg _ (if_pos due)

/-- Settles O31: the configuration commands answer once their parameters are checked, a message is sent for the one edge that it is due
for, and an edge of the time reference gives the offsets that it shows. -/
theorem outputsAndTimeAct : Obligations.OutputsAndTimeAct := by
  intro r s w
  refine ⟨fun h rest output record links => ?_, fun h record => ?_, fun d => exec_steerDurationEnd, fun out output ticking => ?_,
    fun m => ⟨serialLevels_length m, fun i _ b at_ => ⟨?_, ?_, fun k hk => ?_⟩⟩, fun n ns ps pin ticking live hz mode first => ?_,
    fun ns ps y ticking live first seen => ?_, fun h rest mode ref high number top gap => ⟨fun free => ?_, fun conflict => ?_⟩⟩
  · exact (outCfg_answers h).1 ⟨rest, output, record, links⟩
  · exact (timeCfg_answers h).1 record
  · refine ⟨fun enabled tod due => ?_, fun enabled ql due => ?_, fun ql => exec_todMessageSend_idle output ticking⟩
    · exact ⟨_, exec_todMessageSend_due (ql := false) output ticking enabled tod due, rfl, rfl, todSent_edges due⟩
    · exact ⟨_, exec_todMessageSend_due (ql := true) output ticking enabled ql due, rfl, rfl, todSent_edges due⟩
  · exact (serialLevels_getElem? at_ (j := 0) (by decide)).trans (byteLevels_start b)
  · exact (serialLevels_getElem? at_ (by decide)).trans (byteLevels_stop b)
  · exact (congrArg _ (Nat.add_assoc ..)).trans ((serialLevels_getElem? at_ (by omega)).trans (byteLevels_bit b hk))
  · intro x k
    have state : edgeState n s = refreshTimeOk (edgeTaken n s) := by rw [edgeState, if_pos ⟨pin, hz, mode⟩]
    refine ⟨_, exec_timeRefEdgeMeasure (by omega) ticking live (by rw [state]; exact first)
      (by rw [state]; exact edgeOffset_pps pin _), ?_⟩
    rw [state]
    exact (measureOffset_takes n (offsetOf (((s.input n).edge s.time.rows).todSec * 8000)
      ((s.time.row * 500000 + (1000 * ns + ps) : Nat) : Int) s) (refreshTimeOk (edgeTaken n s))).of_refreshed (s := s)
  · intro k
    have state : edgeState 24 s = refreshTimeOk s := by rw [edgeState, if_neg (by simp)]
    refine ⟨_, exec_timeRefEdgeMeasure (by decide) ticking live (by rw [state]; exact first)
      (by rw [state]; exact edgeOffset_flight _ seen), ?_⟩
    rw [state]
    have taken := (measureOffset_takes 24 (offsetOf y.frame (-y.sample) s) (refreshTimeOk s)).of_refreshed (s := s)
    have same : -y.sample + 62499999 = 62499999 - y.sample := by omega
    simpa only [OffsetTaken, offsetOf, same, sub_neg_eq_add] using taken
  · rw [realign_fixes h ⟨rest, mode, ref, high, number, top, gap⟩, fixRealign, if_neg (by simp [free])]
    rfl
  · rw [realign_fixes h ⟨rest, mode, ref, high, number, top, gap⟩, fixRealign, if_pos conflict]

end Sys2Proof
end

section
/-! SUPPORT. A monitor second (R230, R241, R242, R250, R255, R256, R282): what it measures of an input, what requalifying an input leaves
of that, and the stages of the second. -/

namespace Sys2Proof.Machine

open Sys2Proof

/-! ## The measurement of one input (R241) -/

section
variable {i : Input} {n k : Nat}

/-- A disturbed second, or an inactive input, gives no frequency, and its window and fault stand. -/
theorem Input.measure_disturbed (x : Option SecondSample) (disturbed : i.dirtySec = true ∨ i.active = false) :
    i.measure n k x = { i with freq := none } := by
  have none_ : (if i.dirtySec || !i.active then none else x) = none := if_pos (by simpa using disturbed)
  rw [Input.measure, none_]

/-- A clean second gives its frequency at the resolution of the input's class. -/
theorem Input.measure_clean (x : SecondSample) (clean : i.dirtySec = false) (active : i.active = true) :
    i.measure n k (some x) = { i with
      freq := some (resolved n i x.freq), window := ((k, resolved n i x.freq) :: i.window).take 64,
      freqFault := if i.freqFault then decide (8 * i.freqLim < 10 * mag (resolved n i x.freq))
        else decide (i.freqLim < mag (resolved n i x.freq)) } := by
  simp [Input.measure, clean, active]

theorem Input.measure_freq (x : Option SecondSample) (clean : i.dirtySec = false) (active : i.active = true) :
    (i.measure n k x).freq = x.map (fun y => resolved n i y.freq) := by
  cases x with
  | none => simp [Input.measure]
  | some y => rw [Input.measure_clean y clean active, Option.map_some]

/-- The measurement leaves the state of an input, its records and its activity. -/
theorem Input.measure_rest (x : Option SecondSample) : i.measure n k x = { i with
    freq := (i.measure n k x).freq, window := (i.measure n k x).window, freqFault := (i.measure n k x).freqFault } := by
  unfold Input.measure
  split <;> rfl

/-- The frequency fault is set above FREQ_LIM and cleared at 0.8 of it or less. -/
theorem Input.measure_freqFault (x : SecondSample) (clean : i.dirtySec = false) (active : i.active = true) :
    (i.freqLim < (resolved n i x.freq).natAbs → (i.measure n k (some x)).freqFault = true) ∧
    (10 * (resolved n i x.freq).natAbs ≤ 8 * i.freqLim → (i.measure n k (some x)).freqFault = false) := by
  rw [Input.measure_clean x clean active]
  cases i.freqFault
  · exact ⟨fun above => decide_eq_true above, fun below => decide_eq_false (by unfold mag; omega)⟩
  · exact ⟨fun above => decide_eq_true (by unfold mag; omega), fun below => decide_eq_false (by unfold mag; omega)⟩

end

/-! ## What requalification leaves of an input -/

/-- What a monitor second measures of an input, and its activity. -/
def Input.measured (i : Input) : List Rec2 × Bool × Bool × Option Int × List (Nat × Int) × Bool :=
  (i.tie, i.active, i.dirtySec, i.freq, i.window, i.freqFault)

/-- Input j is input i with another qualification: what has been measured stands, and an input that is OFF stays as it is. -/
structure Requalified (i j : Input) : Prop where
  measured : j.measured = i.measured
  off : i.q = .off → j = i
  live : i.q ≠ .off → j.q ≠ .off

theorem Requalified.refl (i : Input) : Requalified i i := ⟨rfl, fun _ => rfl, id⟩

theorem Requalified.trans {i j k : Input} (h : Requalified i j) (h' : Requalified j k) : Requalified i k where
  measured := h'.measured.trans h.measured
  off off := by
    obtain rfl := h.off off
    exact h'.off off
  live live := h'.live (h.live live)

/-- A change of live inputs that leaves what has been measured and takes none to OFF. -/
def Requalifies (f : Input → Input) : Prop := ∀ i : Input, i.q ≠ .off → (f i).measured = i.measured ∧ (f i).q ≠ .off

theorem freqStep_requalifies (now : Nat) : Requalifies (fun i => i.freqStep now) := by
  intro i live
  dsimp only
  unfold Input.freqStep
  dsimp only
  (repeat' split) <;> refine ⟨rfl, ?_⟩ <;> simp [Input.enter, live]

theorem driftStep_requalifies (d : Option Drift) (now : Nat) : Requalifies (fun i => i.driftStep d now) := by
  intro i live
  dsimp only
  unfold Input.driftStep
  dsimp only
  (repeat' split) <;> refine ⟨rfl, ?_⟩ <;> simp [Input.enter, live]

/-- Every input of t is that of s, requalified. -/
def InputsRequalified (s t : State) : Prop := ∀ n, Requalified (s.input n) (t.input n)

theorem InputsRequalified.trans {s t u : State} (h : InputsRequalified s t) (h' : InputsRequalified t u) :
    InputsRequalified s u := fun n => (h n).trans (h' n)

theorem inputsRequalified_of_refs {s t : State} (same : t.refs = s.refs) : InputsRequalified s t := fun n => by
  rw [input_of_refs same]
  exact .refl _

theorem modInputs_requalifies {f : Nat → Input → Input} (h : ∀ n, Requalifies (f n)) (s : State) :
    InputsRequalified s (modInputs f s) := fun n => by
  rw [input_modInputs]
  split
  next live =>
    obtain ⟨measured, stays⟩ := h n _ live.2
    exact ⟨measured, fun off => absurd off live.2, fun _ => stays⟩
  · exact .refl _

theorem releaseSuspects_requalifies (before s : State) : InputsRequalified s (releaseSuspects before s) :=
  modInputs_requalifies (fun n i live => by split <;> exact ⟨by rfl, by simp [Input.enter, live]⟩) s

theorem refEvents_requalifies (s : State) : InputsRequalified s (refEvents s) := by
  unfold refEvents
  extract_lets _ u _ v
  have raised : v.refs = s.refs := by simp [v, u]
  exact (inputsRequalified_of_refs raised).trans (modInputs_requalifies
    (f := fun _ i => { i with changed := false, rankShown := i.rank }) (fun n i live => ⟨rfl, live⟩) v)

theorem refreshTimeOk_requalifies (s : State) : InputsRequalified s (refreshTimeOk s) := by
  refine refreshTimeOk_keeps (P := InputsRequalified s) ?_ (fun _ _ _ h => h.trans ?_) (fun _ h => h)
  · exact modInputs_requalifies (f := fun n i => { i with timeOk := timeOkNow n s }) (fun n i live => ⟨rfl, live⟩) s
  · exact inputsRequalified_of_refs (by simp)

/-! ## The records of the second (R282) -/

/-- Input j is input i with one more TIE record, of at most 1,024. -/
def TieTaken (i j : Input) : Prop :=
  j = { i with tie := j.tie, tieStart := j.tieStart } ∧ j.tie.length = min 1024 (i.tie.length + 1)

theorem tieRecord_input (n : Nat) (x : Option SecondSample) (s : State) : ∃ r start, ∀ k, (tieRecord n x s).input k =
    if k = n then { s.input n with tie := (r :: (s.input n).tie).take 1024, tieStart := start } else s.input k := by
  unfold tieRecord
  dsimp only
  split
  · exact ⟨_, _, fun k => input_modInput ..⟩
  · exact ⟨{ w0 := pack [(47, 0, s.time.frame), (52, 48, n)], w1 := Config.freeWord64 s.free }, (s.input n).tieStart,
      fun k => by simp [State.input, State.modInput, kget_kset]⟩

theorem tieRecord_takes (n : Nat) (x : Option SecondSample) (s : State) :
    TieTaken (s.input n) ((tieRecord n x s).input n) := by
  obtain ⟨r, start, inputs⟩ := tieRecord_input n x s
  rw [inputs, if_pos rfl]
  exact ⟨rfl, List.length_take⟩

theorem tieRecord_other (n : Nat) (x : Option SecondSample) (s : State) (k : Nat) (other : k ≠ n) :
    (tieRecord n x s).input k = s.input k := by
  obtain ⟨r, start, inputs⟩ := tieRecord_input n x s
  rw [inputs, if_neg other]

/-! ## The stages of the second -/

section
variable (inp : SecondInput) (before s : State)

/-- The second shows LOCALOSC more than 100 ppm off (R256). -/
def secondFar : Bool := s.f.state == .locked && decide (100000000 < mag inp.chanF)

/-- Every live input has its record (R282). -/
def secondTies : State := (liveInputs s).foldl (fun s n => tieRecord n (secondOf inp n) s) s

/-- Every live input has been measured (R241). -/
def secondMeasured : State :=
  modInputs (fun n i => (i.measure n (before.time.rows / 2000000) (secondOf inp n)).freqStep s.time.rows) s

/-- The drift of every live input has been judged (R242), and the disagreements have been (R250). -/
def secondCompared : State :=
  let u := releaseSuspects before (modInputs (fun n i => i.driftStep (driftOf n s) s.time.rows) s)
  (liveInputs u).foldl (fun s a => disagreeAbove a s) u

/-- The decisions of the second: none in a LOCALOSC fault, nor in a second that shows its cause. -/
def secondDecided : State :=
  let u := secondTies inp s
  if u.f.oscFault then { u with f.oscClean := if secondFar inp u then 0 else u.f.oscClean + 1 }
  else if secondFar inp u then u
  else secondCompared s (secondMeasured inp s u)

/-- The next second begins: an inactive input disturbs it, and so does TIME in recovery. -/
def secondOpened : State :=
  let u := if secondFar inp (secondTies inp s) then secondDecided inp s else averages inp.chanF (secondDecided inp s)
  modInputs (fun _ i => { i with dirtySec := !i.active || u.fnDown 6 }) u

/-- The second is taken, and the selection follows it (R248). -/
def secondSelected : State :=
  let u := { secondOpened inp s with f.secRow := (secondOpened inp s).time.rows, f.secFar := secondFar inp (secondTies inp s) }
  channelEnds u.f.state (select u)

theorem monitorSecond_stages : monitorSecond inp s = refreshTimeOk (refEvents { secondSelected inp s with
    f.lockedWhole := (secondSelected inp s).f.state == .locked &&
      !(liveInputs (secondSelected inp s)).any (fun n => ((secondSelected inp s).input n).q == .holdoff) }) := by
  delta monitorSecond secondSelected secondOpened secondDecided secondCompared secondMeasured secondTies secondFar
  with_reducible rfl

end

/-! ## The inputs after each stage -/

section
variable {inp : SecondInput} {s : State} {n : Nat}

theorem mem_liveInputs : n ∈ liveInputs s ↔ n < 25 ∧ (s.input n).q ≠ .off := by
  simp [liveInputs]

theorem liveInputs_nodup (s : State) : (liveInputs s).Nodup := List.nodup_range.filter _

@[simp] theorem secondTies_rest (inp : SecondInput) (s : State) : (secondTies inp s).f = s.f ∧ (secondTies inp s).time = s.time ∧
    (secondTies inp s).rcv = s.rcv := by
  simp [secondTies]

theorem secondTies_far : secondFar inp (secondTies inp s) = secondFar inp s := by
  simp [secondFar]

theorem secondTies_live (live : n < 25 ∧ (s.input n).q ≠ .off) : TieTaken (s.input n) ((secondTies inp s).input n) :=
  (input_foldl_each (R := fun _ => TieTaken) (fun s n => tieRecord_takes n (secondOf inp n) s)
    (fun s n => tieRecord_other n (secondOf inp n) s) (liveInputs_nodup s) s n).1 (mem_liveInputs.mpr live)

theorem secondTies_off (off : (s.input n).q = .off) : (secondTies inp s).input n = s.input n :=
  (input_foldl_each (R := fun _ => TieTaken) (fun s n => tieRecord_takes n (secondOf inp n) s)
    (fun s n => tieRecord_other n (secondOf inp n) s) (liveInputs_nodup s) s n).2 fun mem => (mem_liveInputs.mp mem).2 off

theorem secondCompared_requalifies (before s : State) : InputsRequalified s (secondCompared before s) := by
  have drifts := modInputs_requalifies (fun n => driftStep_requalifies (driftOf n s) s.time.rows) s
  have compares : (secondCompared before s).refs = _ := foldl_same State.refs _ (by simp) _ _
  exact drifts.trans ((releaseSuspects_requalifies before _).trans (inputsRequalified_of_refs compares))

theorem secondMeasured_live (before : State) (live : n < 25 ∧ (s.input n).q ≠ .off) :
    ((secondMeasured inp before s).input n).measured =
      ((s.input n).measure n (before.time.rows / 2000000) (secondOf inp n)).measured ∧
    ((secondMeasured inp before s).input n).q ≠ .off := by
  rw [secondMeasured, input_modInputs, if_pos live]
  exact freqStep_requalifies _ _ (by rw [Input.measure_rest]; exact live.2)

theorem secondMeasured_off (before : State) (off : (s.input n).q = .off) : (secondMeasured inp before s).input n = s.input n := by
  rw [secondMeasured, input_modInputs, if_neg fun live => live.2 off]

/-- Live input n with its record and, in a second that counts, its measurement. -/
def secondMeasure (inp : SecondInput) (s : State) (n : Nat) : Input :=
  if s.f.oscFault = true ∨ secondFar inp s = true then (secondTies inp s).input n
  else ((secondTies inp s).input n).measure n (s.time.rows / 2000000) (secondOf inp n)

/-- In a LOCALOSC fault, and in a second that shows its cause, no input is measured (R256). -/
theorem secondDecided_shut (shut : s.f.oscFault = true ∨ secondFar inp s = true) :
    (secondDecided inp s).input n = (secondTies inp s).input n := by
  refine input_of_refs ?_ n
  rw [secondDecided]
  split
  · rfl
  next open_ =>
    rw [(secondTies_rest inp s).1] at open_
    exact congrArg State.refs (if_pos (secondTies_far.trans (shut.resolve_left open_)))

theorem secondDecided_open (sound : s.f.oscFault = false) (near : secondFar inp s = false) :
    secondDecided inp s = secondCompared s (secondMeasured inp s (secondTies inp s)) := by
  simp [secondDecided, secondTies_far, sound, near]

/-- The decisions leave an input that is OFF, and take no other to OFF. -/
theorem secondDecided_off (off : (s.input n).q = .off) : (secondDecided inp s).input n = s.input n := by
  have tied : (secondTies inp s).input n = s.input n := secondTies_off off
  by_cases shut : s.f.oscFault = true ∨ secondFar inp s = true
  · rw [secondDecided_shut shut, tied]
  · obtain ⟨sound, near⟩ := not_or.mp shut
    have measured := secondMeasured_off (inp := inp) s (tied.symm ▸ off)
    rw [secondDecided_open (by simpa using sound) (by simpa using near),
      (secondCompared_requalifies s _ n).off (by rw [measured, tied, off]), measured, tied]

/-- The measurements of a live input once the decisions have been taken. -/
theorem secondDecided_live (live : n < 25 ∧ (s.input n).q ≠ .off) :
    ((secondDecided inp s).input n).measured = (secondMeasure inp s n).measured ∧ ((secondDecided inp s).input n).q ≠ .off := by
  have tied : n < 25 ∧ ((secondTies inp s).input n).q ≠ .off := ⟨live.1, by rw [(secondTies_live live).1]; exact live.2⟩
  by_cases shut : s.f.oscFault = true ∨ secondFar inp s = true
  · rw [secondDecided_shut shut, secondMeasure, if_pos shut]
    exact ⟨rfl, tied.2⟩
  · obtain ⟨sound, near⟩ := not_or.mp shut
    have compared := secondCompared_requalifies s (secondMeasured inp s (secondTies inp s)) n
    obtain ⟨measured, stays⟩ := secondMeasured_live (inp := inp) s tied
    rw [secondDecided_open (by simpa using sound) (by simpa using near), secondMeasure, if_neg shut]
    exact ⟨compared.measured.trans measured, compared.live stays⟩

@[simp] theorem secondDecided_rcv : (secondDecided inp s).rcv = s.rcv := by
  simp only [secondDecided, secondCompared, secondMeasured]
  (repeat' split) <;> simp

theorem secondEvents_requalifies (whole : Bool) (s : State) :
    InputsRequalified s (refreshTimeOk (refEvents { s with f.lockedWhole := whole })) := by
  have same : InputsRequalified s { s with f.lockedWhole := whole } := inputsRequalified_of_refs rfl
  generalize { s with f.lockedWhole := whole } = u at same ⊢
  exact same.trans ((refEvents_requalifies u).trans (refreshTimeOk_requalifies _))

/-- The selection, the events and the time references come after the decisions, and requalify inputs at most. -/
theorem secondOpened_requalifies (inp : SecondInput) (s : State) : InputsRequalified (secondOpened inp s) (monitorSecond inp s) := by
  have selected : (secondSelected inp s).refs = (secondOpened inp s).refs := by simp [secondSelected]
  rw [monitorSecond_stages]
  exact (inputsRequalified_of_refs selected).trans (secondEvents_requalifies _ _)

theorem secondOpened_input (inp : SecondInput) (s : State) (n : Nat) : (secondOpened inp s).input n =
    if n < 25 ∧ ((secondDecided inp s).input n).q ≠ .off then { (secondDecided inp s).input n with
      dirtySec := !((secondDecided inp s).input n).active || s.fnDown 6 } else (secondDecided inp s).input n := by
  unfold secondOpened
  extract_lets u
  have inputs : u.input n = (secondDecided inp s).input n := input_of_refs (by simp [u]) n
  have down : u.fnDown 6 = s.fnDown 6 := by simp [u, State.fnDown]
  rw [input_modInputs, inputs, down]

theorem monitorSecond_off (off : (s.input n).q = .off) : (monitorSecond inp s).input n = s.input n := by
  have opened : (secondOpened inp s).input n = s.input n := by
    rw [secondOpened_input, secondDecided_off off, if_neg fun live => live.2 off]
  rw [(secondOpened_requalifies inp s n).off (by rw [opened, off]), opened]

/-- The measurements of a live input once the second has been taken, and whether it or TIME in recovery disturbs the next second. -/
theorem monitorSecond_live (live : n < 25 ∧ (s.input n).q ≠ .off) : ((monitorSecond inp s).input n).measured =
    { secondMeasure inp s n with dirtySec := !(secondMeasure inp s n).active || s.fnDown 6 }.measured := by
  obtain ⟨decided, stays⟩ := secondDecided_live (inp := inp) live
  rw [(secondOpened_requalifies inp s n).measured, secondOpened_input, if_pos ⟨live.1, stays⟩]
  simp only [Input.measured, Prod.mk.injEq] at decided ⊢
  obtain ⟨tie, active, _, rest⟩ := decided
  exact ⟨tie, active, by rw [active], rest⟩

theorem secondMeasure_shut (live : n < 25 ∧ (s.input n).q ≠ .off) (shut : s.f.oscFault = true ∨ secondFar inp s = true) :
    TieTaken (s.input n) (secondMeasure inp s n) := by
  rw [secondMeasure, if_pos shut]
  exact secondTies_live live

theorem secondMeasure_open (live : n < 25 ∧ (s.input n).q ≠ .off) (sound : s.f.oscFault = false) (near : secondFar inp s = false) :
    ∃ i, TieTaken (s.input n) i ∧ secondMeasure inp s n = i.measure n (s.time.rows / 2000000) (secondOf inp n) :=
  ⟨_, secondTies_live live, if_neg (by simp [sound, near])⟩

/-- Each record and the activity of a live input stand, whether the second counts or not. -/
theorem secondMeasure_record (live : n < 25 ∧ (s.input n).q ≠ .off) :
    (secondMeasure inp s n).tie.length = min 1024 ((s.input n).tie.length + 1) ∧
    (secondMeasure inp s n).active = (s.input n).active := by
  obtain ⟨same, length⟩ := secondTies_live (inp := inp) live
  have active : ((secondTies inp s).input n).active = (s.input n).active := by rw [same]
  rw [secondMeasure]
  split
  · exact ⟨length, active⟩
  · rw [Input.measure_rest]
    exact ⟨length, active⟩

/-- What a second leaves of the rest of the device. -/
theorem monitorSecond_apart (inp : SecondInput) (s : State) : (monitorSecond inp s).fab = s.fab ∧
    (monitorSecond inp s).sels = s.sels ∧ (monitorSecond inp s).outs = s.outs ∧
    (monitorSecond inp s).host.sqs = s.host.sqs := by
  simp [monitorSecond]

theorem monitorSecond_taken (inp : SecondInput) (s : State) : (monitorSecond inp s).f.secRow = s.time.rows ∧
    (monitorSecond inp s).f.secFar = secondFar inp s := by
  simp [monitorSecond, secondFar]

/-- A second that has ended and has not been taken is taken. -/
theorem exec_monitorSecond (ticking : s.ticking = true) (ends : s.time.rows % 2000000 = 0) (begun : s.time.rows ≠ 0)
    (fresh : s.f.secRow ≠ s.time.rows) : exec (.monitorSecond inp) s = .next (monitorSecond inp s) := by
  rw [exec, execMonitorSecond, if_pos]
  simp [ticking, ends, begun, fresh]

theorem exec_monitorSecond_idle (idle : s.ticking = false ∨ s.time.rows % 2000000 ≠ 0 ∨ s.time.rows = 0 ∨
    s.f.secRow = s.time.rows) : exec (.monitorSecond inp) s = .next s := by
  rw [exec, execMonitorSecond, if_neg]
  obtain h | h | h | h := idle <;> simp [h]

end

/-! ## Qualification by frequency (Table 9.5) -/

section
variable {i : Input} {now : Nat}

theorem Input.freqStep_restores (failed : i.q = .failed) (active : i.active = true) (sound : i.freqFault = false) :
    i.freqStep now = { i with q := .restoring, wtrDue := some (now + i.wtrRows) } := by
  simp [Input.freqStep, failed, active, sound]

theorem Input.freqStep_failsRestoring (restoring : i.q = .restoring) (fault : i.freqFault = true) :
    i.freqStep now = { i with q := .failed, wtrDue := none } := by
  simp [Input.freqStep, restoring, fault]

theorem Input.freqStep_fails (runs : i.q = .qualified ∨ i.q = .suspect ∨ i.q = .drifting) (fault : i.freqFault = true) :
    i.freqStep now = { i.enter .failed with cause := 2 } := by
  obtain h | h | h := runs <;> simp [Input.freqStep, h, fault]

theorem Input.freqStep_holdoff (holds : i.q = .holdoff) : i.freqStep now = i := by
  simp [Input.freqStep, holds]

end

end Sys2Proof.Machine
end

section
/-! A monitor second (R230, R241, R255, R256, R282). -/

namespace Sys2Proof

open Sys2Proof.Machine

section
variable {inp : SecondInput} {s : State} {n : Nat}

/-- What a second gives a live input (R241, R256, R282). -/
theorem monitorSecond_gives (live : n < 25 ∧ (s.input n).q ≠ .off) :
    ((monitorSecond inp s).input n).tie.length = min 1024 ((s.input n).tie.length + 1) ∧
    ((monitorSecond inp s).input n).active = (s.input n).active ∧
    ((monitorSecond inp s).input n).dirtySec = (!(s.input n).active || s.fnDown 6) ∧
    ((monitorSecond inp s).input n).freq = (secondMeasure inp s n).freq ∧
    ((monitorSecond inp s).input n).window = (secondMeasure inp s n).window ∧
    ((monitorSecond inp s).input n).freqFault = (secondMeasure inp s n).freqFault := by
  have measured := monitorSecond_live (inp := inp) live
  obtain ⟨length, stays⟩ := secondMeasure_record (inp := inp) live
  simp only [Input.measured, Prod.mk.injEq] at measured
  obtain ⟨tie, active, dirty, rest⟩ := measured
  exact ⟨by rw [tie]; exact length, active.trans stays, dirty.trans (by rw [stays]), rest⟩

end

/-- Settles O29: a second that is taken goes through its stages, of which the selection, the events and the time references only requalify
inputs, and its decisions measure a live input only where no LOCALOSC fault holds or shows. -/
theorem monitorSecondQualifies : Obligations.MonitorSecondQualifies := by
  refine ⟨fun inp s ticking ends begun fresh => ?_, fun inp s => exec_monitorSecond_idle, fun i n k x clean active => ?_,
    fun i n k x disturbed => ?_, fun i now => ⟨fun failed active sound => ?_, fun restoring fault => ?_, fun runs fault => ?_,
      Input.freqStep_holdoff⟩, fun n x s => (tieRecord_takes n x s).2⟩
  · intro far
    obtain ⟨row, shown⟩ := monitorSecond_taken inp s
    obtain ⟨fab, sels, outs, sqs⟩ := monitorSecond_apart inp s
    have clock := monitorSecond_clock inp s
    have isFar : secondFar inp s = true ↔ far := by
      rw [secondFar, Bool.and_eq_true, beq_iff_eq, decide_eq_true_eq]
      rfl
    refine ⟨_, exec_monitorSecond ticking ends begun fresh, row, by rw [shown, isFar], fun n inRange live => ?_,
      fun n _ off => monitorSecond_off off, by simp, fab, sels, by simp, by simp, outs, frame_of_sameClock clock,
      row_of_sameClock clock, sqs, by simp⟩
    obtain ⟨length, active, dirty, freq, window, fault⟩ := monitorSecond_gives (inp := inp) ⟨inRange, live⟩
    refine ⟨length, active, dirty, fun shut => ?_, fun sound near disturbed => ?_, fun sound near clean runs => ?_⟩
    · have same := (secondMeasure_shut ⟨inRange, live⟩ (shut.imp_right isFar.mpr)).1
      rw [freq, window, fault, same]
      exact ⟨rfl, rfl, rfl⟩
    · obtain ⟨i, ⟨same, _⟩, measures⟩ := secondMeasure_open ⟨inRange, live⟩ sound (by simpa using mt isFar.mp near)
      rw [freq, measures, Input.measure_disturbed _ (by rw [same]; exact disturbed)]
    · obtain ⟨i, ⟨same, _⟩, measures⟩ := secondMeasure_open ⟨inRange, live⟩ sound (by simpa using mt isFar.mp near)
      rw [freq, measures, Input.measure_freq _ (by rw [same]; exact clean) (by rw [same]; exact runs), same]
      rfl
  · intro v
    have measures := Input.measure_clean (n := n) (k := k) x clean active
    exact ⟨by rw [measures], by rw [measures]; rfl, Input.measure_freqFault x clean active⟩
  · rw [Input.measure_disturbed x disturbed]
    exact ⟨rfl, rfl, rfl⟩
  · rw [Input.freqStep_restores failed active sound]
    exact ⟨rfl, rfl⟩
  · rw [Input.freqStep_failsRestoring restoring fault]
    exact ⟨rfl, rfl⟩
  · rw [Input.freqStep_fails runs fault]
    exact ⟨rfl, rfl⟩

end Sys2Proof
end

section
/-! SUPPORT. No operation but channel P's own writes channel P (R262 to R264): one lemma per operation that has none yet, in the order of
the definitions. A lemma named _p says that channel P stays, one named _phi that its offset does. -/

namespace Sys2Proof.Machine

open Sys2Proof

/-! ## The line of the twins (R319) -/

@[simp] theorem sendTwin_p (type gen : Nat) (frame acked : Nat) (ws : List SlotWrite) (s : State) :
    (sendTwin type gen frame acked ws s).p = s.p := by
  simp [sendTwin]

@[simp] theorem nextBlock_p (s : State) : (nextBlock s).2.p = s.p := by
  unfold nextBlock
  (repeat' split) <;> simp

@[simp] theorem sendBlocks_p (n : Nat) (s : State) : (sendBlocks n s).p = s.p := by
  induction n generalizing s with
  | zero => simp [sendBlocks]
  | succ n ih =>
    unfold sendBlocks
    simp only [ih]
    split <;> simp

@[simp] theorem twinSend_p (s : State) : (twinSend s).p = s.p := by simp [twinSend]

@[simp] theorem takeBlock_p (b : List W64) (s : State) : (takeBlock b s).2.p = s.p := by
  unfold takeBlock
  (repeat' split) <;> simp

@[simp] theorem takeBlocks_p (bs : List (List W64)) (s : State) : (takeBlocks bs s).2.p = s.p := by
  induction bs generalizing s with
  | nil => simp [takeBlocks]
  | cons b bs ih => simp [takeBlocks, ih]

/-! ## Plans and copies of pages (chapter 4) -/

@[simp] theorem bufFailed_p (r : Run) (addr bytes : Nat) (s : State) : (bufFailed r addr bytes s).p = s.p := by
  simp [bufFailed]

@[simp] theorem bufReply_p (r : Run) (ok : Bool) (addr : Nat) (ws : List W64) (reply : List W64) (s : State) :
    (bufReply r ok addr ws reply s).p = s.p := by
  unfold bufReply
  (repeat' split) <;> simp

@[simp] theorem passDeltas_p (s : State) : (passDeltas s).p = s.p := by simp [passDeltas]
@[simp] theorem dropDeltas_p (c : Delta → Bool) (s : State) : (dropDeltas c s).p = s.p := by simp [dropDeltas]
@[simp] theorem sendFix_p (p : Plan) (s : State) : (sendFix p s).p = s.p := by simp [sendFix]
@[simp] theorem modPlan_p (n : Nat) (f : Plan → Plan) (s : State) : (modPlan n f s).p = s.p := by simp [modPlan]
@[simp] theorem endPlan_p (p : Plan) (status : Nat) (s : State) : (endPlan p status s).p = s.p := by simp [endPlan]
@[simp] theorem releaseDrops_p (c : DropWait → Bool) (s : State) : (releaseDrops c s).p = s.p := by simp [releaseDrops]

@[simp] theorem withdrawFrom_p (n status : Nat) (s : State) : (withdrawFrom n status s).p = s.p := by
  unfold withdrawFrom
  dsimp only
  split <;> simp

@[simp] theorem discardOpen_p (s : State) : (discardOpen s).p = s.p := by simp [discardOpen]
@[simp] theorem withdrawAll_p (s : State) : (withdrawAll s).p = s.p := by simp [withdrawAll]

@[simp] theorem armReady_p (s : State) : (armReady s).p = s.p := by
  unfold armReady
  (repeat' split) <;> simp

@[simp] theorem forgetAcks_p (s : State) : (forgetAcks s).p = s.p := by simp [forgetAcks]
@[simp] theorem peerLost_p (cause : Nat) (s : State) : (peerLost cause s).p = s.p := by simp [peerLost]

@[simp] theorem armOne_p (n a : Nat) (s : State) : (armOne n a s).p = s.p := by
  unfold armOne
  split <;> simp

@[simp] theorem armingCheck_p (a : Nat) (s : State) : (armingCheck a s).p = s.p := by simp [armingCheck]

@[simp] theorem beginRead_p (r : Run) (g : Nat) (ok : Bool) (s : State) : (beginRead r g ok s).p = s.p := by
  unfold beginRead
  split <;> simp

@[simp] theorem endRead_p (r : Run) (s : State) : (endRead r s).p = s.p := by
  unfold endRead
  dsimp only
  split <;> simp

@[simp] theorem endReads_p (s : State) : (endReads s).p = s.p :=
  foldl_same State.p _ (fun s r => throughMatrix_same State.p _ _ r _ s (by simp) (by simp) (by simp)) _ s

@[simp] theorem interruptReads_p (s : State) : (interruptReads s).p = s.p := by simp [interruptReads]

/-! ## Connections -/

@[simp] theorem addEdits_p (es : List (Nat × BitVec 32)) (ts : List (Nat × List W64)) (named : List Nat) (s : State) :
    (addEdits es ts named s).p = s.p := by
  simp [addEdits]

@[simp] theorem loadRun_p (r : Run) (buf : Option (List W64)) (s : State) : (loadRun r buf s).p = s.p := by
  unfold loadRun
  dsimp only
  (repeat' split) <;> simp

/-! ## References and channel F (chapter 9) -/

@[simp] theorem freezeF_p (s : State) : (freezeF s).p = s.p := by simp [freezeF]

@[simp] theorem applyRef_p (r : Run) (s : State) : (applyRef r s).p = s.p := by
  unfold applyRef
  (repeat' split) <;> simp

@[simp] theorem qualTick_p (before s : State) : (qualTick before s).p = s.p := by simp [qualTick]
@[simp] theorem refTick_p (s : State) : (refTick s).p = s.p := by simp [refTick]

@[simp] theorem builtOut_p (v : Int) (s : State) : (builtOut v s).2.p = s.p := by
  unfold builtOut
  split <;> simp

@[simp] theorem samplePhase_p (raw : Int) (s : State) : (samplePhase raw s).p = s.p := by
  unfold samplePhase
  split <;> simp

@[simp] theorem rowSample_p (phase : Option Int) (s : State) : (rowSample phase s).p = s.p := by
  unfold rowSample
  split <;> simp

@[simp] theorem sampleF_p (freq : Option Int) (s : State) : (sampleF freq s).p = s.p := by
  unfold sampleF
  split <;> simp

@[simp] theorem msgBad_p (n : Nat) (s : State) : (msgBad n s).p = s.p := by simp [msgBad]
@[simp] theorem qlMessage_p (n ssm : Nat) (essm : Nat) (s : State) : (qlMessage n ssm essm s).p = s.p := by simp [qlMessage]

@[simp] theorem refMessage_p (n : Nat) (m : RefMsg) (s : State) : (refMessage n m s).p = s.p := by
  unfold refMessage
  split <;> simp

@[simp] theorem oscFault_p (offset : Bool) (s : State) : (oscFault offset s).p = s.p := by simp [oscFault]
@[simp] theorem monitorSecond_p (inp : SecondInput) (s : State) : (monitorSecond inp s).p = s.p := by simp [monitorSecond]

/-! ## Lanes (chapters 6 to 8) -/

@[simp] theorem swapRx_p (k : Nat) (s : State) : (swapRx k s).p = s.p := by simp [swapRx]
@[simp] theorem setOctet_p (k : Nat) (f : Octet → Octet) (s : State) : (setOctet k f s).p = s.p := by simp [setOctet]
@[simp] theorem fixOrder_p (k : Nat) (f : Octet → Octet) (s : State) : (fixOrder k f s).p = s.p := by simp [fixOrder]

@[simp] theorem settleOctet_p (k : Nat) (s : State) : (settleOctet k s).p = s.p := by
  unfold settleOctet
  split <;> simp

@[simp] theorem dropVotes_p (lane : Nat) (s : State) : (dropVotes lane s).p = s.p := by simp [dropVotes]
@[simp] theorem idFault_p (lane cause : Nat) (s : State) : (idFault lane cause s).p = s.p := by simp [idFault]
@[simp] theorem failAttempt_p (lane : Nat) (s : State) : (failAttempt lane s).p = s.p := by simp [failAttempt]
@[simp] theorem admitLane_p (lane : Nat) (s : State) : (admitLane lane s).p = s.p := by simp [admitLane]
@[simp] theorem voteFaults_p (lanes : List Nat) (s : State) : (voteFaults lanes s).p = s.p := by simp [voteFaults]

@[simp] theorem rxVote_p (k p : Nat) (i : W64) (s : State) : (rxVote k p i s).p = s.p := by
  unfold rxVote
  dsimp only
  (repeat' split) <;> simp

@[simp] theorem txVote_p (lane : Nat) (i : W64) (s : State) : (txVote lane i s).p = s.p := by
  unfold txVote
  dsimp only
  (repeat' split) <;> simp

@[simp] theorem txVoteOf_p (lane : Nat) (s : State) : (txVoteOf lane s).p = s.p := by
  unfold txVoteOf
  dsimp only
  split <;> simp

@[simp] theorem txVotes_p (k : Nat) (s : State) : (txVotes k s).p = s.p := by simp [txVotes]

@[simp] theorem identify_p (lane : Nat) (s : State) : (identify lane s).p = s.p := by
  unfold identify
  dsimp only
  split <;> simp

@[simp] theorem identifyAll_p (k : Nat) (s : State) : (identifyAll k s).p = s.p := by simp [identifyAll]

@[simp] theorem goodMarker_p (lane : Nat) (i : W64) (s : State) : (goodMarker lane i s).p = s.p := by
  unfold goodMarker
  dsimp only
  split <;> simp

@[simp] theorem pairMarker_p (n : Nat) (m : MarkerRx) (s : State) : (pairMarker n m s).p = s.p := by simp [pairMarker]
@[simp] theorem twinMarker_p (n : Nat) (m : MarkerRx) (s : State) : (twinMarker n m s).p = s.p := by simp [twinMarker]
@[simp] theorem showTerm_p (t why : Nat) (s : State) : (showTerm t why s).p = s.p := by simp [showTerm]

@[simp] theorem header_p (lane : Nat) (b : BargeRx) (s : State) : (header lane b s).1.p = s.p := by
  unfold header
  dsimp only
  split <;> simp

theorem p_of_header {lane : Nat} {b : BargeRx} {s t : State} {x : Option (W64 × BargeBits)} (h : header lane b s = (t, x)) :
    t.p = s.p := by
  rw [← header_p lane b s, h]

@[simp] theorem joinRow_p (lane : Nat) (y : Int) (i : Nat) (b : BargeW) (kept : Bool) (s : State) :
    (joinRow lane y i b kept s).p = s.p := by
  simp [joinRow]

@[simp] theorem dataBarge_p (lane : Nat) (b : BargeRx) (s : State) : (dataBarge lane b s).p = s.p := by
  unfold dataBarge
  dsimp only
  split <;> rename_i h
  · (repeat' split) <;> simp [p_of_header h]
  · exact p_of_header h

@[simp] theorem holdBarge_p (lane : Nat) (b : BargeRx) (s : State) : (holdBarge lane b s).p = s.p := by
  unfold holdBarge
  dsimp only
  split <;> rename_i h
  · (repeat' split) <;> simp [p_of_header h]
  · exact p_of_header h

@[simp] theorem frameQl_p (lane : Nat) (ws : List W64) (s : State) : (frameQl lane ws s).p = s.p := by simp [frameQl]

@[simp] theorem goodFrame_p (lane : Nat) (ws : List W64) (arrival : Int) (s : State) : (goodFrame lane ws arrival s).p = s.p := by
  simp [goodFrame]

@[simp] theorem frameBarge_p (lane : Nat) (b : BargeRx) (s : State) : (frameBarge lane b s).p = s.p := by
  unfold frameBarge
  split <;> rename_i h
  · (repeat' split) <;> simp [p_of_header h]
  · exact p_of_header h

@[simp] theorem testBarge_p (lane : Nat) (b : BargeRx) (s : State) : (testBarge lane b s).p = s.p := by
  unfold testBarge
  dsimp only
  split <;> rename_i h
  · (repeat' split) <;> simp [p_of_header h]
  · exact p_of_header h

@[simp] theorem idleBarge_p (lane : Nat) (b : BargeRx) (s : State) : (idleBarge lane b s).p = s.p := by
  unfold idleBarge
  split <;> rename_i h
  · (repeat' split) <;> simp [p_of_header h]
  · exact p_of_header h

@[simp] theorem losDeclare_p (lane : Nat) (s : State) : (losDeclare lane s).p = s.p := by simp [losDeclare]

/-! ## Selectors (chapter 5) -/

@[simp] theorem tribRow_p (out : List SlotOut) (t : Nat × List W64) (s : State) : (tribRow out t s).p = s.p := by simp [tribRow]
@[simp] theorem readoutLane_p (lane : Nat) (s : State) : (readoutLane lane s).p = s.p := by simp [readoutLane]
@[simp] theorem copiesRow_p (t : Nat × List W64) (s : State) : (copiesRow t s).p = s.p := by simp [copiesRow]
@[simp] theorem readout_p (s : State) : (readout s).p = s.p := by simp [readout]
@[simp] theorem holdTick_p (s : State) : (holdTick s).p = s.p := by simp [holdTick]
@[simp] theorem holdEvents_p (s : State) : (holdEvents s).p = s.p := by simp [holdEvents]
@[simp] theorem condTrib_p (t : Nat × List W64) (s : State) : (condTrib t s).p = s.p := by simp [condTrib]

@[simp] theorem judgeMs_p (refused : List Key) (r : Run) (s : State) : (judgeMs refused r s).2.p = s.p := by
  unfold judgeMs
  dsimp only
  split <;> simp

@[simp] theorem cancelMs_p (t : Nat × List W64) (s : State) : (cancelMs t s).p = s.p := by simp [cancelMs]
@[simp] theorem switched_p (before : State) (t : Nat) (s : State) : (switched before t s).p = s.p := by simp [switched]

@[simp] theorem switchEvent_p (before : State) (ts : List Nat) (s : State) : (switchEvent before ts s).p = s.p := by
  unfold switchEvent
  dsimp only
  split <;> simp

@[simp] theorem protReply_p (refused : List Key) (r : Run) (s : State) : (protReply refused r s).p = s.p := by simp [protReply]

@[simp] theorem judgeAll_p (rs : List Run) (s : State) : (judgeAll rs s).2.p = s.p :=
  foldl_same (fun a : List Key × State => a.2.p) _ (fun a r => judgeMs_p a.1 r a.2) rs ([], s)

@[simp] theorem selectorTick_p (s : State) : (selectorTick s).p = s.p := by simp [selectorTick]
@[simp] theorem followTick_p (s : State) : (followTick s).p = s.p := by simp [followTick]

@[simp] theorem lockageTrib_p (old : Page) (new : Page) (t : Nat) (s : State) : (lockageTrib old new t s).p = s.p := by
  simp [lockageTrib]

@[simp] theorem lockageTribs_p (s : State) : (lockageTribs s).p = s.p := by simp [lockageTribs]
@[simp] theorem streamSels_p (s : State) : (streamSels s).p = s.p := by simp [streamSels]
@[simp] theorem skewOne_p (t : Nat) (v : Int) (s : State) : (skewOne t v s).p = s.p := by simp [skewOne]

@[simp] theorem skewOf_p (y : Nat) (t : Nat × List W64) (s : State) : (skewOf y t s).p = s.p := by
  unfold skewOf
  split <;> simp

@[simp] theorem skewsOf_p (t : Nat × List W64) (s : State) : (skewsOf t s).p = s.p := by simp [skewsOf]
@[simp] theorem skewTick_p (s : State) : (skewTick s).p = s.p := by simp [skewTick]

/-! ## Commands of lanes (chapter 8) -/

@[simp] theorem startRows_p (lane : Nat) (s : State) : (startRows lane s).p = s.p := by simp [startRows]

@[simp] theorem applyLaneCmd_p (r : Run) (s : State) : (applyLaneCmd r s).p = s.p := by
  unfold applyLaneCmd
  split <;> simp

@[simp] theorem laneCmdTick_p (s : State) : (laneCmdTick s).p = s.p := by simp [laneCmdTick]

/-! ## Channel P, outputs and re-alignments (chapter 10) -/

@[simp] theorem limitEvent_p (hit : Bool) (s : State) : (limitEvent hit s).p = s.p := by simp [limitEvent]
@[simp] theorem applySteer_phi (r : Run) (s : State) : (applySteer r s).p.phi = s.p.phi := by simp [applySteer]
@[simp] theorem applySoft_p (r : Run) (s : State) : (applySoft r s).p = s.p := by simp [applySoft]
@[simp] theorem rampF_p (s : State) : (rampF s).p = s.p := by simp [rampF]

@[simp] theorem softSample_p (phase : Int) (s : State) : (softSample phase s).p = s.p := by
  unfold softSample
  dsimp only
  (repeat' split) <;> simp

@[simp] theorem outBoundary_p (s : State) : (outBoundary s).p = s.p := by simp [outBoundary]

@[simp] theorem pulseEnd_p (n : Nat) (s : State) : (pulseEnd n s).p = s.p := by
  unfold pulseEnd
  split <;> simp

@[simp] theorem pulseTick_p (n : Nat) (s : State) : (pulseTick n s).p = s.p := by
  unfold pulseTick
  dsimp only
  (repeat' split) <;> simp

@[simp] theorem dropHigh_p (s : State) (n : Nat) : (dropHigh s n).p = s.p := by simp [dropHigh]
@[simp] theorem clockTick_p (s : State) : (clockTick s).p = s.p := by simp [clockTick]
@[simp] theorem edgeTick_p (s : State) : (edgeTick s).p = s.p := by simp [edgeTick]
@[simp] theorem todSend_p (out : Nat) (ql : Bool) (s : State) : (todSend out ql s).p = s.p := by simp [todSend]
@[simp] theorem todRow_p (s : State) : (todRow s).p = s.p := by simp [todRow]

@[simp] theorem measureOffset_phi (n : Nat) (o : Int × Int) (s : State) : (measureOffset n o s).p.phi = s.p.phi := by
  simp [measureOffset, measureP_spec]

@[simp] theorem reportStart_p (k : Nat) (s : State) : (reportStart k s).p = s.p := by
  unfold reportStart
  (repeat' split) <;> simp

@[simp] theorem fixRealign_p (r : Run) (n gap : Nat) (mode1 : Bool) (s : State) : (fixRealign r n gap mode1 s).p = s.p := by
  simp [fixRealign]

@[simp] theorem withdrawRealign_p (status : Nat) (x : Realign) (s : State) : (withdrawRealign status x s).p = s.p := by
  unfold withdrawRealign
  split <;> simp

@[simp] theorem realignChecks_p (s : State) : (realignChecks s).p = s.p := by simp [realignChecks]
@[simp] theorem commitRealigns_p (s : State) : (commitRealigns s).p = s.p := by simp [commitRealigns]
@[simp] theorem applyRealign_p (x : Realign) (s : State) : (applyRealign x s).p = s.p := by simp [applyRealign]
@[simp] theorem realignDone_p (x : Realign) (s : State) : (realignDone x s).p = s.p := by simp [realignDone]

@[simp] theorem realignReply_p (x : Realign) (s : State) : (realignReply x s).p = s.p := by
  unfold realignReply
  split <;> simp

@[simp] theorem restartTie_p (tie : List (Nat × Int)) (n : Nat) (s : State) : (restartTie tie n s).p = s.p := by simp [restartTie]
@[simp] theorem restartDelay_p (n : Nat) (s : State) : (restartDelay n s).p = s.p := by simp [restartDelay]

@[simp] theorem measRecords_p (tie : List (Nat × Int)) (r : Run) (ok : Bool) (s : State) : (measRecords tie r ok s).p = s.p := by
  simp [measRecords]

@[simp] theorem frameStatusTick_p (s : State) : (frameStatusTick s).p = s.p := by simp [frameStatusTick]

/-! ## Twins (chapter 11) -/

@[simp] theorem watchOut_p (port : Bool) (f : WatchFrame) (s : State) : (watchOut port f s).p = s.p := by simp [watchOut]

@[simp] theorem sendWatch_p (port : Bool) (type : Nat) (w1 : W64) (w2 : W64) (hi : Nat) (s : State) :
    (sendWatch port type w1 w2 hi s).p = s.p := by
  simp [sendWatch]

@[simp] theorem sendHeartbeat_p (s : State) : (sendHeartbeat s).p = s.p := by simp [sendHeartbeat]
@[simp] theorem sendStatus_p (renew : Bool) (s : State) : (sendStatus renew s).p = s.p := by simp [sendStatus]
@[simp] theorem sendHandoverReq_p (at_ : Nat) (s : State) : (sendHandoverReq at_ s).p = s.p := by simp [sendHandoverReq]
@[simp] theorem sendAnswer_p (a : AnsReg) (s : State) : (sendAnswer a s).p = s.p := by simp [sendAnswer]
@[simp] theorem watchReplies_p (s : State) : (watchReplies s).p = s.p := by simp [watchReplies]
@[simp] theorem emptySlots_p (s : State) : (emptySlots s).p = s.p := by simp [emptySlots]
@[simp] theorem sendFullReq_p (s : State) : (sendFullReq s).p = s.p := by simp [sendFullReq]
@[simp] theorem pendRole_p (r : Role) (cause : Nat) (s : State) : (pendRole r cause s).p = s.p := by simp [pendRole]
@[simp] theorem loseSync_p (cause roleCause : Nat) (s : State) : (loseSync cause roleCause s).p = s.p := by simp [loseSync]
@[simp] theorem mirrorCopy_p (s : State) : (mirrorCopy s).p = s.p := by simp [mirrorCopy]

@[simp] theorem promoteTick_p (s : State) : (promoteTick s).p = s.p := by
  unfold promoteTick
  split <;> simp

@[simp] theorem stopHolds_p (s : State) : (stopHolds s).p = s.p := by simp [stopHolds]
@[simp] theorem loadSels_p (sl : Slot) (s : State) : (loadSels sl s).p = s.p := by simp [loadSels]
@[simp] theorem startDie_p (s : State) : (startDie s).p = s.p := by simp [startDie]
@[simp] theorem stopDie_p (s : State) : (stopDie s).p = s.p := by simp [stopDie]
@[simp] theorem leaveActive_p (s : State) : (leaveActive s).p = s.p := by simp [leaveActive]
@[simp] theorem endRun_p (status : Nat) (r : Run) (s : State) : (endRun status r s).p = s.p := by simp [endRun]
@[simp] theorem withdrawRun_p (r : Run) (s : State) : (withdrawRun r s).p = s.p := by simp [withdrawRun]

@[simp] theorem withdrawRoleRuns_p (s : State) : (withdrawRoleRuns s).p = s.p := by
  unfold withdrawRoleRuns
  split <;> simp

@[simp] theorem enterRole_p (r : Role) (s : State) : (enterRole r s).p = s.p := by
  unfold enterRole
  split <;> simp

@[simp] theorem dropLease_p (s : State) : (dropLease s).p = s.p := by simp [dropLease]
@[simp] theorem setRole_p (r : Role) (cause : Nat) (s : State) : (setRole r cause s).p = s.p := by simp [setRole]

@[simp] theorem roleEvent_p (s : State) : (roleEvent s).p = s.p := by
  unfold roleEvent
  split <;> simp

@[simp] theorem ownTerm_p (t : Nat) (s : State) : (ownTerm t s).p = s.p := by simp [ownTerm]
@[simp] theorem newTerm_p (s : State) : (newTerm s).p = s.p := by simp [newTerm]
@[simp] theorem beginTaking_p (t : TakeReg) (s : State) : (beginTaking t s).p = s.p := by simp [beginTaking]

@[simp] theorem applyTake_p (t : TakeReg) (s : State) : (applyTake t s).p = s.p := by
  unfold applyTake
  split <;> simp

@[simp] theorem pendOne_p (x : Role × Nat) (s : State) : (pendOne x s).p = s.p := by
  unfold pendOne
  split <;> simp

@[simp] theorem noticeTick_p (s : State) : (noticeTick s).p = s.p := by simp [noticeTick]

@[simp] theorem handoverDone_p (at_ st : Nat) (s : State) : (handoverDone at_ st s).p = s.p := by
  unfold handoverDone
  split <;> simp

@[simp] theorem freeOther_p (s : State) : (freeOther s).p = s.p := by simp [freeOther]
@[simp] theorem handoverGained_p (h : Hand) (s : State) : (handoverGained h s).p = s.p := by simp [handoverGained]
@[simp] theorem handoverKept_p (h : Hand) (s : State) : (handoverKept h s).p = s.p := by simp [handoverKept]
@[simp] theorem handoverSlots_p (s : State) : (handoverSlots s).p = s.p := by simp [handoverSlots]
@[simp] theorem handoverOut_p (h : Hand) (s : State) : (handoverOut h s).p = s.p := by simp [handoverOut]

@[simp] theorem handoverTick_p (s : State) : (handoverTick s).p = s.p := by
  unfold handoverTick
  split <;> simp

@[simp] theorem handoverCheck_p (s : State) : (handoverCheck s).p = s.p := by
  unfold handoverCheck
  split <;> simp

@[simp] theorem warmTick_p (s : State) : (warmTick s).p = s.p := by
  unfold warmTick
  split <;> simp

@[simp] theorem raiseHterm_p (s : State) : (raiseHterm s).p = s.p := by simp [raiseHterm]

@[simp] theorem pendTick_p (s : State) : (pendTick s).p = s.p := by
  unfold pendTick
  dsimp only
  split <;> simp

@[simp] theorem stepDownTick_p (why : Nat) (s : State) : (stepDownTick why s).p = s.p := by simp [stepDownTick]
@[simp] theorem roleTick_p (s : State) : (roleTick s).p = s.p := by simp [roleTick]

@[simp] theorem rwtrTick_p (s : State) : (rwtrTick s).p = s.p := by
  unfold rwtrTick
  (repeat' split) <;> simp

@[simp] theorem applyRevert_p (r : Run) (s : State) : (applyRevert r s).p = s.p := by
  unfold applyRevert
  split <;> simp

@[simp] theorem revertCmdTick_p (s : State) : (revertCmdTick s).p = s.p := by simp [revertCmdTick]
@[simp] theorem revertEvent_p (e : Nat × Nat × Nat) (s : State) : (revertEvent e s).p = s.p := by simp [revertEvent]

@[simp] theorem twinEvents_p (s : State) : (twinEvents s).p = s.p := by
  unfold twinEvents
  dsimp only
  (repeat' split) <;> simp

@[simp] theorem twinLaneTick_p (s : State) : (twinLaneTick s).p = s.p := by simp [twinLaneTick]
@[simp] theorem partnerGone_p (s : State) : (partnerGone s).p = s.p := by simp [partnerGone]
@[simp] theorem settlePeer_p (s : State) : (settlePeer s).p = s.p := by simp [settlePeer]
@[simp] theorem settleKeeper_p (s : State) : (settleKeeper s).p = s.p := by simp [settleKeeper]
@[simp] theorem settleLease_p (s : State) : (settleLease s).p = s.p := by simp [settleLease]
@[simp] theorem prefSeen_p (pref : Bool) (s : State) : (prefSeen pref s).p = s.p := by simp [prefSeen]

@[simp] theorem requestRevert_p (pref : Bool) (roleSt : Nat) (s : State) : (requestRevert pref roleSt s).p = s.p := by
  simp [requestRevert]

@[simp] theorem heartbeatIn_p (f : WatchFrame) (s : State) : (heartbeatIn f s).p = s.p := by simp [heartbeatIn]
@[simp] theorem takeIn_p (f : WatchFrame) (s : State) : (takeIn f s).p = s.p := by simp [takeIn]
@[simp] theorem handoverIn_p (f : WatchFrame) (s : State) : (handoverIn f s).p = s.p := by simp [handoverIn]

@[simp] theorem keeperIn_p (f : WatchFrame) (s : State) : (keeperIn f s).p = s.p := by
  unfold keeperIn
  (repeat' split) <;> simp

@[simp] theorem twinFrame_p (port : Bool) (f : WatchFrame) (s : State) : (twinFrame port f s).p = s.p := by simp [twinFrame]
@[simp] theorem loadSlot_p (sl : Slot) (s : State) : (loadSlot sl s).p = s.p := by simp [loadSlot]
@[simp] theorem primeSels_p (s : State) : (primeSels s).p = s.p := by simp [primeSels]

@[simp] theorem coldStart_p (matches_ : Bool) (s : State) : (coldStart matches_ s).p = s.p := by
  unfold coldStart
  split <;> simp

/-! ## The checkpoint (chapter 12) -/

@[simp] theorem beginFull_p (s : State) : (beginFull s).p = s.p := by simp [beginFull]
@[simp] theorem fullReq_p (s : State) : (fullReq s).p = s.p := by simp [fullReq]
@[simp] theorem fullCopyEnd_p (f : FullSend) (s : State) : (fullCopyEnd f s).p = s.p := by simp [fullCopyEnd]
@[simp] theorem peerSynced_p (s : State) : (peerSynced s).p = s.p := by simp [peerSynced]

@[simp] theorem ckptAck_p (m : TwinMsg) (s : State) : (ckptAck m s).p = s.p := by
  unfold ckptAck
  (repeat' split) <;> simp

@[simp] theorem deltaShip_p (s : State) : (deltaShip s).p = s.p := by
  unfold deltaShip
  dsimp only
  (repeat' split) <;> simp

@[simp] theorem mirrorTick_p (s : State) : (mirrorTick s).p = s.p := by simp [mirrorTick]
@[simp] theorem fullIn_p (m : TwinMsg) (s : State) : (fullIn m s).p = s.p := by simp [fullIn]
@[simp] theorem fullTick_p (s : State) : (fullTick s).p = s.p := by simp [fullTick]
@[simp] theorem discardMsg_p (type : Nat) (s : State) : (discardMsg type s).p = s.p := by simp [discardMsg]
@[simp] theorem openFree_p (s : State) : (openFree s).p = s.p := by simp [openFree]
@[simp] theorem deltaIn_p (m : TwinMsg) (s : State) : (deltaIn m s).p = s.p := by simp [deltaIn]
@[simp] theorem modCommitted_p (gen : Nat) (f : Slot → Slot) (s : State) : (modCommitted gen f s).p = s.p := by simp [modCommitted]

@[simp] theorem unpromote_p (gen frame : Nat) (s : State) : (unpromote gen frame s).p = s.p := by
  unfold unpromote
  split <;> simp

@[simp] theorem fixIn_p (m : TwinMsg) (s : State) : (fixIn m s).p = s.p := by simp [fixIn]
@[simp] theorem dropIn_p (m : TwinMsg) (s : State) : (dropIn m s).p = s.p := by simp [dropIn]
@[simp] theorem followWrite_p (w : SlotWrite) (s : State) : (followWrite w s).p = s.p := by simp [followWrite]
@[simp] theorem selIn_p (m : TwinMsg) (s : State) : (selIn m s).p = s.p := by simp [selIn]
@[simp] theorem syncEndIn_p (s : State) : (syncEndIn s).p = s.p := by simp [syncEndIn]

@[simp] theorem refreshDone_p (s : State) : (refreshDone s).p = s.p := by
  unfold refreshDone
  split <;> simp

@[simp] theorem handleMsg_p (ws : List W64) (s : State) : (handleMsg ws s).p = s.p := by
  unfold handleMsg onStore
  dsimp only
  (repeat' split) <;> simp

@[simp] theorem beginWrite_p (s : State) : (beginWrite s).p = s.p := by simp [beginWrite]
@[simp] theorem twinBlocks_p (bs : List (List W64)) (s : State) : (twinBlocks bs s).p = s.p := by simp [twinBlocks]

@[simp] theorem joinPlace_p (phase : Nat) (cs : List TwinBits) (s : State) : (joinPlace phase cs s).2.p = s.p := by
  unfold joinPlace
  dsimp only
  split <;> simp

@[simp] theorem joinLanes_p (n phase : Nat) (s : State) : (joinLanes n phase s).2.p = s.p := by
  induction n generalizing s with
  | zero => simp [joinLanes]
  | succ n ih =>
    simp only [joinLanes]
    split
    · simp
    · dsimp only
      split <;> simp [ih]

@[simp] theorem twinReceive_p (rx : List TwinRx) (phase : Nat) (s : State) : (twinReceive rx phase s).p = s.p := by simp [twinReceive]

/-! ## The keeper (chapter 11) -/

@[simp] theorem State.setKport_p (s : State) (port : Bool) (k : KPort) : (State.setKport s port k).p = s.p := by simp [State.setKport]

@[simp] theorem State.modKport_p (s : State) (port : Bool) (f : KPort → KPort) : (State.modKport s port f).p = s.p := by
  simp [State.modKport]

@[simp] theorem keeperSend_p (port : Bool) (type : Nat) (w1 : W64) (w2 : W64) (s : State) :
    (keeperSend port type w1 w2 s).p = s.p := by
  simp [keeperSend]

@[simp] theorem sendNotice_p (port : Bool) (s : State) : (sendNotice port s).p = s.p := by simp [sendNotice]
@[simp] theorem sendHello_p (s : State) : (sendHello s).p = s.p := by simp [sendHello]

@[simp] theorem sendQuery_p (s : State) : (sendQuery s).p = s.p := by
  unfold sendQuery
  split <;> simp

@[simp] theorem sendTake_p (s : State) : (sendTake s).p = s.p := by
  unfold sendTake
  split <;> simp

@[simp] theorem kHeld_p (port : Bool) (term : Nat) (s : State) : (kHeld port term s).p = s.p := by simp [kHeld]
@[simp] theorem kGrant_p (port : Bool) (base : Nat) (s : State) : (kGrant port base s).p = s.p := by simp [kGrant]

@[simp] theorem kLapse_p (s : State) : (kLapse s).p = s.p := by
  unfold kLapse
  split <;> simp

@[simp] theorem kActive_p (port : Bool) (f : WatchFrame) (s : State) : (kActive port f s).1.p = s.p := by
  unfold kActive
  (repeat' split) <;> simp

@[simp] theorem kStatus_p (port : Bool) (f : WatchFrame) (s : State) : (kStatus port f s).p = s.p := by simp [kStatus]
@[simp] theorem kAnswer_p (port : Bool) (f : WatchFrame) (s : State) : (kAnswer port f s).p = s.p := by simp [kAnswer]
@[simp] theorem kTaken_p (port : Bool) (f : WatchFrame) (s : State) : (kTaken port f s).p = s.p := by simp [kTaken]
@[simp] theorem kHandover_p (port : Bool) (f : WatchFrame) (s : State) : (kHandover port f s).p = s.p := by simp [kHandover]

theorem p_of_kActive {port : Bool} {f : WatchFrame} {s t : State} {done : Bool} (h : kActive port f s = (t, done)) : t.p = s.p := by
  rw [← kActive_p port f s, h]

@[simp] theorem keeperFrame_p (port : Bool) (f : WatchFrame) (s : State) : (keeperFrame port f s).p = s.p := by
  unfold keeperFrame
  split
  · rfl
  · split
    · rfl
    · dsimp only
      split <;> rename_i h
      · simp [p_of_kActive h]
      · split <;> simp [p_of_kActive h]

@[simp] theorem toKeeper_p (port : Bool) (f : WatchFrame) (s : State) : (toKeeper port f s).p = s.p := by simp [toKeeper]
@[simp] theorem keeperStart_p (s : State) : (keeperStart s).p = s.p := by simp [keeperStart]
@[simp] theorem keeperLearnt_p (s : State) : (keeperLearnt s).p = s.p := by simp [keeperLearnt]
@[simp] theorem keeperTick_p (s : State) : (keeperTick s).p = s.p := by simp [keeperTick]
@[simp] theorem keeperGrant_p (s : State) : (keeperGrant s).p = s.p := by simp [keeperGrant]

/-! ## The towpath (chapter 14) -/

@[simp] theorem towBad_p (src : Nat) (s : State) : (towBad src s).p = s.p := by simp [towBad]
@[simp] theorem ackPacket_p (p : TowPkt) (s : State) : (ackPacket p s).p = s.p := by simp [ackPacket]
@[simp] theorem queueGone_p (q src : Nat) (s : State) : (queueGone q src s).p = s.p := by simp [queueGone]
@[simp] theorem cmdIn_p (p : TowPkt) (priv : Nat) (s : State) : (cmdIn p priv s).p = s.p := by simp [cmdIn]
@[simp] theorem dmaRdIn_p (p : TowPkt) (data : Option (List W64)) (s : State) : (dmaRdIn p data s).p = s.p := by simp [dmaRdIn]
@[simp] theorem dmaDataIn_p (p : TowPkt) (s : State) : (dmaDataIn p s).p = s.p := by simp [dmaDataIn]

@[simp] theorem takeHeld_p (h : HeldPkt) (s : State) : (takeHeld h s).p = s.p := by
  unfold takeHeld
  split <;> simp

@[simp] theorem releaseHeld_p (s : State) : (releaseHeld s).p = s.p := by simp [releaseHeld]

@[simp] theorem hold_p (p : TowPkt) (priv : Nat) (data : Option (List W64)) (s : State) : (hold p priv data s).p = s.p := by
  simp [hold]

@[simp] theorem heldTick_p (s : State) : (heldTick s).p = s.p := by simp [heldTick]
@[simp] theorem freeBuffer_p (p : TowPkt) (side : Side) (s : State) : (freeBuffer p side s).p = s.p := by simp [freeBuffer]
@[simp] theorem memberEvent_p (a detail : Nat) (s : State) : (memberEvent a detail s).p = s.p := by simp [memberEvent]
@[simp] theorem stampMember_p (before : State) (a : Nat) (s : State) : (stampMember before a s).p = s.p := by simp [stampMember]

@[simp] theorem flushEvents_p (s : State) : (flushEvents s).p = s.p := by
  unfold flushEvents
  split <;> simp

@[simp] theorem dropMember_p (a : Nat) (s : State) : (dropMember a s).p = s.p := by simp [dropMember]

@[simp] theorem gatewayRule_p (s : State) : (gatewayRule s).p = s.p := by
  unfold gatewayRule
  split <;> simp

@[simp] theorem delayAsk_p (sd : Side) (s : State) : (delayAsk sd s).p = s.p := by simp [delayAsk]
@[simp] theorem takeAddress_p (a : Nat) (s : State) : (takeAddress a s).p = s.p := by simp [takeAddress]
@[simp] theorem memberIn_p (side : Side) (p : TowPkt) (s : State) : (memberIn side p s).p = s.p := by simp [memberIn]
@[simp] theorem ownAddressSeen_p (p : TowPkt) (s : State) : (ownAddressSeen p s).p = s.p := by simp [ownAddressSeen]
@[simp] theorem memberPacket_p (side : Side) (p : TowPkt) (s : State) : (memberPacket side p s).p = s.p := by simp [memberPacket]
@[simp] theorem memberSend_p (s : State) : (memberSend s).p = s.p := by simp [memberSend]
@[simp] theorem countMembers_p (s : State) : (countMembers s).p = s.p := by simp [countMembers]
@[simp] theorem ownRecord_p (s : State) : (ownRecord s).p = s.p := by simp [ownRecord]

@[simp] theorem memberTick_p (s : State) : (memberTick s).p = s.p := by
  unfold memberTick
  dsimp only
  split <;> simp

@[simp] theorem syncSend_p (s : State) : (syncSend s).p = s.p := by simp [syncSend]
@[simp] theorem delaySend_p (s : State) : (delaySend s).p = s.p := by simp [delaySend]

@[simp] theorem fixDir_p (s : State) : (fixDir s).p = s.p := by
  unfold fixDir
  (repeat' split) <;> simp

@[simp] theorem flightFrame_p (frame : Nat) (s : State) : (flightFrame frame s).p = s.p := by simp [flightFrame]
@[simp] theorem dropSync_p (s : State) : (dropSync s).p = s.p := by simp [dropSync]

@[simp] theorem syncUse_p (side : Side) (p : TowPkt) (arrival : Nat) (s : State) : (syncUse side p arrival s).p = s.p := by
  simp [syncUse]

@[simp] theorem syncIn_p (side : Side) (p : TowPkt) (arrival : Nat) (s : State) : (syncIn side p arrival s).p = s.p := by simp [syncIn]
@[simp] theorem backupTick_p (s : State) : (backupTick s).p = s.p := by simp [backupTick]
@[simp] theorem creditIn_p (side : Side) (p : TowPkt) (s : State) : (creditIn side p s).p = s.p := by simp [creditIn]

@[simp] theorem delayReqIn_p (side : Side) (turnaround : Nat) (s : State) : (delayReqIn side turnaround s).p = s.p := by
  simp [delayReqIn]

@[simp] theorem delayRespIn_p (side : Side) (p : TowPkt) (roundTrip : Nat) (s : State) : (delayRespIn side p roundTrip s).p = s.p := by
  simp [delayRespIn]

@[simp] theorem commitIn_p (p : TowPkt) (s : State) : (commitIn p s).p = s.p := by simp [commitIn]
@[simp] theorem replyIn_p (p : TowPkt) (s : State) : (replyIn p s).p = s.p := by simp [replyIn]
@[simp] theorem eventIn_p (p : TowPkt) (s : State) : (eventIn p s).p = s.p := by simp [eventIn]

@[simp] theorem ackIn_p (p : TowPkt) (s : State) : (ackIn p s).p = s.p := by
  unfold ackIn
  dsimp only
  (repeat' split) <;> simp

@[simp] theorem dmaWrIn_p (p : TowPkt) (s : State) : (dmaWrIn p s).p = s.p := by simp [dmaWrIn]
@[simp] theorem dmaWrBad_p (side : Side) (p : DmaWrPkt) (s : State) : (dmaWrBad side p s).p = s.p := by simp [dmaWrBad]
@[simp] theorem unqueue_p (u : Unacked) (s : State) : (unqueue u s).p = s.p := by simp [unqueue]

@[simp] theorem resend_p (i : Nat) (s : State) : (resend i s).p = s.p := by
  unfold resend
  (repeat' split) <;> simp

@[simp] theorem ringEvent_p (side : Side) (up : Bool) (s : State) : (ringEvent side up s).p = s.p := by simp [ringEvent]
@[simp] theorem towReports_p (rs : List TowLine) (s : State) : (towReports rs s).p = s.p := by simp [towReports]
@[simp] theorem remoteFaults_p (s : State) : (remoteFaults s).p = s.p := by simp [remoteFaults]
@[simp] theorem routeLapse_p (a : Nat) (side : Side) (s : State) : (routeLapse a side s).p = s.p := by simp [routeLapse]
@[simp] theorem failReads_p (s : State) : (failReads s).p = s.p := by simp [failReads]

@[simp] theorem memberLost_p (a : Nat) (s : State) : (memberLost a s).p = s.p := by
  unfold memberLost
  dsimp only
  split <;> simp

@[simp] theorem certOutcome_p (a : Nat) (ok : Bool) (s : State) : (certOutcome a ok s).p = s.p := by simp [certOutcome]
@[simp] theorem identityCheck_p (a : Nat) (r : IdentResult) (s : State) : (identityCheck a r s).p = s.p := by simp [identityCheck]
@[simp] theorem startRole_p (s : State) : (startRole s).p = s.p := by simp [startRole]

@[simp] theorem admitDone_p (second first : Bool) (j : FlashJob) (s : State) : (admitDone second first j s).p = s.p := by
  simp [admitDone]

/-! ## The matrix (chapter 15) -/

@[simp] theorem declareWedged_p (f cause : Nat) (target : Nat) (s : State) : (declareWedged f cause target s).p = s.p := by
  simp [declareWedged]

@[simp] theorem failCommand_p (q : MReq) (s : State) : (failCommand q s).p = s.p := by
  unfold failCommand
  dsimp only
  (repeat' split) <;> simp

@[simp] theorem decodeError_p (r : MReq) (cause : Nat) (s : State) : (decodeError r cause s).p = s.p := by simp [decodeError]
@[simp] theorem targetError_p (q : MReq) (s : State) : (targetError q s).p = s.p := by simp [targetError]
@[simp] theorem modSlots_p (a : Nat) (f : Nat → Nat) (s : State) : (modSlots a f s).p = s.p := by simp [modSlots]
@[simp] theorem slotSeen_p (a : Nat) (free : Bool) (s : State) : (slotSeen a free s).p = s.p := by simp [slotSeen]

@[simp] theorem grantHead_p (m t : Nat) (s : State) : (grantHead m t s).p = s.p := by
  unfold grantHead
  split <;> simp

@[simp] theorem visit_p (m t n : Nat) (s : State) : (visit m t n s).p = s.p := by
  induction n generalizing s with
  | zero => simp [visit]
  | succ n ih =>
    unfold visit
    split
    · split
      · simp [ih]
      · simp
    · simp

@[simp] theorem openRound_p (t : Nat) (s : State) : (openRound t s).p = s.p := by simp [openRound]
@[simp] theorem round_p (t : Nat) (s : State) : (round t s).p = s.p := by simp [round]

@[simp] theorem rounds_p (t n : Nat) (s : State) : (rounds t n s).p = s.p := by
  induction n generalizing s with
  | zero => simp [rounds]
  | succ n ih =>
    unfold rounds
    split
    · simp [ih]
    · simp

@[simp] theorem arbitrate_p (s : State) : (arbitrate s).p = s.p := by simp [arbitrate]

@[simp] theorem matrixRequest_p (r : MReq) (slotFree : Bool) (s : State) : (matrixRequest r slotFree s).p = s.p := by
  simp [matrixRequest]

@[simp] theorem releaseTargets_p (s : State) : (releaseTargets s).p = s.p := by simp [releaseTargets]
@[simp] theorem orderMarks_p (s : State) : (orderMarks s).p = s.p := by simp [orderMarks]

@[simp] theorem storeByte_p (a : Nat) (b : BitVec 8) (s : State) : (storeByte a b s).p = s.p := by
  unfold storeByte
  split <;> simp

@[simp] theorem storeBytes_p (cut : Option Nat) (a : Nat) (ds : List (Option (BitVec 8))) (s : State) :
    (storeBytes cut a ds s).p = s.p := by
  induction ds generalizing a s with
  | nil => simp [storeBytes]
  | cons d ds ih =>
    simp only [storeBytes, ih]
    (repeat' split) <;> simp

@[simp] theorem matrixResponse_p (r : MReq) (err : Bool) (s : State) : (matrixResponse r err s).p = s.p := by
  unfold matrixResponse
  split <;> simp

@[simp] theorem resetMaster_p (m : Nat) (s : State) : (resetMaster m s).p = s.p := by simp [resetMaster]
@[simp] theorem readmit_p (m : Nat) (s : State) : (readmit m s).p = s.p := by simp [readmit]
@[simp] theorem refuseWaiting_p (s : State) : (refuseWaiting s).p = s.p := by simp [refuseWaiting]
@[simp] theorem applyMatrixCfg_p (r : Run) (s : State) : (applyMatrixCfg r s).p = s.p := by simp [applyMatrixCfg]
@[simp] theorem judgeWedges_p (s : State) : (judgeWedges s).p = s.p := by simp [judgeWedges]
@[simp] theorem matrixTick_p (s : State) : (matrixTick s).p = s.p := by simp [matrixTick]

/-! ## Counters (chapter 16) -/

@[simp] theorem State.modBank_p (s : State) (b : Nat) (f : Bank → Bank) : (State.modBank s b f).p = s.p := by simp [State.modBank]

@[simp] theorem overflowEvent_p (b : Nat) (s : State) : (overflowEvent b s).p = s.p := by
  unfold overflowEvent
  split <;> simp

@[simp] theorem advanceAll_p (s : State) : (advanceAll s).p = s.p := by simp [advanceAll]

@[simp] theorem overflowCounts_p (n : Nat) (done : List Nat) (s : State) : (overflowCounts n done s).p = s.p := by
  induction n generalizing done s with
  | zero => simp [overflowCounts]
  | succ n ih =>
    simp only [overflowCounts]
    split
    · simp
    · simp [ih]

@[simp] theorem countStep_p (s : State) : (countStep s).p = s.p := by simp [countStep]
@[simp] theorem weirStep_p (weirs : List (Nat × Nat × Nat × Nat)) (s : State) : (weirStep weirs s).p = s.p := by simp [weirStep]
@[simp] theorem restartBank_p (b : Nat) (s : State) : (restartBank b s).p = s.p := by simp [restartBank]

@[simp] theorem closeInterval_p (b frame : Nat) (short nextShort : Bool) (s : State) :
    (closeInterval b frame short nextShort s).p = s.p := by
  simp [closeInterval]

@[simp] theorem closePeriod_p (b frame : Nat) (s : State) : (closePeriod b frame s).p = s.p := by simp [closePeriod]

@[simp] theorem closeBw_p (frame : Nat) (short nextShort : Bool) (s : State) : (closeBw frame short nextShort s).p = s.p := by
  simp [closeBw]

@[simp] theorem closeWindow_p (frame : Nat) (s : State) : (closeWindow frame s).p = s.p := by simp [closeWindow]

@[simp] theorem readStep_p (s : State) : (readStep s).p = s.p :=
  foldl_same State.p _ (fun s r => throughMatrix_same State.p _ _ r _ s (by simp) (by simp) (by simp)) _ s

@[simp] theorem latch_p (scopes : Nat) (s : State) : (latch scopes s).p = s.p := by simp [latch]
@[simp] theorem storeError_p (k : Key) (s : State) : (storeError k s).p = s.p := by simp [storeError]
@[simp] theorem snapStep_p (s : State) : (snapStep s).p = s.p := by simp [snapStep]

@[simp] theorem changeBank_p (b : Nat) (s : State) : (changeBank b s).p = s.p := by
  unfold changeBank
  (repeat' split) <;> simp

@[simp] theorem changeStep_p (s : State) : (changeStep s).p = s.p := by simp [changeStep]
@[simp] theorem reconfigure_p (b : Nat) (p : CtrPend) (s : State) : (reconfigure b p s).p = s.p := by simp [reconfigure]

@[simp] theorem reconfBank_p (b : Nat) (s : State) : (reconfBank b s).p = s.p := by
  unfold reconfBank
  split <;> simp

@[simp] theorem reconfStep_p (s : State) : (reconfStep s).p = s.p := by simp [reconfStep]
@[simp] theorem latchStep_p (s : State) : (latchStep s).p = s.p := by simp [latchStep]
@[simp] theorem closedEvent_p (s : State) : (closedEvent s).p = s.p := by simp [closedEvent]
@[simp] theorem realignCounters_p (n : Nat) (s : State) : (realignCounters n s).p = s.p := by simp [realignCounters]
@[simp] theorem pendReconf_p (b : Nat) (r : Run) (s : State) : (pendReconf b r s).p = s.p := by simp [pendReconf]

/-! ## Recovery (chapter 17) -/

@[simp] theorem progressTick_p (stuck : List Nat) (s : State) : (progressTick stuck s).p = s.p := by simp [progressTick]
@[simp] theorem workTick_p (s : State) : (workTick s).p = s.p := by simp [workTick]

@[simp] theorem recoveryEvent_p (code f : Nat) (ws : List W64) (s : State) : (recoveryEvent code f ws s).p = s.p := by
  simp [recoveryEvent]

@[simp] theorem recoveryEvents_p (s : State) : (recoveryEvents s).p = s.p := by simp [recoveryEvents]

@[simp] theorem escalation_p (step outcome : Nat) (f : Nat) (s : State) : (escalation step outcome f s).p = s.p := by
  simp [escalation]

@[simp] theorem escalate_p (f : Nat) (s : State) : (escalate f s).p = s.p := by simp [escalate]
@[simp] theorem powerCycle_p (s : State) : (powerCycle s).p = s.p := by simp [powerCycle]

@[simp] theorem stepTick_p (s : State) : (stepTick s).p = s.p := by
  unfold stepTick
  split <;> simp

@[simp] theorem discardCmd_p (s : State) : (discardCmd s).p = s.p := by simp [discardCmd]
@[simp] theorem discardTow_p (s : State) : (discardTow s).p = s.p := by simp [discardTow]
@[simp] theorem discardCkpt_p (s : State) : (discardCkpt s).p = s.p := by simp [discardCkpt]
@[simp] theorem discardPlan_p (s : State) : (discardPlan s).p = s.p := by simp [discardPlan]
@[simp] theorem discardTime_p (s : State) : (discardTime s).p = s.p := by simp [discardTime]
@[simp] theorem discardLanes_p (k : Nat) (s : State) : (discardLanes k s).p = s.p := by simp [discardLanes]

@[simp] theorem discard_p (f : Nat) (s : State) : (discard f s).p = s.p := by
  unfold discard
  split <;> simp

@[simp] theorem restore_p (f : Nat) (s : State) : (restore f s).p = s.p := by
  unfold restore
  split <;> simp

@[simp] theorem reinitEvent_p (r : Reinit) (outcome rows : Nat) (s : State) : (reinitEvent r outcome rows s).p = s.p := by
  simp [reinitEvent]

@[simp] theorem beginReinit_p (r : Reinit) (s : State) : (beginReinit r s).p = s.p := by simp [beginReinit]

@[simp] theorem endReinit_p (r : Reinit) (s : State) : (endReinit r s).p = s.p := by
  unfold endReinit
  split <;> simp

@[simp] theorem overrunReinit_p (r : Reinit) (s : State) : (overrunReinit r s).p = s.p := by simp [overrunReinit]

@[simp] theorem reinitLimit_p (f : Nat) (s : State) : (reinitLimit f s).p = s.p := by
  unfold reinitLimit
  split <;> simp

@[simp] theorem wedgeOne_p (w : Nat × Nat × Nat) (s : State) : (wedgeOne w s).p = s.p := by simp [wedgeOne]
@[simp] theorem applyRecoverCfg_p (r : Run) (s : State) : (applyRecoverCfg r s).p = s.p := by simp [applyRecoverCfg]
@[simp] theorem recoveryTick_p (s : State) : (recoveryTick s).p = s.p := by simp [recoveryTick]

/-! ## The board table (chapter 18) -/

@[simp] theorem startAddress_p (s : State) : (startAddress s).p = s.p := by simp [startAddress]

@[simp] theorem loadRec_p (r : BtRec) (s : State) : (loadRec r s).p = s.p := by
  unfold loadRec
  split <;> simp

@[simp] theorem btLoad_p (a : List W64) (b : List W64) (s : State) : (btLoad a b s).p = s.p := by
  unfold btLoad
  dsimp only
  split <;> simp

@[simp] theorem applyLaneRec_p (old : List BtRec) (new : List BtRec) (i : Nat) (s : State) : (applyLaneRec old new i s).p = s.p := by
  simp [applyLaneRec]

@[simp] theorem applyOctetRec_p (old : List BtRec) (new : List BtRec) (k : Nat) (s : State) : (applyOctetRec old new k s).p = s.p := by
  simp [applyOctetRec]

@[simp] theorem applyTable_p (r : Run) (s : State) : (applyTable r s).p = s.p := by
  unfold applyTable
  dsimp only
  split <;> simp

@[simp] theorem btTick_p (s : State) : (btTick s).p = s.p :=
  foldl_same State.p _ (fun s r => throughMatrix_same State.p _ _ r _ s (by simp) (by simp) (by simp)) _ s

@[simp] theorem beginTable_p (r : Run) (buf : Option (List W64)) (s : State) : (beginTable r buf s).p = s.p := by
  unfold beginTable
  (repeat' split) <;> simp

@[simp] theorem btWritten_p (readback : Bool) (j : FlashJob) (s : State) : (btWritten readback j s).p = s.p := by simp [btWritten]

/-! ## Start-up (chapter 18) -/

@[simp] theorem beginRom_p (st : Straps) (s : State) : (beginRom st s).p = s.p := by simp [beginRom]
@[simp] theorem startupStep4_p (s : State) : (startupStep4 s).p = s.p := by simp [startupStep4]
@[simp] theorem startFailed_p (s : State) : (startFailed s).p = s.p := by simp [startFailed]

@[simp] theorem runImage_p (i : FwImage) (slotB : Bool) (cause : Nat) (s : State) : (runImage i slotB cause s).p = s.p := by
  simp [runImage]

@[simp] theorem loadA_p (a : Option FwImage) (cause : Nat) (s : State) : (loadA a cause s).p = s.p := by simp [loadA]
@[simp] theorem fwLoad_p (a : Option FwImage) (b : Option FwImage) (s : State) : (fwLoad a b s).p = s.p := by simp [fwLoad]

@[simp] theorem fixCount_p (frame row : Nat) (anchored : Bool) (s : State) : (fixCount frame row anchored s).p = s.p := by
  simp [fixCount]

@[simp] theorem adminDefault_p (s : State) : (adminDefault s).p = s.p := by simp [adminDefault]
@[simp] theorem beginServices_p (s : State) : (beginServices s).p = s.p := by simp [beginServices]
@[simp] theorem admissionCheck_p (s : State) : (admissionCheck s).p = s.p := by simp [admissionCheck]
@[simp] theorem becomeReady_p (s : State) : (becomeReady s).p = s.p := by simp [becomeReady]

@[simp] theorem beginImage_p (r : Run) (img : Option FwImage) (s : State) : (beginImage r img s).p = s.p := by
  unfold beginImage
  (repeat' split) <;> simp

@[simp] theorem dmaEnd_p (j : DmaJob) (s : State) : (dmaEnd j s).p = s.p := by
  unfold dmaEnd
  (repeat' split) <;> simp

@[simp] theorem dmaTick_p (s : State) : (dmaTick s).p = s.p := by simp [dmaTick]
@[simp] theorem wrTick_p (s : State) : (wrTick s).p = s.p := by simp [wrTick]
@[simp] theorem fwWritten_p (readback : Bool) (j : FlashJob) (s : State) : (fwWritten readback j s).p = s.p := by simp [fwWritten]

/-! ## What is sent in a row -/

@[simp] theorem sendBarge_p (lane : Nat) (hdr : W64) (ws : List W64) (s : State) : (sendBarge lane hdr ws s).p = s.p := by
  simp [sendBarge]

@[simp] theorem sendRowBarge_p (lane i : Nat) (s : State) : (sendRowBarge lane i s).p = s.p := by simp [sendRowBarge]
@[simp] theorem sendFrame_p (lane : Nat) (s : State) : (sendFrame lane s).p = s.p := by simp [sendFrame]
@[simp] theorem sendTest_p (lane : Nat) (s : State) : (sendTest lane s).p = s.p := by simp [sendTest]
@[simp] theorem sendIdle_p (lane : Nat) (s : State) : (sendIdle lane s).p = s.p := by simp [sendIdle]
@[simp] theorem sendPosition_p (lane i : Nat) (s : State) : (sendPosition lane i s).p = s.p := by simp [sendPosition]

@[simp] theorem sendRun_p (n lane len i : Nat) (s : State) : (sendRun n lane len i s).p = s.p := by
  induction n generalizing i s with
  | zero => simp [sendRun]
  | succ n ih =>
    unfold sendRun
    split <;> simp [ih]

@[simp] theorem sendLane_p (lane gap : Nat) (s : State) : (sendLane lane gap s).p = s.p := by simp [sendLane]
@[simp] theorem renameTx_p (k : Nat) (s : State) : (renameTx k s).p = s.p := by simp [renameTx]
@[simp] theorem laneSend_p (gap : Nat) (s : State) : (laneSend gap s).p = s.p := by simp [laneSend]
@[simp] theorem twinLaneSend_p (n : Nat) (s : State) : (twinLaneSend n s).p = s.p := by simp [twinLaneSend]
@[simp] theorem twinStart_p (s : State) : (twinStart s).p = s.p := by simp [twinStart]
@[simp] theorem twinRowSend_p (s : State) : (twinRowSend s).p = s.p := by simp [twinRowSend]

/-! ## The parts of ROW_TICK -/

@[simp] theorem pairReport_p (n : Nat) (d : Detector) (s : State) : (pairReport n d s).p = s.p := by simp [pairReport]
@[simp] theorem fecTick_p (inp : RowInput) (s : State) : (fecTick inp s).p = s.p := by simp [fecTick]
@[simp] theorem laneInputs_p (inp : RowInput) (s : State) : (laneInputs inp s).p = s.p := by simp [laneInputs]
@[simp] theorem laneTick_p (newFrame : Bool) (s : State) : (laneTick newFrame s).p = s.p := by simp [laneTick]
@[simp] theorem laneEvents_p (s : State) : (laneEvents s).p = s.p := by simp [laneEvents]
@[simp] theorem coreStep_p (s : State) : (coreStep s).p = s.p := by simp [coreStep]

@[simp] theorem onesRow_p (s : State) : (onesRow s).p = s.p := by
  unfold onesRow
  simp

@[simp] theorem coreTick_p (s : State) : (coreTick s).p = s.p := by simp [coreTick]
@[simp] theorem lockageStart_p (s : State) : (lockageStart s).p = s.p := by simp [lockageStart]
@[simp] theorem settleDelta_p (p : Plan) (s : State) : (settleDelta p s).p = s.p := by simp [settleDelta]

@[simp] theorem lockageDone_p (s : State) : (lockageDone s).p = s.p := by
  unfold lockageDone
  dsimp only
  (repeat' split) <;> simp

@[simp] theorem endIntervals_p (s : State) : (endIntervals s).p = s.p := by simp [endIntervals]

@[simp] theorem settle_execDeferralLimit_p (s : State) : (settle s (execDeferralLimit s)).p = s.p := by
  unfold execDeferralLimit
  dsimp only
  split <;> simp [settle]

@[simp] theorem endFrame_p (s : State) : (endFrame s).p = s.p := by simp [endFrame]

@[simp] theorem advance_p (x : Option Realign) (s : State) : (advance x s).p = s.p := by
  unfold advance
  split <;> simp

@[simp] theorem irqTick_p (s : State) : (irqTick s).p = s.p := by
  unfold irqTick
  simp [-List.foldl_reverse]

@[simp] theorem countTick_p (x : Option Realign) (s : State) : (countTick x s).p = s.p := by
  unfold countTick
  dsimp only
  split <;> simp

@[simp] theorem settle_execRevertWtrExpiry_p (s : State) : (settle s (execRevertWtrExpiry s)).p = s.p := by
  unfold execRevertWtrExpiry
  (repeat' split) <;> simp [settle]

@[simp] theorem controlTick_p (s : State) : (controlTick s).p = s.p := by simp [controlTick]

@[simp] theorem switchTick_p (s : State) : (switchTick s).p = s.p := by
  unfold switchTick
  dsimp only
  split <;> simp

@[simp] theorem settle_execSoftLoopTimeout_p (s : State) : (settle s (execSoftLoopTimeout s)).p = s.p := by
  simp [execSoftLoopTimeout, settle]

@[simp] theorem channelTick_p (inp : RowInput) (s : State) : (channelTick inp s).p = s.p := by simp [channelTick]
@[simp] theorem towTick_p (s : State) : (towTick s).p = s.p := by simp [towTick]

@[simp] theorem sampleStatus_p (tie : List (Nat × Int)) (r : Run) (s : State) : (sampleStatus tie r s).p = s.p := by
  have reached := fun ts f hf => throughMatrix_same State.p 1 ts r f s hf (by simp) (by simp)
  unfold sampleStatus
  dsimp only
  split
  case h_1 | h_5 | h_7 | h_8 => simp
  case h_2 | h_3 | h_4 | h_6 => exact reached _ _ (by simp)

@[simp] theorem sampleTick_p (tie : List (Nat × Int)) (s : State) : (sampleTick tie s).p = s.p := by simp [sampleTick]

@[simp] theorem settle_execPhaseSyncTimeout_p (s : State) : (settle s (execPhaseSyncTimeout s)).p = s.p := by
  simp [execPhaseSyncTimeout, settle]

@[simp] theorem firstFrame_p (s : State) : (firstFrame s).p = s.p := by simp [firstFrame]

end Sys2Proof.Machine
end

section
/-! SUPPORT. Every command but ROW_TICK and the resets leaves the offset of channel P. -/

namespace Sys2Proof

open Sys2Proof.Machine

/-! ## Rules -/

theorem wedgedRun_p (r : Run) (s : State) : (wedgedRun r s).p = s.p := by simp [wedgedRun]

/-- A meaning on the engine's command leaves the offset where its effect does. -/
theorem engine_phi {op : Nat} {f : Run → State → State} {s : State} (hf : ∀ r s, (f r s).p.phi = s.p.phi) :
    AllNext (fun t => t.p.phi = s.p.phi) (onEngine op f s) :=
  onEngine_keeps (P := fun t => t.p.phi = s.p.phi) rfl id (fun r _ => by rw [wedgedRun_p]) fun r t h => (hf r t).trans h

@[simp] theorem readBuffer_p {α : Type} (r : Run) (a n : Nat) (buf : α) (f : Run → α → State → State) (s : State)
    (hf : (f r buf s).p = s.p) : (readBuffer r a n buf f s).p = s.p := by
  unfold readBuffer
  (repeat' split) <;> simp [hf]

@[simp] theorem receive_p (type : Nat) (side : Side) (p : TowPkt) (fwd : TowPkt → TowPkt) (f : State → State) (s : State)
    (hf : ∀ s, (f s).p = s.p) : (receive type side p fwd f s).p = s.p :=
  receive_same State.p type side p fwd f s hf (by simp) (by simp) (by simp) (by simp) (by simp) (by simp)

/-! ## The table of commands -/

theorem planningDone_phi (route : Route) (s : State) : AllNext (fun t => t.p.phi = s.p.phi) (execPlanningDone route s) := by
  unfold execPlanningDone
  split
  · split
    · split <;> refine allNext_ite (allNext_next ?_) (allNext_next ?_) <;> simp
    · exact allNext_next rfl
  · exact allNext_next rfl

/-- The command is ROW_TICK, or resets the device. -/
def Instr.mayMovePhi : Instr → Bool
  | .rowTick _ | .resetNFall _ | .internalReset | .railFailure _ | .thermalTrip => true
  | _ => false

/-- Every command that neither ticks nor resets leaves the offset, by the shape of its meaning. -/
theorem command_phi (c : Instr) (other : c.mayMovePhi = false) (s : State) : AllNext (fun t => t.p.phi = s.p.phi) (exec c s) := by
  cases c
  case rowTick | resetNFall | internalReset | railFailure | thermalTrip => cases other
  all_goals dsimp only [exec]
  -- What the engine executes: most completes, or waits as a run in progress.
  case cqCreate | sqCreate | sqDelete | cqDelete | eqCreate | eqDelete | nop | connEdit | tribRead | planSeal | planDiscard |
    planStatus | pageRead | protCmd | protStatus | laneAdmin | laneRestart | laneStatus | laneTest | laneDefCfg |
    laneDefStatus | refCfg | refSelect | dpllCfg | dpllStatus | fSoft | fFreq | pSteer | pStatus | outCfg | outRealign |
    measRead | timeCfg | frameStatus | twinStatus | twinCfg | keeperStatus | ckptStatus | revertCfg | revertLock | handoverAt |
    standbyWarm | flightStatus | admitMember | ctrRead | ctrSnapshot | fixedCfg | fixedRead | bwRead | ctrStatus | recover |
    recoverCfg | recoverStatus | matrixCfg | stateSummary | configRead | identityRead | fwStatus | fwFloor | btApply |
    refStatus | fSamples | matrixStatus | certRead | identChallenge | btRead | connLoad | fwWrite | btWrite =>
    exact engine_phi fun _ _ => by simp
  case tribSet | planWithdraw | lockageAt | realign | ctrCfg =>
    exact engine_phi fun _ _ => by dsimp only; (repeat' split) <;> simp
  -- Packets, frames, events and timers that no object's absence stops.
  case towSync | credit | delayReq | delayResp | commit | member | cmd | reply | event | towAck | dmaRd | dmaData | dmaWr |
    monitorSecond | bwWindowEnd | localoscFault | softLoopTimeout | deadlineExpiry | leadExpiry | adminCtrlWrite |
    windowLowRead | pcieFunctionReset | pciePerst | heartbeat | lease | query | take | notice | hello | handover |
    watchFrameBad | heartbeatSend | renewSend | peerLost | keeperLost | leaseExpiry | coldStartDone | keeperReset |
    keeperLearningEnd | keeperHelloInterval | status | answer | taken | handoverReq | keeperTwinLost | keeperQueryRepeat |
    keeperGrant | fullReq | full | delta | fix | drop | sel | ckptAck | slotFree | syncEnd | twinMessageBad | deltaShip |
    slotRefreshDone | mirrorCopyDone | towResend | towPortDown | towPortUp | backupTimeSource | syncAbsent |
    enumerationTimeout | resetNRise | railRecovery | thermalRelease | romDone | fwLoadDone | btLoadDone | clocksDone |
    memoryDone | servicesDone | startupFailed | startupTimeout | pciePerstRelease | internalResetEnd =>
    exact allNext_next (by simp)
  case staircaseDwellDone | holdLimitReached | admitDone | fwWriteDone | btWriteDone | firstSwitchedRow |
    takeoverHoldExpiry | revertWtrExpiry | warmLimitExpiry | keeperLeaseLapse | keeperTakeRepeat | step3Cancel | fullCopyEnd |
    snapshotCopiesDone => exact allNext_next (by split <;> simp)
  case warmingLoadDone | handoverRequestLapse | towPacketBad | steerDurationEnd | phaseFixed | phaseSyncTimeout =>
    exact allNext_next (by (repeat' split) <;> simp)
  case localoscFaultClear | windowRegisterWrite => exact allNext_ite (allNext_next (by simp)) (allNext_next rfl)
  -- Events that name an object, which stop where it does not exist.
  case periodBoundary | counterOverflow | sqTailDoorbell | cqHeadDoorbell | eqHeadDoorbell | routeLapse | memberUnreachable |
    identityCheck | watchdogExpiry | matrixResponse => exact allNext_ite allNext_fault (allNext_next (by simp))
  case targetWedged | reinitBegin | masterReadmit | reinitDone =>
    exact allNext_ite allNext_fault (allNext_next (by split <;> simp))
  case todMessageSend => exact allNext_ite (allNext_next (by simp)) allNext_fault
  case matrixRequest => exact allNext_ite allNext_fault (allNext_ite allNext_fault (allNext_next (by simp)))
  case degIntervalEnd | losDeclareRun | losClearRun | loraDeclareRun | loraClearRun | frmMissingTimeout | dataBarge |
    holdBarge | frameBarge | testBarge | idleBarge | invalidHeader | adaptationConverged | idFaultExpiry | phaseRowsInPlace |
    signalReportedRun => exact onLane_keeps (by simp)
  case attemptTimerExpiry => exact onRunningLane_keeps rfl (by split <;> simp)
  case qlMessageAbsent => exact onInput_keeps (by simp)
  case inputActivityChange | refWtrExpiry | holdoffExpiry => exact onInput_keeps (by split <;> simp)
  case timeRefEdgeMeasure => exact onInput_keeps (by dsimp only; (repeat' split) <;> simp)
  case refmsgQl | refmsgTod | refmsgBad => exact onPin_keeps rfl (by simp)
  case sfRowsReached | sfClearRun | holdExpiry | wtrExpiry => exact onTrib_keeps (by simp)
  -- Markers, plans and the host's queues.
  case alignmentMarker port m => cases port with
    | pair n => exact onRunningLane_keeps rfl (by simp)
    | twin n => exact allNext_ite (allNext_next (by simp)) allNext_fault
  case planningDone => exact planningDone_phi _ _
  case planningStart | loadingStart | loadingDone | deferralLimit | commandFetch | commandStart | replyWrite | eventWrite |
    queueDmaFault =>
    simp only [execPlanningStart, execLoadingStart, execLoadingDone, execDeferralLimit, execCommandFetch, execCommandStart,
      execReplyWrite, execEventWrite, execQueueDmaFault]
    (repeat' split) <;> exact allNext_next (by simp)

end Sys2Proof
end

section
/-! The offset of channel P stays within its limit (R263, R271, R281): what moves it stops at the limit, a reset makes it 0, and the
rest of ROW_TICK, like every other command, leaves it. -/

namespace Sys2Proof

open Sys2Proof.Machine

/-! ## What falls due -/

theorem command_phi_of {v : Int} {c : Instr} (other : c.mayMovePhi = false) (s : State) (hs : s.p.phi = v) :
    AllNext (fun t => t.p.phi = v) (exec c s) := fun t ht => (command_phi c other s t ht).trans hs

/-- Commands that fall due, none of them ROW_TICK or a reset, leave the offset. -/
theorem commands_phi {v : Int} (cs : List Instr) (other : cs.all (fun c => !c.mayMovePhi) = true) :
    AllKeep (fun t => t.p.phi = v) (cs.map exec) := fun f hf => by
  obtain ⟨c, hc, rfl⟩ := List.mem_map.mp hf
  exact command_phi_of (by simpa using List.all_eq_true.mp other c hc)

@[simp] theorem registerDue_phi (s : State) : (registerDue s).p.phi = s.p.phi := by
  have lanes := fun lane => commands_phi (v := s.p.phi) [.losDeclareRun lane, .losClearRun lane, .loraDeclareRun lane,
    .loraClearRun lane, .frmMissingTimeout lane, .signalReportedRun lane] rfl
  have tribs := fun t => commands_phi (v := s.p.phi) [.sfRowsReached t false, .sfRowsReached t true, .sfClearRun t false,
    .sfClearRun t true, .wtrExpiry t, .holdExpiry t] rfl
  have inputs := fun n => commands_phi (v := s.p.phi) [.inputActivityChange n .inner, .qlMessageAbsent n, .refWtrExpiry n,
    .holdoffExpiry n] rfl
  have rest := commands_phi (v := s.p.phi) [.localoscFault true, .localoscFaultClear, .takeoverHoldExpiry, .heartbeatSend,
    .renewSend, .keeperHelloInterval] rfl
  exact settleAll_keeps (P := fun t => t.p.phi = s.p.phi) (dueInRow s)
    (allKeep_append (allKeep_append (allKeep_append (allKeep_append (allKeep_flatMap fun e => lanes e.1)
      (allKeep_flatMap fun e => tribs e.1)) (allKeep_flatMap fun e => inputs e.1))
      (allKeep_map fun f => command_phi_of (c := .watchdogExpiry f) rfl))
      (allKeep_append rest (allKeep_map fun k => command_phi_of (c := .targetWedged k) rfl))) s rfl

@[simp] theorem expireTick_phi (s : State) : (expireTick s).p.phi = s.p.phi := by
  have waits := fun i => commands_phi (v := s.p.phi) [.deadlineExpiry i, .leadExpiry i] rfl
  have lanes := fun lane => commands_phi (v := s.p.phi) [.attemptTimerExpiry lane, .idFaultExpiry lane] rfl
  have time := commands_phi (v := s.p.phi) [.syncAbsent, .backupTimeSource, .enumerationTimeout, .towPortDown .a,
    .towPortDown .b, .towPortUp .a, .towPortUp .b] rfl
  have members := fun a => commands_phi (v := s.p.phi) [.routeLapse a .a, .routeLapse a .b, .memberUnreachable a] rfl
  have twin := commands_phi (v := s.p.phi) [.peerLost, .keeperLost, .leaseExpiry, .warmLimitExpiry, .handoverRequestLapse,
    .step3Cancel] rfl
  have keeper := commands_phi (v := s.p.phi) [.keeperLearningEnd, .keeperTwinLost false, .keeperTwinLost true,
    .keeperLeaseLapse, .keeperQueryRepeat, .keeperTakeRepeat, .keeperGrant] rfl
  exact settleAll_keeps (P := fun t => t.p.phi = s.p.phi) (dueAtTick s)
    (allKeep_append (allKeep_append (allKeep_append (allKeep_append (allKeep_append (allKeep_append (allKeep_append
      (allKeep_flatMap waits) (allKeep_flatMap fun e => lanes e.1)) time) (allKeep_flatMap fun e => members e.1))
      (allKeep_map fun n => command_phi_of (c := .towResend n) rfl)) twin) keeper)
      (allKeep_map fun _ _ hs => allNext_next (by simpa using hs))) s rfl

/-! ## The limit (R263) -/

/-- The channel P offset is within its limit. -/
def PhiWithin (s : State) : Prop := -phiLimit ≤ s.p.phi ∧ s.p.phi ≤ phiLimit

theorem PhiWithin.of_same {s t : State} (hs : PhiWithin s) (h : t.p.phi = s.p.phi) : PhiWithin t := by
  simpa only [PhiWithin, h] using hs

theorem PhiWithin.of_limit {s : State} (h : s.p.phi = phiLimit ∨ s.p.phi = -phiLimit) : PhiWithin s := by
  unfold PhiWithin
  rcases h with h | h <;> rw [h] <;> decide

/-- A change of the offset that passes the limit stops at the limit, with p 0 and no duration; any other is made in full. -/
theorem movePhi_cases (d : Int) (s : State) :
    (∃ v, (v = phiLimit ∨ v = -phiLimit) ∧
      movePhi d s = ({ s with p.phi := v, p.freq := 0, p.steerDue := none }, true)) ∨
    ((-phiLimit ≤ s.p.phi + d ∧ s.p.phi + d ≤ phiLimit) ∧ movePhi d s = ({ s with p.phi := s.p.phi + d }, false)) := by
  unfold movePhi
  dsimp only
  split
  · exact .inl ⟨_, .inr rfl, rfl⟩
  · split
    · exact .inl ⟨_, .inl rfl, rfl⟩
    · exact .inr ⟨⟨by omega, by omega⟩, rfl⟩

theorem movePhi_within (d : Int) (s : State) : PhiWithin (movePhi d s).1 := by
  rcases movePhi_cases d s with ⟨v, hv, h⟩ | ⟨hd, h⟩
  · exact .of_limit (by rwa [h])
  · rw [h]
    exact hd

theorem movePhi_stopped {d : Int} {s : State} (h : (movePhi d s).2 = true) :
    (movePhi d s).1.p.freq = 0 ∧ (movePhi d s).1.p.steerDue = none ∧
      ((movePhi d s).1.p.phi = phiLimit ∨ (movePhi d s).1.p.phi = -phiLimit) := by
  rcases movePhi_cases d s with ⟨v, hv, e⟩ | ⟨-, e⟩
  · rw [e]
    exact ⟨rfl, rfl, hv⟩
  · rw [e] at h
    cases h

theorem movePhi_unstopped {d : Int} {s : State} (h : (movePhi d s).2 = false) : (movePhi d s).1.p.phi = s.p.phi + d := by
  rcases movePhi_cases d s with ⟨v, -, e⟩ | ⟨-, e⟩
  · rw [e] at h
    cases h
  · rw [e]

theorem movePhi_only_p (d : Int) (s : State) : (movePhi d s).1 = { s with p := (movePhi d s).1.p } := by
  rcases movePhi_cases d s with ⟨v, -, e⟩ | ⟨-, e⟩ <;> rw [e]

theorem phiTick_within {s : State} (hs : PhiWithin s) : PhiWithin (phiTick s).1 := by
  unfold phiTick
  split
  · exact hs
  · exact movePhi_within _ s

theorem outRealignOne_within (x : Option Realign) (r : Run) {s : State} (hs : PhiWithin s) :
    PhiWithin (outRealignOne x r s).1 := by
  have moved : ∀ d ws, PhiWithin (finish r stOk ws (movePhi d s).1) := fun d _ => (movePhi_within d s).of_same (by simp)
  unfold outRealignOne
  dsimp only
  split
  · split
    · exact moved _ _
    · exact hs.of_same (by simp)
  · exact moved _ _

theorem outRealignTick_within (x : Option Realign) {s : State} (hs : PhiWithin s) : PhiWithin (outRealignTick x s).1 := by
  refine foldl_keeps (fun a : State × Bool => PhiWithin a.1) _ (fun a r h => ?_) _ _ hs
  exact outRealignOne_within x r h

/-! ## ROW_TICK -/

@[simp] theorem settle_execSteerDurationEnd_phi (s : State) : (settle s (execSteerDurationEnd s)).p.phi = s.p.phi :=
  settle_keeps (P := fun t => t.p.phi = s.p.phi) rfl (command_phi .steerDurationEnd rfl s)

theorem foldl_phi {β : Type} (g : State → β → State) (hg : ∀ s b, (g s b).p.phi = s.p.phi) (l : List β) (s : State) :
    (l.foldl g s).p.phi = s.p.phi := foldl_same (fun s => s.p.phi) g hg l s

/-- Channel P at the tick: the row's move, then the OUT_REALIGN steps of a frame that begins; the rest leaves the offset. -/
theorem outputTick_within (x : Option Realign) (newFrame : Bool) {s : State} (hs : PhiWithin s) :
    PhiWithin (outputTick x newFrame s) := by
  have row := phiTick_within hs
  unfold outputTick
  cases newFrame with
  | true => exact (outRealignTick_within x row).of_same (by simp [foldl_phi])
  | false => exact row.of_same (by simp [foldl_phi])

@[simp] theorem closeRow_phi (x : Option Realign) (inp : RowInput) (s : State) : (closeRow x inp s).p.phi = s.p.phi := by
  unfold closeRow
  dsimp only
  split <;> simp

theorem rowTick_within (inp : RowInput) {s : State} (hs : PhiWithin s) : PhiWithin (rowTick inp s) := by
  have begun : ∀ x, PhiWithin (firstFrame (advance x (closeRow x inp s))) := fun x => hs.of_same (by simp)
  have counted : ∀ x {t}, PhiWithin t → PhiWithin (btTick (laneCmdTick (towReports inp.tow (lockageDone (lockageStart
      (expireTick (countTick x (irqTick (pcieTick inp.pcie t))))))))) := fun _ _ ht => ht.of_same (by simp)
  have switched : ∀ newFrame {t}, PhiWithin t → PhiWithin (channelTick inp (laneEvents (switchTick (controlTick
      (laneInputs inp (laneTick newFrame t)))))) := fun _ _ ht => ht.of_same (by simp)
  have closing : ∀ {t}, PhiWithin t → PhiWithin (closedEvent (twinEvents (watchReplies (towTick (wrTick (dmaTick (endReads
      (sampleTick inp.tie (frameStatusTick t))))))))) := fun ht => ht.of_same (by simp)
  unfold rowTick
  dsimp only
  exact closing (outputTick_within _ _ (switched _ (counted _ (begun _))))

theorem pinTick_within {s : State} (hs : PhiWithin s) : PhiWithin (pinTick s) := hs.of_same (by simp [pinTick])

/-! ## Resets -/

theorem PhiWithin.of_zero {s : State} (h : s.p.phi = 0) : PhiWithin s := by
  unfold PhiWithin
  rw [h]
  decide

theorem enterReset_phi (cause : Nat) (s : State) : (enterReset cause s).p.phi = 0 := rfl

theorem powerDown_phi (s : State) : (powerDown s).p.phi = 0 := rfl

/-! ## Every command -/

theorem PhiWithin.ite {c : Prop} [Decidable c] {a b : State} (ha : PhiWithin a) (hb : PhiWithin b) :
    PhiWithin (if c then a else b) := by
  split
  · exact ha
  · exact hb

theorem internalReset_within {s : State} (hs : PhiWithin s) : AllNext PhiWithin (execInternalReset s) := by
  refine allNext_next ?_
  split
  · refine PhiWithin.ite ?_ hs
    exact .of_zero (by simp [enterReset_phi])
  · exact hs

theorem exec_within (c : Instr) {s : State} (hs : PhiWithin s) : AllNext PhiWithin (exec c s) := by
  cases hc : c.mayMovePhi with
  | false => exact fun t ht => hs.of_same (command_phi c hc s t ht)
  | true =>
    cases c with
    | rowTick inp => exact allNext_next ((rowTick_within inp hs).ite ((pinTick_within hs).ite hs))
    | resetNFall ns => exact allNext_next (hs.ite (.of_zero (enterReset_phi _ _)))
    | internalReset => exact internalReset_within hs
    | railFailure ns => exact allNext_next (hs.ite (.of_zero (powerDown_phi _)))
    | thermalTrip => exact allNext_next (.of_zero (powerDown_phi _))
    | _ => cases hc

/-- What a row that is not stopped adds: p times the row, which is nothing while p is 0. -/
theorem phiTick_unstopped {s : State} (h : (phiTick s).2 = false) : (phiTick s).1.p.phi = s.p.phi + phiRow s.p.freq := by
  unfold phiTick at h ⊢
  split
  · next zero => simp [zero, phiRow, quot]
  · next moves =>
    rw [if_neg moves] at h
    exact movePhi_unstopped h

/-- Settles O32: ROW_TICK moves the offset, and stops it at the limit; a reset makes it 0; every other command leaves it. -/
theorem channelPStaysWithinItsLimit : Obligations.ChannelPStaysWithinItsLimit := by
  intro d s low high
  have hs : PhiWithin s := ⟨low, high⟩
  exact ⟨fun c => exec_within c hs, movePhi_within d s, phiTick_within hs, movePhi_stopped, movePhi_unstopped,
    phiTick_unstopped, movePhi_only_p d s⟩

end Sys2Proof
end

section
/-! SUPPORT. What no command's effect reaches: the commands that wait (log entry 1), and what of the boot record lasts through resets, the
fuses and firmware slot A (R461, R475, R476). -/

namespace Sys2Proof.Machine

open Sys2Proof

/-- The commands that wait, SEC_FLOOR, the identity and the image in slot A. -/
@[simp] def State.lasting (s : State) : List Instr × Nat × BitVec 128 × Bool × Option FwImage :=
  (s.pending, s.boot.secFloor, s.boot.uid, s.boot.order, s.boot.fwA)

/-- What lasts is in t what it is in s. -/
def Lasts (s t : State) : Prop := t.lasting = s.lasting

theorem Lasts.refl (s : State) : Lasts s s := rfl

theorem Lasts.ite {s a b : State} {c : Prop} [Decidable c] (ha : Lasts s a) (hb : Lasts s b) :
    Lasts s (if c then a else b) := by
  split
  · exact ha
  · exact hb

theorem Lasts.then {s t u : State} (h : Lasts s t) (k : Lasts t u) : Lasts s u := k.trans h

theorem Lasts.parts {s t : State} (h : Lasts s t) : t.pending = s.pending ∧ t.boot.secFloor = s.boot.secFloor ∧
    t.boot.uid = s.boot.uid ∧ t.boot.order = s.boot.order ∧ t.boot.fwA = s.boot.fwA := by
  simpa [Lasts] using h

/-- From s to t no fuse is unblown, and slot A keeps an image that is known unless the board may have rewritten the flash. -/
def FusesStand (s t : State) : Prop :=
  s.boot.secFloor ≤ t.boot.secFloor ∧ (s.boot.uid ≠ 0 → t.boot.uid = s.boot.uid ∧ t.boot.order = s.boot.order) ∧
  (∀ i, s.boot.reflash = false → s.boot.fwA = some i → t.boot.fwA = some i)

theorem Lasts.fusesStand {s t : State} (h : Lasts s t) : FusesStand s t := by
  obtain ⟨-, floor, uid, order, slot⟩ := h.parts
  exact ⟨floor.ge, fun _ => ⟨uid, order⟩, fun i _ hi => slot.trans hi⟩

/-- From s to t nothing of what lasts changes but SEC_FLOOR, which does not fall. -/
def FloorRaised (s t : State) : Prop :=
  s.boot.secFloor ≤ t.boot.secFloor ∧ Lasts { s with boot.secFloor := t.boot.secFloor } t

/-! ## A choice between two boot records -/

@[simp] theorem ite_secFloor (c : Prop) [Decidable c] (a b : Boot) :
    (if c then a else b).secFloor = if c then a.secFloor else b.secFloor := apply_ite Boot.secFloor c a b

@[simp] theorem ite_uid (c : Prop) [Decidable c] (a b : Boot) : (if c then a else b).uid = if c then a.uid else b.uid :=
  apply_ite Boot.uid c a b

@[simp] theorem ite_order (c : Prop) [Decidable c] (a b : Boot) :
    (if c then a else b).order = if c then a.order else b.order := apply_ite Boot.order c a b

@[simp] theorem ite_fwA (c : Prop) [Decidable c] (a b : Boot) : (if c then a else b).fwA = if c then a.fwA else b.fwA :=
  apply_ite Boot.fwA c a b

/-! ## The operations that write the boot record -/

@[simp] theorem cutFlash_lasting (s : State) :
    (cutFlash s).boot.secFloor = s.boot.secFloor ∧ (cutFlash s).boot.uid = s.boot.uid ∧
    (cutFlash s).boot.order = s.boot.order ∧ (cutFlash s).boot.fwA = s.boot.fwA := by
  unfold cutFlash
  (repeat' split) <;> simp

@[simp] theorem powerCycle_lasting (s : State) :
    (powerCycle s).boot.secFloor = s.boot.secFloor ∧ (powerCycle s).boot.uid = s.boot.uid ∧
    (powerCycle s).boot.order = s.boot.order ∧ (powerCycle s).boot.fwA = s.boot.fwA := by
  simp [powerCycle]

@[simp] theorem startupStep4_lasting (s : State) :
    (startupStep4 s).boot.secFloor = s.boot.secFloor ∧ (startupStep4 s).boot.uid = s.boot.uid ∧
    (startupStep4 s).boot.order = s.boot.order ∧ (startupStep4 s).boot.fwA = s.boot.fwA := by
  simp [startupStep4]

@[simp] theorem startFailed_lasting (s : State) :
    (startFailed s).boot.secFloor = s.boot.secFloor ∧ (startFailed s).boot.uid = s.boot.uid ∧
    (startFailed s).boot.order = s.boot.order ∧ (startFailed s).boot.fwA = s.boot.fwA := by
  simp [startFailed]

@[simp] theorem beginRom_lasting (st : Straps) (s : State) :
    (beginRom st s).boot.secFloor = s.boot.secFloor ∧ (beginRom st s).boot.uid = s.boot.uid ∧
    (beginRom st s).boot.order = s.boot.order ∧ (beginRom st s).boot.fwA = s.boot.fwA := by
  simp [beginRom]

@[simp] theorem beginServices_lasting (s : State) :
    (beginServices s).boot.secFloor = s.boot.secFloor ∧ (beginServices s).boot.uid = s.boot.uid ∧
    (beginServices s).boot.order = s.boot.order ∧ (beginServices s).boot.fwA = s.boot.fwA := by
  simp [beginServices]

@[simp] theorem admissionCheck_lasting (s : State) :
    (admissionCheck s).boot.secFloor = s.boot.secFloor ∧ (admissionCheck s).boot.uid = s.boot.uid ∧
    (admissionCheck s).boot.order = s.boot.order ∧ (admissionCheck s).boot.fwA = s.boot.fwA := by
  simp [admissionCheck]

@[simp] theorem becomeReady_lasting (s : State) :
    (becomeReady s).boot.secFloor = s.boot.secFloor ∧ (becomeReady s).boot.uid = s.boot.uid ∧
    (becomeReady s).boot.order = s.boot.order ∧ (becomeReady s).boot.fwA = s.boot.fwA := by
  simp [becomeReady]

@[simp] theorem beginImage_lasting (r : Run) (img : Option FwImage) (s : State) :
    (beginImage r img s).boot.secFloor = s.boot.secFloor ∧ (beginImage r img s).boot.uid = s.boot.uid ∧
    (beginImage r img s).boot.order = s.boot.order ∧ (beginImage r img s).boot.fwA = s.boot.fwA := by
  unfold beginImage
  (repeat' split) <;> simp

@[simp] theorem beginTable_lasting (r : Run) (buf : Option (List W64)) (s : State) :
    (beginTable r buf s).boot.secFloor = s.boot.secFloor ∧ (beginTable r buf s).boot.uid = s.boot.uid ∧
    (beginTable r buf s).boot.order = s.boot.order ∧ (beginTable r buf s).boot.fwA = s.boot.fwA := by
  unfold beginTable
  (repeat' split) <;> simp

@[simp] theorem fwWritten_lasting (readback : Bool) (j : FlashJob) (s : State) :
    (fwWritten readback j s).boot.secFloor = s.boot.secFloor ∧ (fwWritten readback j s).boot.uid = s.boot.uid ∧
    (fwWritten readback j s).boot.order = s.boot.order ∧ (fwWritten readback j s).boot.fwA = s.boot.fwA := by
  simp [fwWritten]

@[simp] theorem btWritten_lasting (readback : Bool) (j : FlashJob) (s : State) :
    (btWritten readback j s).boot.secFloor = s.boot.secFloor ∧ (btWritten readback j s).boot.uid = s.boot.uid ∧
    (btWritten readback j s).boot.order = s.boot.order ∧ (btWritten readback j s).boot.fwA = s.boot.fwA := by
  simp [btWritten]

@[simp] theorem admitDone_lasting (second first : Bool) (j : FlashJob) (s : State) :
    (admitDone second first j s).boot.secFloor = s.boot.secFloor ∧ (admitDone second first j s).boot.uid = s.boot.uid ∧
    (admitDone second first j s).boot.order = s.boot.order ∧ (admitDone second first j s).boot.fwA = s.boot.fwA := by
  simp [admitDone]

@[simp] theorem stepTick_lasting (s : State) :
    (stepTick s).boot.secFloor = s.boot.secFloor ∧ (stepTick s).boot.uid = s.boot.uid ∧
    (stepTick s).boot.order = s.boot.order ∧ (stepTick s).boot.fwA = s.boot.fwA := by
  unfold stepTick
  (repeat' split) <;> simp

@[simp] theorem dmaEnd_lasting (j : DmaJob) (s : State) :
    (dmaEnd j s).boot.secFloor = s.boot.secFloor ∧ (dmaEnd j s).boot.uid = s.boot.uid ∧
    (dmaEnd j s).boot.order = s.boot.order ∧ (dmaEnd j s).boot.fwA = s.boot.fwA := by
  unfold dmaEnd
  (repeat' split) <;> simp

@[simp] theorem recoveryTick_lasting (s : State) :
    (recoveryTick s).boot.secFloor = s.boot.secFloor ∧ (recoveryTick s).boot.uid = s.boot.uid ∧
    (recoveryTick s).boot.order = s.boot.order ∧ (recoveryTick s).boot.fwA = s.boot.fwA := by
  simp [recoveryTick]

@[simp] theorem loadRec_lasting (r : BtRec) (s : State) :
    (loadRec r s).boot.secFloor = s.boot.secFloor ∧ (loadRec r s).boot.uid = s.boot.uid ∧
    (loadRec r s).boot.order = s.boot.order ∧ (loadRec r s).boot.fwA = s.boot.fwA := by
  unfold loadRec
  (repeat' split) <;> simp

theorem loadRecs_lasts (rs : List BtRec) (s : State) : Lasts s (startAddress (rs.foldl (fun s r => loadRec r s) s)) := by
  have loaded := foldl_same State.lasting (fun s r => loadRec r s) (fun s r => by simp) rs s
  simpa [Lasts] using loaded

theorem btLoad_lasts (a b : List W64) (s : State) : Lasts s (btLoad a b s) := by
  unfold btLoad
  dsimp only
  split
  · exact loadRecs_lasts _ _
  · exact loadRecs_lasts _ _
  · exact loadRecs_lasts _ _
  · simp [Lasts]

theorem applyTable_lasts (r : Run) (s : State) : Lasts s (applyTable r s) := by
  unfold applyTable
  dsimp only
  split <;> simp [Lasts]

theorem btTick_lasts (s : State) : Lasts s (btTick s) :=
  foldl_same State.lasting _ (fun s r => throughMatrix_same State.lasting 7 [7, 3] r _ s (applyTable_lasts r) (by simp) (by simp)) _ s

theorem dmaTick_lasts (s : State) : Lasts s (dmaTick s) :=
  foldl_same State.lasting (fun s j => dmaEnd j s) (fun s j => by simp) _ _

end Sys2Proof.Machine
end

section
/-! SUPPORT. Every command but ROW_TICK, the resets, and those that read or blow fuses or read slot A leaves what lasts. -/

namespace Sys2Proof

open Sys2Proof.Machine

/-! ## Rules -/

theorem engine_lasts {op : Nat} {f : Run → State → State} {s : State} (hf : ∀ r s, Lasts s (f r s)) :
    AllNext (Lasts s) (onEngine op f s) :=
  onEngine_keeps (P := Lasts s) (.refl s) (fun h => h) (fun r h => h.then (by simp [Lasts, wedgedRun]))
    fun r _ h => h.then (hf r _)

theorem readBuffer_lasts {α : Type} (r : Run) (a n : Nat) (buf : α) {f : Run → α → State → State} {s : State}
    (hf : Lasts s (f r buf s)) : Lasts s (readBuffer r a n buf f s) := by
  unfold readBuffer
  split
  · simp [Lasts]
  · split
    · exact hf
    · simp [Lasts]

theorem receive_lasts (type : Nat) (side : Side) (p : TowPkt) (fwd : TowPkt → TowPkt) {f : State → State}
    (hf : ∀ s, (f s).lasting = s.lasting) (s : State) : Lasts s (receive type side p fwd f s) :=
  receive_same State.lasting type side p fwd f s hf (by simp) (by simp) (by simp) (by simp) (by simp) (by simp)

/-! ## The table of commands -/

theorem planningDone_lasts (route : Route) (s : State) : AllNext (Lasts s) (execPlanningDone route s) := by
  unfold execPlanningDone
  split
  · split
    · split <;> refine allNext_ite (allNext_next ?_) (allNext_next ?_) <;> simp [Lasts]
    · exact allNext_next (.refl s)
  · exact allNext_next (.refl s)

/-- The command is ROW_TICK, resets the device, reads or blows fuses, or reads slot A. -/
def Instr.mayMoveLasting : Instr → Bool
  | .rowTick _ | .resetNFall _ | .internalReset | .railFailure _ | .thermalTrip | .romDone _ | .fwLoadDone _ _ | .fwFloor => true
  | _ => false

/-- Every other command leaves what lasts, by the shape of its meaning. -/
theorem command_lasts (c : Instr) (other : c.mayMoveLasting = false) (s : State) : AllNext (Lasts s) (exec c s) := by
  cases c
  case rowTick | resetNFall | internalReset | railFailure | thermalTrip | romDone | fwLoadDone | fwFloor => cases other
  all_goals dsimp only [exec]
  -- What the engine executes: most completes, or waits as a run in progress.
  case cqCreate | sqCreate | sqDelete | cqDelete | eqCreate | eqDelete | nop | connEdit | tribRead | planSeal | planDiscard |
    planStatus | pageRead | protCmd | protStatus | laneAdmin | laneRestart | laneStatus | laneTest | laneDefCfg |
    laneDefStatus | refCfg | refSelect | dpllCfg | dpllStatus | fSoft | fFreq | pSteer | pStatus | outCfg | outRealign |
    measRead | timeCfg | frameStatus | twinStatus | twinCfg | keeperStatus | ckptStatus | revertCfg | revertLock | handoverAt |
    standbyWarm | flightStatus | admitMember | ctrRead | ctrSnapshot | fixedCfg | fixedRead | bwRead | ctrStatus | recover |
    recoverCfg | recoverStatus | matrixCfg | stateSummary | configRead | identityRead | fwStatus | btApply |
    refStatus | fSamples | matrixStatus | certRead | identChallenge | btRead =>
    exact engine_lasts fun _ _ => by simp [Lasts]
  case tribSet | planWithdraw | lockageAt | realign | ctrCfg =>
    exact engine_lasts fun _ _ => by dsimp only; (repeat' split) <;> simp [Lasts]
  -- Packets, frames, events and timers that no object's absence stops.
  case towSync | credit | delayReq | delayResp | commit | member | cmd | reply | event | towAck | dmaRd | dmaData =>
    exact allNext_next (receive_lasts _ _ _ _ (fun _ => by simp) s)
  case dmaWr => exact allNext_next (.then (by simp [Lasts]) (receive_lasts _ _ _ _ (fun _ => by simp) _))
  case monitorSecond | bwWindowEnd | localoscFault | softLoopTimeout | deadlineExpiry | leadExpiry | adminCtrlWrite |
    windowLowRead | pcieFunctionReset | pciePerst | heartbeat | lease | query | take | notice | hello | handover |
    watchFrameBad | heartbeatSend | renewSend | peerLost | keeperLost | leaseExpiry | coldStartDone | keeperReset |
    keeperLearningEnd | keeperHelloInterval | status | answer | taken | handoverReq | keeperTwinLost | keeperQueryRepeat |
    keeperGrant | fullReq | full | delta | fix | drop | sel | ckptAck | slotFree | syncEnd | twinMessageBad | deltaShip |
    slotRefreshDone | mirrorCopyDone | towResend | towPortDown | towPortUp | backupTimeSource | syncAbsent |
    enumerationTimeout | resetNRise | railRecovery | thermalRelease | clocksDone |
    memoryDone | servicesDone | startupFailed | startupTimeout | pciePerstRelease | internalResetEnd =>
    exact allNext_next (by simp [Lasts])
  case staircaseDwellDone | holdLimitReached | admitDone | fwWriteDone | btWriteDone | firstSwitchedRow |
    takeoverHoldExpiry | revertWtrExpiry | warmLimitExpiry | keeperLeaseLapse | keeperTakeRepeat | step3Cancel | fullCopyEnd |
    snapshotCopiesDone => exact allNext_next (by split <;> simp [Lasts])
  case warmingLoadDone | handoverRequestLapse | towPacketBad | steerDurationEnd | phaseFixed | phaseSyncTimeout =>
    exact allNext_next (by (repeat' split) <;> simp [Lasts])
  case localoscFaultClear | windowRegisterWrite => exact allNext_ite (allNext_next (by simp [Lasts])) (allNext_next (.refl s))
  -- Events that name an object, which stop where it does not exist.
  case periodBoundary | counterOverflow | sqTailDoorbell | cqHeadDoorbell | eqHeadDoorbell | routeLapse | memberUnreachable |
    identityCheck | watchdogExpiry | matrixResponse => exact allNext_ite allNext_fault (allNext_next (by simp [Lasts]))
  case targetWedged | reinitBegin | masterReadmit | reinitDone =>
    exact allNext_ite allNext_fault (allNext_next (by split <;> simp [Lasts]))
  case todMessageSend => exact allNext_ite (allNext_next (by simp [Lasts])) allNext_fault
  case matrixRequest => exact allNext_ite allNext_fault (allNext_ite allNext_fault (allNext_next (by simp [Lasts])))
  case degIntervalEnd | losDeclareRun | losClearRun | loraDeclareRun | loraClearRun | frmMissingTimeout | dataBarge |
    holdBarge | frameBarge | testBarge | idleBarge | invalidHeader | adaptationConverged | idFaultExpiry | phaseRowsInPlace |
    signalReportedRun => exact onLane_keeps (by simp [Lasts])
  case attemptTimerExpiry => exact onRunningLane_keeps (.refl s) (by split <;> simp [Lasts])
  case qlMessageAbsent => exact onInput_keeps (by simp [Lasts])
  case inputActivityChange | refWtrExpiry | holdoffExpiry => exact onInput_keeps (by split <;> simp [Lasts])
  case timeRefEdgeMeasure => exact onInput_keeps (by dsimp only; (repeat' split) <;> simp [Lasts])
  case refmsgQl | refmsgTod | refmsgBad => exact onPin_keeps (.refl s) (by simp [Lasts])
  case sfRowsReached | sfClearRun | holdExpiry | wtrExpiry => exact onTrib_keeps (by simp [Lasts])
  -- Markers, plans and the host's queues.
  case alignmentMarker port m => cases port with
    | pair n => exact onRunningLane_keeps (.refl s) (by simp [Lasts])
    | twin n => exact allNext_ite (allNext_next (by simp [Lasts])) allNext_fault
  case planningDone => exact planningDone_lasts _ _
  case planningStart | loadingStart | loadingDone | deferralLimit | commandFetch | commandStart | replyWrite | eventWrite |
    queueDmaFault =>
    simp only [execPlanningStart, execLoadingStart, execLoadingDone, execDeferralLimit, execCommandFetch, execCommandStart,
      execReplyWrite, execEventWrite, execQueueDmaFault]
    (repeat' split) <;> exact allNext_next (by simp [Lasts])

  case connLoad | fwWrite | btWrite =>
    exact engine_lasts fun r s => .ite (by simp [Lasts]) (.ite (by simp [Lasts]) (readBuffer_lasts r _ _ _ (by simp [Lasts])))
  case btLoadDone => exact allNext_next (.ite (btLoad_lasts _ _ s) (.refl s))

end Sys2Proof
end

section
/-! SUPPORT. What falls due at ROW_TICK and the rest of the tick leave what lasts. -/

namespace Sys2Proof

open Sys2Proof.Machine

/-! ## What falls due -/

theorem command_lasts_of {u : State} {c : Instr} (other : c.mayMoveLasting = false) (s : State) (hs : Lasts u s) :
    AllNext (Lasts u) (exec c s) := fun t ht => hs.then (command_lasts c other s t ht)

/-- Commands that fall due leave what lasts: none of them is ROW_TICK, resets the device, blows a fuse or reads slot A. -/
theorem commands_last {u : State} (cs : List Instr) (other : cs.all (fun c => !c.mayMoveLasting) = true) :
    AllKeep (Lasts u) (cs.map exec) := fun f hf => by
  obtain ⟨c, hc, rfl⟩ := List.mem_map.mp hf
  exact command_lasts_of (by simpa using List.all_eq_true.mp other c hc)

theorem registerDue_lasts (s : State) : Lasts s (registerDue s) := by
  have lanes := fun lane => commands_last (u := s) [.losDeclareRun lane, .losClearRun lane, .loraDeclareRun lane,
    .loraClearRun lane, .frmMissingTimeout lane, .signalReportedRun lane] rfl
  have tribs := fun t => commands_last (u := s) [.sfRowsReached t false, .sfRowsReached t true, .sfClearRun t false,
    .sfClearRun t true, .wtrExpiry t, .holdExpiry t] rfl
  have inputs := fun n => commands_last (u := s) [.inputActivityChange n .inner, .qlMessageAbsent n, .refWtrExpiry n,
    .holdoffExpiry n] rfl
  have rest := commands_last (u := s) [.localoscFault true, .localoscFaultClear, .takeoverHoldExpiry, .heartbeatSend,
    .renewSend, .keeperHelloInterval] rfl
  exact settleAll_keeps (P := Lasts s) (dueInRow s)
    (allKeep_append (allKeep_append (allKeep_append (allKeep_append (allKeep_flatMap fun e => lanes e.1)
      (allKeep_flatMap fun e => tribs e.1)) (allKeep_flatMap fun e => inputs e.1))
      (allKeep_map fun f => command_lasts_of (c := .watchdogExpiry f) rfl))
      (allKeep_append rest (allKeep_map fun k => command_lasts_of (c := .targetWedged k) rfl))) s (.refl s)

theorem expireTick_lasts (s : State) : Lasts s (expireTick s) := by
  have waits := fun i => commands_last (u := s) [.deadlineExpiry i, .leadExpiry i] rfl
  have lanes := fun lane => commands_last (u := s) [.attemptTimerExpiry lane, .idFaultExpiry lane] rfl
  have time := commands_last (u := s) [.syncAbsent, .backupTimeSource, .enumerationTimeout, .towPortDown .a,
    .towPortDown .b, .towPortUp .a, .towPortUp .b] rfl
  have members := fun a => commands_last (u := s) [.routeLapse a .a, .routeLapse a .b, .memberUnreachable a] rfl
  have twin := commands_last (u := s) [.peerLost, .keeperLost, .leaseExpiry, .warmLimitExpiry, .handoverRequestLapse,
    .step3Cancel] rfl
  have keeper := commands_last (u := s) [.keeperLearningEnd, .keeperTwinLost false, .keeperTwinLost true,
    .keeperLeaseLapse, .keeperQueryRepeat, .keeperTakeRepeat, .keeperGrant] rfl
  exact settleAll_keeps (P := Lasts s) (dueAtTick s)
    (allKeep_append (allKeep_append (allKeep_append (allKeep_append (allKeep_append (allKeep_append (allKeep_append
      (allKeep_flatMap waits) (allKeep_flatMap fun e => lanes e.1)) time) (allKeep_flatMap fun e => members e.1))
      (allKeep_map fun n => command_lasts_of (c := .towResend n) rfl)) twin) keeper)
      (allKeep_map fun _ _ hs => allNext_next (hs.then (by simp [Lasts])))) s (.refl s)

/-! ## The parts of the tick -/

theorem settle_lasts {c : Instr} (other : c.mayMoveLasting = false) (s : State) : Lasts s (settle s (exec c s)) :=
  settle_keeps (.refl s) (command_lasts c other s)

theorem endFrame_lasts (s : State) : Lasts s (endFrame s) := by
  have deferred := fun s => (settle_lasts (c := .deferralLimit) rfl s).parts
  dsimp only [exec] at deferred
  unfold endFrame
  dsimp only
  split <;> simp [Lasts, deferred]

theorem closeRow_lasts (x : Option Realign) (inp : RowInput) (s : State) : Lasts s (closeRow x inp s) := by
  have due := fun s => (registerDue_lasts s).parts
  have ended := fun s => (endFrame_lasts s).parts
  unfold closeRow
  dsimp only
  split <;> simp [Lasts, due, ended]

theorem firstFrame_lasts (s : State) : Lasts s (firstFrame s) := settle_lasts (c := .phaseSyncTimeout) rfl s

theorem controlTick_lasts (s : State) : Lasts s (controlTick s) := by
  have revert := fun s => (settle_lasts (c := .revertWtrExpiry) rfl s).parts
  dsimp only [exec] at revert
  simp [Lasts, controlTick, revert]

theorem channelTick_lasts (inp : RowInput) (s : State) : Lasts s (channelTick inp s) := by
  have soft := fun s => (settle_lasts (c := .softLoopTimeout) rfl s).parts
  dsimp only [exec] at soft
  simp [Lasts, channelTick, soft]

theorem outputTick_lasts (x : Option Realign) (newFrame : Bool) (s : State) : Lasts s (outputTick x newFrame s) := by
  have steer := fun s => (settle_lasts (c := .steerDurationEnd) rfl s).parts
  dsimp only [exec] at steer
  cases newFrame <;> simp [Lasts, outputTick, steer]

theorem rowTick_lasts (inp : RowInput) (s : State) : Lasts s (rowTick inp s) := by
  have row := fun x s => (closeRow_lasts x inp s).parts
  have first := fun s => (firstFrame_lasts s).parts
  have due := fun s => (expireTick_lasts s).parts
  have tables := fun s => (btTick_lasts s).parts
  have control := fun s => (controlTick_lasts s).parts
  have channel := fun s => (channelTick_lasts inp s).parts
  have outputs := fun x newFrame s => (outputTick_lasts x newFrame s).parts
  have reads := fun s => (dmaTick_lasts s).parts
  unfold rowTick
  dsimp only
  simp [Lasts, row, first, due, tables, control, channel, outputs, reads]

theorem pinTick_lasts (s : State) : Lasts s (pinTick s) := by simp [Lasts, pinTick]

/-! ## Resets -/

/-- A reset leaves what lasts, whatever else it discards. -/
theorem enterReset_lasts (cause : Nat) (s : State) : Lasts s (enterReset cause s) := by
  simp [Lasts, enterReset]

theorem powerDown_lasts (s : State) : Lasts s (powerDown s) := by
  have reset := fun s => (enterReset_lasts 0 s).parts
  simp [Lasts, powerDown, reset]

end Sys2Proof
end

section
/-! The commands that wait, the fuses and firmware slot A (R461, R467, R468, R475, R476). -/

namespace Sys2Proof

open Sys2Proof.Machine

/-- ROM_DONE and FW_FLOOR write fuses, FW_LOAD_DONE keeps what it reads of slot A. -/
def Instr.writesLasting : Instr → Bool
  | .romDone _ | .fwLoadDone _ _ | .fwFloor => true
  | _ => false

theorem internalReset_lasts (s : State) : AllNext (Lasts s) (execInternalReset s) := by
  refine allNext_next ?_
  split
  · have reset := fun cause s => (enterReset_lasts cause s).parts
    exact .ite (by simp [Lasts, reset]) (.refl s)
  · exact .refl s

/-- Every other command, the resets and ROW_TICK among them, leaves what lasts. -/
theorem exec_lasts (c : Instr) (other : c.writesLasting = false) (s : State) : AllNext (Lasts s) (exec c s) := by
  cases hc : c.mayMoveLasting with
  | false => exact command_lasts c hc s
  | true =>
    cases c with
    | rowTick inp => exact allNext_next (.ite (rowTick_lasts inp s) (.ite (pinTick_lasts s) (.refl s)))
    | resetNFall ns => exact allNext_next (.ite (.refl s) (enterReset_lasts _ { s with boot.resetN := false, boot.reflash := true }))
    | internalReset => exact internalReset_lasts s
    | railFailure ns =>
      exact allNext_next (.ite (.refl s) (powerDown_lasts { s with boot.railsOk := false, boot.pwrCycle := false }))
    | thermalTrip => exact allNext_next (powerDown_lasts { s with boot.hot := true })
    | romDone | fwLoadDone | fwFloor => cases other
    | _ => cases hc

/-! ## The three commands that write what lasts -/

/-- The fuses are read: a SEC_FLOOR below the one known, and an identity once one is known, are not taken (log entry 31). -/
theorem romDone_stands (fuses : Fuses) (s : State) :
    AllNext (fun t => t.pending = s.pending ∧ FusesStand s t) (execRomDone fuses s) := by
  refine allNext_next ?_
  split
  · refine ⟨rfl, Nat.le_max_left _ _, fun known => ?_, fun _ _ hi => hi⟩
    exact ⟨if_neg known, if_neg known⟩
  · exact ⟨rfl, (Lasts.refl s).fusesStand⟩

/-- Slot A read again holds the image that was read before, where the board cannot have rewritten the flash (R469). -/
theorem loadA_stands (a : Option FwImage) (cause : Nat) (s : State) :
    (loadA a cause s).pending = s.pending ∧ FusesStand s (loadA a cause s) := by
  have read : (loadA a cause s).lasting =
      { s with boot.fwA := some (foundImage s.boot.reflash a s.boot.fwA) }.lasting := by
    unfold loadA
    dsimp only
    split <;> simp [runImage]
  obtain ⟨pending, floor, uid, order, slot⟩ := Lasts.parts read
  refine ⟨pending, floor.ge, fun _ => ⟨uid, order⟩, fun i kept hi => ?_⟩
  rw [slot]
  simp [foundImage, kept, hi]

theorem fwLoadDone_stands (a b : Option FwImage) (s : State) :
    AllNext (fun t => t.pending = s.pending ∧ FusesStand s t) (execFwLoadDone a b s) := by
  have same := (⟨rfl, (Lasts.refl s).fusesStand⟩ : s.pending = s.pending ∧ FusesStand s s)
  refine allNext_next ?_
  split
  · unfold fwLoad
    dsimp only
    split
    · exact loadA_stands a 2 s
    · split
      · exact ⟨rfl, Lasts.fusesStand rfl⟩
      · exact loadA_stands a 1 { s with boot.fwB := some (foundImage s.boot.reflash b s.boot.fwB) }
  · exact same

/-- FW_FLOOR blows fuses up to a higher level, and none for a level that SEC_FLOOR has reached (R476). -/
theorem fwFloor_raises (s : State) : AllNext (FloorRaised s) (execFwFloor s) := by
  have kept : ∀ {t u}, FloorRaised s t → Lasts t u → FloorRaised s u := fun {t u} h k => by
    obtain ⟨floor, same⟩ := h
    rw [FloorRaised, k.parts.2.1]
    exact ⟨floor, same.then k⟩
  refine onEngine_keeps ⟨le_rfl, .refl s⟩ id (fun r h => kept h (by simp [Lasts, wedgedRun])) fun r t h => ?_
  obtain ⟨floor, same⟩ := h
  dsimp only
  split
  · exact kept ⟨floor, same⟩ (by simp [Lasts])
  · split
    · exact kept ⟨floor, same⟩ (by simp [Lasts])
    · split
      · exact kept ⟨floor, same⟩ (by simp [Lasts])
      · next above =>
        have raised : FloorRaised s { t with boot.secFloor := fld (r.cmd.p 0) 5 0 } :=
          ⟨floor.trans (Nat.le_of_not_le above), by simpa [Lasts] using same⟩
        exact kept raised (by simp [Lasts])

theorem floorRaised_stands {s t : State} (h : FloorRaised s t) : t.pending = s.pending ∧ FusesStand s t := by
  obtain ⟨floor, same⟩ := h
  obtain ⟨pending, -, uid, order, slot⟩ := same.parts
  exact ⟨pending, floor, fun _ => ⟨uid, order⟩, fun i _ hi => slot.trans hi⟩

/-- Whatever the command, the commands that wait are the same and the fuses stand. -/
theorem exec_stands (c : Instr) (s : State) : AllNext (fun t => t.pending = s.pending ∧ FusesStand s t) (exec c s) := by
  cases hc : c.writesLasting with
  | false => exact fun t ht => ⟨(exec_lasts c hc s t ht).parts.1, (exec_lasts c hc s t ht).fusesStand⟩
  | true =>
    cases c with
    | romDone fuses => exact romDone_stands fuses s
    | fwLoadDone a b => exact fwLoadDone_stands a b s
    | fwFloor => exact fun t ht => floorRaised_stands (fwFloor_raises s t ht)
    | _ => cases hc

/-- Settles O58: no command's effect reaches the commands that wait, which are the model's own (log entry 1). -/
theorem queueUntouched : Obligations.QueueUntouched := fun c s t run => (exec_stands c s t run).1

/-- Settles O60: the step takes a command from the queue, and no command unblows a fuse or changes slot A. That the identity and SEC_FLOOR
once read stay is log entry 31; what the board may rewrite after RESET_N has fallen is log entry 99. -/
theorem fusesAndSlotAStand : Obligations.FusesAndSlotAStand := by
  intro s t run
  unfold step at run
  split at run
  · cases run
    exact (Lasts.refl s).fusesStand
  · next c cs _ => exact (exec_stands c { s with pending := cs } t run).2

end Sys2Proof
end

section
/-! Every well-formed command answers a next state (chapter 13, log entry 64): only an operand that names no object of the device stops a
command. -/

namespace Sys2Proof

open Sys2Proof.Machine

/-- The outcome is a next state. -/
def Answers (x : Res) : Prop := ∃ t, x = .next t

theorem answers_next (t : State) : Answers (.next t) := ⟨t, rfl⟩

theorem answers_ite {c : Prop} [Decidable c] {x y : Res} (hx : Answers x) (hy : Answers y) : Answers (if c then x else y) := by
  split
  · exact hx
  · exact hy

/-- Where the object that the operand names exists, the check of it does not stop the command. -/
theorem answers_unless {c : Prop} [Decidable c] {x y : Res} (exists_ : ¬ c) (hy : Answers y) : Answers (if c then x else y) := by
  rwa [if_neg exists_]

theorem answers_where {c : Prop} [Decidable c] {x y : Res} (exists_ : c) (hx : Answers x) : Answers (if c then x else y) := by
  rwa [if_pos exists_]

theorem onEngine_answers (op : Nat) (f : Run → State → State) (s : State) : Answers (onEngine op f s) := by
  rcases onEngine_cases op f s with ⟨_, _, _, h⟩ | ⟨_, _, _, h⟩ | h <;> exact ⟨_, h⟩

theorem onLane_answers {i : Nat} (lane : i < 512) (t : State) : Answers (onLane i t) := answers_where lane (answers_next t)

theorem onRunningLane_answers {i : Nat} (lane : i < 512) (s t : State) : Answers (onRunningLane i s t) := onLane_answers lane _

theorem onInput_answers {n : Nat} (input : n < 25) (t : State) : Answers (onInput n t) := answers_where input (answers_next t)

theorem onPin_answers {n : Nat} (pin : n < 8) (s t : State) : Answers (onPin n s t) := answers_where pin (answers_next _)

theorem onTrib_answers {n : Nat} (trib : n < 131072) (t : State) : Answers (onTrib n t) := answers_where trib (answers_next t)

/-- A function of Table 17.1 is not turned away. -/
theorem function_answers {f : Nat} (known : isFunction f = true) {x y : Res} (hy : Answers y) :
    Answers (if !isFunction f then x else y) := answers_unless (by simp [known]) hy

/-- Settles O57, by the object that each command names; the commands that name none answer in every state. Which operands name an object
of the device is log entry 64. -/
theorem wellFormedCommandsComplete : Obligations.WellFormedCommandsComplete := by
  intro c s wf
  show Answers (exec c s)
  cases c
  all_goals dsimp only [exec]
  -- What the engine executes.
  case cqCreate | sqCreate | sqDelete | cqDelete | eqCreate | eqDelete | nop | connEdit | connLoad | tribSet | tribRead |
    planSeal | planDiscard | planWithdraw | planStatus | pageRead | lockageAt | protCmd | protStatus | laneAdmin |
    laneRestart | laneStatus | laneTest | laneDefCfg | laneDefStatus | refCfg | refSelect | refStatus | dpllCfg |
    dpllStatus | fSoft | fFreq | fSamples | pSteer | pStatus | outCfg | realign | outRealign | measRead | timeCfg |
    frameStatus | twinStatus | twinCfg | keeperStatus | ckptStatus | revertCfg | revertLock | handoverAt | standbyWarm |
    flightStatus | admitMember | ctrCfg | ctrRead | ctrSnapshot | fixedCfg | fixedRead | bwRead | ctrStatus | recover |
    recoverCfg | recoverStatus | matrixCfg | matrixStatus | stateSummary | configRead | identityRead | certRead |
    identChallenge | fwWrite | fwStatus | fwFloor | btWrite | btApply | btRead => exact onEngine_answers _ _ s
  -- What names a lane, an input, a pin or a tributary.
  case degIntervalEnd | losDeclareRun | losClearRun | loraDeclareRun | loraClearRun | frmMissingTimeout |
    adaptationConverged | idFaultExpiry | phaseRowsInPlace | signalReportedRun =>
    exact onLane_answers (of_decide_eq_true wf) _
  case attemptTimerExpiry => exact onRunningLane_answers (of_decide_eq_true wf) _ _
  case dataBarge | holdBarge | frameBarge | testBarge | idleBarge | invalidHeader =>
    exact onLane_answers (of_decide_eq_true (Bool.and_elim_left wf)) _
  case alignmentMarker port m => cases port with
    | pair n => exact onLane_answers (of_decide_eq_true (Bool.and_elim_left wf)) _
    | twin n => exact answers_where (of_decide_eq_true (Bool.and_elim_left wf)) (answers_next _)
  case qlMessageAbsent | inputActivityChange | refWtrExpiry | holdoffExpiry =>
    exact onInput_answers (of_decide_eq_true wf) _
  case timeRefEdgeMeasure n ns ps => exact onInput_answers (of_decide_eq_true wf).1 _
  case refmsgQl | refmsgTod | refmsgBad => exact onPin_answers (of_decide_eq_true wf) _ _
  case sfRowsReached | sfClearRun | holdExpiry | wtrExpiry => exact onTrib_answers (of_decide_eq_true wf) _
  -- What names another object of the device.
  case todMessageSend => exact answers_where (of_decide_eq_true wf) (answers_next _)
  case periodBoundary | counterOverflow | sqTailDoorbell | cqHeadDoorbell | eqHeadDoorbell | routeLapse | memberUnreachable |
    identityCheck | targetWedged | masterReadmit =>
    exact answers_unless (Nat.not_le.mpr (of_decide_eq_true wf)) (answers_next _)
  case matrixRequest r _ =>
    obtain ⟨master, id, -⟩ := of_decide_eq_true (Bool.and_elim_left wf)
    exact answers_unless (Nat.not_le.mpr master) (answers_unless (Nat.not_le.mpr id) (answers_next _))
  case matrixResponse r _ =>
    exact answers_unless (Nat.not_le.mpr (of_decide_eq_true (Bool.and_elim_left wf)).1) (answers_next _)
  case watchdogExpiry | reinitBegin | reinitDone => exact function_answers wf (answers_next _)
  -- What names none.
  case localoscFaultClear | windowRegisterWrite => exact answers_ite (answers_next _) (answers_next _)
  case commandFetch | commandStart | replyWrite | eventWrite | queueDmaFault | planningStart | planningDone | loadingStart |
    loadingDone | deferralLimit =>
    simp only [execCommandFetch, execCommandStart, execReplyWrite, execEventWrite, execQueueDmaFault, execPlanningStart,
      execPlanningDone, execLoadingStart, execLoadingDone, execDeferralLimit]
    (repeat' split) <;> exact answers_next _
  all_goals exact answers_next _

end Sys2Proof
end

section
/-! The step (chapter 13, log entry 1), and the doorbells (R348, R349, R351). -/

namespace Sys2Proof

open Sys2Proof.Machine

/-- Settles O1, by the queue: with a command in front, or empty, where the model idles (log entry 1). -/
theorem stepRunsFrontCommand : Obligations.StepRunsFrontCommand :=
  ⟨fun c cs s queue => by rw [step, queue], fun s empty => by rw [step, empty]⟩

/-! ## Positions in a ring -/

/-- On a ring of n places, the place k on from h lies k places behind h. -/
theorem ring_distance (h k n : Nat) (small : k < n) : ((h + k) % n + n - h % n) % n = k := by
  have head : h % n < n := Nat.mod_lt h (by omega)
  have place : (h + k) % n = (h % n + k) % n := by rw [Nat.mod_add_mod]
  rw [place]
  rcases Nat.lt_or_ge (h % n + k) n with inside | beyond
  · have sum : h % n + k + n - h % n = k + n := by omega
    rw [Nat.mod_eq_of_lt inside, sum, Nat.add_mod_right, Nat.mod_eq_of_lt small]
  · have wrapped : (h % n + k) % n = h % n + k - n := by
      rw [Nat.mod_eq_sub_mod beyond, Nat.mod_eq_of_lt (by omega)]
    have sum : h % n + k - n + n - h % n = k := by omega
    rw [wrapped, sum, Nat.mod_eq_of_lt small]

/-- Settles O4: the index named lies k places on from the head, and no more entries are unread. -/
theorem headWriteConsumesEntries : Obligations.HeadWriteConsumesEntries := by
  intro wr unread log2 k _ _ small within
  dsimp only [consumed]
  rw [ring_distance _ _ _ small]
  exact Nat.min_eq_right within

/-- The units announced lie between the fetch position and the tail: none of them twice, and at least one (log entry 102). -/
theorem announced_spec (x : Sq) {tail : Nat} (index : tail < 2 ^ x.log2) (fetch : x.fetch < 2 ^ x.log2) :
    1 ≤ x.announced tail ∧ x.announced tail ≤ 2 ^ x.log2 ∧ (x.fetch + x.announced tail) % 2 ^ x.log2 = tail := by
  have size : 0 < 2 ^ x.log2 := Nat.two_pow_pos _
  have sum : (x.fetch + (tail + 2 ^ x.log2 - x.fetch) % 2 ^ x.log2) % 2 ^ x.log2 = tail := by
    have total : x.fetch + (tail + 2 ^ x.log2 - x.fetch) = tail + 2 ^ x.log2 := by omega
    rw [Nat.add_mod_mod, total, Nat.add_mod_right, Nat.mod_eq_of_lt index]
  unfold Sq.announced
  dsimp only
  split
  · next whole =>
    rw [whole, Nat.add_zero] at sum
    exact ⟨size, le_rfl, by rw [Nat.add_mod_right, sum]⟩
  · next some_ => exact ⟨Nat.pos_of_ne_zero some_, (Nat.mod_lt _ size).le, sum⟩

/-! ## The doorbells -/

section
variable {q : Nat} {v : BitVec 32} {s : State}

theorem sqTailDoorbell_next (up : s.hostUp = true) (queue : q < 64) : exec (.sqTailDoorbell q v) s = .next (sqTail q v s) := by
  simp [exec, execSqTailDoorbell, up, Nat.not_le.mpr queue]

theorem cqHeadDoorbell_next (up : s.hostUp = true) (queue : q < 64) : exec (.cqHeadDoorbell q v) s = .next (cqHead q v s) := by
  simp [exec, execCqHeadDoorbell, up, Nat.not_le.mpr queue]

theorem eqHeadDoorbell_next (up : s.hostUp = true) (queue : q < 8) : exec (.eqHeadDoorbell q v) s = .next (eqHead q v s) := by
  simp [exec, execEqHeadDoorbell, up, Nat.not_le.mpr queue]

/-- A doorbell of a queue that does not exist, or with an index not below its size, is a queue fault (R348). -/
theorem sqTail_fault (bad : ∀ x, s.sq q = some x → 2 ^ x.log2 ≤ fld v 11 0) : sqTail q v s = queueFault .sq q 1 s := by
  unfold sqTail
  split
  · next x hx => exact if_neg (Nat.not_lt.mpr (bad x hx))
  · rfl

theorem cqHead_fault (bad : ∀ x, s.cq q = some x → 2 ^ x.log2 ≤ fld v 11 0) : cqHead q v s = queueFault .cq q 1 s := by
  unfold cqHead
  split
  · next x hx => exact if_neg (Nat.not_lt.mpr (bad x hx))
  · rfl

theorem eqHead_fault (bad : ∀ x, s.evq q = some x → 2 ^ x.log2 ≤ fld v 11 0) : eqHead q v s = queueFault .eq q 1 s := by
  unfold eqHead
  split
  · next x hx => exact if_neg (Nat.not_lt.mpr (bad x hx))
  · rfl

end

/-- Settles O3, doorbell by doorbell: on its queue, or as a queue fault. A tail at the fetch position announces the whole queue (log entry
102), and a head beyond the last entry written consumes what there is (log entry 12). -/
theorem doorbellsAct : Obligations.DoorbellsAct := by
  intro q v s up
  refine ⟨fun x queue hx index => ⟨?_, announced_spec x index⟩, fun x queue hx index => ?_, fun x queue hx index => ?_,
    fun queue bad => ?_, fun queue bad => ?_, fun queue bad => ?_⟩
  · rw [sqTailDoorbell_next up queue, sqTail, hx]
    simp only [if_pos index]
  · rw [cqHeadDoorbell_next up queue, cqHead, hx]
    simp only [if_pos index]
  · rw [eqHeadDoorbell_next up queue, eqHead, hx]
    simp only [if_pos index]
  · rw [sqTailDoorbell_next up queue, sqTail_fault bad, queueFault]
  · rw [cqHeadDoorbell_next up queue, cqHead_fault bad, queueFault]
  · rw [eqHeadDoorbell_next up queue, eqHead_fault bad, queueFault]

end Sys2Proof
end

section
/-! The completion of a command that this gateway fetched (R362, R369). -/

namespace Sys2Proof

open Sys2Proof.Machine

/-- The reply kept for duplicates is put into the sequence states, and nothing else changes (R362). -/
theorem cacheReply_seq (k : Key) (c : Cmd) (r : Reply) (s : State) : ∃ m, cacheReply k c r s = { s with host.seq := m } := by
  unfold cacheReply
  dsimp only
  split
  · exact ⟨_, rfl⟩
  · exact ⟨s.host.seq, rfl⟩

/-- A reply to a queue of its session is put behind those that wait for its completion queue (R369). -/
theorem postReply_posts {r : Reply} {s : State} {q : Sq} {c : Cq} (queue : s.sq r.q = some q) (session : q.session = r.session)
    (bound : s.cq q.cq = some c) : postReply r s = s.setCq q.cq (some { c with pend := c.pend ++ [r] }) := by
  simp [postReply, queue, session, bound]

/-- With no broadcast and no duplicate waiting, completing a command caches its reply and posts it. -/
theorem finish_posts {r : Run} {st : Nat} {ws : List W64} {s : State} {q : Sq} {c : Cq} (own : r.key.gw = none)
    (broadcasts : s.host.bcast = []) (dups : s.host.dups = []) (queue : s.sq r.key.q = some q)
    (session : q.session = r.key.session) (bound : s.cq q.cq = some c) :
    ∃ m, finish r st ws s =
      State.setCq { s with host.prog := dropFirst (fun x => decide (x.key = r.key)) s.host.prog, host.seq := m } q.cq
        (some { c with pend := c.pend ++ [mkReply r.key r.cmd s.flight.addr st s.time.frame s.time.row ws] }) := by
  obtain ⟨m, cached⟩ := cacheReply_seq r.key r.cmd (mkReply r.key r.cmd s.flight.addr st s.time.frame s.time.row ws)
    { s with host.prog := dropFirst (fun x => decide (x.key = r.key)) s.host.prog }
  refine ⟨m, ?_⟩
  rw [finish, completeAt]
  dsimp only
  rw [cached, sendReply, own]
  dsimp only
  have unawaited : gatewayReply (mkReply r.key r.cmd s.flight.addr st s.time.frame s.time.row ws)
      { s with host.prog := dropFirst (fun x => decide (x.key = r.key)) s.host.prog, host.seq := m } =
      State.setCq { s with host.prog := dropFirst (fun x => decide (x.key = r.key)) s.host.prog, host.seq := m } q.cq
        (some { c with pend := c.pend ++ [mkReply r.key r.cmd s.flight.addr st s.time.frame s.time.row ws] }) := by
    unfold gatewayReply
    rw [broadcasts]
    exact postReply_posts queue session bound
  rw [unawaited]
  simp [flushDups, State.setCq, dups]

/-- Settles O10: with nothing waiting for the command, its completion is one reply posted. -/
theorem completionPostsOneReply : Obligations.CompletionPostsOneReply := by
  intro r st ws s q c own broadcasts dups queue session bound
  obtain ⟨m, posted⟩ := finish_posts (st := st) (ws := ws) own broadcasts dups queue session bound
  rw [posted]
  refine ⟨?_, fun k other => ?_, rfl, rfl⟩
  · simp [mkReply]
  · rw [cq_setCq, if_neg other]
    rfl

end Sys2Proof
end

section
/-! SUPPORT. Sending on the towpath (R383 to R387): only the ports, the packets that wait for an ACK, the numbers of the series and the
line change. -/

namespace Sys2Proof.Machine

open Sys2Proof

/-- Nothing differs but the ports of the towpath, what waits for an ACK, the numbers of the series, and what left through the ports. -/
def OnlyPorts (s t : State) : Prop :=
  t = { s with flight.a := t.flight.a, flight.b := t.flight.b, flight.unacked := t.flight.unacked,
               flight.txSeq := t.flight.txSeq, out.tow := t.out.tow }

theorem OnlyPorts.refl (s : State) : OnlyPorts s s := rfl

theorem OnlyPorts.then {s t u : State} (h : OnlyPorts s t) (k : OnlyPorts t u) : OnlyPorts s u := by
  unfold OnlyPorts at k
  rw [h] at k
  exact k

theorem OnlyPorts.ite {s a b : State} {c : Prop} [Decidable c] (ha : OnlyPorts s a) (hb : OnlyPorts s b) :
    OnlyPorts s (if c then a else b) := by
  split
  · exact ha
  · exact hb

theorem OnlyPorts.foldl {β : Type} {g : State → β → State} (hg : ∀ s b, OnlyPorts s (g s b)) (l : List β) (s : State) :
    OnlyPorts s (l.foldl g s) :=
  foldl_keeps (OnlyPorts s) g (fun t b h => h.then (hg t b)) l s (.refl s)

theorem setPort_ports (sd : Side) (p : TowPort) (s : State) : OnlyPorts s (s.setPort sd p) := by
  cases sd <;> rfl

theorem payCredits_ports (sd : Side) (s : State) : OnlyPorts s (payCredits sd s) := by
  unfold payCredits
  dsimp only
  refine .ite (.then (setPort_ports sd _ s) rfl) (.refl s)

theorem creditBack_ports (p : TowPkt) (back : Option Side) (s : State) : OnlyPorts s (creditBack p back s) := by
  cases back with
  | none => exact .refl s
  | some sd => exact (setPort_ports sd _ s).then (payCredits_ports sd _)

theorem stampSent_ports (p : TowPkt) (s : State) : OnlyPorts s (stampSent p s) := rfl

theorem portForward_ports (sd : Side) (p : TowPkt) (back : Option Side) (s : State) :
    OnlyPorts s (portForward sd p back s) := by
  unfold portForward
  dsimp only
  refine .ite (.ite rfl (.refl s)) (.ite ?_ (setPort_ports sd _ s))
  refine .then (.then ?_ (stampSent_ports p _)) (creditBack_ports p back _)
  exact .then (setPort_ports sd _ s) rfl

theorem portSend_ports (sd : Side) (p : TowPkt) (s : State) : OnlyPorts s (portSend sd p s) := portForward_ports sd p none s

theorem portDrain_ports (sd : Side) (s : State) : OnlyPorts s (portDrain sd s) :=
  (setPort_ports sd _ s).then (.foldl (fun s (x : Queued) => portForward_ports sd x.pkt x.back s) _ _)

theorem towSend_ports (type dst : Nat) (payload : List W64) (s : State) : OnlyPorts s (towSend type dst payload s) := by
  unfold towSend
  dsimp only
  refine .ite (.refl s) ?_
  split
  · next sd _ =>
    refine .then ?_ (portSend_ports sd _ _)
    split
    · exact .refl s
    · exact rfl
  · split
    · exact .refl s
    · exact rfl

theorem towSendAll_ports (type : Nat) (payload : List W64) (s : State) : OnlyPorts s (towSendAll type payload s) :=
  .ite (.refl s) ((portSend_ports _ _ s).then (portSend_ports _ _ _))

theorem OnlyPorts.host {s t : State} (h : OnlyPorts s t) : t.host = s.host := by rw [h]

end Sys2Proof.Machine
end

section
/-! SUPPORT. The deletion of queues (R344, R355, R373): what becomes of a queue's commands, replies and sequence states, and what it changes
outside the host interface. -/

namespace Sys2Proof.Machine

open Sys2Proof

/-! ## Sending does not read the host interface -/

/-- The state with another host interface. -/
def withHost (h : HostIf) (s : State) : State := { s with host := h }

variable (h : HostIf)

theorem setPort_withHost (sd : Side) (p : TowPort) (s : State) : (withHost h s).setPort sd p = withHost h (s.setPort sd p) := by
  cases sd <;> rfl

theorem ite_withHost {c : Prop} [Decidable c] {a b x y : State} (hx : x = withHost h a) (hy : y = withHost h b) :
    (if c then x else y) = withHost h (if c then a else b) := by
  split <;> assumption

theorem payCredits_withHost (sd : Side) (s : State) : payCredits sd (withHost h s) = withHost h (payCredits sd s) := by
  unfold payCredits
  dsimp only
  refine ite_withHost h ?_ rfl
  cases sd <;> rfl

theorem creditBack_withHost (p : TowPkt) (back : Option Side) (s : State) :
    creditBack p back (withHost h s) = withHost h (creditBack p back s) := by
  cases back with
  | none => rfl
  | some sd =>
    simp only [creditBack, setPort_withHost, payCredits_withHost]
    rfl

theorem portForward_withHost (sd : Side) (p : TowPkt) (back : Option Side) (s : State) :
    portForward sd p back (withHost h s) = withHost h (portForward sd p back s) := by
  unfold portForward
  dsimp only
  refine ite_withHost h (ite_withHost h rfl rfl) (ite_withHost h ?_ (setPort_withHost h sd _ s))
  refine Eq.trans ?_ (creditBack_withHost h p back _)
  rw [setPort_withHost]
  rfl

theorem towSend_withHost (type dst : Nat) (payload : List W64) (s : State) :
    towSend type dst payload (withHost h s) = withHost h (towSend type dst payload s) := by
  have member : (withHost h s).member dst = s.member dst := rfl
  unfold towSend
  dsimp only
  rw [member]
  refine ite_withHost h rfl ?_
  cases (s.member dst).side with
  | none => exact ite_withHost h rfl rfl
  | some sd =>
    refine Eq.trans ?_ (portForward_withHost h sd _ none _)
    by_cases ack : type = 0xA
    · simp only [if_pos ack]
      rfl
    · simp only [if_neg ack]
      rfl

/-- A queue's commands taken back from the ports and from what the gateway keeps of them, before the members are told (R355). -/
def takenBack (q : Nat) (s : State) : State :=
  let port := fun (x : TowPort) => { x with queue := x.queue.map (fun e =>
    if e.pkt.src = s.flight.addr ∧ s.flight.addressed = true then { e with pkt := emptyCmd q e.pkt } else e) }
  { s with
    flight.a := port s.flight.a, flight.b := port s.flight.b,
    flight.unacked := s.flight.unacked.map (fun u => { u with pkt := emptyCmd q u.pkt }),
    host.fwd := s.host.fwd.filter (fun f => f.key.q != q), host.bcast := s.host.bcast.filter (fun b => b.key.q != q) }

theorem withdrawSent_eq (q : Nat) (s : State) : withdrawSent q s =
    ((s.flight.members.filter (fun e => e.2.present && e.1 != s.flight.addr)).map (·.1)).foldl
      (fun s m => towSend 7 m [deletedWord q] s) (takenBack q s) := rfl

/-- Withdrawing a queue's commands from the ports is the same whatever the host interface holds. -/
theorem withdrawSent_withHost (q : Nat) (s : State) :
    withdrawSent q (withHost h s) = withHost (withdrawSent q (withHost h s)).host (withdrawSent q s) := by
  have sent : ∀ (ms : List Nat) (g : HostIf) (s : State),
      ms.foldl (fun s m => towSend 7 m [deletedWord q] s) (withHost g s) =
        withHost g (ms.foldl (fun s m => towSend 7 m [deletedWord q] s) s) := by
    intro ms g s
    induction ms generalizing s with
    | nil => rfl
    | cons m ms ih => rw [List.foldl_cons, List.foldl_cons, towSend_withHost, ih]
  have back : takenBack q (withHost h s) = withHost (takenBack q (withHost h s)).host (takenBack q s) := rfl
  rw [host_withdrawSent, withdrawSent_eq, back]
  exact sent _ _ _

/-! ## Nothing but the host interface and the ports -/

theorem hostAndPorts_of_onlyPorts {s t : State} (h : OnlyPorts s t) : HostAndPorts s t := by
  constructor
  · exact h.trans (by rw [h])
  · rw [h]

theorem hostAndPorts_of_onlyHost {s t : State} (h : OnlyHost s t) : HostAndPorts s t := by
  rw [h]
  exact ⟨rfl, rfl⟩

theorem hostAndPorts_trans {s t u : State} (h : HostAndPorts s t) (k : HostAndPorts t u) : HostAndPorts s u := by
  obtain ⟨h, hout⟩ := h
  obtain ⟨k, kout⟩ := k
  constructor
  · rw [h] at k
    exact k
  · rw [kout, hout]

theorem withdrawSent_hostAndPorts (q : Nat) (s : State) : HostAndPorts s (withdrawSent q s) := by
  have back : HostAndPorts s (takenBack q s) := ⟨rfl, rfl⟩
  exact hostAndPorts_trans back (hostAndPorts_of_onlyPorts (.foldl (fun s m => towSend_ports 7 m [deletedWord q] s) _ _))

/-! ## A submission queue deleted -/

/-- A queue's own commands, by their keys (R355). -/
def ownKey (q : Nat) (k : Key) : Bool := decide (k.q = q ∧ k.gw = none)

theorem refill_entries (s : State) : (refill s).host.work ++ (refill s).host.staging = s.host.work ++ s.host.staging := by
  simp [refill]

/-- Queue q taken away, and its replies that have not been written dropped. -/
def repliesGone (q : Nat) (x : Sq) (s : State) : State :=
  let s := s.setSq q none
  match s.cq x.cq with
  | some cq => s.setCq x.cq (some { cq with pend := cq.pend.filter (fun r => r.q != q) })
  | none => s

/-- Queue q, which exists, before its commands are taken back from the ports. -/
def queueRemoved (q : Nat) (x : Sq) (s : State) : State :=
  let s := repliesGone q x s
  refill { s with
    host.work := s.host.work.filter (fun w => !ownKey q w.key), host.staging := s.host.staging.filter (fun w => !ownKey q w.key),
    host.dups := s.host.dups.filter (fun w => !ownKey q w.key),
    host.starts := s.host.starts.filter (fun x => !(ownKey q x.1 && refusedAtStart x.1 s)),
    host.seq := s.host.seq.filter (fun e => e.1 / 1024 != q) }

theorem repliesGone_eq (q : Nat) (x : Sq) (s : State) : ∃ cqs, repliesGone q x s = { s.setSq q none with host.cqs := cqs } := by
  unfold repliesGone
  dsimp only
  split <;> exact ⟨_, rfl⟩

theorem deleteSq_eq {q : Nat} {x : Sq} {s : State} (queue : s.sq q = some x) :
    deleteSq q s = withdrawSent q (queueRemoved q x s) := by
  rw [deleteSq, queue]
  rfl

theorem queueRemoved_onlyHost (q : Nat) (x : Sq) (s : State) : OnlyHost s (queueRemoved q x s) := by
  obtain ⟨cqs, gone⟩ := repliesGone_eq q x s
  rw [queueRemoved, gone]
  rfl

theorem deleteSq_hostAndPorts (q : Nat) (s : State) : HostAndPorts s (deleteSq q s) := by
  cases queue : s.sq q with
  | none => rw [deleteSq, queue]; exact ⟨rfl, rfl⟩
  | some x =>
    rw [deleteSq_eq queue]
    exact hostAndPorts_trans (hostAndPorts_of_onlyHost (queueRemoved_onlyHost q x s)) (withdrawSent_hostAndPorts q _)

/-- Outside the host interface, a queue deleted leaves what taking its commands back from the ports leaves. -/
theorem deleteSq_outside {q : Nat} {x : Sq} {s : State} (queue : s.sq q = some x) :
    deleteSq q s = { withdrawSent q s with host := (deleteSq q s).host } := by
  have removed : queueRemoved q x s = withHost (queueRemoved q x s).host s := queueRemoved_onlyHost q x s
  rw [deleteSq_eq queue, removed]
  exact withdrawSent_withHost _ q s

theorem host_deleteSq {q : Nat} {x : Sq} {s : State} (queue : s.sq q = some x) :
    (deleteSq q s).host = { (queueRemoved q x s).host with
      fwd := (queueRemoved q x s).host.fwd.filter (fun f => f.key.q != q),
      bcast := (queueRemoved q x s).host.bcast.filter (fun b => b.key.q != q) } := by
  rw [deleteSq_eq queue, host_withdrawSent]

theorem deleteSq_register {q : Nat} {x : Sq} {s : State} (queue : s.sq q = some x) :
    (deleteSq q s).host.ctrl = s.host.ctrl ∧ (deleteSq q s).host.fault = s.host.fault := by
  obtain ⟨cqs, gone⟩ := repliesGone_eq q x s
  rw [host_deleteSq queue, queueRemoved, gone]
  exact ⟨rfl, rfl⟩

theorem seqAt_queue {k : Key} (session : k.session < 1024) : k.seqAt / 1024 = k.q := by
  unfold Key.seqAt
  omega

theorem deleteSq_deleted {q : Nat} {x : Sq} {s : State} (queue : s.sq q = some x) : QueueDeleted q s (deleteSq q s) := by
  refine ⟨by simp, fun k other => by simp [other], ?_⟩
  obtain ⟨cqs, gone⟩ := repliesGone_eq q x s
  simp only [State.seqSt, host_deleteSq queue, queueRemoved, refill_entries, gone]
  refine ⟨(List.filter_append _ _).symm, rfl, rfl, rfl, rfl, rfl, rfl, rfl, fun k session => ?_⟩
  refine Eq.trans (kget_filter {} (fun i => i / 1024 != q) s.host.seq k.seqAt) ?_
  rw [seqAt_queue session]
  by_cases own : k.q = q <;> simp [own]

theorem deleteSq_drops (q c : Nat) (s : State) : RepliesDropped q c s (deleteSq q s) := by
  intro x queue
  have cqs : (deleteSq q s).cq c = (repliesGone q x s).cq c := by
    simp only [State.cq, host_deleteSq queue, queueRemoved, refill]
  rw [cqs]
  constructor
  · rintro rfl y bound
    simp [repliesGone, bound]
  · intro other
    unfold repliesGone
    dsimp only
    split
    · simp [Ne.symm other]
    · rfl

end Sys2Proof.Machine
end

section
/-! The administration register (R347): queue pair 0 is created, deleted or refused. -/

namespace Sys2Proof

open Sys2Proof.Machine

theorem adminRefused_iff (v : BitVec 32) (s : State) : adminRefused v s = true ↔ RefusedAdminCtrl v s := by
  cases on : s.sq 0 <;> cases en : bit v 31 <;>
    simp [adminRefused, RefusedAdminCtrl, State.adminOn, on, en, or_assoc, Option.any_eq_true]

/-- ADMIN_CTRL holds v, and the last write was not refused. -/
def ctrlHeld (v : BitVec 32) (s : State) : State := { s with host.fault := false, host.ctrl := v }

/-- Queue pair 0 made from the window registers and the value in ADMIN_CTRL. -/
def pairMade (v : BitVec 32) (s : State) : State :=
  let n := nextSession s.host.sessions
  (({ s with host.sessions := n } : State).setCq 0
      (some { base := s.host.cqBase, log2 := fld v 7 4, vector := fld v 14 8, irq := bit v 15 })).setSq 0
    (some { base := s.host.sqBase, cq := 0, log2 := fld v 3 0, priv := 2, credits := 16, session := n })

theorem exec_adminCtrlWrite {s : State} (up : s.hostUp = true) (v : BitVec 32) :
    exec (.adminCtrlWrite v) s = .next (adminCtrl v s) := by
  change execAdminCtrlWrite v s = _
  rw [execAdminCtrlWrite, if_pos up]

/-- What an ADMIN_CTRL write does that is not refused. -/
theorem adminCtrl_accepted {v : BitVec 32} {s : State} (ok : ¬ RefusedAdminCtrl v s) :
    adminCtrl v s =
      if bit v 31 = true ∧ s.sq 0 = none then pairMade v (ctrlHeld v s)
      else if bit v 31 = false ∧ s.sq 0 ≠ none then (deleteSq 0 (ctrlHeld v s)).setCq 0 none
      else ctrlHeld v s := by
  have on : (ctrlHeld v s).adminOn = (s.sq 0).isSome := rfl
  rw [← adminRefused_iff, Bool.not_eq_true] at ok
  rw [adminCtrl, ok]
  change (if bit v 31 && !(ctrlHeld v s).adminOn then pairMade v (ctrlHeld v s)
    else if !bit v 31 && (ctrlHeld v s).adminOn then _ else _) = _
  rw [on]
  cases bit v 31 <;> cases s.sq 0 <;> rfl

/-- Settles O2: a refusal of R347 is `adminRefused`, and what is not refused falls into the three cases of `adminCtrl`. How commands
already sent to other members are taken back is the model's choice (log entry 104). -/
theorem adminCtrlWriteActs : Obligations.AdminCtrlWriteActs := by
  intro v s up
  rw [exec_adminCtrlWrite up]
  refine ⟨fun refused => ?_, fun ok en off => ⟨_, rfl, ?_⟩, fun ok en on => ⟨_, rfl, ?_⟩, fun ok same => ?_⟩
  · rw [adminCtrl, (adminRefused_iff v s).mpr refused, if_pos rfl]
  · rw [adminCtrl_accepted ok, if_pos ⟨en, off⟩]
    refine ⟨by rw [pairMade, sq_setSq, if_pos rfl]; rfl, by simp [pairMade, ctrlHeld], rfl, rfl, fun q other => ?_, rfl⟩
    simp only [pairMade, sq_setSq, cq_setSq, cq_setCq, if_neg other]
    exact ⟨rfl, rfl⟩
  · rw [adminCtrl_accepted ok, if_neg (by simp [on]), if_pos ⟨en, on⟩]
    obtain ⟨x, queue⟩ := Option.ne_none_iff_exists'.mp on
    have queue : (ctrlHeld v s).sq 0 = some x := queue
    obtain ⟨gone, others, rest⟩ := deleteSq_deleted queue
    have withdrawn : withdrawSent 0 (ctrlHeld v s) = withHost (withdrawSent 0 (ctrlHeld v s)).host (withdrawSent 0 s) :=
      withdrawSent_withHost (ctrlHeld v s).host 0 s
    refine ⟨⟨gone, others, rest⟩, by simp, fun c other y held => ?_, (deleteSq_register queue).1, (deleteSq_register queue).2,
      ?_, ?_⟩
    · simp only [cq_setCq, if_neg other]
      exact deleteSq_drops 0 c (ctrlHeld v s) y held
    · rw [deleteSq_outside queue, withdrawn]
      rfl
    · exact hostAndPorts_trans (t := ctrlHeld v s) ⟨rfl, rfl⟩ (hostAndPorts_trans (deleteSq_hostAndPorts 0 _) ⟨rfl, rfl⟩)
  · rw [adminCtrl_accepted ok, if_neg fun ⟨en, off⟩ => same.mp en off, if_neg fun ⟨en, on⟩ => by simp [same.mpr on] at en]
    rfl

end Sys2Proof
end

section
/-! The register window (R346), the resets of the function (R344, R489) and a queue that cannot be read (R345). -/

namespace Sys2Proof

open Sys2Proof.Machine

/-! ## Reads and writes of the window -/

theorem exec_windowRead {s : State} (up : s.hostUp = true) (r : WinRead) :
    exec (.windowLowRead r) s = .next (if r.wide && r.off % 8 == 0 then windowRead64 r.off s else windowRead32 r.off s) := by
  change execWindowLowRead r s = _
  rw [execWindowLowRead, if_pos up]

theorem exec_windowWrite {s : State} (up : s.hostUp = true) (off : Nat) (v : W64) :
    exec (.windowRegisterWrite off v true) s =
        .next (windowWrite32 (off + 4) ((v >>> 32).setWidth 32) (windowWrite32 off (v.setWidth 32) s)) ∧
      exec (.windowRegisterWrite off v false) s = .next (windowWrite32 off (v.setWidth 32) s) := by
  change execWindowRegisterWrite off v true s = _ ∧ execWindowRegisterWrite off v false s = _
  simp only [execWindowRegisterWrite, if_pos up]
  exact ⟨rfl, rfl⟩

/-- The 64-bit registers start at their 8-byte offsets. -/
theorem wideRegister_base {off : Nat} (reg : off = 8 ∨ off = 0x10 ∨ off = 0x18) :
    off % 8 = 0 ∧ wideRegister off = true ∧ (off + 4) % 8 = 4 ∧ off + 4 - 4 = off := by
  rcases reg with rfl | rfl | rfl <;> decide

theorem windowWrite32_unmapped {off : Nat} (beyond : 0x9010 ≤ off) (v : BitVec 32) (s : State) : windowWrite32 off v s = s := by
  unfold windowWrite32
  repeat rw [if_neg (by omega)]

/-- A 64-bit value written in its two halves, the low one first. -/
theorem halves_join (x v : W64) :
    ((x >>> 32 <<< 32 ||| (v.setWidth 32).setWidth 64) &&& 0xFFFFFFFF#64) ||| (((v >>> 32).setWidth 32).setWidth 64 <<< 32) = v := by
  apply BitVec.eq_of_getLsbD_eq
  intro i hi
  have mask : (0xFFFFFFFF#64).getLsbD i = decide (i < 32) := by
    rw [BitVec.getLsbD_ofNat, show (0xFFFFFFFF : Nat) = 2 ^ 32 - 1 from rfl, Nat.testBit_two_pow_sub_one]
    simp [hi]
  simp only [BitVec.getLsbD_or, BitVec.getLsbD_and, mask]
  by_cases low : i < 32
  · simp [low, hi]
  · have upper : 32 + (i - 32) = i := by omega
    have within : i - 32 < 32 := by omega
    simp [low, hi, upper, within]

/-! ## A function reset -/

/-- Every submission queue deleted. -/
def sqsDeleted (s : State) : State := (s.host.sqs.map (·.1)).foldl (fun s q => deleteSq q s) s

/-- Every event queue deleted. -/
def eqsDeleted (s : State) : State := (s.host.eqs.map (·.1)).foldl (fun s e => deleteEq e s) s

theorem functionReset_eq (s : State) : functionReset s =
    { eqsDeleted (sqsDeleted s) with
      host.cqs := [], host.ctrl := 0, host.msix := [], host.pba := [], host.irqSent := [], host.irqWant := [] } := rfl

theorem sq_sqsDeleted (s : State) (q : Nat) : (sqsDeleted s).sq q = none := by
  have fold : ∀ (ks : List Nat) (s : State), (ks.foldl (fun s q => deleteSq q s) s).sq q = if q ∈ ks then none else s.sq q := by
    intro ks
    induction ks with
    | nil => intro s; rfl
    | cons k ks ih =>
      intro s
      rw [List.foldl_cons, ih, sq_deleteSq]
      by_cases here : q = k <;> simp [here]
  rw [sqsDeleted, fold]
  split
  next => rfl
  next unlisted => exact kget_unlisted fun e listed same => unlisted (List.mem_map.mpr ⟨e, listed, same⟩)

theorem evq_eqsDeleted (s : State) (e : Nat) : (eqsDeleted s).evq e = none := by
  have fold : ∀ (ks : List Nat) (s : State), (ks.foldl (fun s e => deleteEq e s) s).evq e = if e ∈ ks then none else s.evq e := by
    intro ks
    induction ks with
    | nil => intro s; rfl
    | cons k ks ih =>
      intro s
      rw [List.foldl_cons, ih, evq_deleteEq]
      by_cases here : e = k <;> simp [here]
  rw [eqsDeleted, fold]
  split
  next => rfl
  next unlisted => exact kget_unlisted fun e listed same => unlisted (List.mem_map.mpr ⟨e, listed, same⟩)

theorem deleteEq_keeps (e : Nat) (s : State) :
    OnlyHost s (deleteEq e s) ∧ (deleteEq e s).host.sqs = s.host.sqs ∧ (deleteEq e s).host.pcie = s.host.pcie := by
  unfold deleteEq
  split <;> exact ⟨rfl, rfl, rfl⟩

theorem eqsDeleted_keeps (s : State) :
    OnlyHost s (eqsDeleted s) ∧ (eqsDeleted s).host.sqs = s.host.sqs ∧ (eqsDeleted s).host.pcie = s.host.pcie := by
  refine foldl_keeps (fun t => OnlyHost s t ∧ t.host.sqs = s.host.sqs ∧ t.host.pcie = s.host.pcie) _ ?_ _ _ ⟨rfl, rfl, rfl⟩
  rintro t e ⟨only, sqs, pcie⟩
  obtain ⟨only', sqs', pcie'⟩ := deleteEq_keeps e t
  exact ⟨only'.trans (by rw [only]), sqs'.trans sqs, pcie'.trans pcie⟩

theorem deleteSq_pcie (q : Nat) (s : State) : (deleteSq q s).host.pcie = s.host.pcie := by
  cases queue : s.sq q with
  | none => rw [deleteSq, queue]
  | some x =>
    obtain ⟨cqs, gone⟩ := repliesGone_eq q x s
    rw [host_deleteSq queue, queueRemoved, gone]
    rfl

theorem sqsDeleted_keeps (s : State) : HostAndPorts s (sqsDeleted s) ∧ (sqsDeleted s).host.pcie = s.host.pcie := by
  refine foldl_keeps (fun t => HostAndPorts s t ∧ t.host.pcie = s.host.pcie) _ ?_ _ _ ⟨⟨rfl, rfl⟩, rfl⟩
  rintro t q ⟨ports, pcie⟩
  exact ⟨hostAndPorts_trans ports (deleteSq_hostAndPorts q t), (deleteSq_pcie q t).trans pcie⟩

theorem functionReset_gone (s : State) : QueuesGone (functionReset s) := by
  rw [functionReset_eq]
  refine ⟨fun q => ?_, fun q => rfl, evq_eqsDeleted _, rfl, rfl, rfl⟩
  exact (congrArg (fun m => kget none m q) (eqsDeleted_keeps _).2.1).trans (sq_sqsDeleted s q)

theorem functionReset_hostAndPorts (s : State) : HostAndPorts s (functionReset s) := by
  have deleted := hostAndPorts_trans (sqsDeleted_keeps s).1 (hostAndPorts_of_onlyHost (eqsDeleted_keeps (sqsDeleted s)).1)
  exact hostAndPorts_trans deleted ⟨rfl, rfl⟩

theorem functionReset_pcie (s : State) : (functionReset s).host.pcie = s.host.pcie :=
  (eqsDeleted_keeps (sqsDeleted s)).2.2.trans (sqsDeleted_keeps s).2

/-- Settles O5: the window's reads and writes form by form, and the resets by what deleting every queue leaves. How commands are taken
back from the ports is the model's choice (log entry 104); the power state behind a reset and the configuration space behind
PCIE_PERST_N are its presumption of PCI Express (log entry 103). -/
theorem windowAccessesAct : Obligations.WindowAccessesAct := by
  intro s
  refine ⟨fun off up reg => ?_, fun off up reg => ?_, fun off v up reg latched => ?_, fun v up => ?_, fun v up => ?_,
    fun off v wide up beyond _ => ?_, fun kind gw => ⟨{ functionReset s with host.pcie.d3hot := kind == .d3hot }, ?_,
      functionReset_gone s, ?_, ?_⟩,
    fun gw => ⟨{ functionReset s with host.perst := true, host.pcie := {} }, ?_, functionReset_gone s, rfl, rfl, ?_, ?_⟩,
    fun member => ?_, rfl, fun q x queue => ?_, fun q x queue => ?_, fun q x queue => ?_⟩
  · rw [exec_windowRead up, if_pos (by simp [(wideRegister_base reg).1])]
    rfl
  · obtain ⟨base, wide, -, -⟩ := wideRegister_base reg
    rw [exec_windowRead up, if_neg (by simp)]
    simp [windowRead32, base, wide]
  · obtain ⟨base, wide, upper, back⟩ := wideRegister_base reg
    rw [exec_windowRead up, if_neg (by simp)]
    simp [windowRead32, upper, latched]
  · rw [(exec_windowWrite up 0x10 v).1]
    simp [windowWrite32, halves_join]
  · rw [(exec_windowWrite up 0x18 v).1]
    simp [windowWrite32, halves_join]
  · cases wide
    · rw [(exec_windowWrite up off v).2, windowWrite32_unmapped beyond]
    · rw [(exec_windowWrite up off v).1, windowWrite32_unmapped beyond, windowWrite32_unmapped (by omega)]
  · change execPcieFunctionReset kind s = _
    rw [execPcieFunctionReset, if_pos gw]
  · exact congrArg (fun p : PcieFn => { p with d3hot := kind == ResetKind.d3hot }) (functionReset_pcie s)
  · exact hostAndPorts_trans (functionReset_hostAndPorts s) ⟨rfl, rfl⟩
  · change execPciePerst s = _
    rw [execPciePerst, if_pos gw]
  · simp [State.hostUp]
  · exact hostAndPorts_trans (functionReset_hostAndPorts s) ⟨rfl, rfl⟩
  · change execPciePerst s = _
    rw [execPciePerst, if_neg (by simp [member])]
  · change execQueueDmaFault .sq q s = _
    rw [execQueueDmaFault, queue]
    rfl
  · change execQueueDmaFault .cq q s = _
    rw [execQueueDmaFault, queue]
    rfl
  · change execQueueDmaFault .eq q s = _
    rw [execQueueDmaFault, queue]
    rfl

end Sys2Proof
end

section
/-! Commands fetched from a submission queue (R350) and the checks made on them at once (Table 13.9). -/

namespace Sys2Proof

open Sys2Proof.Machine

/-- The queue behind the fetch of a command of n units: its place moved on, and one credit taken (R350). -/
def fetched (n : Nat) (x : Sq) : Sq :=
  { x with fetch := (x.fetch + n) % 2 ^ x.log2, avail := x.avail - n, used := x.used + 1 }

/-- The reply to a command of queue q that fails a fetch check. -/
def fetchReply (q : Nat) (c : Cmd) (st : Nat) (s : State) : Reply :=
  { mkReply { q := q, session := c.session, seq := c.seq } c (if st = stUnreachable then c.target else s.flight.addr) st
      s.time.frame s.time.row [] with q := q }

section
variable {q : Nat} {units : List W64} {x : Sq} {s : State} (queue : s.sq q = some x) (up : s.hostUp = true)
  (enabled : x.disabled = false) (host : s.fnDown 1 = false) (credit : x.used < x.credits)
  (whole : unitsOf (cmdOfUnits units).length ≤ x.avail)

include queue up enabled host credit whole

theorem commandFetch_refused {st : Nat} {cq : Cq}
    (failed : fetchCheck q x (cmdOfUnits units) (s.setSq q (some (fetched (unitsOf (cmdOfUnits units).length) x))) = some st)
    (bound : s.cq x.cq = some cq) :
    exec (.commandFetch q units) s = .next ((s.setSq q (some (fetched (unitsOf (cmdOfUnits units).length) x))).setCq x.cq
      (some { cq with pend := cq.pend ++ [fetchReply q (cmdOfUnits units) st s] })) := by
  change execCommandFetch q units s = _
  simp only [execCommandFetch, queue]
  rw [if_pos (by simp [up, enabled, host, credit, whole])]
  rw [fetched] at failed ⊢
  simp only [failed, cq_setSq, bound]
  rfl

theorem commandFetch_passed
    (passed : fetchCheck q x (cmdOfUnits units) (s.setSq q (some (fetched (unitsOf (cmdOfUnits units).length) x))) = none) :
    exec (.commandFetch q units) s =
      .next (dispatch { q := q, session := (cmdOfUnits units).session, seq := (cmdOfUnits units).seq } (cmdOfUnits units)
        (s.setSq q (some (fetched (unitsOf (cmdOfUnits units).length) x)))) := by
  change execCommandFetch q units s = _
  simp only [execCommandFetch, queue]
  rw [if_pos (by simp [up, enabled, host, credit, whole])]
  rw [fetched] at passed ⊢
  simp only [passed]

end

/-- With room in the work queue and nothing staged, a command that is not overdue joins the work queue. -/
theorem arrive_joins {w : Work} {s : State} (timely : overdue w s = none) (room : s.host.work.length < 256)
    (unstaged : s.host.staging = []) : arrive w s = { s with host.work := s.host.work ++ [w] } := by
  obtain ⟨n, free⟩ : ∃ n, 256 - s.host.work.length = n + 1 := ⟨255 - s.host.work.length, by omega⟩
  simp only [arrive, timely, enqueue, refill, unstaged, free, List.nil_append, List.take_succ_cons, List.take_nil,
    List.drop_succ_cons, List.drop_nil]

theorem dispatch_own {k : Key} {c : Cmd} {s : State} (own : c.broadcast = false) (mine : c.target = s.flight.addr) :
    dispatch k c s = arrive { key := k, cmd := c } s := by
  simp only [dispatch, own, Bool.false_eq_true, if_false]
  rw [if_pos mine]

/-- Settles O6: the fetch takes its credit and units, and then either the reply of the failed check or the command joins its queue. -/
theorem commandFetchChecks : Obligations.CommandFetchChecks := by
  intro q units x s queue up enabled host credit whole c k y
  refine ⟨fun st cq failed bound => ?_, fun passed own mine timely room unstaged => ?_⟩
  · refine ⟨_, fetchReply q c st s, commandFetch_refused queue up enabled host credit whole failed bound, ?_⟩
    refine ⟨?_, by simp [c], rfl, rfl, rfl, rfl, rfl, rfl, rfl⟩
    rw [sq_setCq, sq_setSq, if_pos rfl]
    rfl
  · rw [commandFetch_passed queue up enabled host credit whole passed]
    exact congrArg _ ((dispatch_own (s := s.setSq q (some y)) own mine).trans (arrive_joins timely room unstaged))

end Sys2Proof
end

section
/-! Entries of completion and event queues (R350 to R352, R371): where they are written, the credit given back, and the vector
signalled. -/

namespace Sys2Proof

open Sys2Proof.Machine

/-! ## Bytes of host memory -/

/-- Bytes written from a on read back at their places, past the end of the address space at its beginning. -/
theorem read_write_wrapped (bs : List (BitVec 8)) (m : List Host.Cell) (a : Nat) (fits : bs.length ≤ 2 ^ 64) {i : Nat}
    (hi : i < bs.length) : Memory.read (Memory.write m a bs) ((a + i) % 2 ^ 64) = bs[i]? := by
  induction bs generalizing m a i with
  | nil => simp at hi
  | cons b bs ih =>
    rw [List.length_cons] at fits hi
    rw [Memory.write]
    cases i with
    | zero =>
      have clear : ∀ j, j < bs.length → a % 2 ^ 64 ≠ (a + 1 + j) % 2 ^ 64 := fun j hj => by omega
      rw [Nat.add_zero a, read_write_other bs _ _ _ clear, read_set_same]
      rfl
    | succ i =>
      rw [show a + (i + 1) = a + 1 + i by omega, ih _ _ (by omega) (by omega), List.getElem?_cons_succ]

/-- Eight words are written to their 64 bytes and nowhere else. -/
theorem write_eightWords {ws : List W64} (eight : ws.length = 8) (m : List Host.Cell) (a : Nat) :
    (wordBytes ws).length = 64 ∧
    (∀ i, i < 64 → Memory.read (Memory.write m a (wordBytes ws)) ((a + i) % 2 ^ 64) = some ((wordBytes ws).getD i 0)) ∧
    (∀ b, (∀ i, i < 64 → b ≠ (a + i) % 2 ^ 64) →
      Memory.read (Memory.write m a (wordBytes ws)) b = Memory.read m b) := by
  have length : (wordBytes ws).length = 64 := by rw [wordBytes_length, eight]
  refine ⟨length, fun i hi => ?_, fun b outside => read_write_other _ _ _ _ (by rwa [length])⟩
  have inside : i < (wordBytes ws).length := by rwa [length]
  rw [read_write_wrapped _ _ _ (by rw [length]; decide) inside, List.getElem?_eq_getElem inside, List.getD_eq_getElem _ _ inside]

/-! ## The vector of a queue -/

/-- The vector of a queue is signalled where the queue asks for it (R352). -/
def vectorSent (irq : Bool) (v : Nat) (s : State) : State := if irq then msixSend v s else s

theorem msixSend_signals (v : Nat) (s : State) : Signalled v s (msixSend v s) := by
  refine ⟨fun off => ?_, fun on masked => ?_, fun on clear sent => ?_, fun on clear unsent => ?_⟩
  · rw [msixSend, if_pos (by simp [off])]
    exact ⟨rfl, rfl⟩
  · rw [msixSend, if_neg (by simp [on]), if_pos masked]
    refine ⟨rfl, ?_⟩
    by_cases pending : v ∈ s.host.pba
    · simp [pending]
    · simp only [List.contains_eq_mem, pending, decide_false, Bool.false_eq_true, if_false, List.mem_cons, true_or, true_and]
      exact fun x other => ⟨fun h => h.resolve_left other, Or.inr⟩
  · rw [msixSend, if_neg (by simp [on]), if_neg (by rw [clear]; decide), if_pos (by simpa using sent)]
    refine ⟨rfl, rfl, ?_⟩
    by_cases wanted : v ∈ s.host.irqWant <;> simp [wanted]
  · rw [msixSend, if_neg (by simp [on]), if_neg (by rw [clear]; decide), if_neg (by simpa using unsent)]
    exact ⟨rfl, rfl, List.mem_cons_self⟩

theorem vectorSent_leaves (irq : Bool) (v : Nat) (s : State) :
    let t := vectorSent irq v s
    t = { s with host := t.host, out := t.out } ∧ t.host.sqs = s.host.sqs ∧ t.host.cqs = s.host.cqs ∧ t.host.eqs = s.host.eqs ∧
      t.host.mem = s.host.mem := by
  cases irq with
  | false => exact ⟨rfl, rfl, rfl, rfl, rfl⟩
  | true =>
    simp only [vectorSent, if_true, msixSend]
    split
    · exact ⟨rfl, rfl, rfl, rfl, rfl⟩
    · split
      · exact ⟨rfl, rfl, rfl, rfl, rfl⟩
      · split <;> exact ⟨rfl, rfl, rfl, rfl, rfl⟩

/-- What sending the vector says of a state in which the same vectors are masked, pending and sent. -/
theorem vectorSent_spec (irq : Bool) (v : Nat) {s u : State} (out : u.out = s.out) (pcie : u.host.pcie = s.host.pcie)
    (msix : u.host.msix = s.host.msix) (pba : u.host.pba = s.host.pba) (sent : u.host.irqSent = s.host.irqSent) :
    (irq = false → (vectorSent irq v u).out = s.out ∧ (vectorSent irq v u).host.pba = s.host.pba) ∧
    (irq = true → Signalled v s (vectorSent irq v u)) := by
  constructor
  · rintro rfl
    exact ⟨out, pba⟩
  · rintro rfl
    have signals := msixSend_signals v u
    unfold Signalled at signals ⊢
    rw [out, pcie, msix, pba, sent] at signals
    exact signals

/-! ## Replies -/

/-- The words of the oldest reply r of completion queue x, as they are written. -/
def replyEntry (x : Cq) (r : Reply) (s : State) : List W64 :=
  r.wordsOf (match s.sq r.q with | some q => q.fetch | none => 0) s.holder (phaseOf x.wr x.log2)

/-- Host memory with the entry written next of a queue at BASE in place (R351). -/
def entryIn (base : W64) (wr log2 : Nat) (ws : List W64) (m : List Host.Cell) : List Host.Cell :=
  Memory.write m (base.toNat + 64 * (wr % 2 ^ log2)) (wordBytes ws)

/-- The oldest reply of completion queue c is in host memory, and the queue counts its entry. -/
def replyPut (c : Nat) (x : Cq) (rs : List Reply) (m : List Host.Cell) (s : State) : State :=
  State.setCq { s with host.mem := m } c (some { x with pend := rs, wr := x.wr + 1, unread := x.unread + 1 })

/-- Submission queue q has a credit back (R350). -/
def creditReturned (q : Nat) (s : State) : State :=
  match s.sq q with
  | some y => s.setSq q (some { y with used := y.used - 1 })
  | none => s

/-- A recovery step that waited for the reply r goes on. -/
def stepGoes (r : Reply) (s : State) : State :=
  match s.rcv.step with
  | some st =>
    if st.begun then s
    else if decide (st.key = some { q := r.q, session := r.session, seq := r.seq }) && !r.cached then
      { s with rcv.step := some { st with go := true } }
    else s
  | none => s

theorem creditReturned_spec (q : Nat) (s : State) : ∃ sqs, creditReturned q s = { s with host.sqs := sqs } ∧
    (∀ y, s.sq q = some y → kget none sqs q = some { y with used := y.used - 1 }) ∧ (∀ k, k ≠ q → kget none sqs k = s.sq k) := by
  unfold creditReturned
  split
  next y queue =>
    refine ⟨_, rfl, fun z held => ?_, fun k other => ?_⟩
    · rw [queue] at held
      obtain rfl := Option.some.inj held
      exact kget_kset_same _ _ _ _
    · exact kget_kset_other _ _ _ other
  next none => exact ⟨s.host.sqs, rfl, fun y held => (by rw [none] at held; cases held), fun _ _ => rfl⟩

theorem stepGoes_spec (r : Reply) (s : State) :
    ∃ step, stepGoes r s = { s with rcv.step := step } ∧ (s.rcv.step = none → step = none) := by
  unfold stepGoes
  split
  next st held =>
    have never : ∀ step : Option StepReq, s.rcv.step = none → step = none := fun _ gone => by rw [held] at gone; cases gone
    split
    · exact ⟨s.rcv.step, rfl, id⟩
    · split
      · exact ⟨_, rfl, never _⟩
      · exact ⟨s.rcv.step, rfl, id⟩
  next => exact ⟨s.rcv.step, rfl, id⟩

/-- The oldest reply of completion queue c is written, its credit given back, and a step that waited for it goes on. -/
def replyDone (c : Nat) (x : Cq) (r : Reply) (rs : List Reply) (m : List Host.Cell) (s : State) : State :=
  stepGoes r (creditReturned r.q (replyPut c x rs m s))

/-- What writing a reply changes, but for the vector. -/
theorem replyDone_spec (c : Nat) (x : Cq) (r : Reply) (rs : List Reply) (m : List Host.Cell) (s : State) :
    let u := replyDone c x r rs m s
    u = { s with host := u.host, rcv.step := u.rcv.step } ∧
    (u.cq c = some { x with pend := rs, wr := x.wr + 1, unread := x.unread + 1 } ∧ ∀ k, k ≠ c → u.cq k = s.cq k) ∧
    ((∀ y, s.sq r.q = some y → u.sq r.q = some { y with used := y.used - 1 }) ∧ ∀ k, k ≠ r.q → u.sq k = s.sq k) ∧
    u.host.mem = m ∧
    (u.host.pcie = s.host.pcie ∧ u.host.msix = s.host.msix ∧ u.host.pba = s.host.pba ∧ u.host.irqSent = s.host.irqSent) ∧
    (s.rcv.step = none → u.rcv.step = none) := by
  obtain ⟨sqs, credit, back, others⟩ := creditReturned_spec r.q (replyPut c x rs m s)
  obtain ⟨step, goes, unasked⟩ := stepGoes_spec r (creditReturned r.q (replyPut c x rs m s))
  rw [credit] at goes unasked
  simp only [replyDone, credit, goes]
  refine ⟨rfl, ⟨?_, fun k other => ?_⟩, ⟨back, others⟩, rfl, ⟨rfl, rfl, rfl, rfl⟩, unasked⟩
  · change (replyPut c x rs m s).cq c = _
    rw [replyPut, cq_setCq, if_pos rfl]
  · change (replyPut c x rs m s).cq k = _
    rw [replyPut, cq_setCq, if_neg other]
    rfl

theorem exec_replyWrite {c : Nat} {s : State} {x : Cq} {r : Reply} {rs : List Reply} (queue : s.cq c = some x)
    (pend : x.pend = r :: rs) (up : s.hostUp = true) (enabled : x.disabled = false) (host : s.fnDown 1 = false)
    (room : x.unread < 2 ^ x.log2) :
    exec (.replyWrite c) s =
      .next (vectorSent x.irq x.vector (replyDone c x r rs
        (entryIn x.base x.wr x.log2 (replyEntry x r s) s.host.mem) s)) := by
  change execReplyWrite c s = _
  simp only [execReplyWrite, queue, pend]
  rw [if_pos (by simp [up, enabled, host, room])]
  rfl

/-! ## Events -/

/-- The words of the oldest record r of event queue x, as they are written. -/
def eventEntry (x : EvQ) (r : EvRec) : List W64 :=
  r.words.take 3 ++ [wd r.words 3 ||| (if phaseOf x.wr x.log2 then 0x8000000000000000#64 else 0#64)] ++ r.words.drop 4

/-- The oldest record of event queue e is in host memory, and the queue counts its entry. -/
def eventPut (e : Nat) (x : EvQ) (rs : List EvRec) (m : List Host.Cell) (s : State) : State :=
  State.setEvq { s with host.mem := m } e (some { x with pend := rs, wr := x.wr + 1, unread := x.unread + 1 })

/-- What writing an event record changes, but for the vector. -/
theorem eventPut_spec (e : Nat) (x : EvQ) (rs : List EvRec) (m : List Host.Cell) (s : State) :
    let u := eventPut e x rs m s
    u = { s with host := u.host } ∧
    (u.evq e = some { x with pend := rs, wr := x.wr + 1, unread := x.unread + 1 } ∧ ∀ k, k ≠ e → u.evq k = s.evq k) ∧
    u.host.mem = m ∧
    (u.host.pcie = s.host.pcie ∧ u.host.msix = s.host.msix ∧ u.host.pba = s.host.pba ∧ u.host.irqSent = s.host.irqSent) ∧
    (u.host.sqs = s.host.sqs ∧ u.host.cqs = s.host.cqs) := by
  refine ⟨rfl, ⟨?_, fun k other => ?_⟩, rfl, ⟨rfl, rfl, rfl, rfl⟩, ⟨rfl, rfl⟩⟩
  · exact (evq_setEvq _ e e _).trans (if_pos rfl)
  · exact (evq_setEvq _ e k _).trans (if_neg other)

theorem exec_eventWrite {e : Nat} {s : State} {x : EvQ} {r : EvRec} {rs : List EvRec} (queue : s.evq e = some x)
    (pend : x.pend = r :: rs) (up : s.hostUp = true) (enabled : x.disabled = false) (host : s.fnDown 1 = false)
    (room : x.unread < 2 ^ x.log2) :
    exec (.eventWrite e) s = .next (vectorSent x.irq x.vector (eventPut e x rs
        (entryIn x.base x.wr x.log2 (eventEntry x r) s.host.mem) s)) := by
  change execEventWrite e s = _
  simp only [execEventWrite, queue, pend]
  rw [if_pos (by simp [up, enabled, host, room])]
  rfl

/-! ## Nothing is due -/

theorem notDue {c : Bool} {p : Prop} [Decidable p] {up down : Bool} (due : c = true ∨ ¬ p ∨ up = false ∨ down = true) :
    (up && !c && !down && decide p) = false := by
  rcases due with rfl | not | rfl | rfl <;> simp [*]

theorem replyWrite_idle {c : Nat} {s : State} (idle : ∀ x, s.cq c = some x → x.pend = [] ∨ x.disabled = true ∨
    2 ^ x.log2 ≤ x.unread ∨ s.hostUp = false ∨ s.fnDown 1 = true) : exec (.replyWrite c) s = .next s := by
  change execReplyWrite c s = _
  unfold execReplyWrite
  split
  next x queue =>
    split
    next r rs pend =>
      have due := (idle x queue).resolve_left (by simp [pend])
      rw [notDue (due.imp_right (Or.imp_left Nat.not_lt.mpr)), if_neg (by decide)]
    next => rfl
  next => rfl

theorem eventWrite_idle {e : Nat} {s : State} (idle : ∀ x, s.evq e = some x → x.pend = [] ∨ x.disabled = true ∨
    2 ^ x.log2 ≤ x.unread ∨ s.hostUp = false ∨ s.fnDown 1 = true) : exec (.eventWrite e) s = .next s := by
  change execEventWrite e s = _
  unfold execEventWrite
  split
  next x queue =>
    split
    next r rs pend =>
      have due := (idle x queue).resolve_left (by simp [pend])
      rw [notDue (due.imp_right (Or.imp_left Nat.not_lt.mpr)), if_neg (by decide)]
    next => rfl
  next => rfl

/-- Settles O9: the entry by `write_eightWords`, the credit by `creditReturned_spec` and the vector by `vectorSent_spec`. What becomes of
the message with MSI-X off or a masked vector is the model's presumption (log entry 103). -/
theorem replyAndEventWrites : Obligations.ReplyAndEventWrites := by
  refine ⟨fun c s x r rs queue pend up enabled host room => ?_, fun e s x r rs queue pend up enabled host room => ?_,
    fun c s => replyWrite_idle, fun e s => eventWrite_idle⟩
  · intro head entry a
    obtain ⟨length, inside, outside⟩ :=
      write_eightWords (ws := replyEntry x r s) rfl s.host.mem (x.base.toNat + 64 * (x.wr % 2 ^ x.log2))
    have run := exec_replyWrite queue pend up enabled host room
    have spec := replyDone_spec c x r rs (entryIn x.base x.wr x.log2 (replyEntry x r s) s.host.mem) s
    generalize replyDone c x r rs (entryIn x.base x.wr x.log2 (replyEntry x r s) s.host.mem) s = u at run spec
    obtain ⟨frame, ⟨here, elsewhere⟩, ⟨back, others⟩, mem, ⟨pcie, msix, pba, sent⟩, unasked⟩ := spec
    obtain ⟨frame', sqs', cqs', -, mem'⟩ := vectorSent_leaves x.irq x.vector u
    obtain ⟨quiet, signalled⟩ := vectorSent_spec x.irq x.vector (by rw [frame]) pcie msix pba sent
    refine ⟨_, run, ?_, fun k other => ?_, fun y held => ?_, fun k other => ?_, length, ?_, ?_, quiet, signalled, ?_, ?_⟩
    · exact (congrArg (fun m => kget none m c) cqs').trans here
    · exact (congrArg (fun m => kget none m k) cqs').trans (elsewhere k other)
    · exact (congrArg (fun m => kget none m r.q) sqs').trans (back y held)
    · exact (congrArg (fun m => kget none m k) sqs').trans (others k other)
    · rw [mem', mem]
      exact inside
    · rw [mem', mem]
      exact outside
    · generalize vectorSent x.irq x.vector u = t at frame'
      rw [frame', frame]
    · rw [frame']
      exact unasked
  · intro entry a
    obtain ⟨length, inside, outside⟩ :=
      write_eightWords (ws := eventEntry x r) rfl s.host.mem (x.base.toNat + 64 * (x.wr % 2 ^ x.log2))
    have run := exec_eventWrite queue pend up enabled host room
    have spec := eventPut_spec e x rs (entryIn x.base x.wr x.log2 (eventEntry x r) s.host.mem) s
    generalize eventPut e x rs (entryIn x.base x.wr x.log2 (eventEntry x r) s.host.mem) s = u at run spec
    obtain ⟨frame, ⟨here, elsewhere⟩, mem, ⟨pcie, msix, pba, sent⟩, sqs, cqs⟩ := spec
    obtain ⟨frame', sqs', cqs', eqs', mem'⟩ := vectorSent_leaves x.irq x.vector u
    obtain ⟨quiet, signalled⟩ := vectorSent_spec x.irq x.vector (by rw [frame]) pcie msix pba sent
    refine ⟨_, run, ?_, fun k other => ?_, length, ?_, ?_, sqs'.trans sqs, cqs'.trans cqs, quiet, signalled, ?_⟩
    · exact (congrArg (fun m => kget none m e) eqs').trans here
    · exact (congrArg (fun m => kget none m k) eqs').trans (elsewhere k other)
    · rw [mem', mem]
      exact inside
    · rw [mem', mem]
      exact outside
    · generalize vectorSent x.irq x.vector u = t at frame'
      rw [frame', frame]

end Sys2Proof
end

section
/-! The queue opcodes and NOP on a command with good parameters (R353 to R355). -/

namespace Sys2Proof

open Sys2Proof.Machine

/-- A command that the engine has answers what its meaning makes of it and the idle state. -/
theorem Has.answers {op : Nat} {r : Run} {s t : State} {f : Run → State → State} (h : Has op r s) (meaning : f r (idle s) = t) :
    onEngine op f s = .next t := by
  obtain ⟨engine, opcode, reaches⟩ := h
  rw [onEngine_held engine opcode reaches]
  exact congrArg _ meaning

theorem endpointOff_idle (s : State) : endpointOff (idle s) = endpointOff s := rfl

/-- A creation with good parameters behind an endpoint that does not answer (log entry 103). -/
theorem creation_without_endpoint {c : Instr} {op : Nat} {r : Run} {s : State} (off : endpointOff s = true) (held : Held op r s)
    (good : (c = .cqCreate ∧ op = 0x0101 ∧ cqCreateBad r (idle s) = false) ∨
      (c = .sqCreate ∧ op = 0x0102 ∧ sqCreateBad r (idle s) = false) ∨
      (c = .eqCreate ∧ op = 0x0105 ∧ eqCreateBad r (idle s) = false)) :
    exec c s = .next (finish r stFunctionDown [] (idle s)) := by
  rcases good with ⟨rfl, rfl, good⟩ | ⟨rfl, rfl, good⟩ | ⟨rfl, rfl, good⟩
  · change execCqCreate s = _
    exact held.has.answers (by simp [good, endpointOff_idle, off])
  · change execSqCreate s = _
    exact held.has.answers (by simp [good, endpointOff_idle, off])
  · change execEqCreate s = _
    exact held.has.answers (by simp [good, endpointOff_idle, off])

/-- Settles O11: each opcode by its meaning on good parameters, SQ_DELETE with the lemmas about a queue deleted. The end of a creation behind
an endpoint that does not answer is the model's choice (log entry 103), and so is how sent commands are taken back (log entry 104). -/
theorem queueOpcodesAct : Obligations.QueueOpcodesAct := by
  intro r s
  refine ⟨fun held good on => ?_, fun held good on => ?_, fun held reserved named there => ?_,
    fun held reserved named there unbound => ?_, fun held good on => ?_, fun held reserved named there => ?_,
    fun c op off held good => creation_without_endpoint off held good, fun held => ?_⟩
  · change execCqCreate s = _
    exact held.has.answers (by simp [good, endpointOff_idle, on])
  · change execSqCreate s = _
    exact held.has.answers (by simp only [good, endpointOff_idle, on, Bool.false_eq_true, if_false]; rfl)
  · obtain ⟨x, queue⟩ := Option.ne_none_iff_exists'.mp there
    have queue : (idle s).sq (fld (r.cmd.p 0) 5 0) = some x := queue
    refine ⟨?_, deleteSq_deleted queue, fun c => deleteSq_drops _ c _, deleteSq_hostAndPorts _ _⟩
    change execSqDelete s = _
    exact held.has.answers (by simp [held.size, reserved, named, queue])
  · obtain ⟨x, queue⟩ := Option.ne_none_iff_exists'.mp there
    have queue : (idle s).cq (fld (r.cmd.p 0) 5 0) = some x := queue
    have free : (idle s).host.sqs.any (fun e => e.2.any (fun y => y.cq == fld (r.cmd.p 0) 5 0)) = false := by
      rw [List.any_eq_false]
      intro e listed
      rw [Option.any_eq_true]
      rintro ⟨y, held, bound⟩
      exact unbound e listed y held (eq_of_beq bound)
    change execCqDelete s = _
    exact held.has.answers (by simp [held.size, reserved, named, queue, free])
  · change execEqCreate s = _
    exact held.has.answers (by simp [good, endpointOff_idle, on])
  · obtain ⟨x, queue⟩ := Option.ne_none_iff_exists'.mp there
    have queue : (idle s).evq (fld (r.cmd.p 0) 5 0) = some x := queue
    refine ⟨?_, by simp⟩
    change execEqDelete s = _
    exact held.has.answers (by simp [held.size, reserved, queue, Nat.not_lt.mpr named])
  · change execNop s = _
    exact held.has.answers (by simp [held.size])

end Sys2Proof
end

section
/-! SUPPORT. Role transitions (Table 11.6): what every one of them leaves of the twin, and what entering a role without service makes of
the switch. -/

namespace Sys2Proof.Machine

open Sys2Proof

/-! ## What transitions leave of the twin -/

/-- The part of a twin's state that no role transition changes: its terms, what it has registered for the tick, and its configuration. -/
structure TwinCore where
  term : Nat
  hterm : Nat
  hand : Option Hand
  notices : List (Nat × Nat)
  takeReg : Option TakeReg
  seen : List (Nat × Nat)
  cfg : W64
  partnerLost : Bool
  known : Option Beat

def State.core (s : State) : TwinCore :=
  { term := s.twin.term, hterm := s.twin.hterm, hand := s.twin.hand, notices := s.twin.notices, takeReg := s.twin.takeReg,
    seen := s.twin.seen, cfg := s.twin.cfg, partnerLost := s.twin.partnerLost, known := s.twin.known }

theorem core_of_twin {s t : State} (same : t.twin = s.twin) : t.core = s.core := by
  simp [State.core, same]

@[simp] theorem endRun_keeps (status : Nat) (r : Run) (s : State) :
    (endRun status r s).fab = s.fab ∧ (endRun status r s).ckpt = s.ckpt := by
  simp [endRun]

@[simp] theorem withdrawRun_keeps (r : Run) (s : State) :
    (withdrawRun r s).fab = s.fab ∧ (withdrawRun r s).ckpt = s.ckpt := by
  simp [withdrawRun]

@[simp] theorem withdrawRoleRuns_keeps (s : State) :
    (withdrawRoleRuns s).fab = s.fab ∧ (withdrawRoleRuns s).ckpt = s.ckpt := by
  unfold withdrawRoleRuns
  (repeat' split) <;> simp

theorem leaveActive_twin (s : State) : (leaveActive s).twin = { s.twin with req := none } := by
  simp [leaveActive]

@[simp] theorem dropDeltas_peer (c : Delta → Bool) (s : State) : (dropDeltas c s).ckpt.peer = s.ckpt.peer := rfl

@[simp] theorem sendTwin_peer (type gen frame acked : Nat) (ws : List SlotWrite) (s : State) :
    (sendTwin type gen frame acked ws s).ckpt.peer = s.ckpt.peer := by
  unfold sendTwin
  dsimp only
  (repeat' split) <;> rfl

@[simp] theorem endPlan_peer (p : Plan) (status : Nat) (s : State) : (endPlan p status s).ckpt.peer = s.ckpt.peer := by
  unfold endPlan
  dsimp only
  (repeat' split) <;> simp

@[simp] theorem withdrawAll_peer (s : State) : (withdrawAll s).ckpt.peer = s.ckpt.peer := by
  simp only [withdrawAll, discardOpen, withdrawFrom]
  split
  · rfl
  · rw [foldl_same (fun s : State => s.ckpt.peer) _ fun s p => endPlan_peer p _ s]
    exact endPlan_peer _ _ _

theorem releaseDrops_keeps (c : DropWait → Bool) (s : State) :
    (releaseDrops c s).ckpt = s.ckpt ∧ (releaseDrops c s).planner.opened = s.planner.opened := by
  unfold releaseDrops
  constructor
  · rw [foldl_same (fun s : State => s.ckpt) _ (fun s w => by dsimp only; split <;> simp)]
  · rw [foldl_same (fun s : State => s.planner.opened) _ (fun s w => by dsimp only; split <;> simp)]

/-- What is given up on leaving the active role: the open plan, and the partner's checkpoint. -/
theorem leaveActive_gives (s : State) : (leaveActive s).planner.opened = false ∧ (leaveActive s).ckpt.peer = false := by
  obtain ⟨ckpt, opened⟩ := releaseDrops_keeps (fun _ => true)
    (withdrawAll { s with ckpt.peer := false, twin.req := none, ckpt.selDirty := [] })
  exact ⟨opened, (congrArg Ckpt.peer ckpt).trans (withdrawAll_peer _)⟩

/-! ## The core across the steps of a transition -/

theorem stopDie_core (s : State) : (stopDie s).core = s.core := rfl

theorem startDie_core (s : State) : (startDie s).core = s.core := rfl

theorem sendFullReq_core (s : State) : (sendFullReq s).core = s.core ∧ (sendFullReq s).twin.role = s.twin.role ∧
    (sendFullReq s).fab = s.fab := by
  unfold sendFullReq
  split
  · exact ⟨rfl, rfl, rfl⟩
  · simp [State.core, sendTwin]

theorem enterRole_core (r : Role) (s : State) : (enterRole r s).core = s.core ∧ (enterRole r s).twin.role = s.twin.role := by
  cases r with
  | syncing =>
    obtain ⟨core, role, -⟩ := sendFullReq_core (emptySlots (stopDie { s with ckpt.synced := false, twin.rwtrDue := none }))
    exact ⟨core, role⟩
  | warm =>
    unfold enterRole
    dsimp only
    split <;> exact ⟨rfl, rfl⟩
  | _ => exact ⟨rfl, rfl⟩

theorem dropLease_core (s : State) : (dropLease s).core = s.core ∧ (dropLease s).twin.role = s.twin.role := by
  unfold dropLease
  split <;> exact ⟨rfl, rfl⟩

/-- The role is set and noted for its event (R315). -/
def roleNoted (r : Role) (cause : Nat) (s : State) : State :=
  { s with twin.role := r, twin.oldRole := some (s.twin.oldRole.getD s.twin.role), twin.causes := s.twin.causes ++ [cause],
           twin.roleFrame := if s.twin.role = r then s.twin.roleFrame else s.time.frame,
           twin.roleRow := if s.twin.role = r then s.twin.roleRow else s.time.row }

/-- What the active gives up where the transition ends its service. -/
def activeLeft (was : Bool) (s : State) : State := if was && !s.isActive then leaveActive (dropLease s) else s

theorem setRole_eq (r : Role) (cause : Nat) (s : State) : setRole r cause s =
    let t := activeLeft s.isActive (roleNoted r cause s)
    withdrawRoleRuns (if s.twin.role = r then t else enterRole r t) := rfl

theorem activeLeft_core (was : Bool) (s : State) : (activeLeft was s).core = s.core ∧ (activeLeft was s).twin.role = s.twin.role := by
  unfold activeLeft
  split
  · obtain ⟨core, role⟩ := dropLease_core s
    have left := leaveActive_twin (dropLease s)
    refine ⟨Eq.trans ?_ core, Eq.trans ?_ role⟩
    · simp [State.core, left]
    · rw [left]
  · exact ⟨rfl, rfl⟩

theorem withdrawRoleRuns_twin (s : State) : (withdrawRoleRuns s).twin = s.twin := by simp

/-- A transition sets the role and leaves the core. -/
theorem setRole_core (r : Role) (cause : Nat) (s : State) : (setRole r cause s).core = s.core ∧ (setRole r cause s).twin.role = r := by
  obtain ⟨core, role⟩ := activeLeft_core s.isActive (roleNoted r cause s)
  rw [setRole_eq]
  dsimp only
  split
  · refine ⟨(core_of_twin (withdrawRoleRuns_twin _)).trans core, ?_⟩
    rw [withdrawRoleRuns_twin, role]
    rfl
  · obtain ⟨core', role'⟩ := enterRole_core r (activeLeft s.isActive (roleNoted r cause s))
    refine ⟨(core_of_twin (withdrawRoleRuns_twin _)).trans (core'.trans core), ?_⟩
    rw [withdrawRoleRuns_twin, role', role]
    rfl

@[simp] theorem setRole_role (r : Role) (cause : Nat) (s : State) : (setRole r cause s).twin.role = r := (setRole_core r cause s).2

theorem setRole_other {r : Role} {cause : Nat} {s : State} (other : s.twin.role ≠ r) :
    setRole r cause s = withdrawRoleRuns (enterRole r (activeLeft s.isActive (roleNoted r cause s))) := by
  rw [setRole_eq]
  exact congrArg withdrawRoleRuns (if_neg other)

/-- A transition to a role that stops the switch leaves it stopped. -/
theorem setRole_stopped {r : Role} {cause : Nat} {s : State} (stops : ∀ t, (enterRole r t).fab.running = false)
    (other : s.twin.role ≠ r) : (setRole r cause s).fab.running = false := by
  rw [setRole_other other, (withdrawRoleRuns_keeps _).1, stops]

theorem enterRole_syncing_stops (s : State) : (enterRole .syncing s).fab.running = false := by
  rw [enterRole, (sendFullReq_core _).2.2]
  rfl

/-- A step-down gives up the open plan and the partner's checkpoint, and stops the switch. -/
theorem setRole_steppedDown {cause : Nat} {s : State} (was : s.twin.role = .active ∨ s.twin.role = .taking) :
    (setRole .steppedDown cause s).planner.opened = false ∧ (setRole .steppedDown cause s).ckpt.peer = false ∧
      (setRole .steppedDown cause s).fab.running = false := by
  have other : s.twin.role ≠ .steppedDown := by rcases was with h | h <;> simp [h]
  have active : s.isActive = true := by rcases was with h | h <;> simp [State.isActive, h]
  have left : activeLeft s.isActive (roleNoted .steppedDown cause s) = leaveActive (dropLease (roleNoted .steppedDown cause s)) := by
    rw [activeLeft, active]
    rfl
  obtain ⟨opened, peer⟩ := leaveActive_gives (dropLease (roleNoted .steppedDown cause s))
  rw [setRole_other other, left, (withdrawRoleRuns_frame _).2.1, (withdrawRoleRuns_keeps _).1, (withdrawRoleRuns_keeps _).2]
  exact ⟨opened, peer, rfl⟩

end Sys2Proof.Machine
end

section
/-! A device that learns of a higher term steps down (R304). -/

namespace Sys2Proof

open Sys2Proof.Machine

/-! ## The terms of a row -/

theorem foldl_min_spec (ws : List Nat) (w : Nat) : ws.foldl min w ∈ w :: ws ∧ ∀ x ∈ w :: ws, ws.foldl min w ≤ x := by
  induction ws generalizing w with
  | nil => simp
  | cons v ws ih =>
    obtain ⟨mem, least⟩ := ih (min w v)
    rw [List.foldl_cons]
    constructor
    · rcases List.mem_cons.mp mem with h | h
      · rw [h]
        rcases Nat.le_total w v with le | le <;> simp [le]
      · exact List.mem_cons_of_mem _ (List.mem_cons_of_mem _ h)
    · have first := least _ List.mem_cons_self
      intro x hx
      rcases List.mem_cons.mp hx with rfl | hx
      · omega
      · rcases List.mem_cons.mp hx with rfl | hx
        · omega
        · exact least x (List.mem_cons_of_mem _ hx)

theorem foldl_max_spec (ts : List (Nat × Nat)) (h : Nat) :
    h ≤ ts.foldl (fun a t => max a t.1) h ∧ ∀ t ∈ ts, t.1 ≤ ts.foldl (fun a t => max a t.1) h := by
  induction ts generalizing h with
  | nil => simp
  | cons v ts ih =>
    obtain ⟨start, all⟩ := ih (max h v.1)
    rw [List.foldl_cons]
    refine ⟨by omega, fun t ht => ?_⟩
    rcases List.mem_cons.mp ht with rfl | ht
    · omega
    · exact all t ht

/-- A term is spared: that of a pending HANDOVER while the row that ends lies before AT_FRAME (R304). -/
def Spared (s : State) (x : Nat) : Prop :=
  ∃ h, s.twin.hand = some h ∧ h.term = x ∧ (s.time.frame < h.at_ ∨ (s.time.frame = h.at_ ∧ s.time.row = 0))

/-- The terms above the own one that the headers of a lane form (R304 (d)). -/
def above (s : State) (e : Nat × Lane) : List Nat :=
  (e.2.hdrOther.map (formTerm s.twin.term)).filter (fun x => decide (s.twin.term < x))

/-- The lowest term above the own one that the headers of two lanes or more form. -/
def Formed (s : State) (x : Nat) : Prop :=
  2 ≤ (s.lanes.filter (fun e => decide (above s e ≠ []))).length ∧ x ∈ s.lanes.flatMap (above s) ∧
    ∀ y ∈ s.lanes.flatMap (above s), x ≤ y

section
variable {s : State}

theorem headerTerm_iff (serves : s.twin.role = .active ∨ s.twin.role = .taking) (x : Nat) :
    headerTerm s = some x ↔ Formed s x := by
  have lanes : (s.lanes.filter (fun l => !(above s l).isEmpty)) = s.lanes.filter (fun e => decide (above s e ≠ [])) :=
    List.filter_congr fun e _ => by cases above s e <;> rfl
  have unfolded : headerTerm s = if (s.lanes.filter (fun l => !(above s l).isEmpty)).length < 2 then none
      else match s.lanes.flatMap (above s) with
        | [] => none
        | a :: cs => some (cs.foldl min a) := by
    rw [headerTerm, if_pos serves]
    rfl
  rw [unfolded, lanes, Formed]
  split
  next few => exact ⟨nofun, fun h => absurd h.1 (Nat.not_le.mpr few)⟩
  next many =>
    cases s.lanes.flatMap (above s) with
    | nil => simp
    | cons a cs =>
      obtain ⟨mem, least⟩ := foldl_min_spec cs a
      simp only [Option.some.injEq]
      constructor
      · rintro rfl
        exact ⟨Nat.le_of_not_lt many, mem, least⟩
      · rintro ⟨-, hx, lowest⟩
        exact Nat.le_antisymm (least x hx) (lowest _ mem)

theorem mem_rowTerms {t : Nat × Nat} : t ∈ s.rowTerms ↔ ∃ x : Nat × Nat, (headerTerm s = some x.1 ∧ x.2 = 3 ∨ x ∈ s.twin.seen) ∧
    t = (x.1, if s.twin.hand.any (fun h => h.term == x.1 &&
      decide (s.time.frame < h.at_ ∨ (s.time.frame = h.at_ ∧ s.time.row = 0))) then 0 else x.2) := by
  unfold State.rowTerms
  rw [List.mem_map]
  refine exists_congr fun x => and_congr ?_ eq_comm
  rw [List.mem_append, Option.mem_toList]
  refine or_congr_left ?_
  cases headerTerm s with
  | none => simp
  | some y => obtain ⟨x, k⟩ := x; simp [eq_comm]

theorem spared_iff (x : Nat) : s.twin.hand.any (fun h => h.term == x &&
    decide (s.time.frame < h.at_ ∨ (s.time.frame = h.at_ ∧ s.time.row = 0))) = true ↔ Spared s x := by
  unfold Spared
  cases s.twin.hand <;> simp

/-- A case of R304 is found exactly when the row's terms hold one above the own one that is not spared. -/
theorem stepDownCase_iff (serves : s.twin.role = .active ∨ s.twin.role = .taking) (untaken : s.twin.takeReg = none) :
    stepDownCase s ≠ 0 ↔ ∃ t ∈ s.rowTerms, t.2 ≠ 0 ∧ s.twin.term < t.1 := by
  have own : termAfterTake s = s.twin.term := by rcases serves with h | h <;> simp [termAfterTake, h, untaken]
  have active : (s.twin.role == .active || s.twin.role == .taking || (s.twin.takeReg.isSome &&
      (s.twin.role.standsBy || s.twin.role == .init))) = true := by rcases serves with h | h <;> simp [h]
  have found : ∀ w, w ∈ (s.rowTerms.filter (fun t => t.2 != 0 && decide (s.twin.term < t.1))).map (·.2) ↔
      ∃ t ∈ s.rowTerms, (t.2 ≠ 0 ∧ s.twin.term < t.1) ∧ t.2 = w := fun w => by simp [and_assoc]
  simp only [stepDownCase, own, active, if_true]
  generalize (s.rowTerms.filter (fun t => t.2 != 0 && decide (s.twin.term < t.1))).map (·.2) = ws at found
  cases ws with
  | nil => simpa using fun t ht => fun ne lt => (found t.2).mpr ⟨t, ht, ⟨ne, lt⟩, rfl⟩
  | cons w ws =>
    obtain ⟨t, ht, cond, eq⟩ := (found _).mp (foldl_min_spec ws w).1
    exact ⟨fun _ => ⟨t, ht, cond⟩, fun _ => eq.symm.trans_ne cond.1⟩

/-- What shows a term above the own one (R304). -/
theorem stepDownCase_shown (serves : s.twin.role = .active ∨ s.twin.role = .taking) (untaken : s.twin.takeReg = none) :
    stepDownCase s ≠ 0 ↔
      ∃ x, s.twin.term < x ∧ ¬ Spared s x ∧ ((∃ k, k ≠ 0 ∧ (x, k) ∈ s.twin.seen) ∨ Formed s x) := by
  rw [stepDownCase_iff serves untaken]
  constructor
  · rintro ⟨t, ht, kept, lt⟩
    obtain ⟨⟨x, k⟩, source, rfl⟩ := mem_rowTerms.mp ht
    dsimp only at source kept lt
    split at kept
    next => exact absurd rfl kept
    next unspared =>
      rw [spared_iff] at unspared
      refine ⟨x, lt, unspared, ?_⟩
      rcases source with ⟨header, -⟩ | seen
      · exact .inr ((headerTerm_iff serves x).mp header)
      · exact .inl ⟨k, kept, seen⟩
  · rintro ⟨x, lt, unspared, source⟩
    rw [← spared_iff] at unspared
    rcases source with ⟨k, ne, seen⟩ | formed
    · exact ⟨_, mem_rowTerms.mpr ⟨(x, k), .inr seen, rfl⟩, (if_neg unspared).trans_ne ne, lt⟩
    · exact ⟨_, mem_rowTerms.mpr ⟨(x, 3), .inl ⟨(headerTerm_iff serves x).mpr formed, rfl⟩, rfl⟩,
        (if_neg unspared).trans_ne (Nat.succ_ne_zero 2), lt⟩

theorem rowTerms_le {t : Nat × Nat} (ht : t ∈ s.rowTerms) : t.1 ≤ (raiseHterm s).twin.hterm :=
  (foldl_max_spec s.rowTerms s.twin.hterm).2 t ht

theorem seen_le {x k : Nat} (seen : (x, k) ∈ s.twin.seen) : x ≤ (raiseHterm s).twin.hterm :=
  rowTerms_le (mem_rowTerms.mpr ⟨(x, k), .inr seen, rfl⟩)

theorem stepDownCase_raises (serves : s.twin.role = .active ∨ s.twin.role = .taking) (untaken : s.twin.takeReg = none)
    (found : stepDownCase s ≠ 0) : s.twin.term < (raiseHterm s).twin.hterm := by
  obtain ⟨t, ht, -, lt⟩ := (stepDownCase_iff serves untaken).mp found
  exact Nat.lt_of_lt_of_le lt (rowTerms_le ht)

end

/-! ## The row tick of a device that steps down -/

/-- What the row's registered transitions make of a serving device without a TAKE: it stays in its role, with its core. -/
theorem pendTick_serving {s : State} (serves : s.twin.role = .active ∨ s.twin.role = .taking) (untaken : s.twin.takeReg = none) :
    (pendTick s).core = s.core ∧ (pendTick s).twin.role = s.twin.role := by
  have one : ∀ (x : Role × Nat) (t : State), t.core = s.core ∧ t.twin.role = s.twin.role →
      (pendOne x t).core = s.core ∧ (pendOne x t).twin.role = s.twin.role := by
    rintro ⟨r, cause⟩ t ⟨core, role⟩
    have serves : t.twin.role = .active ∨ t.twin.role = .taking := by rwa [role]
    have standsBy : t.twin.role.standsBy = false ∧ (t.twin.role == .syncing) = false := by
      rcases serves with h | h <;> simp [h, Role.standsBy]
    unfold pendOne
    cases r with
    | taking =>
      dsimp only
      split
      next taking =>
        obtain ⟨core', role'⟩ := setRole_core .taking cause t
        exact ⟨core'.trans core, role'.trans ((eq_of_beq taking).symm.trans role)⟩
      next => exact ⟨core, role⟩
    | syncing =>
      dsimp only
      rw [standsBy.1]
      exact ⟨core, role⟩
    | cold =>
      dsimp only
      rw [standsBy.2]
      exact ⟨core, role⟩
    | init =>
      dsimp only
      rw [standsBy.2]
      exact ⟨core, role⟩
    | _ => exact ⟨core, role⟩
  unfold pendTick
  dsimp only
  have all := foldl_keeps (fun t => t.core = s.core ∧ t.twin.role = s.twin.role) (fun s p => pendOne p s)
    (fun t x h => one x t h) s.twin.pend { s with twin.pend := [] } ⟨rfl, rfl⟩
  have none : (s.twin.pend.foldl (fun s p => pendOne p s) { s with twin.pend := [] }).twin.takeReg = none :=
    (congrArg TwinCore.takeReg all.1).trans untaken
  rw [none]
  exact all

/-- A device that serves neither as ACTIVE nor in WARM nor WARMING does not change its role at AT_FRAME. -/
theorem handoverTick_steppedDown {s : State} (down : s.twin.role = .steppedDown) :
    (handoverTick s).twin.role = .steppedDown ∧ (handoverTick s).fab = s.fab ∧ (handoverTick s).twin.term = s.twin.term ∧
    (handoverTick s).planner = s.planner ∧ (handoverTick s).ckpt = s.ckpt ∧ (handoverTick s).twin.notices = s.twin.notices := by
  unfold handoverTick
  split
  next h _ =>
    split
    · dsimp only
      split
      · simp [handoverGained, down]
      · simp [down]
    · simp [down]
  next => simp [down]

theorem stepDownTick_down {why : Nat} {s : State} (case_ : why ≠ 0) (serves : s.twin.role = .active ∨ s.twin.role = .taking)
    (above : s.twin.term < s.twin.hterm) :
    (stepDownTick why s).twin.role = .steppedDown ∧ (stepDownTick why s).fab.running = false ∧
    (stepDownTick why s).twin.term = s.twin.term ∧ (stepDownTick why s).planner.opened = false ∧
    (stepDownTick why s).ckpt.peer = false ∧ (stepDownTick why s).twin.notices = s.twin.notices := by
  rw [stepDownTick, if_pos ⟨case_, serves, above⟩]
  obtain ⟨core, role⟩ := setRole_core .steppedDown (2 + why) { s with ckpt.mirror := false }
  obtain ⟨opened, peer, stopped⟩ := setRole_steppedDown (cause := 2 + why) (s := { s with ckpt.mirror := false }) serves
  obtain ⟨role', fab, term, planner, ckpt, notices⟩ := handoverTick_steppedDown role
  refine ⟨role', by rw [fab, stopped], ?_, by rw [planner, opened], by rw [ckpt, peer], ?_⟩
  · exact term.trans (congrArg TwinCore.term core)
  · exact notices.trans (congrArg TwinCore.notices core)

/-- NOTICEs find a device that has stepped down in no serving role. -/
theorem noticeTick_steppedDown {s : State} (down : s.twin.role = .steppedDown) (stopped : s.fab.running = false) :
    ((noticeTick s).twin.role = .steppedDown ∨ (noticeTick s).twin.role = .syncing) ∧ (noticeTick s).fab.running = false ∧
    (noticeTick s).twin.term = s.twin.term ∧ (s.twin.notices = [] → (noticeTick s).twin.role = .steppedDown) := by
  unfold noticeTick
  dsimp only
  split
  next named =>
    obtain ⟨core, role⟩ := setRole_core .syncing 6 { s with twin.notices := [] }
    refine ⟨.inr role, setRole_stopped enterRole_syncing_stops (by simp [down]), congrArg TwinCore.term core, fun none => ?_⟩
    simp [none] at named
  next => exact ⟨.inl down, stopped, rfl, fun _ => down⟩

theorem warmTick_other {s : State} (other : s.twin.role ≠ .warming) : warmTick s = s := by
  unfold warmTick
  split
  next role _ => exact absurd role other
  next => rfl

end Sys2Proof
end

section
/-! SUPPORT. Watch frames at a twin (R292 to R298): the losses that come before a frame, and what a frame registers. -/

namespace Sys2Proof.Machine

open Sys2Proof

/-! ## Events leave the admission -/

theorem deliverEvent_admission (r : EvRec) (s : State) : (deliverEvent r s).admission = s.admission :=
  admission_of_flight (by unfold deliverEvent; split <;> rfl)

@[simp] theorem raise_admission (code : Nat) (payload : List W64) (s : State) : (raise code payload s).admission = s.admission := by
  unfold raise
  dsimp only
  split
  · exact deliverEvent_admission _ _
  · split
    · split
      · exact towSend_admission ..
      · rfl
    · rfl

/-- Start-up, admission and role decide whether the device takes part in its pair. -/
theorem twinUp_of {s t : State} (boot : t.boot = s.boot) (admission : t.admission = s.admission)
    (role : t.twinRole = s.twinRole) : t.twinUp = s.twinUp := by
  have admitted : t.flight.admitted = s.flight.admitted := congrArg (fun a => a.2.2) admission
  rw [State.twinUp, State.twinUp, State.ready, State.ready, boot, admitted, role]

/-! ## Losses -/

section
variable {s : State}

theorem settlePeer_idle (still : ¬ (s.twin.partnerLost = false ∧ s.twin.hbRow + 160 < s.time.rows)) : settlePeer s = s := by
  refine if_neg fun due => still ?_
  simp only [Bool.and_eq_true, Bool.not_eq_true', decide_eq_true_eq] at due
  exact ⟨due.1.2, due.2⟩

theorem settlePeer_due (up : s.twinUp = true) (due : s.twin.partnerLost = false ∧ s.twin.hbRow + 160 < s.time.rows) :
    settlePeer s = rwtrTick (partnerGone s) := if_pos (by simp [up, due])

theorem rwtrTick_twin (s : State) : ∃ due ev, rwtrTick s = { s with twin.rwtrDue := due, twin.revEv := ev } := by
  unfold rwtrTick
  split
  · split
    · exact ⟨s.twin.rwtrDue, s.twin.revEv, rfl⟩
    · exact ⟨_, _, rfl⟩
  · exact ⟨none, s.twin.revEv, rfl⟩

/-- The keeper's loss is due (R296). -/
def keeperDue (s : State) : Bool := s.twinUp && !s.twin.keeperLost && decide (s.twin.keeperRow + 160 < s.time.rows)

/-- The end of LEASED is due (R296). -/
def leaseDue (s : State) : Bool :=
  s.twinUp && s.twin.leased && (s.twin.role == .active || s.twin.role == .taking) && decide (s.twin.leaseRow + 400 < s.time.rows)

/-- The keeper's loss noted, with its event. -/
def keeperMarked (s : State) : State := raise 0x0702 [pack [(0, 0, 1), (9, 8, 1)]] { s with twin.keeperLost := true }

/-- The lease at its end, with its event. -/
def leaseEnded (s : State) : State := raise 0x0703 [pack [(1, 0, 1)]] { s with twin.leased := false }

theorem settleKeeper_eq (s : State) : settleKeeper s = if keeperDue s then rwtrTick (keeperMarked s) else s := rfl

theorem settleLease_eq (s : State) : settleLease s = if leaseDue s then leaseEnded s else s := rfl

theorem keeperMarked_twin (s : State) : (keeperMarked s).twin = { s.twin with keeperLost := true } := by
  simp [keeperMarked]

theorem leaseEnded_twin (s : State) : (leaseEnded s).twin = { s.twin with leased := false } := by
  simp [leaseEnded]

theorem keeperDue_not (still : ¬ (s.twin.keeperLost = false ∧ s.twin.keeperRow + 160 < s.time.rows)) : keeperDue s = false := by
  by_contra due
  simp only [keeperDue, Bool.not_eq_false, Bool.and_eq_true, Bool.not_eq_true', decide_eq_true_eq] at due
  exact still ⟨due.1.2, due.2⟩

theorem leaseDue_not (still : ¬ (s.twin.leased = true ∧ s.twin.leaseRow + 400 < s.time.rows)) : leaseDue s = false := by
  by_contra due
  simp only [leaseDue, Bool.not_eq_false, Bool.and_eq_true, decide_eq_true_eq] at due
  exact still ⟨due.1.1.2, due.2⟩

theorem settleKeeper_idle (still : ¬ (s.twin.keeperLost = false ∧ s.twin.keeperRow + 160 < s.time.rows)) : settleKeeper s = s := by
  rw [settleKeeper_eq, keeperDue_not still]
  rfl

theorem settleLease_idle (still : ¬ (s.twin.leased = true ∧ s.twin.leaseRow + 400 < s.time.rows)) : settleLease s = s := by
  rw [settleLease_eq, leaseDue_not still]
  rfl

theorem keeperDue_settleKeeper (s : State) : keeperDue (settleKeeper s) = false := by
  rw [settleKeeper_eq]
  split
  next =>
    obtain ⟨due, ev, tick⟩ := rwtrTick_twin (keeperMarked s)
    exact keeperDue_not fun h => by
      rw [tick] at h
      simp [keeperMarked_twin] at h
  next still => exact eq_false_of_ne_true still

theorem leaseDue_settleLease (s : State) : leaseDue (settleLease s) = false := by
  rw [settleLease_eq]
  split
  next => exact leaseDue_not fun h => by simp [leaseEnded_twin] at h
  next still => exact eq_false_of_ne_true still

theorem keeperDue_settleLease (s : State) : keeperDue (settleLease s) = keeperDue s := by
  rw [settleLease_eq]
  split
  next =>
    have up : (leaseEnded s).twinUp = s.twinUp := twinUp_of (by simp [leaseEnded]) (raise_admission _ _ _) (by
      rw [State.twinRole, leaseEnded_twin]
      rfl)
    rw [keeperDue, up, leaseEnded_twin, keeperDue]
    simp [leaseEnded]
  next => rfl

/-- The loss of the keeper and the end of the lease come once. -/
theorem settled_again (s : State) : settleLease (settleKeeper (settleLease (settleKeeper s))) = settleLease (settleKeeper s) := by
  have keeper : settleKeeper (settleLease (settleKeeper s)) = settleLease (settleKeeper s) := by
    rw [settleKeeper_eq (settleLease _), keeperDue_settleLease, keeperDue_settleKeeper]
    rfl
  rw [keeper, settleLease_eq (settleLease _), leaseDue_settleLease]
  rfl

end

/-! ## The loss of the partner -/

/-- The partner's loss noted, with its event (R296, R288). -/
def partnerMarked (s : State) : State :=
  let s := raise 0x0702 [pack [(9, 8, 1), (12, 12, b2n (s.twin.pairNew && !s.twin.pairFault))]] { s with twin.partnerLost := true }
  if s.twin.pairNew then { s with twin.pairFault := true, twin.pairNew := false } else s

theorem partnerGone_eq (s : State) : partnerGone s =
    let s := partnerMarked s
    if s.isActive then forgetAcks (peerLost 4 { s with ckpt.sending := none, ckpt.fullDue := false, ckpt.endGen := none })
    else if s.twin.role = .syncing then setRole .init 8 { s with ckpt.ev := some (false, 5) }
    else if s.twin.role.standsBy then
      let drop := fun (sl : Slot) => if sl.st = .filling then ({} : Slot) else sl
      { s with ckpt.x := drop s.ckpt.x, ckpt.y := drop s.ckpt.y, ckpt.filling := none, ckpt.before := none }
    else s := rfl

theorem partnerMarked_spec (s : State) : (partnerMarked s).twin.role = s.twin.role ∧ (partnerMarked s).twin.partnerLost = true ∧
    (partnerMarked s).boot = s.boot ∧ (partnerMarked s).twin.cfg = s.twin.cfg ∧
    (partnerMarked s).admission = s.admission := by
  unfold partnerMarked
  dsimp only
  have kept := raise_admission 0x0702 [pack [(9, 8, 1), (12, 12, b2n (s.twin.pairNew && !s.twin.pairFault))]]
    { s with twin.partnerLost := true }
  split
  · exact ⟨by simp, by simp, by simp, by simp, kept⟩
  · exact ⟨by simp, by simp, by simp, by simp, kept⟩

theorem releaseDrops_admission (c : DropWait → Bool) (s : State) : (releaseDrops c s).admission = s.admission := by
  refine foldl_same State.admission _ (fun s w => ?_) _ _
  rw [finishKey_admission]
  split <;> rfl

theorem armReady_admission (s : State) : (armReady s).admission = s.admission := by
  refine admission_of_flight ?_
  unfold armReady
  (repeat' split) <;> simp

theorem peerLost_admission (cause : Nat) (s : State) : (peerLost cause s).admission = s.admission := by
  unfold peerLost
  split
  · rw [armReady_admission, releaseDrops_admission]
    rfl
  · rfl

/-- A transition from a role that is not active leaves the admission. -/
theorem setRole_admission {r : Role} {cause : Nat} {s : State} (not : s.isActive = false) :
    (setRole r cause s).admission = s.admission := by
  rw [setRole_eq]
  dsimp only
  have left : activeLeft s.isActive (roleNoted r cause s) = roleNoted r cause s := by rw [activeLeft, not]; rfl
  rw [withdrawRoleRuns_admission, left]
  split
  · rfl
  · exact admission_of_flight (by simp [roleNoted])

/-- After its loss the partner is lost, and the device takes part in its pair as before. -/
theorem partnerGone_spec (s : State) (up : s.twinUp = true) : (partnerGone s).twin.partnerLost = true ∧
    (partnerGone s).twinUp = true ∧ (partnerGone s).twin.cfg = s.twin.cfg := by
  obtain ⟨role, lost, boot, cfg, admission⟩ := partnerMarked_spec s
  have up : (partnerMarked s).twinUp = true := by rw [twinUp_of boot admission (by rw [State.twinRole, State.twinRole, role]), up]
  rw [partnerGone_eq, ← cfg]
  dsimp only
  generalize partnerMarked s = u at *
  split
  next =>
    have twin : ∀ t : State, (forgetAcks (peerLost 4 t)).twin = t.twin := fun t => by simp
    refine ⟨by rw [twin]; exact lost, ?_, by rw [twin]⟩
    rw [← up]
    exact twinUp_of (by simp) ((peerLost_admission _ _).trans rfl) (by rw [State.twinRole, twin]; rfl)
  next inactive =>
    split
    next syncing =>
      obtain ⟨core, role⟩ := setRole_core .init 8 { u with ckpt.ev := some (false, 5) }
      refine ⟨(congrArg TwinCore.partnerLost core).trans lost, ?_, congrArg TwinCore.cfg core⟩
      rw [← up]
      exact twinUp_of (by simp) (setRole_admission (eq_false_of_ne_true inactive)) (by simp [State.twinRole, syncing])
    next => split <;> exact ⟨lost, up, rfl⟩

theorem settlePeer_spec {s : State} (up : s.twinUp = true) (due : s.twin.partnerLost = false ∧ s.twin.hbRow + 160 < s.time.rows) :
    (settlePeer s).twin.partnerLost = true ∧ (settlePeer s).twinUp = true ∧ (settlePeer s).twin.cfg = s.twin.cfg := by
  obtain ⟨lost, up', cfg⟩ := partnerGone_spec s up
  obtain ⟨rwtr, ev, tick⟩ := rwtrTick_twin (partnerGone s)
  rw [settlePeer_due up due, tick]
  exact ⟨lost, up', cfg⟩

/-! ## Frames taken in -/

theorem role_of_twinUp {s : State} (up : s.twinUp = true) : s.twin.role ≠ .keeper := by
  intro keeper
  simp [State.twinUp, State.twinRole, keeper] at up

theorem twinFrame_valid {port : Bool} {f : WatchFrame} {s : State} (up : s.twinUp = true) (valid : watchValid port f s = true) :
    twinFrame port f s = if port then keeperIn f s else heartbeatIn f s := by
  rw [twinFrame, if_neg (role_of_twinUp up), if_neg (by simp [up]), if_neg (by simp [valid])]

theorem twinFrame_invalid {port : Bool} {f : WatchFrame} {s : State} (up : s.twinUp = true) (invalid : watchValid port f s = false) :
    twinFrame port f s = { s with twin.bad := min 65535 (s.twin.bad + 1) } := by
  rw [twinFrame, if_neg (role_of_twinUp up), if_neg (by simp [up]), if_pos (by simp [invalid]), inc16, sat_eq_min]

/-- Whether a frame is valid is decided by the TWIN record (R295). -/
theorem watchValid_of_cfg {port : Bool} {f : WatchFrame} {s t : State} (same : t.twin.cfg = s.twin.cfg) :
    watchValid port f t = watchValid port f s := by
  simp only [watchValid, State.pair, State.partner, same]

end Sys2Proof.Machine
end

section
/-! What valid watch frames register (R292 to R298, R311, R336). -/

namespace Sys2Proof

open Sys2Proof.Machine

/-! ## A heartbeat -/

/-- The partner as a heartbeat shows it. -/
def beatOf (f : WatchFrame) : Beat := { role := fld f.w1 5 4, roleSt := fld f.w1 3 0, term := f.term, addr := f.src }

/-- The partner is alive (R296). -/
def partnerHeard (f : WatchFrame) (s : State) : State :=
  { s with twin.hb := some (beatOf f), twin.hbRow := s.time.rows, twin.partnerLost := false,
           twin.wf0 := s.twin.wf0 || s.twin.partnerLost }

/-- What a heartbeat of no lower term than HTERM shows of the partner (R292, R293). -/
def beatShown (f : WatchFrame) (s : State) : State :=
  let s := { s with twin.known := some (beatOf f) }
  if fld f.w1 5 4 = 1 then showTerm f.term 2 s else s

/-- Such a heartbeat with its consequences (R288, R321, R334). -/
def beatActs (f : WatchFrame) (back : Bool) (s : State) : State :=
  let s := beatShown f s
  let s := prefSeen (bit f.w1 6) s
  let s := if back && fld f.w1 5 4 == 1 && s.twin.role.standsBy then loseSync 6 11 s else s
  let s := if s.twin.role = .syncing ∧ fld f.w1 5 4 ≠ 1 then pendRole .init 8 s else s
  requestRevert (bit f.w1 6) (fld f.w1 3 0) s

theorem heartbeatIn_eq {f : WatchFrame} {s : State} (settled : settlePeer s = s) : heartbeatIn f s =
    if f.term < s.twin.hterm then partnerHeard f s else beatActs f s.twin.partnerLost (partnerHeard f s) := by
  unfold heartbeatIn
  rw [settled]
  rfl

/-- What the consequences of a heartbeat leave: all but the checkpoint store, frames sent, and the twin's registers of the row. -/
def BeatKeeps (s t : State) : Prop :=
  t.lanes = s.lanes ∧ t.fab = s.fab ∧ t.planner = s.planner ∧ t.host = s.host ∧ t.twin.role = s.twin.role ∧
  t.core = s.core ∧ t.twin.hb = s.twin.hb ∧ t.twin.hbRow = s.twin.hbRow

theorem BeatKeeps.refl (s : State) : BeatKeeps s s := ⟨rfl, rfl, rfl, rfl, rfl, rfl, rfl, rfl⟩

theorem BeatKeeps.trans {s t u : State} (h : BeatKeeps s t) (k : BeatKeeps t u) : BeatKeeps s u := by
  obtain ⟨h1, h2, h3, h4, h5, h6, h7, h8⟩ := h
  obtain ⟨k1, k2, k3, k4, k5, k6, k7, k8⟩ := k
  exact ⟨k1.trans h1, k2.trans h2, k3.trans h3, k4.trans h4, k5.trans h5, k6.trans h6, k7.trans h7, k8.trans h8⟩

theorem BeatKeeps.ite {c : Prop} [Decidable c] {s t : State} (h : BeatKeeps s t) : BeatKeeps s (if c then t else s) := by
  split
  · exact h
  · exact .refl s

theorem prefSeen_beat (pref : Bool) (s : State) : BeatKeeps s (prefSeen pref s) := by
  unfold prefSeen
  split <;> exact .refl _

theorem pendRole_beat (r : Role) (cause : Nat) (s : State) : BeatKeeps s (pendRole r cause s) := ⟨rfl, rfl, rfl, rfl, rfl, rfl, rfl, rfl⟩

theorem sendTwin_beat (type gen frame acked : Nat) (ws : List SlotWrite) (s : State) :
    BeatKeeps s (sendTwin type gen frame acked ws s) := by
  unfold sendTwin
  dsimp only
  (repeat' split) <;> exact .refl _

theorem sendFullReq_beat (s : State) : BeatKeeps s (sendFullReq s) := by
  unfold sendFullReq
  split
  · exact .refl _
  · exact BeatKeeps.trans ⟨rfl, rfl, rfl, rfl, rfl, rfl, rfl, rfl⟩ (sendTwin_beat ..)

theorem loseSync_beat (cause roleCause : Nat) (s : State) : BeatKeeps s (loseSync cause roleCause s) := by
  have marked : ∀ t : State, BeatKeeps s t →
      BeatKeeps s (if t.twin.role == .syncing then sendFullReq (emptySlots t)
        else if t.twin.role.standsBy && !t.handoverHeld then pendRole .syncing roleCause t else t) := by
    intro t kept
    split
    · exact kept.trans (BeatKeeps.trans ⟨rfl, rfl, rfl, rfl, rfl, rfl, rfl, rfl⟩ (sendFullReq_beat _))
    · split
      · exact kept.trans (pendRole_beat ..)
      · exact kept
  refine marked _ ?_
  split <;> exact .refl _

theorem sendWatch_beat (port : Bool) (type : Nat) (w1 w2 : W64) (hi : Nat) (s : State) : BeatKeeps s (sendWatch port type w1 w2 hi s) := by
  unfold sendWatch
  split
  · cases port <;> exact .refl _
  · exact .refl _

theorem requestRevert_beat (pref : Bool) (roleSt : Nat) (s : State) : BeatKeeps s (requestRevert pref roleSt s) := by
  unfold requestRevert
  split
  · exact BeatKeeps.trans ⟨rfl, rfl, rfl, rfl, rfl, rfl, rfl, rfl⟩ (sendWatch_beat ..)
  · exact .refl _

theorem beatActs_keeps (f : WatchFrame) (back : Bool) (s : State) : BeatKeeps (beatShown f s) (beatActs f back s) :=
  (((prefSeen_beat (bit f.w1 6) (beatShown f s)).trans (loseSync_beat 6 11 _).ite).trans (pendRole_beat .init 8 _).ite).trans
    (requestRevert_beat ..)

theorem beatShown_spec (f : WatchFrame) (s : State) :
    let t := beatShown f s
    t.lanes = s.lanes ∧ t.fab = s.fab ∧ t.planner = s.planner ∧ t.host = s.host ∧ t.twin.role = s.twin.role ∧
    t.twin.hb = s.twin.hb ∧ t.twin.hbRow = s.twin.hbRow ∧
    t.core = { s.core with known := some (beatOf f),
                           seen := if fld f.w1 5 4 = 1 then (f.term, 2) :: s.twin.seen else s.twin.seen } := by
  unfold beatShown
  dsimp only
  split <;> exact ⟨rfl, rfl, rfl, rfl, rfl, rfl, rfl, rfl⟩

/-- What a heartbeat's consequences leave, apart from what it shows of the partner. -/
theorem beatActs_spec (f : WatchFrame) (back : Bool) (s : State) :
    let t := beatActs f back s
    (t.lanes = s.lanes ∧ t.fab = s.fab ∧ t.planner = s.planner ∧ t.host = s.host ∧ t.twin.role = s.twin.role) ∧
    t.twin.hb = s.twin.hb ∧ t.twin.hbRow = s.twin.hbRow ∧ t.twin.partnerLost = s.twin.partnerLost ∧ t.twin.term = s.twin.term ∧
    t.twin.known = some (beatOf f) ∧
    t.twin.seen = if fld f.w1 5 4 = 1 then (f.term, 2) :: s.twin.seen else s.twin.seen := by
  obtain ⟨lanes, fab, planner, host, role, hb, row, core⟩ := beatShown_spec f s
  obtain ⟨lanes', fab', planner', host', role', core', hb', row'⟩ := beatActs_keeps f back s
  have core := core'.trans core
  exact ⟨⟨lanes'.trans lanes, fab'.trans fab, planner'.trans planner, host'.trans host, role'.trans role⟩, hb'.trans hb,
    row'.trans row, congrArg TwinCore.partnerLost core, congrArg TwinCore.term core, congrArg TwinCore.known core,
    congrArg TwinCore.seen core⟩

/-! ## A keeper frame -/

/-- The keeper is alive (R296). -/
def keeperHeard (s : State) : State :=
  { s with twin.keeperRow := s.time.rows, twin.keeperLost := false, twin.wf1 := s.twin.wf1 || s.twin.keeperLost }

/-- What a keeper frame registers by its type, behind the term that it shows. -/
def keeperActs (f : WatchFrame) (s : State) : State :=
  match f.type with
  | 0x3 =>
    if (s.twin.role = .active ∨ s.twin.role = .taking) ∧ f.term = s.twin.term then
      { s with twin.leaseRow := s.time.rows, twin.leased := true,
               twin.leaseEv := if s.twin.leased then s.twin.leaseEv else 2 }
    else s
  | 0x4 => { s with twin.answer := s.twin.answer ++ [{ ask := fld f.w1 31 0, taken := false }] }
  | 0x8 => if bit f.w1 6 then { s with twin.notices := s.twin.notices ++ [(fld f.w1 5 0, f.term)] } else s
  | 0x9 => { s with twin.helloDue := true }
  | _ => s

theorem keeperIn_stale {f : WatchFrame} {s : State} (settled : settleLease (settleKeeper s) = s) (below : f.term < s.twin.hterm) :
    keeperIn f s = { s with twin.stale := min 65535 (s.twin.stale + 1) } := by
  unfold keeperIn
  rw [settled, if_pos below, inc16, sat_eq_min]

theorem keeperIn_eq {f : WatchFrame} {s : State} (settled : settleLease (settleKeeper s) = s) (fits : s.twin.hterm ≤ f.term) :
    keeperIn f s = keeperActs f (showTerm f.term 1
      (let s := if f.type = 0xB then handoverIn f (keeperHeard s) else keeperHeard s
       if f.type = 0x6 then takeIn f s else s)) := by
  unfold keeperIn
  rw [settled]
  exact if_neg (Nat.not_lt.mpr fits)

/-- A frame other than TAKE and HANDOVER. -/
theorem keeperIn_plain {f : WatchFrame} {s : State} (settled : settleLease (settleKeeper s) = s) (fits : s.twin.hterm ≤ f.term)
    (take : f.type ≠ 6) (hand : f.type ≠ 0xB) : keeperIn f s = keeperActs f (showTerm f.term 1 (keeperHeard s)) := by
  rw [keeperIn_eq settled fits]
  simp only [if_neg take, if_neg hand]

theorem keeperIn_take {f : WatchFrame} {s : State} (settled : settleLease (settleKeeper s) = s) (fits : s.twin.hterm ≤ f.term)
    (take : f.type = 6) : keeperIn f s = showTerm f.term 1 (takeIn f (keeperHeard s)) := by
  rw [keeperIn_eq settled fits]
  simp [take, keeperActs]

theorem keeperIn_handover {f : WatchFrame} {s : State} (settled : settleLease (settleKeeper s) = s) (fits : s.twin.hterm ≤ f.term)
    (hand : f.type = 0xB) : keeperIn f s = showTerm f.term 1 (handoverIn f (keeperHeard s)) := by
  rw [keeperIn_eq settled fits]
  simp [hand, keeperActs]

theorem keeperActs_lease {f : WatchFrame} {s : State} (type : f.type = 3) (active : s.twin.role = .active)
    (own : f.term = s.twin.term) : keeperActs f s =
      { s with twin.leaseRow := s.time.rows, twin.leased := true,
               twin.leaseEv := if s.twin.leased then s.twin.leaseEv else 2 } := by
  simp only [keeperActs, type]
  exact if_pos ⟨.inl active, own⟩

theorem takeIn_registers {f : WatchFrame} {s : State} (above : s.twin.hterm < f.term) (here : fld f.w1 37 32 = s.flight.addr)
    (none : s.twin.takeReg = none) :
    takeIn f s = { s with twin.takeReg := some { term := f.term, prev := fld f.w1 31 0 } } := by
  rw [takeIn, if_neg (Nat.not_le.mpr above), if_pos here, none]
  rfl

theorem takeIn_repeated {f : WatchFrame} {s : State} (taking : s.twin.role = .taking) (same : f.term = s.twin.hterm)
    (own : f.term = s.twin.term) (here : fld f.w1 37 32 = s.flight.addr) :
    takeIn f s = pendRole .taking 1 { s with twin.takenDue := true } := by
  rw [takeIn, if_pos (Nat.le_of_eq same), if_pos ⟨taking, own, here⟩]

theorem handoverIn_relieved {f : WatchFrame} {s : State} (active : s.twin.role = .active) (named : fld f.w2 5 0 = s.partner)
    (other : s.partner ≠ s.flight.addr) (ahead : s.time.frame < fld f.w1 47 0) :
    ∃ t, handoverIn f s = t ∧ t.twin.hand = some { at_ := fld f.w1 47 0, term := f.term, here := false } ∧
      t.ckpt.mirror = true ∧ t.lanes = s.lanes ∧ t.fab = s.fab ∧ t.planner = s.planner ∧ t.host = s.host ∧ t.sels = s.sels ∧
      t.twin.role = s.twin.role ∧ t.twin.term = s.twin.term ∧ t.twin.hterm = s.twin.hterm := by
  have elsewhere : (fld f.w2 5 0 == s.flight.addr) = false := by simpa [named] using other
  refine ⟨_, rfl, ?_⟩
  unfold handoverIn
  dsimp only
  rw [elsewhere, if_pos ⟨ahead, .inr named⟩, if_pos ⟨rfl, active⟩]
  have serves : s.isActive = true := by simp [State.isActive, active]
  exact ⟨rfl, (congrArg (fun a => s.ckpt.mirror || (!false && a)) serves).trans (Bool.or_true _), rfl, rfl, rfl, rfl, rfl, rfl,
    rfl, rfl⟩

theorem handoverIn_named {f : WatchFrame} {s : State} (here : fld f.w2 5 0 = s.flight.addr) (ahead : s.time.frame < fld f.w1 47 0) :
    ∃ t, handoverIn f s = t ∧ t.twin.hand = some { at_ := fld f.w1 47 0, term := f.term, here := true } ∧
      t.twin.revEv = s.twin.revEv ++ [(3, fld f.w1 47 0, f.term)] ∧ t.lanes = s.lanes ∧ t.fab = s.fab ∧ t.planner = s.planner ∧
      t.host = s.host ∧ t.sels = s.sels ∧ t.twin.role = s.twin.role ∧ t.twin.term = s.twin.term ∧
      t.twin.hterm = s.twin.hterm := by
  have own : (fld f.w2 5 0 == s.flight.addr) = true := by simpa using here
  refine ⟨_, rfl, ?_⟩
  simp [handoverIn, own, ahead]

/-- Settles O33: the losses that come before a frame by `settlePeer` and `settled_again`, and then each frame by what it registers. That a
loss due before the row of the frame comes first is the model's choice (log entry 17); the rows from which losses count are its reading
(log entry 55), and that a device with a HANDOVER pending is held to it is its choice (log entry 57). -/
theorem watchFramesRegister : Obligations.WatchFramesRegister := by
  intro f s up same b peerIsDue keeperIsDue leaseIsDue
  have heartbeat : watchValid false f s = true → exec (.heartbeat f) s = .next (heartbeatIn f s) :=
    fun valid => congrArg _ (twinFrame_valid up valid)
  have keeper : watchValid true f s = true → ∀ c, (c = .lease f ∨ c = .query f ∨ c = .take f ∨ c = .notice f ∨ c = .hello f ∨
      c = .handover f) → exec c s = .next (keeperIn f s) := by
    rintro valid c (rfl | rfl | rfl | rfl | rfl | rfl) <;> exact congrArg _ (twinFrame_valid up valid)
  refine ⟨fun valid due => ?_, fun valid still below => ?_, fun valid still fits => ?_, fun valid due => ?_,
    fun valid noKeeper noLease below => ?_, fun valid noKeeper noLease fits => ?_, fun invalid => ?_, fun c invalid kind => ?_,
    fun port => ?_⟩
  · obtain ⟨lost, up', cfg⟩ := settlePeer_spec up due
    have again : settlePeer (settlePeer s) = settlePeer s := settlePeer_idle fun h => by simp [lost] at h
    refine ⟨?_, lost⟩
    rw [heartbeat valid]
    refine (congrArg _ ?_).trans (congrArg _ (twinFrame_valid up' ((watchValid_of_cfg cfg).trans valid))).symm
    unfold heartbeatIn
    rw [again]
    rfl
  · rw [heartbeat valid, heartbeatIn_eq (settlePeer_idle still), if_pos below]
    rfl
  · rw [heartbeat valid, heartbeatIn_eq (settlePeer_idle still), if_neg (Nat.not_lt.mpr fits)]
    obtain ⟨⟨lanes, fab, planner, host, role⟩, hb, row, lost, term, known, -⟩ :=
      beatActs_spec f s.twin.partnerLost (partnerHeard f s)
    exact ⟨_, rfl, hb, known, row, lost, lanes, fab, planner, host, role, term⟩
  · rw [keeper valid _ (.inl rfl)]
    refine congrArg _ ?_
    unfold keeperIn
    rw [settled_again]
  · have settled : settleLease (settleKeeper s) = s := by rw [settleKeeper_idle noKeeper, settleLease_idle noLease]
    rw [keeper valid _ (.inl rfl), keeperIn_stale settled below]
  · have settled : settleLease (settleKeeper s) = s := by rw [settleKeeper_idle noKeeper, settleLease_idle noLease]
    refine ⟨fun type active own => ?_, fun type => ?_, fun type above here none => ?_, fun type taking current own here => ?_,
      fun type holder => ?_, fun type => ?_, fun type active named other ahead => ?_, fun type here ahead => ?_⟩
    · rw [keeper valid _ (by simp), keeperIn_plain settled fits (by simp [type]) (by simp [type]), 
        keeperActs_lease (s := showTerm f.term 1 (keeperHeard s)) type active own]
      exact ⟨_, rfl, rfl, rfl, rfl, rfl, rfl, rfl, rfl, rfl, rfl, rfl, rfl⟩
    · rw [keeper valid _ (by simp), keeperIn_plain settled fits (by simp [type]) (by simp [type]), keeperActs, type]
      exact ⟨_, rfl, rfl, rfl, rfl, rfl, rfl, rfl, rfl, rfl, rfl, rfl⟩
    · rw [keeper valid _ (by simp), keeperIn_take settled fits type, takeIn_registers (s := keeperHeard s) above here none]
      exact ⟨_, rfl, rfl, rfl, rfl, rfl, rfl, rfl, rfl, rfl, rfl⟩
    · rw [keeper valid _ (by simp), keeperIn_take settled fits type, 
        takeIn_repeated (s := keeperHeard s) taking current own here]
      exact ⟨_, rfl, rfl, rfl, rfl, rfl, rfl, rfl, rfl, rfl, rfl, rfl, rfl⟩
    · rw [keeper valid _ (by simp), keeperIn_plain settled fits (by simp [type]) (by simp [type]), keeperActs, type]
      exact ⟨_, congrArg _ (if_pos holder), rfl, rfl, rfl, rfl, rfl, rfl, rfl, rfl, rfl⟩
    · rw [keeper valid _ (by simp), keeperIn_plain settled fits (by simp [type]) (by simp [type]), keeperActs, type]
      exact ⟨_, rfl, rfl, rfl, rfl, rfl, rfl, rfl, rfl, rfl, rfl⟩
    · rw [keeper valid _ (by simp), keeperIn_handover settled fits type]
      obtain ⟨t, eq, hand, mirror, kept⟩ := handoverIn_relieved (s := keeperHeard s) active named other ahead
      rw [eq]
      exact ⟨_, rfl, hand, mirror, kept⟩
    · rw [keeper valid _ (by simp), keeperIn_handover settled fits type]
      obtain ⟨t, eq, hand, ev, kept⟩ := handoverIn_named (s := keeperHeard s) here ahead
      rw [eq]
      exact ⟨_, rfl, hand, ev, kept⟩
  · exact congrArg _ (twinFrame_invalid up invalid)
  · rcases kind with rfl | rfl | rfl | rfl | rfl | rfl <;> exact congrArg _ (twinFrame_invalid up invalid)
  · change execWatchFrameBad port s = _
    rw [execWatchFrameBad, if_neg fun h => role_of_twinUp up h.1, if_pos up, inc16, sat_eq_min]

end Sys2Proof
end

section
/-! What shows a device another term (R304): the watch frames and the barges that register one, and the statement about the step-down. -/

namespace Sys2Proof

open Sys2Proof.Machine

/-! ## Barges keep the terms of their lane's headers -/

section
variable (l : Lane)

@[simp] theorem Lane.count_hdrOther (i n : Nat) : (l.count i n).hdrOther = l.hdrOther := by
  obtain ⟨_, only⟩ := l.count_only i n
  rw [only]

@[simp] theorem Lane.noteData_hdrOther (y at_ : Int) : (l.noteData y at_).hdrOther = l.hdrOther := by
  unfold Lane.noteData
  split <;> rfl

@[simp] theorem Lane.measure_hdrOther (y : Int) (i : Nat) (phase : Int) : (l.measure y i phase).hdrOther = l.hdrOther := by
  unfold Lane.measure
  split <;> rfl

@[simp] theorem Lane.discard_hdrOther (y : Nat) : (l.discard y).hdrOther = l.hdrOther := by
  unfold Lane.discard
  split
  · rfl
  · exact Lane.count_hdrOther l 9 1

@[simp] theorem Lane.place_hdrOther (n : Nat) (y : Int) (i : Nat) (arrival phase : Int) (w : BargeW) :
    (l.place n y i arrival phase w).1.hdrOther = l.hdrOther := by
  unfold Lane.place
  dsimp only
  (repeat' split) <;> simp

@[simp] theorem Lane.delay_hdrOther (ws : List W64) (at_ frame : Nat) : (l.delay ws at_ frame).hdrOther = l.hdrOther := by
  unfold Lane.delay
  (repeat' split) <;> rfl

end

section
variable {lane : Nat} {b : BargeRx} {s : State}

/-- A SEL 2 header that fits leaves its TERM_LO with those of its lane (R186). -/
theorem afterHeader_term (h : Receives lane b s) (sel : hSel (received lane b s).hdr = 2) :
    hTerm (received lane b s).hdr ∈ ((afterHeader lane b s).lane lane).hdrOther ∧
    ∀ y ∈ (s.lane lane).hdrOther, y ∈ ((afterHeader lane b s).lane lane).hdrOther := by
  obtain ⟨-, -, -, -, sync, place, fits⟩ := h
  have fitting : (s.lane lane).delin.fitting b.pos (received lane b s).hdr = some (received lane b s).hdr := by
    rw [Delin.fitting, if_pos sync, step_fits sync place fits]
  have terms : ((afterHeader lane b s).lane lane).hdrOther =
      if (s.lane lane).hdrOther.contains (hTerm (received lane b s).hdr) = false
      then hTerm (received lane b s).hdr :: (s.lane lane).hdrOther else (s.lane lane).hdrOther := by
    rw [afterHeader_lane]
    simp [Lane.meets, fitting, sel, apply_ite Lane.hdrOther]
  rw [terms]
  split
  next => exact ⟨List.mem_cons_self, fun y hy => List.mem_cons_of_mem _ hy⟩
  next there => exact ⟨by simpa using there, fun y hy => hy⟩

theorem countEvent_lanes (code obj n : Nat) (s : State) : (countEvent code obj n s).lanes = s.lanes := by simp

theorem frameQl_twin (lane : Nat) (ws : List W64) (s : State) : (frameQl lane ws s).twin = s.twin := by simp

theorem lane_of_lanes {s t : State} (same : t.lanes = s.lanes) (i : Nat) : t.lane i = s.lane i := by
  simp [State.lane, same]

variable (h : Receives lane b s)
include h

theorem dataBarge_terms : ((dataBarge lane b s).lane lane).hdrOther = ((afterHeader lane b s).lane lane).hdrOther := by
  rw [dataBarge, header_receives h]
  dsimp only
  split
  · rfl
  · rw [lane_of_lanes (countEvent_lanes ..), lane_of_lanes (joinRow_frame ..).2.1, lane_modLane, if_pos rfl]
    split <;> simp

theorem holdBarge_terms : ((holdBarge lane b s).lane lane).hdrOther = ((afterHeader lane b s).lane lane).hdrOther := by
  rw [holdBarge, header_receives h]
  dsimp only
  split
  · rfl
  · have put : ∀ (l : Lane) (n : Nat), State.lane { (afterHeader lane b s).modLane lane (fun _ => l) with free := n } lane = l :=
      fun l n => (lane_of_lanes (s := (afterHeader lane b s).modLane lane (fun _ => l)) rfl lane).trans
        ((lane_modLane ..).trans (if_pos rfl))
    rw [lane_of_lanes (joinRow_frame ..).2.1, put, Lane.count_hdrOther, Lane.place_hdrOther]

theorem frameBarge_terms : ((frameBarge lane b s).lane lane).hdrOther = ((afterHeader lane b s).lane lane).hdrOther := by
  rw [frameBarge, header_receives h]
  dsimp only
  split
  · rfl
  · split
    · simp [goodFrame, State.lane, State.modLane]
    · rw [lane_modLane, if_pos rfl, Lane.count_hdrOther]

theorem testBarge_terms : ((testBarge lane b s).lane lane).hdrOther = ((afterHeader lane b s).lane lane).hdrOther := by
  rw [testBarge, header_receives h]
  dsimp only
  split
  · rfl
  · rw [lane_modLane, if_pos rfl]

theorem idleBarge_terms : ((idleBarge lane b s).lane lane).hdrOther = ((afterHeader lane b s).lane lane).hdrOther := by
  rw [idleBarge, header_receives h]
  dsimp only
  split
  · rw [lane_of_lanes (countEvent_lanes ..)]
  · rfl

end

/-! ## Frames show their terms -/

theorem handoverIn_seen (f : WatchFrame) (s : State) : (handoverIn f s).twin.seen = s.twin.seen := by
  unfold handoverIn
  dsimp only
  split
  · split <;> rfl
  · rfl

theorem takeIn_seen (f : WatchFrame) (s : State) : (takeIn f s).twin.seen = s.twin.seen := by
  unfold takeIn
  dsimp only
  (repeat' split) <;> rfl

theorem keeperActs_seen (f : WatchFrame) (s : State) : (keeperActs f s).twin.seen = s.twin.seen := by
  unfold keeperActs
  (repeat' split) <;> rfl

theorem keeperIn_seen {f : WatchFrame} {s : State} (settled : settleLease (settleKeeper s) = s) (fits : s.twin.hterm ≤ f.term) :
    (keeperIn f s).twin.seen = (f.term, 1) :: s.twin.seen := by
  rw [keeperIn_eq settled fits, keeperActs_seen]
  refine congrArg ((f.term, 1) :: ·) ?_
  dsimp only
  (repeat' split) <;> simp [handoverIn_seen, takeIn_seen, keeperHeard]

theorem goodFrame_seen {lane : Nat} {ws : List W64} {arrival : Int} {s : State} (twin : s.twinRole = true)
    (sel : fld (wd ws 4) 63 62 = 2) : (goodFrame lane ws arrival s).twin.seen = (fld (wd ws 4) 31 0, 3) :: s.twin.seen := by
  unfold goodFrame
  dsimp only
  generalize merged : State.modLane s lane _ = u
  have same : (frameQl lane ws u).twin = s.twin := by
    rw [frameQl_twin, ← merged]
    rfl
  have up : (frameQl lane ws u).twinRole = true := by rwa [State.twinRole, same]
  rw [up, sel]
  exact congrArg (fun t : Twin => (fld (wd ws 4) 31 0, 3) :: t.seen) same

/-! ## The row tick -/

theorem roleTick_steps_down {s : State} (up : s.twinUp = true) (serves : s.twin.role = .active ∨ s.twin.role = .taking)
    (untaken : s.twin.takeReg = none) (found : stepDownCase s ≠ 0) :
    ((roleTick s).twin.role = .steppedDown ∨ (roleTick s).twin.role = .syncing) ∧ (roleTick s).fab.running = false ∧
    (roleTick s).twin.term = s.twin.term ∧ (s.twin.notices = [] → (roleTick s).twin.role = .steppedDown) := by
  have raised := stepDownCase_raises serves untaken found
  obtain ⟨core, role⟩ := pendTick_serving (s := raiseHterm s) serves untaken
  have term : (pendTick (raiseHterm s)).twin.term = s.twin.term := congrArg TwinCore.term core
  have hterm : (pendTick (raiseHterm s)).twin.hterm = (raiseHterm s).twin.hterm := congrArg TwinCore.hterm core
  have notices : (pendTick (raiseHterm s)).twin.notices = s.twin.notices := congrArg TwinCore.notices core
  have role : (pendTick (raiseHterm s)).twin.role = s.twin.role := role
  obtain ⟨down, stopped, term', -, -, notices'⟩ := stepDownTick_down found (by rwa [role]) (by rwa [term, hterm])
  obtain ⟨role', stopped', term'', quiet⟩ := noticeTick_steppedDown down stopped
  have warm := warmTick_other (s := noticeTick (stepDownTick (stepDownCase s) (pendTick (raiseHterm s))))
    (by rcases role' with h | h <;> simp [h])
  have tick : roleTick s = noticeTick (stepDownTick (stepDownCase s) (pendTick (raiseHterm s))) := by
    rw [roleTick, if_pos up, warm]
  rw [tick]
  exact ⟨role', stopped', (term''.trans term').trans term, fun none => quiet ((notices'.trans notices).trans none)⟩

/-- Without a case of R304 the row tick comes to the handover. -/
theorem stepDownTick_none (s : State) : stepDownTick 0 s = handoverTick s := by
  rw [stepDownTick, if_neg (by simp)]

theorem handoverTick_otherRow {s : State} (other : ∀ h, s.twin.hand = some h → s.time.row ≠ 0 ∨ h.at_ ≠ s.time.frame) :
    handoverTick s = s := by
  unfold handoverTick
  split
  next h pending => exact if_neg fun now => (other h pending).elim (absurd now.1) (absurd now.2)
  next => rfl

/-- Settles O37: a case of R304 is found where the row's terms show one (`stepDownCase_shown`); the frames and barges that show one; and the
row tick, by the steps of `roleTick`. Case (d) uses the model's reading of a TERM_LO below the own low half (R181) at every own term, also
where the sum passes 32 bits (log entry 71). -/
theorem stepDownEndsService : Obligations.StepDownEndsService := by
  refine ⟨fun s serves untaken => ?_, fun s => ⟨fun f up valid fits settled => ?_, fun f up valid fits settled active => ?_,
    fun lane b h twin => ⟨fun type good sel => ?_, fun c kind sel => ?_⟩⟩, fun s up serves untaken found => ?_,
    fun why s => ⟨fun case_ serves lower => ?_, ?_, ?_⟩⟩
  · exact ⟨stepDownCase_shown serves untaken, fun x k seen => seen_le seen, stepDownCase_raises serves untaken⟩
  · have frame : twinFrame true f s = keeperIn f s := twinFrame_valid up valid
    exact ⟨keeperIn f s, congrArg _ frame, congrArg _ frame, congrArg _ frame, congrArg _ frame, congrArg _ frame, congrArg _ frame,
      keeperIn_seen settled fits⟩
  · have frame : twinFrame false f s = heartbeatIn f s := twinFrame_valid up valid
    rw [heartbeatIn_eq settled, if_neg (Nat.not_lt.mpr fits)] at frame
    obtain ⟨-, -, -, -, -, -, seen⟩ := beatActs_spec f s.twin.partnerLost (partnerHeard f s)
    exact ⟨_, congrArg Host.Outcome.next frame, seen.trans (if_pos active)⟩
  · refine ⟨_, h.runs (frameBarge lane b s), ?_⟩
    rw [frameBarge_good h type good]
    exact goodFrame_seen twin sel
  · have terms := afterHeader_term h sel
    rcases kind with rfl | rfl | rfl | rfl | rfl
    · refine ⟨_, h.runs (dataBarge lane b s), ?_⟩
      rwa [dataBarge_terms h]
    · refine ⟨_, h.runs (holdBarge lane b s), ?_⟩
      rwa [holdBarge_terms h]
    · refine ⟨_, h.runs (frameBarge lane b s), ?_⟩
      rwa [frameBarge_terms h]
    · refine ⟨_, h.runs (testBarge lane b s), ?_⟩
      rwa [testBarge_terms h]
    · refine ⟨_, h.runs (idleBarge lane b s), ?_⟩
      rwa [idleBarge_terms h]
  · obtain ⟨role, stopped, term, quiet⟩ := roleTick_steps_down up serves untaken found
    refine ⟨?_, stopped, ?_, term, fun none => ⟨quiet none, by rw [quiet none]; rfl⟩⟩
    · rcases role with h | h <;> simp [State.isActive, h]
    · rcases role with h | h <;> simp [State.sendsRows, h]
  · obtain ⟨role, stopped, term, opened, peer, -⟩ := stepDownTick_down case_ serves lower
    exact ⟨role, by simp [State.isActive, role], stopped, by simp [State.sendsRows, role], term, by rw [role]; rfl, opened, peer⟩
  · rintro rfl
    exact stepDownTick_none s
  · rintro rfl other
    rw [stepDownTick_none, handoverTick_otherRow other]

end Sys2Proof
end

section
/-! The watch frames that a twin sends on its intervals, and the losses that it declares (R294, R296, R311). -/

namespace Sys2Proof

open Sys2Proof.Machine

/-- A frame of a twin that sends on its ports. -/
theorem sendWatch_sends {s : State} (sends : s.watchSends = true) (type : Nat) (w1 w2 : W64) (hi : Nat) :
    sendWatch false type w1 w2 hi s = { watchOut false (mkWatch type 0 s.flight.addr s.pair s.twin.seq0 s.advTerm w1 w2 hi) s with
        twin.seq0 := (s.twin.seq0 + 1) % 256 } ∧
    sendWatch true type w1 w2 hi s = { watchOut true (mkWatch type 0 s.flight.addr s.pair s.twin.seq1 s.advTerm w1 w2 hi) s with
        twin.seq1 := (s.twin.seq1 + 1) % 256 } := by
  constructor <;> rw [sendWatch, if_pos sends] <;> rfl

/-- The loss of the partner on an active device (R107, R311): no lane, page or selector changes. -/
theorem partnerGone_active {s : State} (active : s.twin.role = .active) :
    (partnerGone s).twin.partnerLost = true ∧ (partnerGone s).twin.role = .active ∧ (partnerGone s).ckpt.peer = false ∧
    (partnerGone s).lanes = s.lanes ∧ (partnerGone s).fab = s.fab ∧ (partnerGone s).sels = s.sels := by
  obtain ⟨role, lost, -⟩ := partnerMarked_spec s
  have marked : (partnerMarked s).fab = s.fab ∧ (partnerMarked s).sels = s.sels := by
    unfold partnerMarked
    dsimp only
    split <;> simp
  have serves : (partnerMarked s).isActive = true := by rw [State.isActive, role, active]
  have lanes : (partnerGone s).lanes = s.lanes := (partnerGone_frame s).1
  rw [partnerGone_eq] at lanes ⊢
  dsimp only at lanes ⊢
  rw [if_pos serves] at lanes ⊢
  obtain ⟨⟨fab, sels, -⟩, peer⟩ := peerLost_keeps 4
    { partnerMarked s with ckpt.sending := none, ckpt.fullDue := false, ckpt.endGen := none }
  have twin : ∀ t : State, (forgetAcks (peerLost 4 t)).twin = t.twin := fun t => by simp
  exact ⟨by rw [twin]; exact lost, by rw [twin]; exact role.trans active, peer, lanes, fab.trans marked.1, sels.trans marked.2⟩

/-- Settles O34: each send by the frame that goes out, and each loss by what it leaves. The table of code groups is presumed (log entry
111); the rows from which losses count are the model's reading (log entry 55). -/
theorem twinSendsAndLosses : Obligations.TwinSendsAndLosses := by
  intro s up line
  refine ⟨fun speaks due => ?_, fun speaks active due => ?_, fun known due active => ?_, fun known due active => ?_,
    fun leased active due => ?_⟩
  · have sends : s.watchSends = true := by simp [State.watchSends, up, speaks]
    have run : exec .heartbeatSend s = .next (sendStatus false (sendHeartbeat { s with twin.beatDue := s.time.rows + 40 })) :=
      congrArg Host.Outcome.next (if_pos (by simp [up, due]))
    rw [run, sendHeartbeat, (sendWatch_sends (s := { s with twin.beatDue := s.time.rows + 40 }) sends ..).1, sendStatus,
      (sendWatch_sends (by exact sends) ..).2]
    exact ⟨_, _, _, rfl, List.append_assoc s.out.watch [_] [_], List.append_assoc s.out.watchLine [_] [_], rfl⟩
  · have sends : s.watchSends = true := by simp [State.watchSends, up, speaks]
    have run : exec .renewSend s = .next (sendStatus true { s with twin.renewDue := s.time.rows + 100 }) :=
      congrArg Host.Outcome.next (if_pos (by simp [up, active, due]))
    rw [run, sendStatus, (sendWatch_sends (s := { s with twin.renewDue := s.time.rows + 100 }) sends ..).2]
    exact ⟨_, _, rfl, rfl, rfl, rfl⟩
  · obtain ⟨lost, role, peer, lanes, fab, sels⟩ := partnerGone_active active
    obtain ⟨rwtr, ev, tick⟩ := rwtrTick_twin (partnerGone s)
    have run : exec .peerLost s = .next (rwtrTick (partnerGone s)) := congrArg _ (settlePeer_due up ⟨known, due⟩)
    rw [run, tick]
    exact ⟨_, rfl, lost, role, peer, lanes, fab, sels⟩
  · obtain ⟨rwtr, ev, tick⟩ := rwtrTick_twin (keeperMarked s)
    have run : exec .keeperLost s = .next (rwtrTick (keeperMarked s)) := congrArg Host.Outcome.next (if_pos (by simp [up, known, due]))
    rw [run, tick]
    exact ⟨_, rfl, by simp [keeperMarked], by simp [keeperMarked, active], by simp [keeperMarked], by simp [keeperMarked],
      by simp [keeperMarked]⟩
  · have run : exec .leaseExpiry s = .next (leaseEnded s) := congrArg Host.Outcome.next (if_pos (by simp [up, leased, active, due]))
    rw [run]
    exact ⟨_, rfl, by simp [leaseEnded], by simp [leaseEnded, active], by simp [leaseEnded], by simp [leaseEnded],
      by simp [leaseEnded]⟩

end Sys2Proof
end

section
/-! The commands of a twin (R314, R334, R340) and the lapse of a request for a handover (R502). -/

namespace Sys2Proof

open Sys2Proof.Machine

/-- The revert record with its LOCKOUT bit set to another value (Table 12.6). -/
def lockoutSet (w v : W64) : W64 := (v &&& ~~~(1#64 <<< 21)) ||| ((w &&& 1#64) <<< 21)

theorem bit_lockoutSet (w v : W64) {i : Nat} (hi : i < 64) : bit (lockoutSet w v) i = if i = 21 then bit w 0 else bit v i := by
  have one : ∀ j, (1#64).getLsbD j = decide (j = 0) := fun j => by
    rcases Nat.eq_zero_or_pos j with rfl | pos
    · rfl
    · simp [BitVec.getLsbD_one, Nat.ne_of_gt pos]
  simp only [bit, lockoutSet, BitVec.getLsbD_or, BitVec.getLsbD_and, BitVec.getLsbD_not, BitVec.getLsbD_shiftLeft, one, hi]
  by_cases here : i = 21
  · subst here
    simp
  · by_cases low : i < 21
    · simp [here, low]
    · have above : i - 21 ≠ 0 := by omega
      simp [here, low, above]

theorem twinRole_idle (s : State) : (idle s).twinRole = s.twinRole := rfl

theorem sendWatch_req (port : Bool) (type : Nat) (w1 w2 : W64) (hi : Nat) (s : State) :
    (sendWatch port type w1 w2 hi s).twin.req = s.twin.req := by
  unfold sendWatch
  split
  · cases port <;> rfl
  · rfl

theorem finishKey_run {k : Key} {r : Run} {s : State} (run : s.run k = some r) (status : Nat) (ws : List W64) :
    finishKey k status ws s = finish r status ws s := by
  rw [finishKey, run]

/-- Settles O36: each command by its meaning where its fields are in range, the row tick by `applyRevert`. -/
theorem twinCommandsAct : Obligations.TwinCommandsAct := by
  intro r s
  refine ⟨fun held reserved range twin => ?_, fun held reserved pair => ?_, fun held reserved pair => ?_,
    fun held reserved standsBy => ?_, fun op => ?_, fun op => ⟨lockoutSet (r.cmd.p 0) s.twin.revCfg, ?_, ?_, fun i hi other => ?_⟩,
    fun only => ?_, fun op on cold => ?_, fun b held active free unasked unhanded present known warm => ?_,
    fun b held active known cold => ?_, fun q asked late => ⟨fun unkeyed => ?_, fun keyed run => ?_⟩⟩
  · change execTwinCfg s = _
    exact held.has.answers (by simp [held.size, reserved, Nat.not_lt.mpr range, twinRole_idle, twin])
  · change execRevertCfg s = _
    exact held.has.answers (by simp [held.size, reserved, noPair, idle, pair, later])
  · change execRevertLock s = _
    exact held.has.answers (by simp [held.size, reserved, noPair, idle, pair, later])
  · change execStandbyWarm s = _
    exact held.has.answers (by simp [held.size, reserved, idle, standsBy, later])
  · simp [applyRevert, op]
  · simp [applyRevert, op, lockoutSet]
  · have applied : (applyRevert r s).twin.revCfg = lockoutSet (r.cmd.p 0) s.twin.revCfg := by simp [applyRevert, op, lockoutSet]
    rw [State.lockout, applied, bit_lockoutSet _ _ (by decide), if_pos rfl]
  · rw [bit_lockoutSet _ _ hi, if_neg other]
  · rw [revertCmdTick, only]
    rfl
  · simp [applyRevert, op, on, cold, Role.standsBy]
  · have run : exec .handoverAt s = .next (later r (sendHandoverReq r.at_
        { idle s with twin.req := some { at_ := r.at_, key := some r.key } })) := by
      change execHandoverAt s = _
      refine held.has.answers ?_
      have pair : noPair (idle s) = false := by simp [noPair, idle, active]
      have serves : (idle s).isActive = true := by simp [State.isActive, idle, active]
      have unlocked : (idle s).lockout = false := free
      simp only [pair, serves, unlocked, held.size]
      simp [idle, unasked, unhanded, present, known, warm]
    obtain ⟨lanes, fab, -, host, role, -⟩ : BeatKeeps _ (sendHandoverReq r.at_
      { idle s with twin.req := some { at_ := r.at_, key := some r.key } }) := sendWatch_beat ..
    refine ⟨_, run, sendWatch_req .., ?_, role.trans active, lanes, fab⟩
    exact congrArg (· ++ [r]) (congrArg HostIf.prog host :)
  · have pair : noPair (idle s) = false := by simp [noPair, idle, active]
    have serves : (idle s).isActive = true := by simp [State.isActive, idle, active]
    change execHandoverAt s = _
    refine held.has.answers ?_
    simp only [pair, serves, held.size]
    simp [idle, known, cold]
  · change execHandoverRequestLapse s = _
    simp [execHandoverRequestLapse, asked, late, unkeyed]
  · change execHandoverRequestLapse s = _
    simp only [execHandoverRequestLapse, asked, late, keyed, if_true]
    exact congrArg Host.Outcome.next (finishKey_run (s := { s with twin.req := none }) run ..)

end Sys2Proof
end

section
/-! The start stages of a take-over and of warming, and the revert timers (R301, R302, R329 to R333, R341). -/

namespace Sys2Proof

open Sys2Proof.Machine

/-! ## Loading a slot -/

theorem loadSlot_keeps (sl : Slot) (s : State) : (loadSlot sl s).fab.act = sl.page ∧ (loadSlot sl s).lanes = s.lanes ∧
    (loadSlot sl s).host = s.host ∧ (loadSlot sl s).twin = s.twin := by
  have act : ∀ (u : State), (loadSels sl u).fab = u.fab := fun u => by
    unfold loadSels
    exact (foldl_same (fun s : State => s.fab) _ (by simp [State.modSel]) _ _).trans rfl
  refine ⟨?_, by simp [loadSlot], by simp [loadSlot], by simp [loadSlot]⟩
  rw [loadSlot, act]

/-- A take-over that starts from the slot in service. -/
theorem coldStart_loads {ok : Bool} {sl : Slot} {s : State} (slot : s.serviceSlot = some sl) (cold : s.twin.startWarm = false)
    (good : (ok && sl.page.check) = true) :
    coldStart ok s = primeSels (emptySlots { loadSlot sl s with twin.started := some s.time.rows }) := by
  rw [coldStart, slot]
  dsimp only
  rw [cold, good]
  rfl

/-- The failed start told to the recovery ladder (log entry 85). -/
def startFailed (s : State) : State :=
  if s.fnDown 3 || s.rcv.wedged.contains 3 || s.rcv.wedgeReg.any (fun w => w.1 == 3) then s
  else { s with rcv.wedgeReg := s.rcv.wedgeReg ++ [(3, 4, 15)] }

theorem coldStart_fails {ok : Bool} {sl : Slot} {s : State} (slot : s.serviceSlot = some sl) (cold : s.twin.startWarm = false)
    (bad : (ok && sl.page.check) = false) : coldStart ok s = setRole .steppedDown 10 (startFailed s) := by
  rw [coldStart, slot]
  dsimp only
  rw [cold, bad]
  rfl

theorem startFailed_keeps (s : State) : (startFailed s).twin = s.twin ∧ (startFailed s).lanes = s.lanes := by
  unfold startFailed
  split <;> exact ⟨rfl, rfl⟩

/-! ## Transitions by what they make of the switch -/

/-- A transition between active roles gives nothing up. -/
theorem setRole_staysActive {r : Role} {cause : Nat} {s : State} (active : (roleNoted r cause s).isActive = true)
    (other : s.twin.role ≠ r) : setRole r cause s = withdrawRoleRuns (enterRole r (roleNoted r cause s)) := by
  rw [setRole_other other, activeLeft, active, Bool.not_true, Bool.and_false]
  rfl

/-- A transition from a role that is not active gives nothing up. -/
theorem setRole_inactive {r : Role} {cause : Nat} {s : State} (inactive : s.isActive = false)
    (other : s.twin.role ≠ r) : setRole r cause s = withdrawRoleRuns (enterRole r (roleNoted r cause s)) := by
  rw [setRole_other other, activeLeft, inactive, Bool.false_and]
  rfl

theorem sendFullReq_synced (s : State) : (sendFullReq s).ckpt.synced = s.ckpt.synced := by
  unfold sendFullReq
  split
  · rfl
  · unfold sendTwin
    dsimp only
    (repeat' split) <;> rfl

theorem rwtrRuns_cold {s : State} (runs : rwtrRuns s = true) : s.twin.role = .cold := by
  by_contra other
  have differs : (s.twin.role == .cold) = false := by simpa using other
  simp [rwtrRuns, differs] at runs

/-- Settles O35: each stage by the transition that it makes. Log entries 40, 41, 57 and 85 are the model's readings and choices among
them. -/
theorem takeOverStages : Obligations.TakeOverStages := by
  intro s
  refine ⟨fun sl ok taking fresh reach slot cold => ⟨fun good => ?_, fun bad => ?_⟩, fun d taking started rows => ?_,
    fun d taking begun rows hold => ⟨?_, fun fresh => ?_⟩,
    fun sl ok warming fresh reach slot => ⟨fun good => ?_, fun bad => ?_⟩, fun stopped => ?_, fun d due late runs => ?_,
    fun d due late warm held => ?_, fun d due late warm free => ?_⟩
  · have run : exec (.coldStartDone ok) s = .next (coldStart ok s) := congrArg Host.Outcome.next (if_pos ⟨taking, fresh, reach⟩)
    obtain ⟨act, lanes, host, twin⟩ := loadSlot_keeps sl s
    rw [run, coldStart_loads slot cold good]
    refine ⟨_, rfl, act, rfl, ?_, rfl, rfl, lanes, host⟩
    exact (congrArg Twin.role twin).trans taking
  · have run : exec (.coldStartDone ok) s = .next (coldStart ok s) := congrArg Host.Outcome.next (if_pos ⟨taking, fresh, reach⟩)
    obtain ⟨twin, lanes⟩ := startFailed_keeps s
    rw [run, coldStart_fails slot cold bad]
    have serves : (startFailed s).twin.role = .taking := (congrArg Twin.role twin).trans taking
    exact ⟨_, rfl, setRole_role .., (setRole_steppedDown (.inr serves)).2.2, ((setRole_frame ..).1).trans lanes⟩
  · obtain ⟨payload, run⟩ : ∃ ws, exec .firstSwitchedRow s = .next (raise 0x0704 ws (setRole .active 2
        { s with fab.kind := .data, twin.takeRow := none, twin.ones := false })) := by
      change ∃ ws, execFirstSwitchedRow s = _
      simp only [execFirstSwitchedRow, taking, started, rows, if_true]
      exact ⟨_, rfl⟩
    rw [run, setRole_staysActive rfl (by simp [taking])]
    refine ⟨_, rfl, ?_, ?_, ?_, ?_, ?_, ?_⟩
    all_goals simp [enterRole, roleNoted]
  · change execTakeoverHoldExpiry s = _
    simp [execTakeoverHoldExpiry, taking, begun, rows, hold]
  · simp [kindNow, taking, fresh]
  · have run : exec (.warmingLoadDone ok) s = .next (primeSels { loadSlot sl s with twin.started := some s.time.rows }) := by
      change execWarmingLoadDone ok s = _
      simp only [execWarmingLoadDone, warming, fresh, reach, slot, good, true_and, if_true]
    obtain ⟨act, lanes, host, twin⟩ := loadSlot_keeps sl s
    rw [run]
    exact ⟨_, rfl, act, rfl, (congrArg Twin.role twin).trans warming, lanes, host⟩
  · have run : exec (.warmingLoadDone ok) s = .next (setRole .syncing 12 { s with ckpt.synced := false, ckpt.ev := some (false, 9) }) := by
      change execWarmingLoadDone ok s = _
      simp only [execWarmingLoadDone, warming, fresh, reach, slot, bad, true_and, if_true]
      rfl
    rw [run]
    refine ⟨_, rfl, setRole_role .., ?_, (setRole_frame ..).1⟩
    rw [setRole_inactive (by simp [State.isActive, warming]) (by simp [warming]), (withdrawRoleRuns_keeps _).2, enterRole,
      sendFullReq_synced]
    rfl
  · change execRevertWtrExpiry s = _
    simp only [execRevertWtrExpiry, stopped]
    split <;> simp
  · have run : exec .revertWtrExpiry s = .next (setRole .warming 13 { s with twin.rwtrDue := none }) := by
      change execRevertWtrExpiry s = _
      simp [execRevertWtrExpiry, due, late, runs]
    rw [run]
    have cold := rwtrRuns_cold runs
    refine ⟨_, rfl, setRole_role .., ?_, ?_, (setRole_frame ..).1⟩
    all_goals rw [setRole_inactive (by simp [State.isActive, cold]) (by simp [cold])]
    · rw [(withdrawRoleRuns_keeps _).1]
      rfl
    · rw [withdrawRoleRuns_twin]
      rfl
  · change execWarmLimitExpiry s = _
    simp [execWarmLimitExpiry, due, held]
  · have run : exec .warmLimitExpiry s = .next (setRole .cold 15
        { s with twin.warmDue := none, twin.revEv := s.twin.revEv ++ [(6, 0, 0)] }) := by
      change execWarmLimitExpiry s = _
      simp [execWarmLimitExpiry, due, late, warm, free]
    rw [run]
    refine ⟨_, rfl, setRole_role .., ?_, ?_, ?_, (setRole_frame ..).1⟩
    all_goals rw [setRole_inactive (by simp [State.isActive, warm]) (by simp [warm])]
    · rw [(withdrawRoleRuns_keeps _).1]
      rfl
    · rw [withdrawRoleRuns_twin]
      rfl
    · rw [(withdrawRoleRuns_keeps _).1]
      rfl

end Sys2Proof
end

section
/-! The keeper (R291, R295, R307 to R310, Table 11.9): its answers to frames, its timers, and its terms. -/

namespace Sys2Proof

open Sys2Proof.Machine

/-! ## Frames that the keeper sends -/

/-- A keeper frame as it goes out on a port. -/
def keeperWatch (port : Bool) (type : Nat) (w1 w2 : W64) (s : State) : Bool × WatchFrame :=
  (port, mkWatch type 1 0 (kPair s) (if port then s.keeper.seq1 else s.keeper.seq0) s.keeper.cur w1 w2 0)

/-- What a frame sent changes: the sequence number of its port, and what has gone out. -/
theorem keeperSend_only (port : Bool) (type : Nat) (w1 w2 : W64) (s : State) : ∃ q0 q1 line n,
    keeperSend port type w1 w2 s =
      { s with keeper.seq0 := q0, keeper.seq1 := q1, out.watch := s.out.watch ++ [keeperWatch port type w1 w2 s],
               out.watchLine := line, free := n } ∧
    (port = false → q1 = s.keeper.seq1) := by
  cases port
  · exact ⟨_, _, _, _, rfl, fun _ => rfl⟩
  · exact ⟨_, _, _, _, rfl, nofun⟩

theorem sendHello_only (s : State) : ∃ q0 q1 watch line n, sendHello s =
    { s with keeper.helloRow := s.time.rows, keeper.seq0 := q0, keeper.seq1 := q1, out.watch := watch, out.watchLine := line,
             free := n } ∧ watch.length = s.out.watch.length + 2 :=
  ⟨_, _, _, _, _, rfl, by simp [keeperSend, watchOut]⟩

/-- The states that a keeper's frames make of it. -/
theorem keeperSend_cur (port : Bool) (type : Nat) (w1 w2 : W64) (s : State) :
    (keeperSend port type w1 w2 s).keeper.cur = s.keeper.cur := by
  obtain ⟨_, _, _, _, sent, -⟩ := keeperSend_only port type w1 w2 s
  rw [sent]

theorem sendNotice_cur (port : Bool) (s : State) : (sendNotice port s).keeper.cur = s.keeper.cur := keeperSend_cur ..

theorem sendQuery_cur (s : State) : (sendQuery s).keeper.cur = s.keeper.cur := by
  unfold sendQuery
  split
  · exact keeperSend_cur ..
  · rfl

theorem sendTake_cur (s : State) : (sendTake s).keeper.cur = s.keeper.cur := by
  unfold sendTake
  split
  · exact keeperSend_cur ..
  · rfl

/-! ## Terms never fall -/

/-- The keeper's term rises or stays, and stays a 32-bit term (R291, R309). -/
def Rises (s t : State) : Prop :=
  s.keeper.cur ≤ t.keeper.cur ∧ (s.keeper.cur ≤ 0xFFFFFFFF → t.keeper.cur ≤ 0xFFFFFFFF)

theorem Rises.of_cur {s t : State} (same : t.keeper.cur = s.keeper.cur) : Rises s t := by
  unfold Rises
  rw [same]
  exact ⟨Nat.le_refl _, id⟩

theorem Rises.to {s t : State} {term : Nat} (cur : t.keeper.cur = term) (above : s.keeper.cur ≤ term) (fits : term ≤ 0xFFFFFFFF) :
    Rises s t := by
  unfold Rises
  rw [cur]
  exact ⟨above, fun _ => fits⟩

/-- The next term above `base` issued to the twin on a port, before its TAKE (R291). -/
def kGranted (port : Bool) (base : Nat) (s : State) : State :=
  { s with keeper.st := .granting, keeper.cur := base + 1, keeper.prev := base, keeper.grantee := some port,
           keeper.repeats := 0, keeper.grants := inc16 s.keeper.grants }

theorem kGrant_grants {port : Bool} {base : Nat} {s : State} (cert : (s.kport port).certOk = true) (room : base < 0xFFFFFFFF) :
    kGrant port base s = sendTake (kGranted port base s) := by
  rw [kGrant, cert, decide_eq_true room]
  rfl

theorem kGrant_none {port : Bool} {base : Nat} {s : State} (none : ¬ ((s.kport port).certOk = true ∧ base < 0xFFFFFFFF)) :
    kGrant port base s = s := if_neg (by simpa using none)

theorem kGrant_rises (port : Bool) (s : State) : Rises s (kGrant port s.keeper.cur s) := by
  by_cases may : (s.kport port).certOk = true ∧ s.keeper.cur < 0xFFFFFFFF
  · rw [kGrant_grants may.1 may.2]
    exact .to (sendTake_cur _) (Nat.le_succ _) may.2
  · rw [kGrant_none may]
    exact .of_cur rfl

theorem kLapse_cur (s : State) : (kLapse s).keeper.cur = s.keeper.cur := by
  unfold kLapse
  split
  · split
    · exact sendQuery_cur _
    · rfl
  · rfl

theorem modKport_cur (port : Bool) (f : KPort → KPort) (s : State) : (s.modKport port f).keeper.cur = s.keeper.cur := by
  cases port <;> rfl

theorem term_fits (f : WatchFrame) : f.term ≤ 0xFFFFFFFF :=
  Nat.le_of_lt_succ (Nat.mod_lt _ (by decide))

theorem keeperGrant_rises (s : State) : Rises s (keeperGrant s) := by
  unfold keeperGrant
  split
  · exact kGrant_rises ..
  · split
    · exact kGrant_rises ..
    · exact .of_cur rfl

/-! ## Frames at a keeper port -/

/-- A valid frame heard on a port (R307). -/
def heard (port : Bool) (f : WatchFrame) (s : State) : State := s.modKport port (fun k => k.hear f s.time.rows)

/-- What the keeper does by the frame's type. -/
def keeperAnswers (port : Bool) (f : WatchFrame) (s : State) : State :=
  match f.type with
  | 0x2 => kStatus port f s
  | 0x5 => kAnswer port f s
  | 0x7 => kTaken port f s
  | _ => kHandover port f s

theorem keeperFrame_valid {port : Bool} {f : WatchFrame} {s : State} (keeps : s.keeps = true) (valid : kValid f s = true) :
    keeperFrame port f s =
      if (kActive port f (heard port f s)).2 then (kActive port f (heard port f s)).1
      else keeperAnswers port f (kActive port f (heard port f s)).1 := by
  rw [keeperFrame, keeps, valid]
  change (match kActive port f (heard port f s) with | (s, true) => s | (s, false) => keeperAnswers port f s) = _
  rcases kActive port f (heard port f s) with ⟨t, _ | _⟩ <;> rfl

theorem keeperFrame_invalid {port : Bool} {f : WatchFrame} {s : State} (keeps : s.keeps = true) (invalid : kValid f s = false) :
    keeperFrame port f s = { s with keeper.bad := min 65535 (s.keeper.bad + 1) } := by
  rw [keeperFrame, keeps, invalid, inc16, sat_eq_min]
  rfl

section
variable {port : Bool} {f : WatchFrame} {s : State}

theorem kActive_stale (active : (s.kport port).role = 1) (below : f.term < s.keeper.cur) :
    kActive port f s = (sendNotice port { s with keeper.stale := inc16 s.keeper.stale }, true) := by
  rw [kActive, if_neg (not_not_intro active), if_pos below]

theorem kActive_newer (active : (s.kport port).role = 1) (newer : s.keeper.cur < f.term) (learnt : s.keeper.st ≠ .learning) :
    kActive port f s = (if f.type = 0x2 then sendNotice port (kHeld port f.term s) else kHeld port f.term s, true) := by
  rw [kActive, if_neg (not_not_intro active), if_neg (Nat.lt_asymm newer), if_pos ⟨newer, learnt⟩]

theorem kActive_other (other : (s.kport port).role ≠ 1 ∨ f.term = s.keeper.cur ∨ (s.keeper.cur < f.term ∧ s.keeper.st = .learning)) :
    kActive port f s = (s, false) := by
  by_cases role : (s.kport port).role = 1
  · have notBelow : ¬ f.term < s.keeper.cur := by
      rcases other.resolve_left (not_not_intro role) with own | ⟨newer, -⟩ <;> omega
    have notNewer : ¬ (s.keeper.cur < f.term ∧ s.keeper.st ≠ .learning) := by
      rintro ⟨newer, learnt⟩
      rcases other.resolve_left (not_not_intro role) with own | ⟨-, learning⟩
      · omega
      · exact learnt learning
    rw [kActive, if_neg (not_not_intro role), if_neg notBelow, if_neg notNewer]
  · rw [kActive, if_pos role]

end

theorem kActive_rises (port : Bool) (f : WatchFrame) (s : State) : Rises s (kActive port f s).1 := by
  unfold kActive
  split
  · exact .of_cur rfl
  · split
    · exact .of_cur (sendNotice_cur ..)
    · split
      next newer =>
        dsimp only
        split
        · exact .to (sendNotice_cur ..) (Nat.le_of_lt newer.1) (term_fits f)
        · exact .to rfl (Nat.le_of_lt newer.1) (term_fits f)
      next => exact .of_cur rfl

theorem keeperAnswers_rises (port : Bool) (f : WatchFrame) (s : State) : Rises s (keeperAnswers port f s) := by
  unfold keeperAnswers
  split
  · unfold kStatus
    split
    · exact .of_cur (keeperSend_cur ..)
    · exact .of_cur (sendNotice_cur ..)
  · unfold kAnswer
    split
    · exact kGrant_rises ..
    · exact .of_cur rfl
  · unfold kTaken
    split <;> exact .of_cur rfl
  · unfold kHandover
    dsimp only
    split
    next hands =>
      obtain ⟨-, -, -, -, -, -, -, -, room⟩ := hands
      exact .to ((keeperSend_cur ..).trans (keeperSend_cur ..)) (Nat.le_succ _) room
    next => exact .of_cur rfl

theorem Rises.trans {s t u : State} (h : Rises s t) (k : Rises t u) : Rises s u :=
  ⟨Nat.le_trans h.1 k.1, fun fits => k.2 (h.2 fits)⟩

theorem keeperFrame_rises (port : Bool) (f : WatchFrame) (s : State) : Rises s (keeperFrame port f s) := by
  by_cases keeps : s.keeps = true
  · by_cases valid : kValid f s = true
    · have active : Rises s (kActive port f (heard port f s)).1 :=
        (Rises.of_cur (modKport_cur port _ s)).trans (kActive_rises port f (heard port f s))
      rw [keeperFrame_valid keeps valid]
      split
      · exact active
      · exact active.trans (keeperAnswers_rises port f _)
    · rw [keeperFrame_invalid keeps (eq_false_of_ne_true valid)]
      exact .of_cur rfl
  · rw [keeperFrame, eq_false_of_ne_true keeps]
    exact .of_cur rfl

theorem ite_rises {c : Prop} [Decidable c] {s t u : State} (ht : Rises s t) (hu : Rises s u) : Rises s (if c then t else u) := by
  split <;> assumption

/-- The keeper's timers, each by its term. -/
theorem keeperTimer_rises {c : Instr} {s t : State} (timer : c = .keeperLeaseLapse ∨ (∃ p, c = .keeperTwinLost p) ∨
    c = .keeperQueryRepeat ∨ c = .keeperTakeRepeat ∨ c = .keeperGrant) (run : exec c s = .next t) : Rises s t := by
  have same : Rises s s := .of_cur rfl
  rcases timer with rfl | ⟨p, rfl⟩ | rfl | rfl | rfl <;> obtain rfl := Host.Outcome.next.inj run
  · split
    · exact ite_rises (.of_cur (kLapse_cur _)) same
    · exact same
  · exact ite_rises (.of_cur ((kLapse_cur _).trans (modKport_cur ..))) same
  · exact ite_rises (.of_cur (sendQuery_cur _)) same
  · split
    · exact ite_rises (ite_rises (.of_cur (sendTake_cur _)) (.of_cur rfl)) same
    · exact same
  · exact ite_rises (keeperGrant_rises s) same

/-- Settles O42: every frame, timer and grant by what it makes of the term. -/
theorem keeperTermsNeverFall : Obligations.KeeperTermsNeverFall := by
  refine ⟨fun port f s _ => keeperFrame_rises port f s, fun c s t _ timer run => keeperTimer_rises timer run,
    fun port base s cert => ⟨fun room => ?_, fun last => ?_⟩⟩
  · rw [kGrant_grants cert room]
    refine ⟨sendTake_cur _, ?_⟩
    obtain ⟨_, _, _, _, sent, -⟩ := keeperSend_only port 0x6 (pack [(31, 0, base), (37, 32, (s.kport port).addr)]) 0
      { kGranted port base s with keeper.takeSent := s.time.rows }
    exact congrArg (fun t : State => t.keeper.st) sent
  · exact kGrant_none fun may => Nat.not_le.mpr may.2 last

end Sys2Proof
end

section
/-! What a keeper does on the frames of its twins and in its own time (R307 to R310, Table 11.9). -/

namespace Sys2Proof

open Sys2Proof.Machine

/-! ## The ports of the keeper -/

theorem heard_port (port : Bool) (f : WatchFrame) (s : State) :
    (heard port f s).kport port = (s.kport port).hear f s.time.rows ∧ (heard port f s).kport (!port) = s.kport (!port) := by
  cases port <;> exact ⟨rfl, rfl⟩

theorem heard_only (port : Bool) (f : WatchFrame) (s : State) :
    ∃ a b, heard port f s = { s with keeper.p0 := a, keeper.p1 := b } := by
  cases port <;> exact ⟨_, _, rfl⟩

theorem hear_certOk (k : KPort) (f : WatchFrame) (now : Nat) : (k.hear f now).certOk = k.certOk := by
  unfold KPort.hear
  dsimp only
  split <;> rfl

/-- The device holds term t at the keeper, with a lease that starts in the row. -/
def HoldsTerm (s t : State) (h : Bool) (term : Nat) : Prop :=
  t.keeper.st = .held ∧ t.keeper.holder = some h ∧ t.keeper.cur = term ∧ t.keeper.leaseRow = some s.time.rows ∧
  t.keeper.lapsed = false ∧ t.lanes = s.lanes ∧ t.twin = s.twin

theorem kHeld_holds (port : Bool) (term : Nat) (s : State) : HoldsTerm s (kHeld port term s) port term :=
  ⟨rfl, rfl, rfl, rfl, rfl, rfl, rfl⟩

theorem HoldsTerm.of_heard {port : Bool} {f : WatchFrame} {s t : State} {h : Bool} {term : Nat}
    (holds : HoldsTerm (heard port f s) t h term) : HoldsTerm s t h term := by
  obtain ⟨_, _, only⟩ := heard_only port f s
  rw [only] at holds
  exact holds

theorem HoldsTerm.sent {s t : State} {h : Bool} {term : Nat} (holds : HoldsTerm s t h term) (port : Bool) (type : Nat) (w1 w2 : W64) :
    HoldsTerm s (keeperSend port type w1 w2 t) h term := by
  obtain ⟨_, _, _, _, only, -⟩ := keeperSend_only port type w1 w2 t
  rw [only]
  exact holds

theorem keeperSend_watch (port : Bool) (type : Nat) (w1 w2 : W64) (s : State) :
    (keeperSend port type w1 w2 s).out.watch = s.out.watch ++ [keeperWatch port type w1 w2 s] := by
  obtain ⟨_, _, _, _, only, -⟩ := keeperSend_only port type w1 w2 s
  rw [only]

/-- The keeper's term, state, holder and frame parts are not what a frame's hearing changes. -/
theorem heard_keeper (port : Bool) (f : WatchFrame) (s : State) :
    (heard port f s).keeper.cur = s.keeper.cur ∧ (heard port f s).keeper.st = s.keeper.st ∧
    (heard port f s).keeper.holder = s.keeper.holder ∧ (heard port f s).keeper.grantee = s.keeper.grantee ∧
    (heard port f s).keeper.stale = s.keeper.stale ∧ (heard port f s).out = s.out := by
  cases port <;> exact ⟨rfl, rfl, rfl, rfl, rfl, rfl⟩

/-- A frame with term t as the keeper of s sends it. -/
def frameAt (s : State) (p : Bool) (type term : Nat) (w1 w2 : W64) : Bool × WatchFrame :=
  (p, mkWatch type 1 0 (kPair s) (if p then s.keeper.seq1 else s.keeper.seq0) term w1 w2 0)

theorem frameAt_heard (port : Bool) (f : WatchFrame) (s : State) (p : Bool) (type term : Nat) (w1 w2 : W64) :
    frameAt (heard port f s) p type term w1 w2 = frameAt s p type term w1 w2 := by
  cases port <;> rfl

section
variable {port : Bool} {f : WatchFrame} {s : State}

/-- A NOTICE of the holder just confirmed names it. -/
theorem notice_watch (port : Bool) (term : Nat) (s : State) : (sendNotice port (kHeld port term s)).out.watch =
    s.out.watch ++ [frameAt s port 8 term (pack [(5, 0, (s.kport port).addr), (6, 6, 1)]) 0] := by
  refine (keeperSend_watch ..).trans ?_
  cases port <;> rfl

theorem kStatus_renews (renew : bit f.w1 10 = true) (valid : s.keeper.st = .held ∨ s.keeper.st = .lapsed)
    (holder : s.keeper.holder = some port) (own : f.term = s.keeper.cur) :
    kStatus port f s = keeperSend port 0x3 (pack [(7, 0, f.seq)]) 0 (kHeld port s.keeper.cur s) := by
  have confirmed : holderValid s = true := by rcases valid with h | h <;> simp [holderValid, h]
  rw [kStatus, if_pos (by simp [renew, confirmed, holder, own])]

theorem kStatus_notice (not : ¬ (bit f.w1 10 = true ∧ (s.keeper.st = .held ∨ s.keeper.st = .lapsed) ∧
    s.keeper.holder = some port ∧ f.term = s.keeper.cur)) : kStatus port f s = sendNotice port s := by
  refine if_neg fun cond => not ?_
  simp only [Bool.and_eq_true, beq_iff_eq, holderValid, Bool.or_eq_true] at cond
  obtain ⟨⟨⟨renew, valid⟩, holder⟩, own⟩ := cond
  exact ⟨renew, valid, holder, own⟩

theorem kAnswer_grants (lapsed : s.keeper.st = .lapsed) (lost : bit f.w1 0 = true) (ready : bit f.w1 1 = true)
    (asked : fld f.w1 63 32 = s.keeper.cur) : kAnswer port f s = kGrant port s.keeper.cur s := if_pos ⟨lapsed, lost, ready, asked⟩

theorem kAnswer_none (not : ¬ (s.keeper.st = .lapsed ∧ bit f.w1 0 = true ∧ bit f.w1 1 = true ∧ fld f.w1 63 32 = s.keeper.cur ∧
    (s.kport port).certOk = true ∧ s.keeper.cur < 0xFFFFFFFF)) : kAnswer port f s = s := by
  by_cases asked : s.keeper.st = .lapsed ∧ bit f.w1 0 = true ∧ bit f.w1 1 = true ∧ fld f.w1 63 32 = s.keeper.cur
  · obtain ⟨lapsed, lost, ready, cur⟩ := asked
    rw [kAnswer_grants lapsed lost ready cur]
    exact kGrant_none fun ⟨cert, room⟩ => not ⟨lapsed, lost, ready, cur, cert, room⟩
  · exact if_neg asked

/-- A grant's state and its TAKE. -/
theorem take_spec (port : Bool) (base : Nat) (s : State) :
    let t := sendTake (kGranted port base s)
    t.keeper.st = .granting ∧ t.keeper.cur = base + 1 ∧ t.keeper.prev = base ∧ t.keeper.grantee = some port ∧
    t.keeper.takeSent = s.time.rows ∧ t.keeper.repeats = 0 ∧ t.lanes = s.lanes ∧
    t.out.watch = s.out.watch ++ [frameAt s port 6 (base + 1) (pack [(31, 0, base), (37, 32, (s.kport port).addr)]) 0] := by
  obtain ⟨_, _, _, _, sent, -⟩ := keeperSend_only port 0x6 (pack [(31, 0, base), (37, 32, (s.kport port).addr)]) 0
    { kGranted port base s with keeper.takeSent := s.time.rows }
  have eq : sendTake (kGranted port base s) = _ := sent
  rw [eq]
  exact ⟨rfl, rfl, rfl, rfl, rfl, rfl, rfl, rfl⟩

/-- A frame sent on both ports. -/
theorem bothPorts_watch (type : Nat) (w1 w2 : W64) (s : State) :
    (keeperSend true type w1 w2 (keeperSend false type w1 w2 s)).out.watch =
      s.out.watch ++ [frameAt s false type s.keeper.cur w1 w2, frameAt s true type s.keeper.cur w1 w2] := by
  obtain ⟨_, q1, _, _, sent, same⟩ := keeperSend_only false type w1 w2 s
  rw [keeperSend_watch, sent, same rfl]
  exact List.append_assoc s.out.watch [_] [_]

/-- The twin on the other port can be handed the service (R334). -/
def Hands (port : Bool) (f : WatchFrame) (s : State) : Prop :=
  s.keeper.st = .held ∧ s.keeper.holder = some port ∧ f.term = s.keeper.cur ∧ (s.kport (!port)).statusRow.isSome = true ∧
  fld f.w2 5 0 = (s.kport (!port)).addr ∧ (s.kport (!port)).lost = false ∧ (s.kport (!port)).roleSt = 6 ∧
  (s.kport (!port)).certOk = true ∧ s.keeper.cur < 0xFFFFFFFF

theorem kHandover_hands (hands : Hands port f s) : HoldsTerm s (kHandover port f s) (!port) (s.keeper.cur + 1) ∧
    (kHandover port f s).out.watch = s.out.watch ++
      [frameAt s false 11 (s.keeper.cur + 1) (pack [(47, 0, fld f.w1 47 0)]) (pack [(5, 0, (s.kport (!port)).addr)]),
       frameAt s true 11 (s.keeper.cur + 1) (pack [(47, 0, fld f.w1 47 0)]) (pack [(5, 0, (s.kport (!port)).addr)])] := by
  have handed : kHandover port f s =
      keeperSend true 0xB (pack [(47, 0, fld f.w1 47 0)]) (pack [(5, 0, (s.kport (!port)).addr)])
        (keeperSend false 0xB (pack [(47, 0, fld f.w1 47 0)]) (pack [(5, 0, (s.kport (!port)).addr)])
          (kHeld (!port) (s.keeper.cur + 1) { s with keeper.grants := inc16 s.keeper.grants })) := if_pos hands
  rw [handed]
  generalize pack [(47, 0, fld f.w1 47 0)] = w1
  generalize pack [(5, 0, (s.kport (!port)).addr)] = w2
  exact ⟨((kHeld_holds (!port) (s.keeper.cur + 1) { s with keeper.grants := inc16 s.keeper.grants }).sent ..).sent ..,
    bothPorts_watch ..⟩

end

/-- Settles O40: a valid frame by the row of Table 11.9 that it meets, those of twins that advertise ACTIVE first. -/
theorem keeperAnswersFrames : Obligations.KeeperAnswersFrames := by
  intro port f s keeps k u o carries frame renews grants takes hands holds
  have told : ∀ c, (c = .status port f ∨ c = .answer port f ∨ c = .taken port f ∨ c = .handoverReq port f) →
      exec c s = .next (keeperFrame port f s) := by
    rintro c (rfl | rfl | rfl | rfl) <;> exact congrArg Host.Outcome.next (if_pos keeps)
  have carried : ∀ c, carries c → exec c s = .next (keeperFrame port f s) := by
    rintro c (⟨-, rfl⟩ | ⟨-, rfl⟩ | ⟨-, rfl⟩ | ⟨-, rfl⟩)
    · exact told _ (.inl rfl)
    · exact told _ (.inr (.inl rfl))
    · exact told _ (.inr (.inr (.inl rfl)))
    · exact told _ (.inr (.inr (.inr rfl)))
  obtain ⟨cur, st, holder, grantee, stale, out⟩ := heard_keeper port f s
  obtain ⟨own, other⟩ := heard_port port f s
  refine ⟨fun c valid carry active below => ?_, fun c valid carry active newer learnt => ?_, fun valid case_ => ?_,
    fun c invalid kind => ?_⟩
  · rw [carried c carry, keeperFrame_valid keeps valid, kActive_stale (by rwa [own]) (by rwa [cur])]
    rw [inc16, sat_eq_min, stale]
    rfl
  · rw [carried c carry, keeperFrame_valid keeps valid, kActive_newer (by rwa [own]) (by rwa [cur]) (by rwa [st])]
    refine ⟨_, rfl, ?_⟩
    by_cases type : f.type = 2
    · simp only [if_pos type, if_true]
      refine ⟨HoldsTerm.of_heard (HoldsTerm.sent (kHeld_holds port f.term (heard port f s)) ..), ?_⟩
      rw [notice_watch, frameAt_heard, own, out]
      rfl
    · simp only [if_neg type, if_true]
      exact ⟨HoldsTerm.of_heard (kHeld_holds port f.term (heard port f s)),
        (congrArg Outbox.watch out).trans (List.append_nil _).symm⟩
  · have plain : keeperFrame port f s = keeperAnswers port f (heard port f s) := by
      rw [keeperFrame_valid keeps valid, kActive_other (by rwa [own, cur, st])]
      rfl
    refine ⟨fun type renew => ?_, fun type not => ?_, fun type grant => ?_, fun type not => ?_, fun type take => ?_,
      fun type not => ?_, fun type hand => ?_, fun type not => ?_⟩
    · obtain ⟨renew, confirmed, mine, term⟩ := renew
      have sent := kStatus_renews (s := heard port f s) renew (by rwa [st]) (by rwa [holder]) (by rwa [cur])
      rw [told _ (by simp), plain, keeperAnswers, type]
      refine ⟨_, congrArg Host.Outcome.next sent, ?_, ?_⟩
      · rw [cur]
        exact HoldsTerm.of_heard (HoldsTerm.sent (kHeld_holds port s.keeper.cur (heard port f s)) ..)
      · rw [keeperSend_watch, cur]
        exact congrArg₂ (· ++ [·]) (congrArg Outbox.watch out) (frameAt_heard port f s port 3 s.keeper.cur _ 0)
    · rw [told _ (by simp), plain, keeperAnswers, type]
      exact congrArg _ (kStatus_notice (by rwa [st, holder, cur]))
    · obtain ⟨lapsed, lost, ready, asked, cert, room⟩ := grant
      have granted := kAnswer_grants (port := port) (f := f) (s := heard port f s) (by rwa [st]) lost ready (by rwa [cur])
      rw [cur, kGrant_grants (by rwa [own]) room] at granted
      rw [told _ (by simp), plain, keeperAnswers, type]
      obtain ⟨state, cur', prev, grantee', sent, repeats, lanes, watch⟩ := take_spec port s.keeper.cur (heard port f s)
      obtain ⟨_, _, only⟩ := heard_only port f s
      refine ⟨_, congrArg Host.Outcome.next granted, state, cur', prev, grantee', sent.trans ?_, repeats, lanes.trans ?_, ?_⟩
      · rw [only]
      · rw [only]
      · rw [watch, frameAt_heard, own, out]
        rfl
    · rw [told _ (by simp), plain, keeperAnswers, type]
      exact congrArg _ (kAnswer_none (by rwa [st, cur, own]))
    · have taken : kTaken port f (heard port f s) = kHeld port s.keeper.cur (heard port f s) := by
        rw [kTaken, st, grantee, cur, if_pos take]
      rw [told _ (by simp), plain, keeperAnswers, type]
      exact ⟨_, congrArg Host.Outcome.next taken, HoldsTerm.of_heard (kHeld_holds port s.keeper.cur (heard port f s)), out⟩
    · rw [told _ (by simp), plain, keeperAnswers, type]
      exact congrArg Host.Outcome.next (if_neg (by rwa [st, grantee, cur]))
    · have hands : Hands port f (heard port f s) := by
        obtain ⟨held, mine, term, known, rest⟩ := hand
        unfold Hands
        rw [st, holder, cur, other]
        exact ⟨held, mine, term, Option.isSome_iff_ne_none.mpr known, rest⟩
      obtain ⟨holds', watch⟩ := kHandover_hands hands
      rw [told _ (by simp), plain, keeperAnswers, type]
      refine ⟨kHandover port f (heard port f s), rfl, ?_, ?_⟩
      · rw [cur] at holds'
        exact HoldsTerm.of_heard holds'
      · rw [watch, frameAt_heard, frameAt_heard, cur, other, out]
        rfl
    · rw [told _ (by simp), plain, keeperAnswers, type]
      refine congrArg Host.Outcome.next (if_neg fun hands => not ?_)
      change Hands port f (heard port f s) at hands
      unfold Hands at hands
      rw [st, holder, cur, other] at hands
      obtain ⟨held, mine, term, known, rest⟩ := hands
      exact ⟨held, mine, term, Option.isSome_iff_ne_none.mp known, rest⟩
  · rw [told c kind, keeperFrame_invalid keeps invalid]

/-! ## The keeper's own time -/

theorem kport_modKport (port : Bool) (g : KPort → KPort) (s : State) :
    (s.modKport port g).kport port = g (s.kport port) ∧ (s.modKport port g).kport (!port) = s.kport (!port) := by
  cases port <;> exact ⟨rfl, rfl⟩

/-- A QUERY changes what a frame sent changes, and the row in which it was sent. -/
theorem sendQuery_only {s : State} {h : Bool} (holder : s.keeper.holder = some h) : ∃ q0 q1 watch line n, sendQuery s =
    { s with keeper.queryRow := s.time.rows, keeper.seq0 := q0, keeper.seq1 := q1, out.watch := watch, out.watchLine := line,
             free := n } ∧ watch.length = s.out.watch.length + 1 := by
  obtain ⟨q0, q1, line, n, sent, -⟩ := keeperSend_only (!h) 0x4 (pack [(31, 0, s.keeper.cur)]) 0
    { s with keeper.queryRow := s.time.rows }
  refine ⟨q0, q1, s.out.watch ++ [keeperWatch (!h) 0x4 (pack [(31, 0, s.keeper.cur)]) 0 { s with keeper.queryRow := s.time.rows }],
    line, n, ?_, List.length_append⟩
  rw [sendQuery, holder]
  exact sent

/-- A TAKE changes what a frame sent changes, and the row in which it was sent. -/
theorem sendTake_only {s : State} {g : Bool} (grantee : s.keeper.grantee = some g) : ∃ q0 q1 watch line n, sendTake s =
    { s with keeper.takeSent := s.time.rows, keeper.seq0 := q0, keeper.seq1 := q1, out.watch := watch, out.watchLine := line,
             free := n } := by
  obtain ⟨q0, q1, line, n, sent, -⟩ := keeperSend_only g 0x6 (pack [(31, 0, s.keeper.prev), (37, 32, (s.kport g).addr)]) 0
    { s with keeper.takeSent := s.time.rows }
  rw [sendTake, grantee]
  exact ⟨q0, q1, _, line, n, sent⟩

/-- The keeper once the lapse of its holder's lease has been judged (R310). -/
theorem kLapse_spec {s : State} : ∃ st row q0 q1 watch line n, kLapse s =
    { s with keeper.st := st, keeper.queryRow := row, keeper.seq0 := q0, keeper.seq1 := q1, out.watch := watch,
             out.watchLine := line, free := n } ∧
    ∀ h, s.keeper.st = .held → s.keeper.holder = some h → st = if s.keeper.lapsed && (s.kport h).lost then .lapsed else .held := by
  unfold kLapse
  split
  next h held holder =>
    split
    next lapse =>
      obtain ⟨q0, q1, watch, line, n, sent, -⟩ := sendQuery_only (s := { s with keeper.st := .lapsed }) holder
      refine ⟨_, _, q0, q1, watch, line, n, sent, fun k _ holds => ?_⟩
      rw [holder] at holds
      obtain rfl := Option.some.inj holds
      rw [if_pos lapse]
    next still =>
      refine ⟨_, _, _, _, _, _, _, rfl, fun k _ holds => ?_⟩
      rw [holder] at holds
      obtain rfl := Option.some.inj holds
      rw [if_neg still, held]
  next not => exact ⟨_, _, _, _, _, _, _, rfl, fun h held holder => absurd holder (not h held)⟩

/-- Settles O41: each timer by the transition of Table 11.9 that it makes. -/
theorem keeperTimersAct : Obligations.KeeperTimersAct := by
  intro s keeps
  refine ⟨?_, fun learning due => ?_, fun learning due known active top => ?_, fun learning due idle0 idle1 => ?_,
    fun d h lease held fresh due holder => ?_, fun port present due => ?_, fun h lapsed due holder => ?_,
    fun g granting grantee due => ⟨fun few => ?_, fun many => ?_⟩, fun vacant qualifies room => ?_⟩
  · obtain ⟨q0, q1, watch, line, n, sent, two⟩ := sendHello_only { s with keeper :=
      { cfg := s.keeper.cfg, learnRow := s.time.rows, upRow := s.time.rows,
        p0 := { row := s.time.rows, certOk := s.keeper.p0.certOk }, p1 := { row := s.time.rows, certOk := s.keeper.p1.certOk } } }
    have run : exec .keeperReset s = .next _ := (congrArg Host.Outcome.next (if_pos keeps)).trans (congrArg Host.Outcome.next sent)
    exact ⟨_, run, rfl, rfl, rfl, rfl, rfl, two, rfl, rfl⟩
  · obtain ⟨q0, q1, watch, line, n, sent, two⟩ := sendHello_only s
    have run : exec .keeperHelloInterval s = .next _ :=
      (congrArg Host.Outcome.next (if_pos (by simp [keeps, learning, due]))).trans (congrArg Host.Outcome.next sent)
    exact ⟨_, run, rfl, learning, two, rfl⟩
  · have run : exec .keeperLearningEnd s = .next (keeperLearnt s) :=
      congrArg Host.Outcome.next (if_pos (by simp [keeps, learning, due]))
    have learnt : keeperLearnt s = kHeld false (kTop s) s :=
      if_pos (by simp [State.kport, Option.isSome_iff_ne_none, known, active, top])
    rw [run, learnt]
    exact ⟨_, rfl, rfl, rfl, rfl, rfl, rfl⟩
  · have run : exec .keeperLearningEnd s = .next (keeperLearnt s) :=
      congrArg Host.Outcome.next (if_pos (by simp [keeps, learning, due]))
    rw [run]
    simp [keeperLearnt, State.kport, idle0, idle1]
  · have run : exec .keeperLeaseLapse s = .next (kLapse { s with keeper.lapsed := true }) := by
      change execKeeperLeaseLapse s = _
      simp [execKeeperLeaseLapse, lease, keeps, held, fresh, due]
    obtain ⟨st, _, _, _, _, _, _, lapse, state⟩ := kLapse_spec (s := { s with keeper.lapsed := true })
    rw [run, lapse]
    exact ⟨_, rfl, rfl, rfl, (state h held holder).trans (by rfl), rfl⟩
  · have run : exec (.keeperTwinLost port) s = .next (kLapse (s.modKport port (fun k => { k with lost := true }))) :=
      congrArg Host.Outcome.next (if_pos (by simp [keeps, present, due]))
    obtain ⟨st, _, _, _, _, _, _, lapse, -⟩ := kLapse_spec (s := s.modKport port (fun k => { k with lost := true }))
    rw [run, lapse]
    refine ⟨_, rfl, ?_⟩
    cases port <;> exact ⟨rfl, rfl, rfl, rfl⟩
  · obtain ⟨_, _, watch, _, _, sent, one⟩ := sendQuery_only holder
    have run : exec .keeperQueryRepeat s = .next _ :=
      (congrArg Host.Outcome.next (if_pos (by simp [keeps, lapsed, due]))).trans (congrArg Host.Outcome.next sent)
    exact ⟨_, run, rfl, lapsed, one, rfl⟩
  · have run : exec .keeperTakeRepeat s = .next (sendTake { s with keeper.repeats := s.keeper.repeats + 1 }) := by
      change execKeeperTakeRepeat s = _
      simp [execKeeperTakeRepeat, grantee, keeps, granting, due, few]
    obtain ⟨_, _, _, _, _, sent⟩ := sendTake_only (s := { s with keeper.repeats := s.keeper.repeats + 1 }) grantee
    rw [run, sent]
    exact ⟨_, rfl, rfl, rfl, granting, rfl⟩
  · have run : exec .keeperTakeRepeat s = .next (kHeld g s.keeper.cur s) := by
      change execKeeperTakeRepeat s = _
      simp [execKeeperTakeRepeat, grantee, keeps, granting, due, Nat.not_lt.mpr many]
    exact ⟨_, run, rfl, rfl, rfl⟩
  · have cert : (s.kport false).certOk = true := by
      unfold kQualifies at qualifies
      simp only [Bool.and_eq_true] at qualifies
      obtain ⟨⟨-, cert⟩, -⟩ := qualifies
      exact cert
    have run : exec .keeperGrant s = .next (sendTake (kGranted false s.keeper.cur s)) := by
      change execKeeperGrant s = _
      simp [execKeeperGrant, keeps, vacant, keeperGrant, qualifies, kGrant_grants cert room]
    obtain ⟨state, cur, -, grantee, -, -, lanes, -⟩ := take_spec false s.keeper.cur s
    exact ⟨_, run, state, cur, grantee, lanes⟩

end Sys2Proof
end

section
/-! The standby's side of the checkpoint (R317, R321, R323 to R328, R332, R500). -/

namespace Sys2Proof

open Sys2Proof.Machine

/-! ## Slots written -/

/-- A word written changes the page, but for its generation, and the selector records. -/
theorem slotWrite_keeps (sl : Slot) (w : SlotWrite) :
    (sl.write w).st = sl.st ∧ (sl.write w).frame = sl.frame ∧ (sl.write w).page.gen = sl.page.gen := by
  unfold Slot.write
  (repeat' split) <;> exact ⟨rfl, rfl, rfl⟩

theorem slotWriteAll_st (ws : List SlotWrite) (sl : Slot) : (sl.writeAll ws).st = sl.st :=
  foldl_keeps (fun x => x.st = sl.st) Slot.write (fun x w h => (slotWrite_keeps x w).1.trans h) ws sl rfl

theorem slotWriteAll_frame (ws : List SlotWrite) (sl : Slot) : (sl.writeAll ws).frame = sl.frame :=
  foldl_keeps (fun x => x.frame = sl.frame) Slot.write (fun x w h => (slotWrite_keeps x w).2.1.trans h) ws sl rfl

/-- A DELTA sealed in a slot (R325). -/
theorem slotCommit_fields (sl : Slot) (m : TwinMsg) :
    (sl.commit m).st = .committed ∧ (sl.commit m).page.gen = m.gen ∧ (sl.commit m).frame = m.frame :=
  ⟨slotWriteAll_st .., rfl, slotWriteAll_frame ..⟩

/-- A selector record written into a slot that holds something. -/
theorem slotWrite_sel (sl : Slot) {n : Nat} (v : W64) (fits : n < 131072) :
    sl.write { off := selOff n, word := v } = { sl with sels := kset 15 sl.sels n v } := by
  have at_ : selOff n = 0x2000000 + 8 * n := rfl
  have record : (selOff n - 0x2000000) / 8 = n := by omega
  rw [Slot.write, if_neg (by omega : ¬ selOff n < 0xC00000), if_neg (by omega : ¬ selOff n < 0x1800000),
    if_neg (by omega : ¬ selOff n < 0x2000000), if_pos (by omega : selOff n < 0x2100000), record]

/-! ## Blocks at a standby -/

section
variable {s t : State} {bs : List (List W64)} {ws : List W64} {c : Instr}

theorem beginWrite_idle (none : s.ckpt.rxBulk = []) : beginWrite s = s := by
  simp [beginWrite, none]

/-- A command whose blocks end one message does what this message does. -/
theorem exec_standbyMsg (h : BringsBlocks bs c) (one : Brings bs ws s) (on : s.standbyTwin = true) (run : handleMsg ws s = t)
    (rx : t.ckpt.rxBulk = s.ckpt.rxBulk) : exec c s = .next t := by
  obtain ⟨taken, idle⟩ := one
  have runs : (s.twinUp && !s.fnDown 3) = true := by
    simp only [State.standbyTwin, Bool.and_eq_true] at on
    obtain ⟨⟨up, works⟩, -⟩ := on
    simp only [Bool.and_eq_true]
    exact ⟨up, works⟩
  have blocks : twinBlocks bs s = beginWrite (handleMsg ws s) := by
    rw [twinBlocks, if_pos runs, taken]
    rfl
  rw [exec_bringsBlocks h, blocks, run, beginWrite_idle (rx.trans idle)]

/-- Every message of the active is stored by what its type says. -/
theorem handleMsg_stored {f : TwinMsg → State → State} {n : Nat} (on : s.standbyTwin = true) (good : msgGood ws = true)
    (type : (readMsg ws).type = n) (does : (n, f) ∈ [(2, fullIn), (3, deltaIn), (4, fixIn), (5, dropIn), (6, selIn),
      (9, fun _ => syncEndIn)]) : handleMsg ws s = onStore n (f (readMsg ws)) s := by
  simp only [List.mem_cons, Prod.mk.injEq, List.not_mem_nil, or_false] at does
  rcases does with ⟨rfl, rfl⟩ | ⟨rfl, rfl⟩ | ⟨rfl, rfl⟩ | ⟨rfl, rfl⟩ | ⟨rfl, rfl⟩ | ⟨rfl, rfl⟩ <;>
    simp [handleMsg, good, type, on]

theorem onStore_reached {n : Nat} {f : State → State} (reach : s.reaches 3 [6] = true) : onStore n f s = f s := if_pos reach

/-! ## Synchronisation lost -/

theorem loseSync_cold (cause roleCause : Nat) (cold : s.twin.role = .cold) : ∃ synced ev, synced = false ∧
    loseSync cause roleCause s =
      { s with ckpt.synced := synced, ckpt.ev := ev, twin.pend := s.twin.pend ++ [(.syncing, roleCause)] } := by
  by_cases synced : s.ckpt.synced = true
  · refine ⟨false, some (false, cause), rfl, ?_⟩
    simp [loseSync, synced, cold, Role.standsBy, State.handoverHeld, pendRole]
  · refine ⟨s.ckpt.synced, s.ckpt.ev, eq_false_of_ne_true synced, ?_⟩
    have same : loseSync cause roleCause s = pendRole .syncing roleCause s := by
      simp [loseSync, synced, cold, Role.standsBy, State.handoverHeld]
    exact same

/-- What neither a lost synchronisation nor a FULL_REQ touches. -/
def LossKeeps (s t : State) : Prop := t.ckpt.bad = s.ckpt.bad ∧ t.ckpt.rxBulk = s.ckpt.rxBulk ∧ t.lanes = s.lanes ∧ t.fab = s.fab

theorem sendFullReq_loss (s : State) : LossKeeps s (sendFullReq s) := by
  unfold sendFullReq
  split
  · exact ⟨rfl, rfl, rfl, rfl⟩
  · rw [sendTwin_only]
    exact ⟨rfl, rfl, rfl, rfl⟩

theorem loseSync_loss (cause roleCause : Nat) (s : State) : LossKeeps s (loseSync cause roleCause s) := by
  have then_ : ∀ t, LossKeeps s t → LossKeeps s (if t.twin.role == .syncing then sendFullReq (emptySlots t)
      else if t.twin.role.standsBy && !t.handoverHeld then pendRole .syncing roleCause t else t) := by
    rintro t ⟨bad, rx, lanes, fab⟩
    split
    · obtain ⟨bad', rx', lanes', fab'⟩ := sendFullReq_loss (emptySlots t)
      exact ⟨bad'.trans bad, rx'.trans rx, lanes'.trans lanes, fab'.trans fab⟩
    · split <;> exact ⟨bad, rx, lanes, fab⟩
  unfold loseSync
  split
  · exact then_ _ ⟨rfl, rfl, rfl, rfl⟩
  · exact then_ _ ⟨rfl, rfl, rfl, rfl⟩

/-- A message discarded (R321). -/
theorem discardMsg_counts (n : Nat) (s : State) : (discardMsg n s).ckpt.bad = min 0xFFFFFFFF (s.ckpt.bad + 1) ∧
    (discardMsg n s).ckpt.rxBulk = s.ckpt.rxBulk ∧ (discardMsg n s).lanes = s.lanes ∧ (discardMsg n s).fab = s.fab := by
  rw [← sat_eq_min]
  unfold discardMsg
  dsimp only
  split
  · exact loseSync_loss 2 12 _
  · exact ⟨rfl, rfl, rfl, rfl⟩

theorem discardMsg_cold {n : Nat} (on : s.standbyTwin = true) (cold : s.twin.role = .cold) (ends : n ∈ [2, 3, 6]) :
    (discardMsg n s).ckpt.synced = false ∧ (discardMsg n s).twin.pend = s.twin.pend ++ [(.syncing, 12)] := by
  have discarded : discardMsg n s = loseSync 2 12 { s with ckpt.bad := sat 0xFFFFFFFF (s.ckpt.bad + 1) } :=
    if_pos (Bool.and_eq_true_iff.mpr ⟨on, List.contains_iff_mem.mpr ends⟩)
  obtain ⟨_, _, out, lost⟩ := loseSync_cold (s := { s with ckpt.bad := sat 0xFFFFFFFF (s.ckpt.bad + 1) }) 2 12 cold
  rw [discarded, lost]
  exact ⟨out, rfl⟩

/-- A message that ends the synchronisation of a COLD device while the store is not reached (log entry 116). -/
theorem onStore_unreached_cold {n : Nat} {f : State → State} (reach : s.reaches 3 [6] = false) (cold : s.twin.role = .cold)
    (ends : n ∈ [2, 3, 6]) : ∃ mx synced ev, synced = false ∧ onStore n f s =
      { s with mx := mx, ckpt.synced := synced, ckpt.ev := ev, twin.pend := s.twin.pend ++ [(.syncing, 12)] } := by
  have stored : onStore n f s = loseSync 2 12 (notReached 3 s) := by
    rw [onStore, if_neg (ne_true_of_eq_false reach), if_pos (List.contains_iff_mem.mpr ends)]
  obtain ⟨mx, missed⟩ : ∃ mx, notReached 3 s = { s with mx := mx } := by
    unfold notReached
    split
    · exact ⟨s.mx, rfl⟩
    · exact ⟨_, rfl⟩
  rw [stored, missed]
  exact ⟨mx, loseSync_cold (s := { s with mx := mx }) 2 12 cold⟩

/-! ## A message at a standby that reaches its store -/

theorem fullIn_syncing (m : TwinMsg) (syncing : s.twin.role = .syncing) : ∃ x : Slot, x.st = .filling ∧ x.page.gen = m.gen ∧
    fullIn m s = { s with ckpt.fulls := inc16 s.ckpt.fulls, ckpt.x := x, ckpt.y := {}, ckpt.fullGot := true } := by
  have filled := slotWriteAll_st m.writes { st := .filling }
  rw [fullIn]
  generalize ({ st := .filling } : Slot).writeAll m.writes = x at filled
  refine ⟨{ x with page := { x.page with gen := m.gen }, sels := s.ckpt.x.sels.foldl (fun n e => kset 15 n e.1 e.2) x.sels },
    filled, rfl, if_pos syncing⟩

/-- Slot X in service: slot Y becomes a FREE copy of it, and a standby sends SLOT_FREE (R324). -/
theorem freeOther_standby (x : s.ckpt.x.st = .inService) : ∃ bulk urgent,
    freeOther s = { s with ckpt.y := s.ckpt.x.copyOf, ckpt.bulk := bulk, ckpt.urgent := urgent } := by
  rw [freeOther, if_pos x]
  split
  · exact ⟨_, _, rfl⟩
  · rw [sendTwin_only]
    exact ⟨_, _, rfl⟩

theorem syncEndIn_spec (syncing : s.twin.role = .syncing) (full : s.ckpt.fullGot = true) (fresh : s.ckpt.acked2 = false) :
    ∃ bulk urgent, syncEndIn s = { s with
      ckpt.x := { s.ckpt.x with st := .inService }, ckpt.y := ({ s.ckpt.x with st := .inService } : Slot).copyOf,
      ckpt.synced := true, ckpt.acked2 := true, ckpt.ev := some (true, 1), ckpt.syncFrame := s.time.frame,
      ckpt.bulk := bulk, ckpt.urgent := urgent, twin.pend := s.twin.pend ++ [(.cold, 7)] } := by
  rw [syncEndIn, if_pos ⟨syncing, full, fresh⟩]
  dsimp only
  rw [sendTwin_only]
  obtain ⟨bulk, urgent, freed⟩ := freeOther_standby (s := { s with
    ckpt.x := { s.ckpt.x with st := .inService }, ckpt.synced := true, ckpt.acked2 := true, ckpt.ev := some (true, 1),
    ckpt.syncFrame := s.time.frame, ckpt.bulk := _, ckpt.urgent := _ }) rfl
  exact ⟨bulk, urgent, congrArg (pendRole .cold 7) freed⟩

theorem deltaIn_free (m : TwinMsg) (cold : s.twin.role = .cold) (fresh : s.ckpt.filling = none) (x : s.ckpt.x.st = .inService)
    (y : s.ckpt.y.st = .free) : ∃ bulk urgent,
      deltaIn m s = { s with ckpt.filling := none, ckpt.y := s.ckpt.y.fill.commit m, ckpt.bulk := bulk, ckpt.urgent := urgent } := by
  have opened : openFree s = { s with ckpt.filling := some true, ckpt.y := s.ckpt.y.fill } := by
    simp [openFree, fresh, x, y]
  have run : deltaIn m s = sendTwin 0x7 m.gen m.frame 3 []
      { s with ckpt.filling := none, ckpt.y := s.ckpt.y.fill.commit m } := by
    simp [deltaIn, cold, Role.standsBy, opened]
  rw [run, sendTwin_only]
  exact ⟨_, _, rfl⟩

theorem deltaIn_full (m : TwinMsg) (cold : s.twin.role = .cold) (fresh : s.ckpt.filling = none) (x : s.ckpt.x.st ≠ .free)
    (y : s.ckpt.y.st ≠ .free) : deltaIn m s = discardMsg 3 s := by
  have opened : openFree s = s := by simp [openFree, fresh, x, y]
  simp [deltaIn, cold, Role.standsBy, opened, fresh]

/-- Slot Y is the committed one, and holds the generation of the message. -/
theorem committed_named {gen : Nat} (x : s.ckpt.x.st = .inService) (y : s.ckpt.y.st = .committed) (names : s.ckpt.y.page.gen = gen) :
    s.committed.any (fun sl => sl.page.gen == gen) = true := by
  simp [State.committed, x, y, names]

theorem fixIn_cold (m : TwinMsg) (cold : s.twin.role = .cold) (before : s.ckpt.before = none) (x : s.ckpt.x.st = .inService)
    (y : s.ckpt.y.st = .committed) (names : s.ckpt.y.page.gen = m.gen) : ∃ bulk urgent,
      fixIn m s = { s with ckpt.y := { s.ckpt.y with frame := m.frame }, ckpt.bulk := bulk, ckpt.urgent := urgent } := by
  have fixed : modCommitted m.gen (fun sl => { sl with frame := m.frame }) s =
      { s with ckpt.y := { s.ckpt.y with frame := m.frame } } := by
    simp [modCommitted, x, y, names]
  have run : fixIn m s = sendTwin 0x7 m.gen m.frame 4 [] { s with ckpt.y := { s.ckpt.y with frame := m.frame } } := by
    have holds := committed_named (s := { s with ckpt.y := { s.ckpt.y with frame := m.frame } }) x y names
    simp only [fixIn, before, Option.isSome_none, Bool.false_and, Bool.false_eq_true, if_false, fixed]
    exact (if_pos holds).trans (if_neg (by simp [cold]))
  rw [run, sendTwin_only]
  exact ⟨_, _, rfl⟩

theorem dropIn_cold (m : TwinMsg) (cold : s.twin.role = .cold) (x : s.ckpt.x.st = .inService) (y : s.ckpt.y.st = .committed)
    (names : s.ckpt.y.page.gen = m.gen) : ∃ bulk urgent,
      dropIn m s = { s with ckpt.y := s.ckpt.x.copyOf, ckpt.bulk := bulk, ckpt.urgent := urgent } := by
  have run : dropIn m s = freeOther (sendTwin 0x7 m.gen 0 5 [] s) := by
    simp [dropIn, committed_named x y names, cold]
  rw [run, sendTwin_only]
  exact freeOther_standby (s := { s with ckpt.bulk := _, ckpt.urgent := _ }) x

/-- A slot that holds something takes the records of a SEL (R317). -/
def selPut (ws : List SlotWrite) (sl : Slot) : Slot := if sl.st = .empty then sl else sl.writeAll ws

theorem selIn_cold (m : TwinMsg) {n : Nat} {v : W64} (cold : s.twin.role = .cold)
    (writes : m.writes = [{ off := selOff n, word := v }]) :
    selIn m s = { s with ckpt.x := selPut m.writes s.ckpt.x, ckpt.y := selPut m.writes s.ckpt.y } := by
  have kept : m.writes.filter (fun w => decide (0x2000000 ≤ w.off)) = m.writes := by
    rw [writes]
    exact List.filter_cons_of_pos (decide_eq_true (Nat.le_add_right ..))
  rw [selIn, kept, cold]
  rfl

theorem selPut_one (a : Slot) {n : Nat} (v : W64) (fits : n < 131072) :
    if a.st = .empty then selPut [{ off := selOff n, word := v }] a = a
    else kget 15 (selPut [{ off := selOff n, word := v }] a).sels n = v ∧ (selPut [{ off := selOff n, word := v }] a).page = a.page ∧
      (selPut [{ off := selOff n, word := v }] a).st = a.st ∧
      ∀ k, k ≠ n → kget 15 (selPut [{ off := selOff n, word := v }] a).sels k = kget 15 a.sels k := by
  by_cases empty : a.st = .empty
  · rw [if_pos empty, selPut, if_pos empty]
  · have put : selPut [{ off := selOff n, word := v }] a = { a with sels := kset 15 a.sels n v } :=
      (if_neg empty).trans (slotWrite_sel a v fits)
    rw [if_neg empty, put]
    exact ⟨kget_kset_same .., rfl, rfl, fun k other => kget_kset_other _ _ _ other⟩

end

/-- Settles O39: each message by what it does in the slots. The ten rows as one, the order of the synchronisation and a store that is not
reached are log entries 87, 56 and 116. -/
theorem checkpointStandbySide : Obligations.CheckpointStandbySide := by
  intro bs ws c s h one on m
  have runs := fun t => exec_standbyMsg (t := t) h one on
  refine ⟨fun good reach => ⟨fun type => ?_, fun cold type => ?_⟩, fun good reach => ⟨fun type syncing => ?_,
    fun type syncing full fresh => ?_, fun type cold fresh x y => ?_, fun type cold fresh x y => ?_,
    fun cold before x y names => ⟨fun type => ?_, fun type => ?_⟩, fun n v type cold fits writes => ?_⟩, fun bad => ?_⟩
  · have rx : (notReached 3 s).ckpt.rxBulk = s.ckpt.rxBulk := by simp
    refine runs _ ?_ rx
    rcases type with type | type
    · rw [handleMsg_stored on good type (f := fixIn) (by simp), onStore, if_neg (ne_true_of_eq_false reach)]
      rfl
    · rw [handleMsg_stored on good type (f := dropIn) (by simp), onStore, if_neg (ne_true_of_eq_false reach)]
      rfl
  · have ends : ∃ mx synced ev, synced = false ∧ handleMsg ws s =
        { s with mx := mx, ckpt.synced := synced, ckpt.ev := ev, twin.pend := s.twin.pend ++ [(.syncing, 12)] } := by
      rcases type with type | type | type
      · rw [handleMsg_stored on good type (f := fullIn) (by simp)]
        exact onStore_unreached_cold reach cold (by simp)
      · rw [handleMsg_stored on good type (f := deltaIn) (by simp)]
        exact onStore_unreached_cold reach cold (by simp)
      · rw [handleMsg_stored on good type (f := selIn) (by simp)]
        exact onStore_unreached_cold reach cold (by simp)
    obtain ⟨mx, synced, ev, out, run⟩ := ends
    exact ⟨_, runs _ run rfl, rfl, rfl, out, rfl, rfl⟩
  · obtain ⟨x, filling, gen, filled⟩ := fullIn_syncing m syncing
    have run : handleMsg ws s = _ :=
      (handleMsg_stored on good type (f := fullIn) (by simp)).trans ((onStore_reached reach).trans filled)
    exact ⟨_, runs _ run rfl, filling, gen, rfl, rfl, rfl⟩
  · obtain ⟨_, _, ended⟩ := syncEndIn_spec syncing full fresh
    have run : handleMsg ws s = _ :=
      (handleMsg_stored on good type (f := fun _ => syncEndIn) (by simp)).trans ((onStore_reached reach).trans ended)
    exact ⟨_, runs _ run rfl, rfl, rfl, rfl, rfl, rfl, rfl, rfl⟩
  · obtain ⟨_, _, stored⟩ := deltaIn_free m cold fresh x y
    have run : handleMsg ws s = _ :=
      (handleMsg_stored on good type (f := deltaIn) (by simp)).trans ((onStore_reached reach).trans stored)
    obtain ⟨committed, gen, frame⟩ := slotCommit_fields s.ckpt.y.fill m
    exact ⟨_, runs _ run rfl, rfl, committed, gen, frame, rfl, rfl, cold⟩
  · have run : handleMsg ws s = _ := (handleMsg_stored on good type (f := deltaIn) (by simp)).trans
      ((onStore_reached reach).trans (deltaIn_full m cold fresh x y))
    obtain ⟨bad, rx, -⟩ := discardMsg_counts 3 s
    obtain ⟨synced, pend⟩ := discardMsg_cold on cold (n := 3) (by simp)
    exact ⟨_, runs _ run rx, synced, bad, pend⟩
  · obtain ⟨_, _, fixed⟩ := fixIn_cold m cold before x y names
    have run : handleMsg ws s = _ :=
      (handleMsg_stored on good type (f := fixIn) (by simp)).trans ((onStore_reached reach).trans fixed)
    exact ⟨_, runs _ run rfl, rfl, rfl, rfl, rfl⟩
  · obtain ⟨_, _, dropped⟩ := dropIn_cold m cold x y names
    have run : handleMsg ws s = _ :=
      (handleMsg_stored on good type (f := dropIn) (by simp)).trans ((onStore_reached reach).trans dropped)
    exact ⟨_, runs _ run rfl, rfl, rfl, rfl, rfl⟩
  · have run : handleMsg ws s = _ :=
      (handleMsg_stored on good type (f := selIn) (by simp)).trans ((onStore_reached reach).trans (selIn_cold m cold writes))
    rw [show m.writes = _ from writes] at run
    exact ⟨_, runs _ run rfl, selPut_one s.ckpt.x v fits, selPut_one s.ckpt.y v fits, rfl⟩
  · have run : handleMsg ws s = discardMsg (fld (wd ws 0) 63 56) s := if_neg (ne_true_of_eq_false bad)
    obtain ⟨count, rx, lanes, fab⟩ := discardMsg_counts (fld (wd ws 0) 63 56) s
    exact ⟨_, runs _ run rx, count, lanes, fab, fun cold ends => discardMsg_cold on cold ends⟩

end Sys2Proof
end

section
/-! An EVENT at the gateway of its flight (R372): the record that is held is stamped with when its occurrences were (log entry 120). -/

namespace Sys2Proof

open Sys2Proof.Machine

/-- The gateway of a flight, without event queues, in row 10 of frame 1. -/
def eventGateway : State :=
  { State.reset with boot.st := .ready, boot.resetN := true, flight.addressed := true, flight.a := { up := true },
                     time.rows := 260, time.frame := 1, time.row := 10 }

/-- An event that the member of address 2 raised in row 5 of frame 1. -/
def toldEvent : TowPkt :=
  { type := 9, dst := 0, src := 2, all := false, dir := false, hops := 0, tseq := 1, flight := 0,
    payload := [0, pack [(47, 0, 1), (55, 48, 5)]] }

/-- When the first occurrences of the held records were, in the state that a step answers. -/
def heldOccurrences : Res → List Nat
  | .next t => t.host.held.map (·.ord)
  | _ => []

theorem toldEvent_held : heldOccurrences (exec (.event .a toldEvent) eventGateway) = [255] := by decide

/-- Refutes O44: the gateway of a flight without event queues holds the record of an EVENT with when its occurrences were, here row 255
after reset, and the statement has it held as the packet brings it. -/
theorem not_addressedPacketsAct : ¬ Obligations.AddressedPacketsAct := by
  intro h
  obtain ⟨-, numbered, -⟩ := h .a toldEvent eventGateway (by decide) (by decide) (by decide) (by decide)
  obtain ⟨-, -, -, -, event, -⟩ := numbered (by decide) (by decide) (by decide) (by decide)
  obtain ⟨t, run, held, -⟩ := event (by decide) (by decide) (by decide)
  have stamped := toldEvent_held
  rw [run, heldOccurrences, held] at stamped
  exact absurd stamped (by decide)

end Sys2Proof
end

section
/-! SUPPORT. What the towpath's operations leave of the flight (R379 to R403): its members, its timing and its admission, and which ports
are up. -/

namespace Sys2Proof.Machine

open Sys2Proof

/-! ## Sending changes no port's state -/

/-- Every port is up or down as before. -/
def SameUp (s t : State) : Prop := t.flight.a.up = s.flight.a.up ∧ t.flight.b.up = s.flight.b.up

theorem SameUp.refl (s : State) : SameUp s s := ⟨rfl, rfl⟩

theorem SameUp.then {s t u : State} (h : SameUp s t) (k : SameUp t u) : SameUp s u := ⟨k.1.trans h.1, k.2.trans h.2⟩

theorem SameUp.ite {s a b : State} {c : Prop} [Decidable c] (ha : SameUp s a) (hb : SameUp s b) : SameUp s (if c then a else b) := by
  split <;> assumption

theorem SameUp.of_flight {s t : State} (same : t.flight = s.flight) : SameUp s t := by
  rw [SameUp, same]
  exact ⟨rfl, rfl⟩

theorem SameUp.port {s t : State} (h : SameUp s t) (sd : Side) : (t.port sd).up = (s.port sd).up := by
  cases sd
  · exact h.1
  · exact h.2

@[simp] theorem port_setPort (s : State) (sd : Side) (p : TowPort) : (s.setPort sd p).port sd = p := by
  cases sd <;> rfl

theorem setPort_up {sd : Side} {p : TowPort} {s : State} (same : p.up = (s.port sd).up) : SameUp s (s.setPort sd p) := by
  cases sd
  · exact ⟨same, rfl⟩
  · exact ⟨rfl, same⟩

theorem setTow_up (l : List (Side × List (BitVec 66))) (s : State) : SameUp s { s with out.tow := l } := ⟨rfl, rfl⟩

theorem payCredits_up (sd : Side) (s : State) : SameUp s (payCredits sd s) :=
  .ite ((setPort_up (sd := sd) (p := { s.port sd with owedCtl := 0, owedBulk := 0 }) rfl).then (setTow_up _ _)) (.refl s)

theorem creditBack_up (p : TowPkt) (back : Option Side) (s : State) : SameUp s (creditBack p back s) := by
  cases back with
  | none => exact .refl s
  | some sd =>
    refine (setPort_up ?_).then (payCredits_up sd _)
    split <;> rfl

theorem stampSent_up (p : TowPkt) (s : State) : SameUp s (stampSent p s) := ⟨rfl, rfl⟩

theorem portForward_up (sd : Side) (p : TowPkt) (back : Option Side) (s : State) : SameUp s (portForward sd p back s) := by
  unfold portForward
  dsimp only
  refine .ite (.ite (setTow_up _ s) (.refl s)) (.ite ?_ (setPort_up rfl))
  refine .then (.then (.then (setPort_up (sd := sd) ?_) (setTow_up _ _)) (stampSent_up p _)) (creditBack_up p back _)
  split <;> rfl

/-- A packet listed for its ACK, under its number. -/
theorem listed_up (ack : Prop) [Decidable ack] (seqs : KMap Nat) (l : List Unacked) (s : State) :
    SameUp s (if ack then s else { s with flight.txSeq := seqs, flight.unacked := l }) := .ite (.refl s) ⟨rfl, rfl⟩

theorem towSend_up (type dst : Nat) (payload : List W64) (s : State) : SameUp s (towSend type dst payload s) := by
  unfold towSend
  dsimp only
  refine .ite (.refl s) ?_
  split
  · exact (listed_up ..).then (portForward_up ..)
  · exact listed_up ..

theorem raise_up (code : Nat) (payload : List W64) (s : State) : SameUp s (raise code payload s) := by
  unfold raise
  dsimp only
  split
  · exact .of_flight (by simp)
  · split
    · exact .ite (.then (.of_flight (by simp)) (towSend_up ..)) (.of_flight (by simp))
    · exact .of_flight (by simp)

/-! ## Sending changes nothing else of the flight -/

/-- Nothing of the flight differs but the ports, what waits for an ACK and the numbers of the series; the pages are as they were. -/
def SameFlight (s t : State) : Prop :=
  t.flight = { s.flight with a := t.flight.a, b := t.flight.b, unacked := t.flight.unacked, txSeq := t.flight.txSeq } ∧ t.fab = s.fab

theorem SameFlight.of_eq {s t : State} (flight : t.flight = s.flight) (fab : t.fab = s.fab) : SameFlight s t := by
  refine ⟨?_, fab⟩
  rw [flight]

theorem SameFlight.then {s t u : State} (h : SameFlight s t) (k : SameFlight t u) : SameFlight s u := by
  obtain ⟨flight, fab⟩ := h
  obtain ⟨flight', fab'⟩ := k
  refine ⟨?_, fab'.trans fab⟩
  rw [flight', flight]

theorem SameFlight.ite {s a b : State} {c : Prop} [Decidable c] (ha : SameFlight s a) (hb : SameFlight s b) :
    SameFlight s (if c then a else b) := by
  split <;> assumption

theorem OnlyPorts.sameFlight {s t : State} (h : OnlyPorts s t) : SameFlight s t := by
  rw [h]
  exact ⟨rfl, rfl⟩

theorem sameFlight_of_hostAndPorts {s t : State} (h : HostAndPorts s t) : SameFlight s t := by
  obtain ⟨only, -⟩ := h
  rw [only]
  exact ⟨rfl, rfl⟩

theorem raise_sameFlight (code : Nat) (payload : List W64) (s : State) : SameFlight s (raise code payload s) := by
  unfold raise
  dsimp only
  split
  · exact .of_eq (by simp) (by simp)
  · split
    · exact .ite (.then (.of_eq (by simp) (by simp)) (towSend_ports ..).sameFlight) (.of_eq (by simp) (by simp))
    · exact .of_eq (by simp) (by simp)

/-- On a gateway an event is given to the event queues (R372). -/
theorem raise_gateway {s : State} (code : Nat) (payload : List W64) (gateway : s.isGateway = true) :
    (raise code payload s).flight = s.flight := by
  have own : (countEvent 0x49 (eventGroup code) 1 { s with host.evSeq := (s.host.evSeq + 1) % 2 ^ 32 }).isGateway = true := by
    simp [State.isGateway, State.gatewayFlag] at gateway ⊢
    exact gateway
  rw [raise, if_pos own]
  simp

section
variable {s t : State} (h : SameFlight s t)
include h

theorem SameFlight.members : t.flight.members = s.flight.members := by rw [h.1]

theorem SameFlight.member (a : Nat) : t.member a = s.member a := by rw [State.member, h.members, State.member]

theorem SameFlight.addr : t.flight.addr = s.flight.addr := by rw [h.1]

end

/-! ## Members -/

@[simp] theorem member_modMember_same (s : State) (a : Nat) (f : Member → Member) : (s.modMember a f).member a = f (s.member a) :=
  kget_kset_same ..

theorem member_modMember_other (s : State) {a b : Nat} (f : Member → Member) (other : b ≠ a) :
    (s.modMember a f).member b = s.member b := kget_kset_other _ _ _ other

/-- The record of a member but for the frame of its latest change. -/
def Member.unstamped (m : Member) : Member := { m with change := 0 }

/-- A stamp changes nothing but CHANGE_FRAME of one member. -/
theorem stampMember_spec (before : State) (a : Nat) (s : State) : (stampMember before a s).fab = s.fab ∧
    ((stampMember before a s).member a).unstamped = (s.member a).unstamped ∧
    (∀ b, b ≠ a → (stampMember before a s).member b = s.member b) ∧
    { (stampMember before a s) with flight.members := s.flight.members } = s := by
  unfold stampMember
  split
  · exact ⟨rfl, rfl, fun _ _ => rfl, rfl⟩
  · exact ⟨rfl, by rw [member_modMember_same]; rfl, fun b other => member_modMember_other s _ other, rfl⟩

/-- The rule of the gateway leaves the members as they are (R378). -/
theorem gatewayRule_keeps (s : State) : (gatewayRule s).flight.members = s.flight.members ∧ (gatewayRule s).fab = s.fab := by
  unfold gatewayRule
  split
  · split
    · next a _ _ =>
      have same := (sameFlight_of_hostAndPorts (functionReset_hostAndPorts { s with flight.gwConflict := true })).then
        (raise_sameFlight 0x0804 [pack [(5, 0, a), (9, 8, 2)]] _)
      exact ⟨same.members, same.2⟩
    · exact ⟨rfl, rfl⟩
  · exact ⟨rfl, rfl⟩

theorem gatewayReply_fab (r : Reply) (s : State) : (gatewayReply r s).fab = s.fab := by simp

theorem dropMember_fab (a : Nat) (s : State) : (dropMember a s).fab = s.fab :=
  foldl_keeps (fun t : State => t.fab = s.fab) _ (fun _ _ same => (gatewayReply_fab _ _).trans same) _ _ rfl

end Sys2Proof.Machine
end

section
/-! Packets received on the towpath (R383 to R393, R398): those of the SYNC class, and when a numbered packet acts. -/

namespace Sys2Proof

open Sys2Proof.Machine

/-! ## A packet at a port that is up -/

section
variable {type : Nat} {side : Side} {p : TowPkt} {s : State} {fwd : TowPkt → TowPkt} {f : State → State}

/-- A packet of the SYNC class is neither numbered nor takes credits (R385, R387). -/
theorem consume_unnumbered (plain : towClass p.type = 0) : consume p f s = f s := if_pos (.inl plain)

section
variable (is : p.type = type) (tow : s.towUp = true) (up : (s.port side).up = true) (plain : towClass type = 0)
include is tow up plain

/-- CREDIT, DELAY_REQ and DELAY_RESP act at every port that they come by, and go no further. -/
theorem receive_hop (flight : p.flight = s.flightId) (hop : hopLocal type = true) : receive type side p fwd f s = f s := by
  subst is
  simp [receive, tow, up, flight, hop, freeBuffer, plain, consume_unnumbered]

/-- A packet to ALL that another member has sent acts here and goes on. -/
theorem receive_all (flight : p.flight = s.flightId) (far : hopLocal type = false) (all : p.all = true) (hops : p.hops < 63)
    (other : s.flight.addressed = true → p.src ≠ s.flight.addr) : receive type side p fwd f s =
      portForward (otherSide side) { fwd p with hops := (p.hops + 1) % 64 } none (f s) := by
  subst is
  have foreign : (s.flight.addressed && p.src == s.flight.addr) = false := by
    simpa using other
  have early : (p.hops != 63) = true := by simp; omega
  simp [receive, tow, up, flight, far, all, foreign, early, plain, consume_unnumbered]

/-- A packet of the SYNC class to this device acts here, and goes no further. -/
theorem receive_own (flight : p.flight = s.flightId) (far : hopLocal type = false) (one : p.all = false)
    (addressed : s.flight.addressed = true) (dst : p.dst = s.flight.addr) : receive type side p fwd f s = f s := by
  subst is
  simp [receive, tow, up, flight, far, one, addressed, dst, freeBuffer, plain, consume_unnumbered]

end

/-- A packet of the SYNC class leaves at once by a port that is up. -/
theorem portSend_unnumbered (plain : towClass p.type = 0) (up : (s.port side).up = true) :
    portSend side p s = { s with out.tow := s.out.tow ++ [(side, towBlocks p)] } :=
  (if_pos plain).trans (if_pos up)

/-! ## SYNC -/

/-- What the statement on SYNC asks of the flight. -/
def SameSync (s t : State) : Prop :=
  t.flight.srcRow = s.flight.srcRow ∧ t.flight.srcAnchored = s.flight.srcAnchored ∧ t.flight.backup = s.flight.backup ∧
  t.flight.backEnd = s.flight.backEnd ∧ t.flight.alien = s.flight.alien ∧ t.flight.syncOk = s.flight.syncOk ∧
  t.flight.members = s.flight.members ∧ t.fab = s.fab

theorem SameSync.then {s t u : State} (h : SameSync s t) (k : SameSync t u) : SameSync s u := by
  obtain ⟨row, anchored, backup, ends, alien, ok, members, fab⟩ := h
  obtain ⟨row', anchored', backup', ends', alien', ok', members', fab'⟩ := k
  exact ⟨row'.trans row, anchored'.trans anchored, backup'.trans backup, ends'.trans ends, alien'.trans alien, ok'.trans ok,
    members'.trans members, fab'.trans fab⟩

theorem SameSync.of_sameFlight {s t : State} (h : SameFlight s t) : SameSync s t := by
  obtain ⟨flight, fab⟩ := h
  unfold SameSync
  rw [flight]
  exact ⟨rfl, rfl, rfl, rfl, rfl, rfl, rfl, fab⟩

theorem flightFrame_sync (frame : Nat) (s : State) : SameSync s (flightFrame frame s) := by
  unfold flightFrame
  dsimp only
  split
  · have differs : SameSync s { s with flight.differs := frame != s.time.frame } := ⟨rfl, rfl, rfl, rfl, rfl, rfl, rfl, rfl⟩
    exact differs.then (.of_sameFlight (raise_sameFlight _ _ _))
  · exact ⟨rfl, rfl, rfl, rfl, rfl, rfl, rfl, rfl⟩

theorem qlMessage_fab (n ssm essm : Nat) (s : State) : (qlMessage n ssm essm s).fab = s.fab := by
  unfold qlMessage
  dsimp only
  split <;> rfl

theorem samplePhase_fab (raw : Int) (s : State) : (samplePhase raw s).fab = s.fab := by
  unfold samplePhase builtOut
  dsimp only
  (repeat' split) <;> rfl

/-- A SYNC of the timing source registered (R391, R393). -/
theorem syncUse_registers (side : Side) (p : TowPkt) (arrival : Nat) (s : State) :
    (syncUse side p arrival s).flight.srcRow = s.flight.srcRow ∧
    (syncUse side p arrival s).flight.srcAnchored = bit (wd p.payload 0) 48 ∧
    (syncUse side p arrival s).flight.backup = s.flight.backup ∧ (syncUse side p arrival s).flight.backEnd = s.flight.backEnd ∧
    (syncUse side p arrival s).flight.alien = s.flight.alien ∧ (syncUse side p arrival s).flight.syncOk = syncActive s ∧
    (syncUse side p arrival s).flight.members = s.flight.members ∧ (syncUse side p arrival s).fab = s.fab := by
  have sampled : ∀ (c : Prop) [Decidable c] (raw : Int) (u : State), SameSync u (if c then samplePhase raw u else u) := by
    intro c _ raw u
    split
    · exact .of_sameFlight (.of_eq (by simp) (samplePhase_fab raw u))
    · exact ⟨rfl, rfl, rfl, rfl, rfl, rfl, rfl, rfl⟩
  have messaged : ∀ (a b : Nat) (u : State), SameSync u (qlMessage 24 a b u) := fun a b u =>
    .of_sameFlight (.of_eq (by simp) (qlMessage_fab 24 a b u))
  exact ((messaged _ _ _).then (flightFrame_sync _ _)).then (sampled _ _ _)

theorem syncIn_source (arrival : Nat) (other : s.flight.addressed = true → p.src ≠ s.flight.addr) (src : p.src = s.timeSrc) :
    syncIn side p arrival s =
      syncUse side p arrival { s with flight.srcRow := some s.time.rows, flight.backEnd := s.flight.backup } := by
  have foreign : ¬ (s.flight.addressed = true ∧ p.src = s.flight.addr) := fun own => other own.1 own.2
  have source : rightSource p.src { s with flight.srcRow := some s.time.rows, flight.backEnd := s.flight.backup } = true :=
    Bool.or_eq_true_iff.mpr (.inl (beq_iff_eq.mpr src))
  rw [syncIn, if_neg foreign, if_pos src]
  exact if_pos source

end

/-- Settles O43: each packet of the SYNC class by what it does at a port that is up. How long an alien SYNC counts and how a start is
reported are log entries 106 and 23. -/
theorem hopPacketsAct : Obligations.HopPacketsAct := by
  intro side p s tow up flight
  refine ⟨fun type => ?_, fun n type unaddressed => ?_, fun n type addressed => ?_, fun n type => ?_,
    fun n m type all hops other src => ?_, fun type all hops other fresh => ?_, fun type one addressed dst gateway => ?_⟩
  · exact congrArg Host.Outcome.next (receive_hop type tow up rfl flight rfl)
  · refine (congrArg Host.Outcome.next (receive_hop type tow up rfl flight rfl)).trans ?_
    rw [delayReqIn, unaddressed]
    rfl
  · refine (congrArg Host.Outcome.next (receive_hop type tow up rfl flight rfl)).trans ?_
    rw [delayReqIn, if_pos addressed, portSend_unnumbered rfl up]
  · exact congrArg Host.Outcome.next (receive_hop type tow up rfl flight rfl)
  · have run : exec (.towSync side p n m) s = _ :=
      congrArg Host.Outcome.next (receive_all type tow up rfl flight rfl all hops other)
    rw [syncIn_source n other src] at run
    obtain ⟨row, anchored, backup, ends, alien, ok, members, fab⟩ := syncUse_registers side p n
      { s with flight.srcRow := some s.time.rows, flight.backEnd := s.flight.backup }
    obtain ⟨row', anchored', backup', ends', alien', ok', members', fab'⟩ := SameSync.of_sameFlight (portForward_ports (otherSide side)
      { syncForward (s.port side).delay m p with hops := (p.hops + 1) % 64 } none
      (syncUse side p n { s with flight.srcRow := some s.time.rows, flight.backEnd := s.flight.backup })).sameFlight
    exact ⟨_, run, row'.trans row, anchored'.trans anchored, backup'.trans backup, ends'.trans ends, alien'.trans alien,
      ok'.trans ok, members'.trans members, by simp, fab'.trans fab, by simp, by simp⟩
  · have commit : commitIn p s = { s with flight.commits := s.flight.commits ++ [fld (wd p.payload 0) 47 0] } := by
      refine (if_neg (ne_false_of_eq_true all)).trans (if_neg ?_)
      rintro (⟨-, own⟩ | seen)
      · exact other own
      · exact Bool.false_ne_true (fresh.symm.trans seen)
    have run : exec (.commit side p) s = _ :=
      congrArg Host.Outcome.next (receive_all type tow up rfl flight rfl all hops (fun _ => other))
    rw [commit] at run
    have only := portForward_ports (otherSide side) { p with hops := (p.hops + 1) % 64 } none
      { s with flight.commits := s.flight.commits ++ [fld (wd p.payload 0) 47 0] }
    refine ⟨_, run, ?_, ?_, ?_⟩ <;> rw [id, only]
  · have run : exec (.commit side p) s = .next (commitIn p s) :=
      congrArg Host.Outcome.next (receive_own type tow up rfl flight rfl one addressed dst)
    rw [run]
    by_cases known : s.flight.starts.contains (p.src, fld (wd p.payload 0) 47 0) = true
    · have same : commitIn p s = s := (if_pos one).trans (if_neg fun new => Bool.false_ne_true (new.2.symm.trans known))
      rw [same]
      exact ⟨s, rfl, List.contains_iff_mem.mp known, rfl, rfl⟩
    · have added : commitIn p s = { s with flight.starts := s.flight.starts ++ [(p.src, fld (wd p.payload 0) 47 0)] } :=
        (if_pos one).trans (if_pos ⟨gateway, eq_false_of_ne_true known⟩)
      rw [added]
      exact ⟨_, rfl, List.mem_append_right _ (List.mem_singleton_self _), rfl, rfl⟩

/-! ## Numbered packets -/

theorem ackPacket_ports (p : TowPkt) (s : State) : OnlyPorts s (ackPacket p s) := towSend_ports ..

theorem ackPacket_rxSeq (p : TowPkt) (s : State) : (ackPacket p s).flight.rxSeq = s.flight.rxSeq := by
  rw [ackPacket_ports p s]

/-- A numbered packet is acknowledged, and acts when its number has not been seen (R387). -/
theorem consume_numbered {p : TowPkt} {f : State → State} {s : State} (class_ : towClass p.type ≠ 0) (one : p.all = false)
    (other : p.type ≠ 0xA) : consume p f s =
      if s.flight.rxSeq.contains (p.src, towClass p.type, p.tseq) then ackPacket p s
      else releaseHeld (f { ackPacket p s with flight.rxSeq := (p.src, towClass p.type, p.tseq) :: s.flight.rxSeq }) := by
  have numbered : ¬ (towClass p.type = 0 ∨ p.all = true ∨ p.type = 0xA) := by simp [class_, one, other]
  rw [consume, if_neg numbered]
  dsimp only
  rw [ackPacket_rxSeq]

/-- Settles O45: whatever the effect, by the number of the packet and by the flight and member that it names. That what waited for a packet
is taken with it is log entry 105. -/
theorem packetsActOnce : Obligations.PacketsActOnce := by
  refine fun f p s => ⟨fun class_ one other => ⟨fun seen => ?_, fun fresh => ?_⟩, fun type side fwd is tow up foreign => ?_,
    fun type side fwd g far one dst => ?_⟩
  · rw [consume_numbered class_ one other, if_pos seen]
  · refine ⟨{ ackPacket p s with flight.rxSeq := (p.src, towClass p.type, p.tseq) :: s.flight.rxSeq }, ?_, rfl, ?_, ?_⟩
    · rw [consume_numbered class_ one other, if_neg (ne_true_of_eq_false fresh)]
    · rw [ackPacket_ports p s]
    · rw [consume_numbered class_ one other, if_pos (List.contains_iff_mem.mpr List.mem_cons_self)]
  · rw [receive, if_neg (by simp [is, tow, up]), if_pos foreign]
  · have elsewhere : (hopLocal type || p.all || (s.flight.addressed && p.dst == s.flight.addr)) = false := by
      simp [far, one, dst]
    simp only [receive, elsewhere, Bool.false_eq_true, if_false]

end Sys2Proof
end

section
/-! The ring, the members and the timing source (R379 to R402). -/

namespace Sys2Proof

open Sys2Proof.Machine

section
variable {s : State}

/-! ## Ports (R382, R383) -/

theorem exec_towPortDown (side : Side) (tow : s.towUp = true) (up : (s.port side).up = true)
    (lost : (s.port side).remote = true ∨ 2 ≤ (s.port side).noLock) : exec (.towPortDown side) s =
      .next (ringEvent side false (s.setPort side { s.port side with up := false })) :=
  congrArg Host.Outcome.next (if_pos (by simpa [tow, up] using lost))

/-- A port that comes up: full credits, and nothing owed (R385). -/
def portOpened (side : Side) (s : State) : State :=
  s.setPort side { s.port side with up := true, ctl := 256, bulk := 512, owedCtl := 0, owedBulk := 0 }

theorem portDrain_empty {side : Side} (empty : (s.port side).queue = []) :
    portDrain side s = s.setPort side { s.port side with queue := [] } := by
  rw [portDrain]
  simp only [empty, List.foldl_nil]

theorem exec_towPortUp (side : Side) (tow : s.towUp = true) (down : (s.port side).up = false) (good : 250 ≤ (s.port side).good)
    (empty : (s.port side).queue = []) : exec (.towPortUp side) s =
      .next (delayAsk side (ringEvent side true ((portOpened side s).setPort side { (portOpened side s).port side with queue := [] }))) := by
  have opens : exec (.towPortUp side) s = .next (delayAsk side (ringEvent side true (portDrain side (portOpened side s)))) :=
    congrArg Host.Outcome.next (if_pos (by simp [tow, down, good]))
  rw [opens, portDrain_empty]
  rw [portOpened, port_setPort]
  exact empty

/-- A DELAY_REQ leaves at once, and no port has changed (R392). -/
theorem delayAsk_flight (side : Side) (s : State) : (delayAsk side s).flight = s.flight ∧ (delayAsk side s).fab = s.fab := by
  unfold delayAsk
  split
  · unfold portSend portForward
    dsimp only
    rw [if_pos (show towClass 3 = 0 from rfl)]
    split <;> exact ⟨rfl, rfl⟩
  · exact ⟨rfl, rfl⟩

theorem setPort_same (side : Side) (q : TowPort) (s : State) : (s.setPort side q).flight.members = s.flight.members ∧
    (s.setPort side q).fab = s.fab ∧ (s.setPort side q).lanes = s.lanes ∧ (s.setPort side q).isGateway = s.isGateway := by
  cases side <;> exact ⟨rfl, rfl, rfl, rfl⟩

theorem member_of_flight {t : State} (same : t.flight = s.flight) (a : Nat) : t.member a = s.member a :=
  congrArg (fun f : Flight => kget ({} : Member) f.members a) same

theorem port_of_flight {t : State} (same : t.flight = s.flight) (side : Side) : t.port side = s.port side := by
  cases side
  · exact congrArg Flight.a same
  · exact congrArg Flight.b same

/-- A port that comes up with nothing waiting, on the gateway. -/
theorem exec_towPortUp_gateway (side : Side) (tow : s.towUp = true) (down : (s.port side).up = false)
    (good : 250 ≤ (s.port side).good) (empty : (s.port side).queue = []) (gateway : s.isGateway = true) :
    ∃ t, exec (.towPortUp side) s = .next t ∧
      t.port side = { s.port side with up := true, ctl := 256, bulk := 512, owedCtl := 0, owedBulk := 0, queue := [] } ∧
      t.flight.members = s.flight.members ∧ t.lanes = s.lanes ∧ t.fab = s.fab := by
  rw [exec_towPortUp side tow down good empty]
  obtain ⟨members, fab, lanes, owner⟩ := setPort_same side
    { s.port side with up := true, ctl := 256, bulk := 512, owedCtl := 0, owedBulk := 0 } s
  obtain ⟨members', fab', lanes', owner'⟩ := setPort_same side { (portOpened side s).port side with queue := [] } (portOpened side s)
  have port : ((portOpened side s).setPort side { (portOpened side s).port side with queue := [] }).port side =
      { s.port side with up := true, ctl := 256, bulk := 512, owedCtl := 0, owedBulk := 0, queue := [] } := by
    rw [port_setPort, portOpened, port_setPort]
  generalize (portOpened side s).setPort side { (portOpened side s).port side with queue := [] } = w at *
  have flight : (ringEvent side true w).flight = w.flight := raise_gateway _ _ ((owner'.trans owner).trans gateway)
  obtain ⟨asked, askedFab⟩ := delayAsk_flight side (ringEvent side true w)
  have event := raise_sameFlight 0x0803 [pack [(0, 0, b2n (side == .b)), (9, 8, 2)]] w
  refine ⟨_, rfl, ?_, ?_, ?_, ?_⟩
  · rw [port_of_flight (asked.trans flight), port]
  · exact (congrArg Flight.members (asked.trans flight)).trans (members'.trans members)
  · have asks : (delayAsk side (ringEvent side true w)).lanes = w.lanes := by simp
    exact asks.trans (lanes'.trans lanes)
  · exact (askedFab.trans event.2).trans (fab'.trans fab)

/-! ## Packets that are no good, and packets sent again (R383, R387) -/

theorem towBad_eq (src : Nat) (s : State) : towBad src s = { s with flight.towBad := min 65535 (s.flight.towBad + 1) }.modMember src
    (fun m => { m with towBad := min 65535 (m.towBad + 1) }) := by
  simp only [towBad, inc16, sat_eq_min]

theorem exec_towPacketBad {side : Side} {bytes : List (BitVec 8)} (tow : s.towUp = true) (up : (s.port side).up = true)
    (bad : ∀ p, towOf bytes = some p → p.flight ≠ s.flightId) : exec (.towPacketBad ⟨side, bytes⟩) s =
      .next (match discarded bytes with
        | some p => freeBuffer p side (towBad (fld (w64 (ofBeBytes (bytes.take 8))) 49 44) s)
        | none => towBad (fld (w64 (ofBeBytes (bytes.take 8))) 49 44) s) := by
  have foreign : (s.towUp && (s.port side).up && !(towOf bytes).any (fun p => p.flight == s.flightId)) = true := by
    cases is : towOf bytes with
    | none => simp [tow, up]
    | some p => simp [tow, up, bad p is]
  exact congrArg Host.Outcome.next (if_pos foreign)

/-- A packet is due to be sent again (R387). -/
def Resends (u : Unacked) (s : State) : Prop :=
  (u.row.any (fun r => decide (r + 40 < s.time.rows)) || u.lapsed s || (u.row.isNone && !u.queued s)) = true

theorem resends_iff (u : Unacked) (s : State) : Resends u s ↔
    (∃ d, u.row = some d ∧ d + 40 < s.time.rows) ∨ u.lapsed s = true ∨ (u.row = none ∧ u.queued s = false) := by
  cases row : u.row <;> simp [Resends, row]

theorem resend_due {i : Nat} {u : Unacked} {sd : Side} (listed : s.flight.unacked[i]? = some u) (due : Resends u s)
    (route : (s.member u.pkt.dst).side = some sd) : resend i s = portSend sd { u.pkt with dir := sd == .b } { unqueue u s with
      flight.unacked := s.flight.unacked.mapIdx (fun j v =>
        if j = i then { pkt := { u.pkt with dir := sd == .b }, row := none } else v) } := by
  unfold Resends at due
  simp only [resend, listed, due, route, if_true]

theorem resend_waits {i : Nat} {u : Unacked} (listed : s.flight.unacked[i]? = some u) (waits : ¬ Resends u s) : resend i s = s := by
  unfold Resends at waits
  simp only [resend, listed, eq_false_of_ne_true waits, Bool.false_eq_true, if_false]

/-! ## Routes and members (R386, R388, R402) -/

theorem routeLapse_spec {a : Nat} (late : (s.member a).rowA + 1000 < s.time.rows) :
    ((routeLapse a .a s).member a).hopsA = none ∧ ((routeLapse a .a s).member a).hopsB = (s.member a).hopsB ∧
    (∀ b, b ≠ a → (routeLapse a .a s).member b = s.member b) ∧ (routeLapse a .a s).fab = s.fab := by
  have lapse : ∀ f : Member → Member, (∀ m, m.rowA + 1000 < s.time.rows → (f m).hopsA = none ∧ (f m).hopsB = m.hopsB) →
      let t := gatewayRule (stampMember s a (s.modMember a f))
      (t.member a).hopsA = none ∧ (t.member a).hopsB = (s.member a).hopsB ∧ (∀ b, b ≠ a → t.member b = s.member b) ∧ t.fab = s.fab := by
    intro f routes
    obtain ⟨none, kept⟩ := routes (s.member a) late
    obtain ⟨stampFab, same, others, -⟩ := stampMember_spec s a (s.modMember a f)
    obtain ⟨members, ruleFab⟩ := gatewayRule_keeps (stampMember s a (s.modMember a f))
    rw [member_modMember_same] at same
    have member : ∀ b, (gatewayRule (stampMember s a (s.modMember a f))).member b = (stampMember s a (s.modMember a f)).member b :=
      fun b => congrArg (fun m => kget ({} : Member) m b) members
    refine ⟨?_, ?_, fun b other => ?_, ?_⟩
    · rw [member]
      exact (congrArg Member.hopsA same).trans none
    · rw [member]
      exact (congrArg Member.hopsB same).trans kept
    · rw [member, others b other, member_modMember_other s f other]
    · rw [ruleFab, stampFab]
      rfl
  refine lapse _ fun m due => ?_
  by_cases routed : m.hopsA.isSome = true
  · simp only [routed, due, and_self, if_true]
    split <;> exact ⟨rfl, rfl⟩
  · have none : m.hopsA = none := Option.not_isSome_iff_eq_none.mp routed
    simp only [routed, Bool.false_eq_true, false_and, if_false]
    split <;> exact ⟨none, rfl⟩

/-- A member that a gateway has lost for 16 frames (R388). -/
theorem memberLost_gateway {a row : Nat} (gateway : s.isGateway = true) (lost : (s.member a).lostAt = some row)
    (up : (s.member a).down = false) (late : row + 4000 < s.time.rows) : memberLost a s =
      memberEvent a 2 (dropMember a (s.modMember a (fun m => { m with down := true, checkedRow := none }))) := by
  simp only [memberLost, lost, up, late, gateway, Bool.not_false, decide_true, Bool.and_self, if_true]

theorem postReply_fwd (r : Reply) (s : State) : (postReply r s).host.fwd = s.host.fwd := by
  unfold postReply
  (repeat' split) <;> rfl

theorem gatewayReply_fwd (r : Reply) (s : State) : (gatewayReply r s).host.fwd = s.host.fwd := by
  unfold gatewayReply flushBcast
  dsimp only
  split
  · exact foldl_keeps (fun t : State => t.host.fwd = s.host.fwd) _ (fun _ _ same => (postReply_fwd _ _).trans same) _ _ rfl
  · exact postReply_fwd r s

theorem dropMember_fwd (a : Nat) (s : State) : (dropMember a s).host.fwd = s.host.fwd.filter (fun f => f.dst != a) :=
  foldl_keeps (fun t : State => t.host.fwd = s.host.fwd.filter (fun f => f.dst != a)) _
    (fun _ _ same => (gatewayReply_fwd _ _).trans same) _ _ rfl

theorem dropMember_flight (a : Nat) (s : State) : (dropMember a s).flight = s.flight := by simp

/-- The outcome of a check as a twin and a keeper know it (R402). -/
theorem certOutcome_spec (a : Nat) (ok : Bool) (s : State) : (certOutcome a ok s).fab = s.fab ∧
    (s.twinOn = true → a = s.partner → (certOutcome a ok s).twin.certOk = ok) := by
  unfold certOutcome
  dsimp only
  by_cases partner : (s.twinOn && a == s.partner) = true
  · rw [if_pos partner]
    split <;> exact ⟨rfl, fun _ _ => rfl⟩
  · rw [if_neg partner]
    have other : s.twinOn = true → a = s.partner → s.twin.certOk = ok := fun on is => absurd (by simp [on, is]) partner
    split <;> exact ⟨rfl, other⟩

/-- A member once the outcome of its check is known, and the device with it (R402). -/
def identityMarked (a : Nat) (ok : Bool) (s : State) : State :=
  stampMember s a (certOutcome a ok
    (s.modMember a (fun m => { m with certOk := ok, faulty := s.isGateway && !ok, checkedRow := some s.time.rows })))

/-- The record of the member, the other records and the device's address, as a check leaves them. -/
theorem identityMarked_spec (a : Nat) (ok : Bool) (s : State) : (identityMarked a ok s).fab = s.fab ∧
    ((identityMarked a ok s).member a).certOk = ok ∧ ((identityMarked a ok s).member a).checkedRow = some s.time.rows ∧
    ((identityMarked a ok s).member a).faulty = (s.isGateway && !ok) ∧
    (∀ b, b ≠ a → (identityMarked a ok s).member b = s.member b) ∧
    (identityMarked a ok s).flight.addr = s.flight.addr ∧
    (s.twinOn = true → a = s.partner → (identityMarked a ok s).twin.certOk = ok) := by
  let checked := fun (m : Member) => { m with certOk := ok, faulty := s.isGateway && !ok, checkedRow := some s.time.rows }
  obtain ⟨fab, cert⟩ := certOutcome_spec a ok (s.modMember a checked)
  obtain ⟨stampFab, stamped, others, rest⟩ := stampMember_spec s a (certOutcome a ok (s.modMember a checked))
  have flight : (certOutcome a ok (s.modMember a checked)).flight = (s.modMember a checked).flight := by simp
  have member : ∀ b, (certOutcome a ok (s.modMember a checked)).member b = (s.modMember a checked).member b :=
    member_of_flight flight
  rw [member, member_modMember_same] at stamped
  refine ⟨stampFab.trans fab, congrArg Member.certOk stamped, congrArg Member.checkedRow stamped, congrArg Member.faulty stamped,
    fun b other => ?_, ?_, fun on is => ?_⟩
  · exact ((others b other).trans (member b)).trans (member_modMember_other s checked other)
  · exact (congrArg (fun t : State => t.flight.addr) rest).trans (by rw [flight]; rfl)
  · exact (congrArg (fun t : State => t.twin.certOk) rest).trans (cert on is)

/-- A check that is due marks the member, and one that fails is told of and ends the member's commands at a gateway (R402). -/
theorem identityCheck_due {a : Nat} {res : IdentResult} (ready : s.ready = true) (verifies : verifies a s = true)
    (present : (s.member a).present = true) (due : (s.member a).checkedRow = none) :
    (identityCheck a res s).flight.members = (identityMarked a (decide (res = .ok)) s).flight.members ∧
    (identityCheck a res s).flight.addr = (identityMarked a (decide (res = .ok)) s).flight.addr ∧
    (identityCheck a res s).twin = (identityMarked a (decide (res = .ok)) s).twin ∧
    (identityCheck a res s).fab = (identityMarked a (decide (res = .ok)) s).fab := by
  have outcome : (identCause res == 0) = decide (res = .ok) := by cases res <;> rfl
  have run : identityCheck a res s = if decide (res = .ok) then identityMarked a (decide (res = .ok)) s
      else if (raise 0x0806 [pack [(5, 0, a), (9, 8, identCause res)]] (identityMarked a (decide (res = .ok)) s)).isGateway then
        dropMember a (raise 0x0806 [pack [(5, 0, a), (9, 8, identCause res)]] (identityMarked a (decide (res = .ok)) s))
      else raise 0x0806 [pack [(5, 0, a), (9, 8, identCause res)]] (identityMarked a (decide (res = .ok)) s) := by
    simp only [identityCheck, ready, verifies, present, due, Bool.and_self, if_true, outcome]
    rfl
  rw [run]
  generalize identityMarked a (decide (res = .ok)) s = u
  have same := raise_sameFlight 0x0806 [pack [(5, 0, a), (9, 8, identCause res)]] u
  split
  · exact ⟨rfl, rfl, rfl, rfl⟩
  · split
    · refine ⟨?_, ?_, by simp, (dropMember_fab ..).trans same.2⟩
      · rw [dropMember_flight]
        exact same.members
      · rw [dropMember_flight]
        exact same.addr
    · exact ⟨same.members, same.addr, by simp, same.2⟩

/-! ## The timing source (R390, R394) -/

theorem exec_backupTimeSource (tow : s.towUp = true) (valid : backupValid s = true) (addressed : s.flight.addressed = true)
    (own : s.flight.addr = backupAddr s) (other : s.flight.addr ≠ s.timeSrc) (still : s.flight.backup = false)
    (late : s.flight.srcRow.getD s.flight.towRow + 16000 < s.time.rows) : exec .backupTimeSource s =
      .next (raise 0x0807 [pack [(5, 0, s.flight.addr)]] (dropSync { s with flight.backup := true })) :=
  congrArg Host.Outcome.next (if_pos (by simp [tow, valid, addressed, own, still, late]; rwa [← own]))

theorem dropSync_active (on : (s.input 24).q ≠ .off) (fresh : (s.input 24).actNew = none) (active : (s.input 24).active = true) :
    dropSync s = State.modInput { s with flight.syncOk := false } 24 (fun i => { i with actNew := some false, dirtySec := true }) := by
  have drops : ¬ ((s.input 24).q = .off ∨ (s.input 24).actNew.getD (s.input 24).active = false) := by
    simp [on, fresh, active]
  exact congrArg (fun i : Input => { s with refs := kset {} s.refs 24 i, flight.syncOk := false }) (if_neg drops)

end

/-- Settles O46: each event of the ring by the condition that lets it act. The times of identity checks, the credits of a packet with a right
header and the rows that a line report stands for are log entries 60, 107 and 108. -/
theorem ringAndMembersChange : Obligations.RingAndMembersChange := by
  intro side s tow
  refine ⟨fun up remote lock => ?_, fun down few => ?_, fun up lost => ?_, fun down good empty gateway => ?_,
    fun bytes up bad => ?_, fun bytes p is own => ?_, fun i u sd listed due route => ?_, fun i u listed fresh queued kept => ?_,
    fun a in_ late => ?_, fun a row in_ gateway lost up late => ?_, fun valid addressed own other still late => ?_,
    fun ok late on fresh active => ?_, fun enumerated unaddressed late => ?_, fun a res in_ ready verifies present unchecked => ?_⟩
  · exact congrArg Host.Outcome.next (if_neg (by simp [tow, up, remote]; omega))
  · exact congrArg Host.Outcome.next (if_neg (by simp [tow, down]; omega))
  · rw [exec_towPortDown side tow up lost]
    obtain ⟨members, fab, -⟩ := setPort_same side { s.port side with up := false } s
    have event := raise_sameFlight 0x0803 [pack [(0, 0, b2n (side == .b)), (9, 8, 1)]] (s.setPort side { s.port side with up := false })
    have ups := raise_up 0x0803 [pack [(0, 0, b2n (side == .b)), (9, 8, 1)]] (s.setPort side { s.port side with up := false })
    refine ⟨_, rfl, (ups.port side).trans ?_, event.members.trans members, by simp, event.2.trans fab⟩
    rw [port_setPort]
  · obtain ⟨t, run, port, members, lanes, fab⟩ := exec_towPortUp_gateway side tow down good empty gateway
    rw [run]
    exact ⟨t, rfl, by rw [port], by rw [port], by rw [port], members, lanes, fab⟩
  · intro u
    have counts : towBad (fld (w64 (ofBeBytes (bytes.take 8))) 49 44) s = u := towBad_eq ..
    rw [exec_towPacketBad tow up bad, counts]
    exact ⟨fun none => by rw [none], fun p some => by rw [some]⟩
  · exact congrArg Host.Outcome.next (if_neg (by simp [is, own]))
  · have run : exec (.towResend i) s = .next (resend i s) := congrArg Host.Outcome.next (if_pos tow)
    rw [run, resend_due listed ((resends_iff u s).mpr due) route]
  · have run : exec (.towResend i) s = .next (resend i s) := congrArg Host.Outcome.next (if_pos tow)
    rw [run, resend_waits listed]
    rw [resends_iff]
    simp [fresh, queued, kept]
  · obtain ⟨lapsed, kept, others, fab⟩ := routeLapse_spec late
    exact ⟨_, if_neg (Nat.not_le.mpr in_), lapsed, kept, others, by simp [routeLapse], fab⟩
  · have run : exec (.memberUnreachable a) s = .next (memberLost a s) := if_neg (Nat.not_le.mpr in_)
    rw [memberLost_gateway gateway lost up late] at run
    have member := member_of_flight (dropMember_flight a (s.modMember a (fun m => { m with down := true, checkedRow := none })))
    refine ⟨_, run, ?_, dropMember_fwd a _, fun b other => ?_, by simp, dropMember_fab a _⟩
    · exact congrArg Member.down ((member a).trans (member_modMember_same ..))
    · exact (member b).trans (member_modMember_other s _ other)
  · rw [exec_backupTimeSource tow valid addressed own other still late]
    obtain ⟨flight, fab⟩ := raise_sameFlight 0x0807 [pack [(5, 0, s.flight.addr)]] (dropSync { s with flight.backup := true })
    refine ⟨_, rfl, ?_, ?_, by simp, fab⟩ <;> rw [flight] <;> rfl
  · exact congrArg Host.Outcome.next ((if_pos (by simp [ok, late])).trans (dropSync_active on fresh active))
  · exact congrArg Host.Outcome.next (if_pos (by simp [tow, enumerated, unaddressed, late]))
  · obtain ⟨members, addr, twin, fab⟩ := identityCheck_due (res := res) ready verifies present unchecked
    obtain ⟨markedFab, cert, row, faulty, others, markedAddr, partner⟩ := identityMarked_spec a (decide (res = .ok)) s
    have member : ∀ b, (identityCheck a res s).member b = (identityMarked a (decide (res = .ok)) s).member b :=
      fun b => congrArg (fun m => kget ({} : Member) m b) members
    refine ⟨_, if_neg (Nat.not_le.mpr in_), ?_, ?_, fun b other => ?_, fun failed other gateway => ?_, fun on is => ?_, by simp,
      fab.trans markedFab⟩
    · rw [member, cert]
    · rw [member, row]
    · rw [member, others b other]
    · have other' : a ≠ (identityCheck a res s).flight.addr := by rwa [addr, markedAddr]
      rw [State.reachable, member, faulty, gateway, decide_eq_false other', decide_eq_false failed]
      simp
    · rw [twin, partner on is]

end Sys2Proof
end

section
/-! Arbitration in the control matrix (R410, R411, R414 to R416): requests move from their port to those outstanding, and none is lost. -/

namespace Sys2Proof

open Sys2Proof.Machine

/-! ## The first of a list taken out -/

theorem dropFirst_eq_erase {α : Type} [DecidableEq α] (w : α) (l : List α) : dropFirst (fun x => decide (x = w)) l = l.erase w := by
  induction l with
  | nil => rfl
  | cons x xs ih => by_cases same : x = w <;> simp [dropFirst, same, ih]

/-- The first element that satisfies p taken out: the others that do are as they were, in their order. -/
theorem filter_eq_cons_erase {α : Type} [DecidableEq α] {p : α → Bool} {w : α} {l : List α} (first : l.find? p = some w) :
    l.filter p = w :: (l.erase w).filter p := by
  induction l with
  | nil => exact absurd first nofun
  | cons x xs ih =>
    by_cases holds : p x = true
    · obtain rfl : x = w := Option.some.inj ((List.find?_cons_of_pos holds).symm.trans first)
      rw [List.filter_cons_of_pos holds, List.erase_cons_head]
    · have other : x ≠ w := fun same => holds (same ▸ List.find?_some first)
      rw [List.find?_cons_of_neg holds] at first
      rw [List.filter_cons_of_neg holds, ih first, List.erase_cons_tail (by simpa using other), List.filter_cons_of_neg holds]

/-- An element that does not satisfy p taken out. -/
theorem filter_erase_other {α : Type} [DecidableEq α] {p : α → Bool} {w : α} {l : List α} (other : p w = false) :
    (l.erase w).filter p = l.filter p := by
  induction l with
  | nil => rfl
  | cons x xs ih =>
    by_cases same : x = w
    · rw [same, List.erase_cons_head, List.filter_cons_of_neg (ne_true_of_eq_false other)]
    · rw [List.erase_cons_tail (by simpa using same), List.filter_cons, List.filter_cons, ih]

/-! ## The requests of a master -/

/-- The requests of a master: those outstanding, and those that wait at its port. -/
def requestsOf (m : Nat) (s : State) : List MReq := (s.outOf m).map (·.req) ++ s.mx.wait.filter (fun w => w.master == m)

/-- From s to t the matrix has issued requests: those outstanding stay in place, a master in ordered mode keeps the order of its requests, and
every master keeps them all. -/
structure Issues (s t : State) : Prop where
  only : t = { s with mx := t.mx }
  tagged : t.mx.tagged = s.mx.tagged
  out : ∃ new, t.mx.out = s.mx.out ++ new
  ordered : ∀ m, s.mx.tagged.contains m = false → requestsOf m t = requestsOf m s
  kept : ∀ m, (requestsOf m t).Perm (requestsOf m s)

/-- Nothing but arbitration's own marks differs: the slots, the deficits and the master served last. -/
def SameRequests (s t : State) : Prop :=
  t = { s with mx := t.mx } ∧ t.mx.tagged = s.mx.tagged ∧ t.mx.out = s.mx.out ∧ t.mx.wait = s.mx.wait

theorem SameRequests.issues {s t : State} (h : SameRequests s t) : Issues s t := by
  obtain ⟨only, tagged, out, wait⟩ := h
  have same : ∀ m, requestsOf m t = requestsOf m s := fun m => by
    rw [requestsOf, requestsOf, State.outOf, State.outOf, out, wait]
  exact ⟨only, tagged, ⟨[], by rw [out, List.append_nil]⟩, fun m _ => same m, fun m => .of_eq (same m)⟩

theorem Issues.refl (s : State) : Issues s s := SameRequests.issues ⟨rfl, rfl, rfl, rfl⟩

theorem Issues.trans {s t u : State} (h : Issues s t) (k : Issues t u) : Issues s u := by
  obtain ⟨new, out⟩ := h.out
  obtain ⟨new', out'⟩ := k.out
  refine ⟨?_, k.tagged.trans h.tagged, ⟨new ++ new', by rw [out', out, List.append_assoc]⟩, fun m inOrder => ?_,
    fun m => (k.kept m).trans (h.kept m)⟩
  · rw [k.only, h.only]
  · exact (k.ordered m (by rwa [h.tagged])).trans (h.ordered m inOrder)

theorem Issues.foldl {β : Type} {g : State → β → State} (step : ∀ s b, Issues s (g s b)) (l : List β) (s : State) :
    Issues s (l.foldl g s) :=
  foldl_keeps (Issues s) g (fun t b h => h.trans (step t b)) l s (.refl s)

/-! ## A grant -/

section
variable {m t : Nat} {s : State} {w : MReq}

/-- What a master presents waits at its port, and in ordered mode it is the first there (R410, R411). -/
theorem offers_waits (offer : offers m t s = some w) : w ∈ s.mx.wait ∧ w.master = m ∧
    (s.mx.tagged.contains m = false → s.mx.wait.find? (fun x => x.master == m) = some w) := by
  unfold offers at offer
  split at offer
  next tagged =>
    have fits := List.find?_some offer
    simp only [Bool.and_eq_true, beq_iff_eq] at fits
    obtain ⟨⟨own, -⟩, -⟩ := fits
    exact ⟨List.mem_of_find?_eq_some offer, own, fun inOrder => absurd tagged (ne_true_of_eq_false inOrder)⟩
  next =>
    have first : s.mx.wait.find? (fun x => x.master == m) = some w := (Option.filter_eq_some_iff.mp offer).1
    exact ⟨List.mem_of_find?_eq_some first, by simpa using List.find?_some first, fun _ => first⟩

theorem grantHead_issues (m t : Nat) (s : State) : Issues s (grantHead m t s) := by
  cases offer : offers m t s with
  | none =>
    rw [grantHead, offer]
    exact .refl s
  | some w =>
    obtain ⟨waits, own, first⟩ := offers_waits offer
    have granted : (grantHead m t s).mx.wait = s.mx.wait.erase w ∧
        (grantHead m t s).mx.out = s.mx.out ++ [{ req := w, row := s.time.rows }] ∧
        (grantHead m t s).mx.tagged = s.mx.tagged ∧ grantHead m t s = { s with mx := (grantHead m t s).mx } := by
      rw [← dropFirst_eq_erase, grantHead, offer]
      exact ⟨rfl, rfl, rfl, rfl⟩
    obtain ⟨wait, out, tagged, only⟩ := granted
    have mine : requestsOf m (grantHead m t s) =
        (s.outOf m).map (·.req) ++ w :: (s.mx.wait.erase w).filter (fun x => x.master == m) := by
      simp [requestsOf, State.outOf, out, wait, own]
    have others : ∀ k, k ≠ m → requestsOf k (grantHead m t s) = requestsOf k s := by
      intro k other
      have foreign : (w.master == k) = false := by simpa [own] using other.symm
      simp only [requestsOf, State.outOf, out, wait, List.filter_append, List.filter_cons, foreign, Bool.false_eq_true, if_false,
        List.filter_nil, List.append_nil, filter_erase_other (p := fun x : MReq => x.master == k) foreign]
    refine ⟨only, tagged, ⟨_, out⟩, fun k inOrder => ?_, fun k => ?_⟩
    · by_cases is : k = m
      · subst is
        rw [mine, requestsOf, filter_eq_cons_erase (first inOrder)]
      · exact others k is
    · by_cases is : k = m
      · subst is
        rw [mine, requestsOf]
        refine List.Perm.append_left _ ?_
        have perm := (List.perm_cons_erase waits).filter (fun x => x.master == k)
        rw [List.filter_cons_of_pos (p := fun x : MReq => x.master == k) (beq_iff_eq.mpr own)] at perm
        exact perm.symm
      · exact .of_eq (others k is)

end

/-! ## Arbitration -/

theorem visit_issues (m t n : Nat) (s : State) : Issues s (visit m t n s) := by
  induction n generalizing s with
  | zero => exact .refl s
  | succ n ih =>
    unfold visit
    split
    · split
      · exact (grantHead_issues m t s).trans (ih _)
      · exact .refl s
    · exact .refl s

theorem round_issues (t : Nat) (s : State) : Issues s (round t s) := by
  have opened : Issues s (openRound t s) := SameRequests.issues ⟨rfl, rfl, rfl, rfl⟩
  exact opened.trans (.foldl (fun s i => visit_issues _ t _ s) _ _)

theorem rounds_issues (t n : Nat) (s : State) : Issues s (rounds t n s) := by
  induction n generalizing s with
  | zero => exact .refl s
  | succ n ih =>
    unfold rounds
    split
    · exact (round_issues t s).trans (ih _)
    · exact .refl s

theorem arbitrate_issues (s : State) : Issues s (arbitrate s) := .foldl (fun s t => rounds_issues t _ s) _ s

theorem slotSeen_same (a : Nat) (free : Bool) (s : State) : SameRequests s (slotSeen a free s) := by
  unfold slotSeen
  dsimp only
  (repeat' split) <;> exact ⟨rfl, rfl, rfl, rfl⟩

/-- Settles O47: the request joins its master's at the port, and what arbitration then does keeps every request. -/
theorem matrixKeepsEveryRequest : Obligations.MatrixKeepsEveryRequest := by
  intro r slot s master id on held good reached
  let q := { r with orphan := false }
  have run : matrixRequest r slot s =
      arbitrate { slotSeen r.addr slot s with mx.wait := (slotSeen r.addr slot s).mx.wait ++ [q] } := by
    rw [State.masterHeld] at held
    simp only [matrixRequest, held, good, reached, ne_eq, not_true_eq_false, Bool.false_eq_true, if_false]
    rfl
  obtain ⟨seen, tagged, out, wait⟩ := slotSeen_same r.addr slot s
  have issues := arbitrate_issues { slotSeen r.addr slot s with mx.wait := (slotSeen r.addr slot s).mx.wait ++ [q] }
  have due : ∀ m, requestsOf m { slotSeen r.addr slot s with mx.wait := (slotSeen r.addr slot s).mx.wait ++ [q] } =
      (s.outOf m).map (·.req) ++ s.mx.wait.filter (fun w => w.master == m) ++ (if m = r.master then [q] else []) := by
    intro m
    have joins : [q].filter (fun w => w.master == m) = if m = r.master then [q] else [] := by
      by_cases is : m = r.master
      · simp [is, q]
      · simp [is, Ne.symm is, q]
    simp only [requestsOf, State.outOf, out, wait, List.filter_append, List.append_assoc, joins]
  rw [← run] at issues
  refine ⟨_, exec_matrixRequest slot master id on, fun m => ⟨fun inOrder => ?_, ?_⟩, ?_, ?_⟩
  · exact (issues.ordered m (by rwa [tagged])).trans (due m)
  · exact (issues.kept m).trans (.of_eq (due m))
  · obtain ⟨new, more⟩ := issues.out
    exact ⟨new, more.trans (by rw [out])⟩
  · rw [issues.only, seen]

end Sys2Proof
end

section
/-! The counters' commands and steps (R428 to R440). -/

namespace Sys2Proof

open Sys2Proof.Machine

/-! ## A counter store that is not reached -/

/-- Target T2, the counter store, is wedged, and counter 0 has counted an event past its limit. -/
def countersUnreached : State :=
  { State.reset with mx.wedged := [2], ctr.ctrs := [(0, { value := 2 ^ 48 - 1, ev := 1 })] }

/-- The counter engine does not reach the counter store, and adds nothing (R19). -/
theorem exec_counterOverflow_unreached : exec (.counterOverflow 0) countersUnreached = .next countersUnreached := rfl

/-- Refutes O49: its clause on COUNTER_OVERFLOW has no premise that the counter engine reaches the counter store. With target T2 wedged the
command changes nothing (R19), and the event of the row still stands. -/
theorem not_countersAndPeriods : ¬ Obligations.CountersAndPeriods := by
  intro h
  obtain ⟨overflow, -⟩ := h countersUnreached
  obtain ⟨t, run, -, -, added, -⟩ := overflow 0 (by decide) (by decide) (by decide)
  obtain rfl : countersUnreached = t := Host.Outcome.next.inj (exec_counterOverflow_unreached.symm.trans run)
  exact absurd added (by decide)

/-! ## Commands that wait for their frame -/

section
variable {b : Nat} {r : Run} {s : State}

theorem bank_modBank_same (s : State) (b : Nat) (f : Bank → Bank) : (s.modBank b f).bank b = f (s.bank b) := kget_kset_same ..

theorem bank_modBank_other (s : State) {a b : Nat} (f : Bank → Bank) (other : a ≠ b) : (s.modBank b f).bank a = s.bank a :=
  kget_kset_other _ _ _ other

theorem later_bank (r : Run) (s : State) (b : Nat) : (later r s).bank b = s.bank b := rfl

theorem pendReconf_busy {p : CtrPend} (waits : (s.bank b).pend = some p) : pendReconf b r s = finish r stBusy [] s := by
  simp [pendReconf, waits]

/-- What a reconfiguration that begins to wait leaves (R431). -/
theorem pendReconf_waits (none : (s.bank b).pend = none) : (pendReconf b r s).host.prog = s.host.prog ++ [r] ∧
    ((pendReconf b r s).bank b).pend =
      some { key := r.key, at_ := effectFrame b r s, boundary := r.at_ == 0, words := r.cmd.params } ∧
    (∀ k, k ≠ b → (pendReconf b r s).bank k = s.bank k) ∧ (pendReconf b r s).ctr.ctrs = s.ctr.ctrs ∧
    (pendReconf b r s).lanes = s.lanes := by
  have waits : pendReconf b r s = later r (s.modBank b (fun k => { k with
      pend := some { key := r.key, at_ := effectFrame b r s, boundary := r.at_ == 0, words := r.cmd.params } })) := by
    simp [pendReconf, none]
  rw [waits]
  refine ⟨rfl, ?_, fun k other => ?_, rfl, rfl⟩
  · rw [later_bank, bank_modBank_same]
  · rw [later_bank, bank_modBank_other s _ other]

end

/-- CTR_CFG changes the protection of its bank through a queue that may not (R438). -/
def ctrProtects (r : Run) (s : State) : Bool :=
  ccSetBank (r.cmd.p 0) && bit (r.cmd.p 1) 30 != bit (s.bank (ccBank (r.cmd.p 0))).w 30 && privOf r.key s != 2

/-- CTR_CFG with its parameters in range, once its protection has been judged. -/
def ctrConfigures (r : Run) (s : State) : State :=
  if ccCancel (r.cmd.p 0) then
    match (s.bank (ccBank (r.cmd.p 0))).pend with
    | some p => finish r stOk [] (finishKey p.key stWithdrawn [] (s.modBank (ccBank (r.cmd.p 0)) (fun k => { k with pend := none })))
    | none => finish r stOk [] s
  else pendReconf (ccBank (r.cmd.p 0)) r s

theorem exec_ctrCfg {r : Run} {s : State} (held : Held 0x0901 r s) (good : ctrCfgBad r = false) : exec .ctrCfg s =
    .next (if ctrProtects r s then finish r stPrivilege [] (idle s) else ctrConfigures r (idle s)) := by
  change execCtrCfg s = _
  exact held.has.answers (if_neg (ne_true_of_eq_false good))

/-- Settles O50: each command by its meaning where its fields are in range. The privilege of a command that a CMD packet brought is log
entry 25. -/
theorem counterCommandsWait : Obligations.CounterCommandsWait := by
  intro r s
  refine ⟨fun held good => ⟨fun sets protection priv => ?_, fun allowed => ?_⟩, fun held rest range => ?_,
    fun held rest scopes broadcast => ?_⟩
  · have refused : ctrProtects r s = true := by simp [ctrProtects, sets, protection, priv]
    rw [exec_ctrCfg held good, if_pos refused]
  · have free : ctrProtects r s = false := by
      simp only [ctrProtects, Bool.and_eq_false_iff, bne_eq_false_iff_eq]
      by_cases sets : ccSetBank (r.cmd.p 0) = true
      · rcases allowed sets with same | priv
        · exact .inl (.inr same)
        · exact .inr priv
      · exact .inl (.inl (eq_false_of_ne_true sets))
    have run := exec_ctrCfg held good
    rw [if_neg (ne_true_of_eq_false free)] at run
    refine ⟨fun p keep waits => ?_, fun keep none => ?_, fun p x cancel waits listed => ?_⟩
    · rw [run, ctrConfigures, keep]
      exact congrArg _ (pendReconf_busy (s := idle s) waits)
    · have configures : ctrConfigures r (idle s) = pendReconf (ccBank (r.cmd.p 0)) r (idle s) :=
        if_neg (ne_true_of_eq_false keep)
      rw [run, configures]
      exact ⟨_, rfl, pendReconf_waits (s := idle s) none⟩
    · refine ⟨(idle s).modBank (ccBank (r.cmd.p 0)) (fun k => { k with pend := none }), ?_,
        congrArg Bank.pend (bank_modBank_same ..), rfl⟩
      have found : ((idle s).bank (ccBank (r.cmd.p 0))).pend = some p := waits
      have listed' : ((idle s).modBank (ccBank (r.cmd.p 0)) (fun k => { k with pend := none })).run p.key = some x := listed
      rw [run, ctrConfigures, if_pos cancel, found]
      exact congrArg (fun t => Host.Outcome.next (finish r stOk [] t)) (finishKey_run listed' ..)
  · have run : exec .fixedCfg s = .next (pendReconf 16 r (idle s)) := by
      change execFixedCfg s = _
      refine held.has.answers (if_neg ?_)
      simp only [held.size, rest, Bool.not_true, bne_self_eq_false, Bool.false_or]
      simp
      omega
    rw [run]
    refine ⟨fun none => ?_, fun p waits => congrArg _ (pendReconf_busy (s := idle s) waits)⟩
    obtain ⟨prog, waits, others, -, lanes⟩ := pendReconf_waits (r := r) (s := idle s) (b := 16) none
    exact ⟨_, rfl, prog, waits, others, lanes⟩
  · change execCtrSnapshot s = _
    refine held.has.answers ((if_neg ?_).trans rfl)
    simp [held.size, rest, scopes]
    exact broadcast

end Sys2Proof
end

section
/-! SUPPORT. What a re-initialisation discards and restores (Table 17.1): the recovery ladder and the matrix are left as they were. -/

namespace Sys2Proof.Machine

open Sys2Proof

/-- The recovery ladder and the matrix are as they were. -/
def SameLadder (s t : State) : Prop := t.rcv = s.rcv ∧ t.mx = s.mx

theorem SameLadder.refl (s : State) : SameLadder s s := ⟨rfl, rfl⟩

theorem SameLadder.then {s t u : State} (h : SameLadder s t) (k : SameLadder t u) : SameLadder s u :=
  ⟨k.1.trans h.1, k.2.trans h.2⟩

theorem SameLadder.foldl {β : Type} {g : State → β → State} (step : ∀ s b, SameLadder s (g s b)) (l : List β) (s : State) :
    SameLadder s (l.foldl g s) :=
  foldl_keeps (SameLadder s) g (fun t b h => h.then (step t b)) l s (.refl s)

/-! ## Commands and plans that end -/

@[simp] theorem endRun_ladder (status : Nat) (r : Run) (s : State) :
    (endRun status r s).rcv = s.rcv ∧ (endRun status r s).mx = s.mx := by
  simp [endRun]

@[simp] theorem sendTwin_ladder (type gen frame acked : Nat) (ws : List SlotWrite) (s : State) :
    (sendTwin type gen frame acked ws s).rcv = s.rcv ∧ (sendTwin type gen frame acked ws s).mx = s.mx := by
  rw [sendTwin_only]
  exact ⟨rfl, rfl⟩

@[simp] theorem dropDeltas_ladder (c : Delta → Bool) (s : State) :
    (dropDeltas c s).rcv = s.rcv ∧ (dropDeltas c s).mx = s.mx := ⟨rfl, rfl⟩

@[simp] theorem endPlan_ladder (p : Plan) (status : Nat) (s : State) :
    (endPlan p status s).rcv = s.rcv ∧ (endPlan p status s).mx = s.mx := by
  unfold endPlan
  dsimp only
  (repeat' split) <;> simp

theorem withdrawAll_ladder (s : State) : SameLadder s (withdrawAll s) := by
  simp only [withdrawAll, discardOpen, withdrawFrom]
  split
  · exact ⟨rfl, rfl⟩
  · next p ps _ =>
    refine .then ?_ (.foldl (fun s q => endPlan_ladder q stWithdrawn s) ps _)
    exact endPlan_ladder ..

/-! ## The partner's checkpoint, and roles -/

@[simp] theorem armReady_ladder (s : State) : (armReady s).rcv = s.rcv ∧ (armReady s).mx = s.mx := by
  simp only [armReady, sendFix, modPlan]
  (repeat' split) <;> simp

theorem releaseDrops_ladder (c : DropWait → Bool) (s : State) : SameLadder s (releaseDrops c s) := by
  unfold releaseDrops SameLadder
  constructor
  · rw [foldl_same (fun s : State => s.rcv) _ (fun s w => by dsimp only; split <;> simp)]
  · rw [foldl_same (fun s : State => s.mx) _ (fun s w => by dsimp only; split <;> simp)]

theorem peerLost_ladder (cause : Nat) (s : State) : SameLadder s (peerLost cause s) := by
  unfold peerLost
  split
  · obtain ⟨ready, readyMx⟩ := armReady_ladder
      (releaseDrops (fun _ => true) (forgetAcks { s with ckpt.peer := false, ckpt.ev := some (false, cause) }))
    obtain ⟨released, releasedMx⟩ := releaseDrops_ladder (fun _ => true)
      (forgetAcks { s with ckpt.peer := false, ckpt.ev := some (false, cause) })
    exact ⟨ready.trans released, readyMx.trans releasedMx⟩
  · exact .refl s

theorem withdrawRoleRuns_ladder (s : State) : SameLadder s (withdrawRoleRuns s) := by
  have runs := fun (rs : List Run) (t : State) => SameLadder.foldl (fun s r => endRun_ladder stWithdrawn r s) rs t
  have engine : SameLadder s (match s.host.engine with
    | some r => if (r.cmd.role != 0 && r.cmd.role - 1 != s.twin.role.adv) || (!s.isActive && activeOps.contains r.cmd.opcode) then
        withdrawRun r { s with host.engine := none } else s
    | none => s) := by
    split
    · split
      · exact endRun_ladder ..
      · exact .refl s
    · exact .refl s
  exact engine.then (runs _ _)

theorem sendFullReq_ladder (s : State) : SameLadder s (sendFullReq s) := by
  unfold sendFullReq
  split
  · exact .refl s
  · exact sendTwin_ladder ..

theorem enterSyncing_ladder (s : State) : SameLadder s (enterRole .syncing s) := by
  obtain ⟨rcv, mx⟩ := sendFullReq_ladder (emptySlots (stopDie { s with ckpt.synced := false, twin.rwtrDue := none }))
  exact ⟨rcv, mx⟩

/-- A standby returns to SYNCING. -/
theorem setRole_syncing_ladder {s : State} (cause : Nat) (stands : s.twin.role.standsBy = true) :
    SameLadder s (setRole .syncing cause s) := by
  have idle : s.isActive = false := by
    unfold State.isActive
    cases role : s.twin.role <;> simp [role, Role.standsBy] at stands ⊢
  have other : s.twin.role ≠ .syncing := fun same => by simp [same, Role.standsBy] at stands
  have noted : SameLadder s (roleNoted .syncing cause s) := ⟨rfl, rfl⟩
  have left : activeLeft s.isActive (roleNoted .syncing cause s) = roleNoted .syncing cause s := by
    rw [idle]
    rfl
  rw [setRole_other other, left]
  generalize roleNoted .syncing cause s = t at noted
  exact noted.then ((enterSyncing_ladder t).then (withdrawRoleRuns_ladder _))

/-! ## Lanes -/

theorem modLane_ladder (i : Nat) (f : Lane → Lane) (s : State) : SameLadder s (s.modLane i f) := ⟨rfl, rfl⟩

theorem modOctet_ladder (k : Nat) (f : Octet → Octet) (s : State) : SameLadder s (s.modOctet k f) := ⟨rfl, rfl⟩

theorem swapRx_ladder (k : Nat) (s : State) : SameLadder s (swapRx k s) :=
  .foldl (fun t _ => modLane_ladder _ _ t) _ s

theorem setOctet_ladder (k : Nat) (f : Octet → Octet) (s : State) : SameLadder s (setOctet k f s) := by
  unfold setOctet
  dsimp only
  split
  · exact modOctet_ladder k f s
  · exact (modOctet_ladder k f s).then (swapRx_ladder k _)

theorem settleOctet_ladder (k : Nat) (s : State) : SameLadder s (settleOctet k s) := by
  have settled : ∀ t : State, SameLadder s t → ∀ (c : Prop) [Decidable c],
      SameLadder s (if c then setOctet k Octet.undecided t else t) := by
    intro t same c _
    split
    · exact same.then (setOctet_ladder ..)
    · exact same
  unfold settleOctet
  refine settled _ ?_ _
  split
  · exact .refl s
  · split
    · exact setOctet_ladder ..
    · exact .refl s

theorem dropVotes_ladder (i : Nat) (s : State) : SameLadder s (dropVotes i s) := ⟨rfl, rfl⟩

theorem laneOff_ladder (k i : Nat) (s : State) : SameLadder s (settleOctet k (dropVotes i (s.modLane i Lane.toOff))) :=
  settleOctet_ladder k (dropVotes i (s.modLane i Lane.toOff))

theorem admitLane_ladder (i : Nat) (s : State) : SameLadder s (admitLane i s) := by
  unfold admitLane
  dsimp only
  (repeat' split)
  · exact ⟨rfl, rfl⟩
  · exact .refl s
  · exact .refl s
  · exact laneOff_ladder ..

theorem modInputs_ladder (f : Nat → Input → Input) (s : State) : SameLadder s (modInputs f s) := by
  refine .foldl (fun s n => ?_) _ s
  split <;> exact ⟨rfl, rfl⟩

/-! ## What is discarded and restored -/

theorem discardCmd_ladder (s : State) : SameLadder s (discardCmd s) := by
  unfold discardCmd SameLadder
  dsimp only
  constructor
  · rw [foldl_same (fun s : State => s.rcv) _ (fun s r => by simp)]
  · rw [foldl_same (fun s : State => s.mx) _ (fun s r => by simp)]

theorem discardTow_ladder (s : State) : SameLadder s (discardTow s) := by
  unfold discardTow SameLadder
  dsimp only
  constructor
  · rw [foldl_same (fun s : State => s.rcv) _ (fun s q => by simp)]
  · rw [foldl_same (fun s : State => s.mx) _ (fun s q => by simp)]

theorem discardCkpt_ladder (s : State) : SameLadder s (discardCkpt s) := by
  have standby : ∀ t : State, SameLadder s t → SameLadder s
      (if t.twin.role.standsBy && !t.handoverHeld then setRole .syncing 12 t else t) := by
    intro t same
    split
    · next stands => exact same.then (setRole_syncing_ladder 12 (Bool.and_eq_true_iff.mp stands).1)
    · exact same
  unfold discardCkpt
  split
  · exact peerLost_ladder 8 s
  · refine standby _ ?_
    split <;> exact ⟨rfl, rfl⟩

theorem discardLanes_ladder (k : Nat) (s : State) : SameLadder s (discardLanes k s) :=
  .then (.foldl (fun t i => dropVotes_ladder i (t.modLane i Lane.toOff)) _ s) (settleOctet_ladder k _)

theorem discard_ladder (f : Nat) (s : State) : SameLadder s (discard f s) := by
  unfold discard
  split
  · exact discardCmd_ladder s
  · exact .refl s
  · exact discardTow_ladder s
  · exact discardCkpt_ladder s
  · exact withdrawAll_ladder s
  · exact .refl s
  · exact modInputs_ladder _ s
  · exact .refl s
  · exact discardLanes_ladder _ s

theorem restore_ladder (f : Nat) (s : State) : SameLadder s (restore f s) := by
  unfold restore
  split
  · split
    · exact sendFullReq_ladder s
    · exact .refl s
  · exact ⟨rfl, rfl⟩
  · exact modInputs_ladder _ s
  · split
    · exact .foldl (fun s p => admitLane_ladder _ s) _ s
    · exact .refl s

end Sys2Proof.Machine
end

section
/-! O51 RecoveryActs. -/

namespace Sys2Proof.Machine

open Sys2Proof

/-! ## A re-initialisation begins -/

/-- The ladder's record of a re-initialisation that begins, with its event of no duration. -/
def reinitNoted (r : Reinit) (s : State) : Recov :=
  { s.rcv with deferred := s.rcv.deferred.filter (fun x => x.f != r.f), down := s.rcv.down ++ [{ r with row := s.time.rows }],
               wedged := s.rcv.wedged.filter (· ≠ r.f),
               evq := s.rcv.evq ++ [(0x0A02, r.f, [pack [(6, 0, r.f), (9, 8, 1), (16, 16, b2n r.key.isSome)], 0])] }

/-- The function is down and the arbiters of its targets hold no deficit. -/
def reinitHeld (r : Reinit) (s : State) : State :=
  { s with rcv := reinitNoted r s,
           mx.deficit := s.mx.deficit.filter (fun d => !(ownedTargets r.f).contains (d.1 / 8)),
           mx.last := s.mx.last.filter (fun d => !(ownedTargets r.f).contains d.1) }

theorem reinitEvent_begins (r : Reinit) (s : State) : reinitEvent r 1 0 s =
    { s with rcv.evq := s.rcv.evq ++ [(0x0A02, r.f, [pack [(6, 0, r.f), (9, 8, 1), (16, 16, b2n r.key.isSome)], 0])] } := by
  have none : (if Config.roundUp (0 : Nat) 2 then (0 + 1) / 2 else 0 / 2) = 0 := ite_self 0
  simp only [reinitEvent, recoveryEvent, none]
  rfl

theorem beginReinit_eq {r : Reinit} {s : State} (up : s.fnDown r.f = false) :
    beginReinit r s = discard r.f (if r.f < 7 then resetMaster r.f (reinitHeld r s) else reinitHeld r s) := by
  rw [beginReinit, if_neg (ne_true_of_eq_false up)]
  dsimp only
  rw [reinitEvent_begins]
  rfl

/-- What begins is noted in the ladder, its targets' arbiters are cleared and the clock stands. -/
theorem beginReinit_notes {r : Reinit} {s : State} (up : s.fnDown r.f = false) :
    (beginReinit r s).rcv = reinitNoted r s ∧ (beginReinit r s).time.rows = s.time.rows ∧
      ∀ d ∈ (beginReinit r s).mx.deficit, d.1 / 8 ∉ ownedTargets r.f := by
  have held : ∀ d ∈ (reinitHeld r s).mx.deficit, d.1 / 8 ∉ ownedTargets r.f := by
    intro d mem
    simpa using (List.mem_filter.mp mem).2
  obtain ⟨u, reset, rcv, time, deficit⟩ : ∃ u, (if r.f < 7 then resetMaster r.f (reinitHeld r s) else reinitHeld r s) = u ∧
      u.rcv = reinitNoted r s ∧ u.time = s.time ∧ ∀ d ∈ u.mx.deficit, d ∈ (reinitHeld r s).mx.deficit := by
    by_cases master : r.f < 7
    · exact ⟨_, if_pos master, rfl, rfl, fun d mem => List.mem_of_mem_filter mem⟩
    · exact ⟨_, if_neg master, rfl, rfl, fun d mem => mem⟩
  obtain ⟨rcv', mx'⟩ := discard_ladder r.f u
  have clock := congrArg (fun c => c.2.2) (discard_clock r.f u)
  rw [beginReinit_eq up, reset, rcv', mx', ← rcv]
  exact ⟨rfl, clock.trans (congrArg TimeBase.rows time), fun d mem => held d (deficit d mem)⟩

/-! ## A re-initialisation ends -/

theorem finishKey_ladder (k : Key) (status : Nat) (ws : List W64) (s : State) : SameLadder s (finishKey k status ws s) := by
  unfold finishKey
  split
  · exact ⟨by simp, by simp⟩
  · exact .refl s

/-- The ladder's record of a re-initialisation that is complete. -/
def reinitEnded (r : Reinit) (ws : List W64) (s : State) : Recov :=
  { s.rcv with
    down := s.rcv.down.filter (fun x => x.f != r.f), reinits := inc16 s.rcv.reinits, lastFrame := s.time.frame, lastFn := r.f,
    hist := ((r.f, s.time.rows) :: s.rcv.hist).filter (fun x => decide (s.time.rows ≤ x.2 + escRows s)),
    busy := s.rcv.busy.filter (· ≠ r.f), evq := s.rcv.evq ++ [(0x0A02, r.f, ws)] }

/-- The first end within ESC_WINDOW does not escalate. -/
theorem endReinit_notes {r : Reinit} {s : State} (first : s.rcv.hist = []) (many : 2 ≤ escCount s) :
    ∃ ws, (endReinit r s).rcv = reinitEnded r ws s ∧ (endReinit r s).time = s.time := by
  let n := s.time.rows - r.row
  let us := if Config.roundUp n 2 then (n + 1) / 2 else n / 2
  let ws := [pack [(6, 0, r.f), (9, 8, 2), (16, 16, b2n r.key.isSome)], pack [(31, 0, us)]]
  let base : State := { s with
    rcv.down := s.rcv.down.filter (fun x => x.f != r.f), rcv.reinits := inc16 s.rcv.reinits,
    rcv.lastFrame := s.time.frame, rcv.lastFn := r.f,
    rcv.hist := ((r.f, s.time.rows) :: s.rcv.hist).filter (fun x => decide (s.time.rows ≤ x.2 + escRows s)),
    rcv.busy := s.rcv.busy.filter (· ≠ r.f),
    mx.cleaned := s.mx.cleaned ++ (ownedTargets r.f).filter (fun t => s.mx.wedged.contains t && !s.mx.cleaned.contains t) }
  let t := restore r.f (reinitEvent r 2 n (releaseTargets base))
  let u := match r.key with
    | some k => finishKey k stOk [pack [(31, 0, us)]] t
    | none => t
  have restored : t.rcv = reinitEnded r ws s := Eq.trans (restore_ladder r.f _).1 rfl
  have clock : t.time = s.time := (restore_frame ..).1
  obtain ⟨rcv, time⟩ : u.rcv = reinitEnded r ws s ∧ u.time = s.time := by
    cases asked : r.key with
    | none => simp only [u, asked]; exact ⟨restored, clock⟩
    | some k =>
      simp only [u, asked]
      exact ⟨(finishKey_ladder ..).1.trans restored, (finishKey_frame ..).1.trans clock⟩
  have count : escCount u = escCount s := by simp only [escCount, rcv, reinitEnded]
  have few : ¬ escCount u ≤ ((((r.f, s.time.rows) :: s.rcv.hist).filter
      (fun x => decide (s.time.rows ≤ x.2 + escRows s))).filter (fun x => x.1 == r.f)).length := by
    rw [count, first]
    simp
    omega
  have ends : endReinit r s = u := if_neg few
  exact ⟨ws, by rw [ends, rcv], by rw [ends, time]⟩

/-! ## A re-initialisation exceeds its maximum -/

/-- An escalation asks for step 3 or is withheld with its event: nothing else of the ladder. -/
theorem escalate_ladder (f : Nat) (s : State) :
    (escalate f s).rcv = { s.rcv with step := (escalate f s).rcv.step, escal := (escalate f s).rcv.escal,
                                      evq := (escalate f s).rcv.evq } := by
  unfold escalate
  split
  · split <;> rfl
  · rfl

theorem overrunReinit_notes (r : Reinit) (s : State) :
    (overrunReinit r s).rcv.reinits = s.rcv.reinits ∧
    (isAuto r.f s = true → (overrunReinit r s).rcv.down = s.rcv.down.filter (fun x => x.f != r.f) ∧
      (overrunReinit r s).rcv.deferred = s.rcv.deferred ++ [{ f := r.f, row := s.time.rows, key := r.key }]) ∧
    (isAuto r.f s = false → (overrunReinit r s).rcv.down =
        s.rcv.down.map (fun x => if x.f = r.f then { r with late := true } else x) ∧
      (overrunReinit r s).rcv.deferred = s.rcv.deferred) := by
  have rcv := escalate_ladder r.f (reinitEvent r 3 (s.time.rows - r.row) s)
  have time : (escalate r.f (reinitEvent r 3 (s.time.rows - r.row) s)).time = s.time := (escalate_frame ..).1
  have auto : isAuto r.f (escalate r.f (reinitEvent r 3 (s.time.rows - r.row) s)) = isAuto r.f s := by
    simp only [isAuto]
    rw [rcv]
    rfl
  unfold overrunReinit
  dsimp only
  generalize escalate r.f (reinitEvent r 3 (s.time.rows - r.row) s) = u at rcv time auto
  rw [auto]
  by_cases again : isAuto r.f s = true
  · rw [if_pos again, rcv, time]
    exact ⟨rfl, fun _ => ⟨rfl, rfl⟩, fun never => absurd again (ne_true_of_eq_false never)⟩
  · rw [if_neg again, rcv]
    exact ⟨rfl, fun does => absurd does again, fun _ => ⟨rfl, rfl⟩⟩

end Sys2Proof.Machine

namespace Sys2Proof

open Sys2Proof.Machine

theorem inc16_eq (v : Nat) : inc16 v = min 65535 (v + 1) := by
  unfold inc16 sat
  split <;> omega

/-- Settles O51: each timer and command by its meaning. The functions' work is log entry 27, when a re-initialisation begins log entry 28,
and its repeat past the maximum log entry 54. -/
theorem recoveryActs : Obligations.RecoveryActs := by
  intro s
  refine ⟨fun f known ready busy work late up sane fresh => ?_, fun f r known asked same free up => ?_,
    fun f r known down same within first many => ?_, fun f r known down same past once => ?_,
    fun d st silent step due serving => ?_, fun r held rest => ⟨fun two isF noKeeper => ⟨fun up fresh => ?_, fun down => ?_⟩,
      fun four => ⟨fun none on => ?_, fun busy => ?_⟩, fun three unforced uncovered => ?_⟩,
    fun r held reserved top second range => ?_, fun r => ?_⟩
  · change execWatchdogExpiry f s = _
    have due : (s.ready && s.rcv.busy.contains f && hasWork f s && decide (kget 0 s.rcv.marks f + wdRows s ≤ s.time.rows)) = true := by
      simp only [ready, busy, work, late, decide_true, Bool.and_true]
    rw [execWatchdogExpiry, known, Bool.not_true, if_neg Bool.false_ne_true, if_pos due, declareWedged, up, sane, fresh]
    rfl
  · subst same
    have run : exec (.reinitBegin r.f) s = .next (beginReinit r s) := by
      change execReinitBegin r.f s = _
      simp [execReinitBegin, known, asked, free]
    obtain ⟨rcv, rows, deficit⟩ := beginReinit_notes up
    refine ⟨_, run, ?_, ?_, ?_, rows, ?_, deficit⟩
    · rw [rcv]
      simp [reinitNoted, asked]
    · rw [rcv]
      rfl
    · unfold State.fnDown
      rw [rcv]
      simp [reinitNoted]
    · rw [rcv]
      rfl
  · subst same
    have run : exec (.reinitDone r.f) s = .next (endReinit r s) := by
      change execReinitDone r.f s = _
      simp [execReinitDone, known, down, Nat.not_lt.mpr within]
    obtain ⟨ws, rcv, time⟩ := endReinit_notes (r := r) first many
    refine ⟨_, ws, run, ?_, ?_, ?_, ?_, ?_, time, ?_⟩
    · rw [rcv]
      simp [reinitEnded, down]
    · rw [rcv]
      exact inc16_eq _
    · rw [rcv]
      rfl
    · rw [rcv]
      rfl
    · unfold State.fnDown
      rw [rcv]
      simp [reinitEnded, down]
    · rw [rcv]
      rfl
  · subst same
    have limit : reinitLimit r.f s = overrunReinit r s := by
      simp [reinitLimit, down, past, once]
    have run : exec (.reinitDone r.f) s = .next (reinitLimit r.f s) := by
      change execReinitDone r.f s = _
      simp [execReinitDone, known, down, past, once]
    obtain ⟨reinits, again, stays⟩ := overrunReinit_notes r s
    refine ⟨_, run, rfl, ?_⟩
    rw [limit]
    refine ⟨reinits, fun auto => ?_, fun manual => ?_⟩
    · obtain ⟨down', deferred⟩ := again auto
      exact ⟨by simp [down', down], deferred⟩
    · obtain ⟨down', deferred⟩ := stays manual
      exact ⟨by simp [down', down], deferred⟩
  · have run : exec .step3Cancel s = .next (escalation 3 3 st.fn { s with twin.silent := none, rcv.step := none }) := by
      change execStep3Cancel s = _
      rw [execStep3Cancel, silent, step]
      exact congrArg _ (if_pos ⟨due, serving⟩)
    exact ⟨_, run, rfl, rfl, rfl, inc16_eq _, rfl, rfl, rfl⟩
  · change execRecover s = _
    have up' : (idle s).fnDown (fld (r.cmd.p 0) 9 3) = false := up
    have fresh' : (idle s).rcv.deferred.any (fun x => x.f == fld (r.cmd.p 0) 9 3) = false := fresh
    exact held.has.answers (by simp [held.size, rest, two, isF, noKeeper, up', fresh']; rfl)
  · change execRecover s = _
    have down' : (idle s).fnDown (fld (r.cmd.p 0) 9 3) = true := down
    exact held.has.answers (by simp [held.size, rest, two, isF, noKeeper, down'])
  · change execRecover s = _
    exact held.has.answers (by simp [held.size, rest, four, none, on, idle])
  · change execRecover s = _
    have under : ((idle s).rcv.step.isSome || (idle s).boot.pwrCycle) = true := by
      rcases busy with step | cycle
      · simp [idle, Option.isSome_iff_ne_none.mpr step]
      · simp [idle, cycle]
    exact held.has.answers (by simp [held.size, rest, four, under])
  · change execRecover s = _
    have uncovered' : coveredByPartner (idle s) = false := uncovered
    exact held.has.answers (by simp [held.size, rest, three, unforced, uncovered', invalid])
  · change execRecoverCfg s = _
    refine held.has.answers (if_neg ?_)
    simp only [held.size, reserved, top, second, Bool.not_true, bne_self_eq_false, Bool.false_or, Bool.and_eq_true, bne_iff_ne,
      decide_eq_true_eq, not_and]
    omega
  · refine ⟨_, rfl, ?_⟩
    split
    · exact .inl rfl
    · exact .inr rfl

end Sys2Proof
end

section
/-! O53 ResetsDiscardVolatileState. -/

namespace Sys2Proof.Machine

open Sys2Proof

theorem cutFlash_idle {s : State} (idle : s.boot.flash = none) : cutFlash s = s := by
  rw [cutFlash, idle]

/-- A write that is cut changes slot B or the admission record, and is given up. -/
theorem cutFlash_boot (s : State) :
    (cutFlash s).boot = { s.boot with flash := none, fwB := (cutFlash s).boot.fwB } ∧ (cutFlash s).rcv = s.rcv := by
  unfold cutFlash
  split
  · (repeat' split) <;> simp
  · next idle =>
    rw [← idle]
    exact ⟨rfl, rfl⟩

/-- What holds the device in reset, and what it asks of the board, stand as they were before the reset b began. -/
def PinsStand (b c : Boot) : Prop :=
  c.resetN = b.resetN ∧ c.railsOk = b.railsOk ∧ c.hot = b.hot ∧ c.powerUp = b.powerUp ∧ c.pwrCycle = b.pwrCycle ∧
    c.alert = b.pwrCycle ∧ c.reflash = b.reflash

/-- Entering reset discards every volatile object and leaves its cause (R461). -/
theorem enterReset_discards (cause : Nat) (s : State) :
    Discarded s (enterReset cause s) ∧ (enterReset cause s).rcv.resets = s.rcv.resets ∧
      (enterReset cause s).rcv.lastReset = cause ∧
      PinsStand s.boot (enterReset cause s).boot := by
  have kept : s.boot.flash = none → (cutFlash s).boot.fwB = s.boot.fwB ∧ (cutFlash s).flight.adm0 = s.flight.adm0 ∧
      (cutFlash s).flight.adm1 = s.flight.adm1 := fun idle => by
    rw [cutFlash_idle idle]
    exact ⟨rfl, rfl, rfl⟩
  obtain ⟨boot, rcv⟩ := cutFlash_boot s
  obtain ⟨-, -, -, host, -, pending⟩ := cutFlash_frame s
  unfold Discarded PinsStand enterReset
  dsimp only
  generalize cutFlash s = c at kept boot rcv host pending
  rw [boot, rcv, host, pending]
  exact ⟨⟨rfl, rfl, rfl, rfl, rfl, rfl, rfl, rfl, rfl, rfl, rfl, rfl, rfl, kept⟩, rfl, rfl, rfl, rfl, rfl, rfl, rfl, rfl, rfl⟩

/-- What is discarded stays so whatever the start of the reset notes of itself. -/
theorem discarded_noted {s t : State} (gone : Discarded s t) (internal : Bool) (step3 resets : Nat) :
    Discarded s { t with boot.internal := internal, boot.step3 := step3, rcv.resets := resets } := by
  obtain ⟨eq, rest⟩ := gone
  exact ⟨congrArg (fun u : State => { u with boot.internal := internal, boot.step3 := step3, rcv.resets := resets }) eq, rest⟩

/-- A loss of supplies is a power-up: no reset is counted and none is the last (R460). -/
theorem powerDown_discards (s : State) :
    Discarded s (powerDown s) ∧ (powerDown s).rcv.resets = 0 ∧ (powerDown s).rcv.lastReset = 0 ∧
      PinsStand { s.boot with powerUp := true } (powerDown s).boot := by
  obtain ⟨gone, -, last, pins⟩ := enterReset_discards 0 { s with boot.powerUp := true }
  obtain ⟨eq, rest⟩ := gone
  exact ⟨⟨congrArg (fun u : State => { u with rcv.resets := 0 }) eq, rest⟩, rfl, last, pins⟩

end Sys2Proof.Machine

namespace Sys2Proof

open Sys2Proof.Machine

/-- Settles O53: the four causes enter reset, and the end of the last one begins start-up. RESETS and LAST_RESET are log entry 36, the
values of what is discarded 33, the fuses 31, a cut ADMIT 37 and what the board may rewrite 99. -/
theorem resetsDiscardVolatileState : Obligations.ResetsDiscardVolatileState := by
  intro s
  refine ⟨fun ns short => congrArg _ (if_pos (.inl short)), fun ns long high => ?_, fun x step three begun free => ?_,
    fun ns short => congrArg _ (if_pos short), fun ns long => ?_, ?_, fun st low rails cool => ?_,
    fun st internal high rails cool => ?_, fun st failed high cool => ?_, fun st hot high rails => ?_, fun st low holds => ?_⟩
  · have run : exec (.resetNFall ns) s =
        .next (enterReset (if s.boot.powerUp then 0 else 1) { s with boot.resetN := false, boot.reflash := true }) := by
      refine congrArg _ (if_neg ?_)
      simp [high]
      omega
    obtain ⟨gone, resets, last, resetN, -, -, -, -, -, reflash⟩ :=
      enterReset_discards (if s.boot.powerUp then 0 else 1) { s with boot.resetN := false, boot.reflash := true }
    exact ⟨_, run, gone, resetN, reflash, resets, last⟩
  · let counted : State := { s with rcv.resets := inc16 s.rcv.resets }
    let cause := if x.fn = 127 then 2 else 3
    have run : exec .internalReset s =
        .next { enterReset cause counted with boot.internal := true, boot.step3 := cause } := by
      change execInternalReset s = _
      have goes : x.step = 3 ∧ x.begun = true ∧ (s.twin.silent.isNone = true ∨ s.twin.role = .steppedDown) :=
        ⟨three, begun, free.imp_left Option.isNone_iff_eq_none.mpr⟩
      rw [execInternalReset, step]
      exact congrArg _ (if_pos goes)
    obtain ⟨gone, resets, last, -⟩ := enterReset_discards cause counted
    exact ⟨_, run, discarded_noted gone true cause _, rfl, resets.trans (inc16_eq _), last⟩
  · obtain ⟨gone, resets, last, -, rails, -, up, cycle, alert, -⟩ :=
      powerDown_discards { s with boot.railsOk := false, boot.pwrCycle := false }
    have run : exec (.railFailure ns) s = .next (powerDown { s with boot.railsOk := false, boot.pwrCycle := false }) :=
      congrArg Host.Outcome.next (if_neg (Nat.not_le.mpr long))
    exact ⟨_, run, gone, rails, up, resets, last, cycle, alert⟩
  · obtain ⟨gone, resets, last, -, -, hot, up, -⟩ := powerDown_discards { s with boot.hot := true }
    exact ⟨_, rfl, gone, hot, up, resets, last⟩
  · change execResetNRise st s = _
    simp [execResetNRise, low, Boot.free, rails, cool, beginRom]
  · change execInternalResetEnd st s = _
    simp [execInternalResetEnd, internal, Boot.free, high, rails, cool, beginRom]
  · change execRailRecovery st s = _
    simp [execRailRecovery, failed, Boot.free, high, cool, beginRom]
  · change execThermalRelease st s = _
    simp [execThermalRelease, hot, Boot.free, high, rails, beginRom]
  · change execResetNRise st s = _
    have held : ({ s with boot.resetN := true } : State).boot.free = false := by
      rcases holds with failed | hot
      · simp [Boot.free, failed]
      · simp [Boot.free, hot]
    rw [execResetNRise, if_neg (ne_true_of_eq_false low)]
    exact congrArg _ (if_neg (ne_true_of_eq_false held))

end Sys2Proof
end
